-- ==== Sys2Proof/Word.lean ====
section
/-! DEFINITION. The word types of the SC128. -/

namespace Sys2Proof

abbrev Byte := BitVec 8
abbrev W16 := BitVec 16
abbrev W32 := BitVec 32
abbrev W64 := BitVec 64

/-- A stamp: an unsigned count of ns of the device timebase, modulo 2^64 (R9). -/
abbrev Stamp := BitVec 64

/-- The 64 bytes of a line, byte i in bits [8i+7:8i] (R6). -/
abbrev Line := BitVec 512

/-- A 128-bit vector register or hash block. -/
abbrev V128 := BitVec 128

end Sys2Proof
end

