-- ==== Sys2Proof/Types.lean ====
section
/-! DEFINITION. The data that commands and the state share: requesters, posts, journal records, the leading link's payloads, plans, frames and descriptors. -/

namespace Sys2Proof

/-- A physical Scarab core, 0 to 143 (R19). -/
abbrev CoreId := Fin 144
/-- A task number, its descriptor index (04, Task descriptors). -/
abbrev TaskId := Fin 8192
/-- A tile and its home slice (R18). -/
abbrev TileId := Fin 72
/-- An Ant bay (R121). -/
abbrev BayId := Fin 8
/-- A physical engine of a bay (R121). -/
abbrev EngId := Fin 32
/-- A bay pin (R123). -/
abbrev PinId := Fin 24
/-- A Scarab register number. -/
abbrev Reg := BitVec 5
/-- An Ant register number. -/
abbrev AReg := BitVec 4
/-- A line address, bits [45:6] of a device-physical address. -/
abbrev LineAddr := BitVec 40

/-- Who makes a memory or register request: its station and unit (R517) and its world (R310). -/
structure Requester where
  station : Nat
  unit : Nat
  sealed : Bool
  /-- the supervisor level of its world (R309, R333) -/
  sup : Bool
deriving DecidableEq, Repr

/-- A stamped post on its way to input staging (R38, R545). -/
structure Post where
  point : Nat
  sample : W32
  stamp : Stamp
  station : Nat
  unit : Nat
  /-- reached staging after its freeze grace closed (R38) -/
  late : Bool
deriving DecidableEq, Repr

/-- A journal record (R51); the payload's byte k is bits [8k+7:8k]. -/
structure JRec where
  stamp : Stamp
  frame : W32
  source : W16
  type : W16
  seq : W32
  payload : BitVec 96
deriving DecidableEq, Repr

/-- A HEARTBEAT payload (R186). -/
structure Heartbeat where
  frame : W64
  tick : Stamp
  role : Fin 8
  token : Bool
  verified : Bool
  side : Bool
  supplyWarn : Bool
  resyncDue : Bool
  gen : W32
  digest : W64
deriving DecidableEq, Repr

/-- One entry of a switch group: a target and a value (R111). -/
structure SwEntry where
  tgt : W32
  val : W32
deriving DecidableEq, Repr

/-- A switch-group slot (R111, R120). -/
structure SwSlot where
  /-- 0 empty, 1 open, 2 armed, 3 applied, 4 refused, 5 cancelled -/
  st : Fin 6 := 0
  setTag : Byte := 0
  last : Bool := false
  code : Fin 8 := 0
  frame : W64 := 0
  entries : List SwEntry := []
deriving DecidableEq, Repr

/-- One line of a COPY message: window address, tick, data (R186). -/
structure CopyLine where
  addr : BitVec 46
  tick : W64
  data : Line
deriving DecidableEq, Repr

/-- A reserve part that a plan brings in (R102, R110): a core, the spare way of a slice, the spare of an Ant engine, the spare channel. -/
inductive PlanPart where
  | core (k : CoreId)
  | way (slice : TileId)
  | engine (bay : BayId) (logical : Fin 32)
  | channel
deriving DecidableEq, Repr

/-- The policy core's plan (R102): in the plan's order. -/
inductive PlanItem where
  | assign (task : TaskId) (core : CoreId)
  | rehome (cls : Fin 64) (first : Fin 72) (size : Fin 7)
  | move (berth : BitVec 21) (channel : Fin 13) (coff : BitVec 17)
  | reserve (part : PlanPart)
deriving DecidableEq, Repr

/-- The unit state of a start channel that UNIT_STATE and the sector unit share (R173, R206). -/
structure ChanState where
  running : Bool := false
  timedOut : Bool := false
  timedTag : W16 := 0
  queued : Bool := false
  joinTick : W64 := 0
  reqKw : W16 := 0
  reqTag : W16 := 0
  waited : Nat := 0
  permit : Bool := false
  denyRun : Bool := false
  denyCount : Nat := 0
  denyWord : W32 := 0
  lastReleased : Option W64 := none
deriving DecidableEq, Repr

/-- A pending-load hold: the kW of a grant and the first tick at which it no longer counts (R175). -/
structure PoolHold where
  pool : Fin 4
  kw : Nat
  endTick : W64
deriving DecidableEq, Repr

/-- A live value in force, as the switch-group target that sets it and its value (R206). -/
abbrev LiveVal := SwEntry

/-- UNIT_STATE (R206): the holder's unit state after the release of tick J. -/
structure UnitState where
  ruleResults : List (Nat × Bool)
  ruleLatches : List (Nat × Bool)
  timerCounts : List (Nat × (Nat × Bool))
  channels : List (Nat × ChanState)
  queue : List Nat
  holds : List PoolHold
  slots : List SwSlot
  openSets : List Byte
  live : List LiveVal
deriving DecidableEq, Repr

/-- What the decoder of a memory controller finds in a read line (R423, R425): the codewords' errors are the world's. -/
inductive EccOutcome where
  | clean
  /-- the symbols corrected, one in each of several codewords where more is not empty, as device and codeword; and the line that the decoder gives where it miscorrects -/
  | corrected (device : Fin 10) (codeword : Fin 8) (more : List (Fin 10 × Fin 8)) (wrong : Option Line)
  | uncorrectable
deriving DecidableEq, Repr

/-- A module configuration read from SPD and the outcome of training (R414, R432). -/
structure ChanTrain where
  trained : Bool
  twoDimm : Bool
  twoRank : Bool
  den32 : Bool
  /-- the channel carries modules -/
  present : Bool := true
deriving DecidableEq, Repr

/-- A CAN FD frame record's fields (R444). -/
structure CanFrame where
  ident : BitVec 29
  ide : Bool
  fdf : Bool
  brs : Bool
  dlc : Fin 16
  esi : Bool
  tag : W16
  data : List Byte
  /-- what a receiver finds: 0 no error, 1 an error, 2 an error with a dominant bit first after its error flag (R442) -/
  error : Fin 3 := 0
deriving DecidableEq, Repr

/-- A modulator input of the grid sense unit (R152). -/
abbrev InputId := Fin 48
/-- A three-phase group (R156). -/
abbrev GroupId := Fin 16

/-- Who sends a non-allocating request to a home: a core, a PCI Express half, Lantern or Keeper (R362, R388, R413). -/
inductive CohReq where
  | core (k : CoreId) (sealed : Bool)
  | pcie (half : Fin 8) (sealed : Bool)
  | lantern
  | keeper
  | debug
deriving DecidableEq, Repr

/-- What the SECDED of an L3 array finds in a line it reads: the errors are the world's (R387). -/
inductive L3Ecc where
  | clean
  | corrected (tag : Bool)
  | uncorrectable
deriving DecidableEq, Repr

/-- A RD_NA or WR_NA at its home: who asks, whether it carries FALLBACK (R376), what the SECDED of the L3 finds (R387), and whether the payload of a write is poisoned (R405). -/
structure CohAsk where
  who : CohReq
  fallback : Bool
  ecc : L3Ecc
  poison : Bool
deriving DecidableEq, Repr

/-- A CMO at its home: 1 CLEAN, 2 INV, 3 CLINV, whether it carries FALLBACK (R376), and what the SECDED of the L3 finds (R387). -/
structure CmoAsk where
  op : Fin 4
  fallback : Bool
  ecc : L3Ecc
deriving DecidableEq, Repr

/-- A RD_X at its home: the zero flag (R363), and what the SECDED of the L3 finds (R387). -/
structure XAsk where
  zero : Bool
  ecc : L3Ecc
deriving DecidableEq, Repr

/-- A ring's combined snoop answer (R377). -/
inductive SnpAns where
  /-- no holder -/
  | none
  /-- holders kept or dropped clean copies -/
  | clean
  /-- an owner sent dirty data to the home, with the SUB of its poison, 0 for none (R426) -/
  | dirty (data : Line) (sub : Byte)
  /-- an owner sent data to the requester -/
  | sent
deriving DecidableEq, Repr

/-- The state a DATA or GRANT message gives (R363, R374). -/
inductive Grant where
  | s | e | m
deriving DecidableEq, Repr

/-- A ring packet's header (R395) and payload. -/
structure Packet where
  dst : Fin 256
  src : Fin 256
  first : Bool
  dirs : BitVec 3
  via : Fin 16
  leg : Fin 4
  cls : Fin 4
  sealed : Bool
  type : Fin 32
  laps : Fin 16
  prio : Bool
  trace : Bool
  tag : BitVec 12
  addr : LineAddr
  task : BitVec 13
  fallback : Bool
  keep : Bool
  zero : Bool
  firstB : Fin 64
  lastB : Fin 64
  payload : Line
deriving DecidableEq, Repr

/-- A slot that passes a station: where, what it holds, and what its checks find (R400 to R405). -/
structure RingPass where
  ring : Fin 17
  pos : Fin 16
  dir : Bool
  lane : Fin 3
  pkt : Packet
  /-- the header parity fails -/
  hpar : Bool
  /-- payload errors: 0 none, 1 corrected, 2 uncorrectable -/
  pay : Fin 3
  /-- the HOLD bit beside the slot (R401) -/
  hold : Bool
  /-- at DST, the local unit has a free input entry for the lane; at the end of a leg, an empty slot of lane nlane of the next ring passes in this ring cycle (R400) -/
  room : Bool
  nlane : Fin 3
  /-- the packet that the station's unit hands over in this ring cycle; the station writes its route (R397) -/
  offer : Option Packet
deriving DecidableEq, Repr

/-- A port or a CAN FD controller with descriptor rings (R437, R444). -/
inductive RingUnit where
  | net (p : Fin 8)
  | can (c : Fin 16)
deriving DecidableEq, Repr

/-- An inbound PCI Express request with its requester ID (R447, R449). -/
inductive PcieReq where
  | read (half : Fin 8) (rid : W16) (addr : W64) (len : Fin 4097)
  /-- a byte whose byte enable is 0 is none (R395) -/
  | write (half : Fin 8) (rid : W16) (addr : W64) (bytes : List (Option Byte))
deriving DecidableEq, Repr

/-- A sensor's reading in a sample, where it gives one (R455). -/
structure SensorReading where
  sensor : Byte
  valid : Bool
  value : BitVec 24
deriving DecidableEq, Repr

/-- A part that Lantern judges worn (R464). -/
inductive WearPart where
  | core (k : CoreId)
  | channel (c : Fin 13)
  | engine (b : BayId) (e : EngId)
deriving DecidableEq, Repr

/-- A Lantern mailbox, or the mailbox that the Lantern port keeps for a requester (R454, R466). -/
inductive LnMbox where
  | reg (m : Fin 8)
  | port
deriving DecidableEq, Repr

/-- What the partner's Keeper sends at link bring-up: its public key, its share of the exchange and its signature over that share (R329). -/
structure KeeperHello where
  key : List Byte
  share : List Byte
  sig : List Byte
deriving DecidableEq, Repr

/-- The line of a DATA message and, where it is poisoned, the SUB of the poison, else 0 (R374, R426). -/
structure SentLine where
  line : Line
  sub : Byte
deriving DecidableEq, Repr

/-- The source of a datagram to the Lantern port (R454). -/
structure UdpSrc where
  ip : W32
  port : W16
  mac : BitVec 48
deriving DecidableEq, Repr

/-- Where a datagram to the Lantern port comes from, and the address and the port that it names (R454). -/
structure UdpHead where
  src : UdpSrc
  ip : W32
  port : W16
deriving DecidableEq, Repr

/-- The kinds of SHIFTI (R243). -/
inductive ShiftKind where
  | sll | srl | sra
deriving DecidableEq, Repr

end Sys2Proof
end

