-- ==== Sys2Proof/Syntax.lean ====
section
/-! DEFINITION. The commands of the SC128: one constructor per row of the table of operations and events. -/

namespace Sys2Proof

/-- A command: an event at a pin or from the world, a message, a register access, or an instruction that a core or an engine executes. -/
inductive Instr where
  /-- POWER_ON_RESET (R471): The VDD_AON monitor releases power-on reset and the always-on domain leaves reset, which is boot step 1. -/
  | powerOnReset
  /-- RESET_N_LOW (R471): RESET_N held low for 1 µs or more makes Lantern carry out a full reset with cause 1. -/
  | resetNLow
  /-- CRYSTAL_STABLE (R25): The crystal passes 65,536 cycles, the ring PLL locks and the timebase starts counting at 0 ns. -/
  | crystalStable
  /-- REF_STABLE (R491): A reference passes its stable count of 65,536 cycles, and the PLLs that select it lock to it. -/
  | refStable (refB : Bool)
  /-- REF_LOSS (R26): A reference stops for 16 crystal cycles, and the timebase moves to ref B or to the crystal in holdover. -/
  | refLoss (refB : Bool)
  /-- TB_RATE_WRITE (R27): A completed TB_RATE guard pair stores the rate word clamped to ±200 ppm and applies it before the first tick or at the next tick. -/
  | tbRateWrite (v : W32)
  /-- TAI_WRITE (R28): A completed TB_TAI_LO guard pair stages the timebase epoch from TAI_HI and TAI_LO, or applies it at once before the first tick. -/
  | taiWrite (lo : W32)
  /-- EPOCH_WRITE (R30): A completed BCN_EPOCH_LO pair sets epoch_offset while RUN is 0, or is denied with EPOCH_WRITE_DENIED while RUN is 1. -/
  | epochWrite (lo : W32)
  /-- BEACON_RUN (R31): Writing BCN_CTL.RUN starts the beacon, opens the LISTEN window of a twin, or waits for a BCN_IN edge when ALIGN is 1. -/
  | beaconRun (v : W32)
  /-- TICK (R36): Tick N fires at T(N) and starts the flip, input freeze, output release and dispatch in order. -/
  | tick
  /-- BCN_OUT_FALL (R33): BCN_OUT falls after BCN_OUT_W ns, or after twice that width when N mod 4,096 is 0. -/
  | bcnOutFall
  /-- BCN_IN_EDGE (R34): A BCN_IN edge is stamped, e is computed against the nearest expected tick, and epoch_offset is adjusted within BCN_SLEW. -/
  | bcnInEdge (falling : Bool)
  /-- BCN_IN_LOST (R35): Three expected edges in a row fail to arrive within P/2, so the device runs on its own timebase. -/
  | bcnInLost
  /-- INPUT_FREEZE (R39): At the close of the freeze grace the freeze chooses a candidate for every input point and writes region 0 as frame N's input image. -/
  | inputFreeze
  /-- SAMPLE_POST (R545): A stamped post from an engine, grid, sector, Hive, network or CAN source reaches input staging. -/
  | samplePost (p : Post)
  /-- DEADLINE_LATE (R42): A task still running at T(N) plus its deadline is journaled DEADLINE_LATE and continues. -/
  | deadlineLate (t : TaskId)
  /-- MISSED (R44): At the start of the guard, every due task not yet dispatched is missed, together with its hop successors. -/
  | missed
  /-- WALK (R69): The state unit walks a task's touch list for a DONE, ABORT, CARRY, COMMIT or DISCARD entry and settles each line. -/
  | walk (t : TaskId) (frame : W64)
  /-- DIGEST_FINAL (R86): Once the freeze and every DONE walk of the frame complete, the digest is latched and DIGEST_LO and DIGEST_HI are journaled. -/
  | digestFinal (frame : W64)
  /-- DBG_META_READ (R89): A DBG_CTL.GO guard pair reads a line's unsettled metadata into DBG_META0 to DBG_META3 and sets DBG_DONE. -/
  | dbgMetaRead (q : Requester)
  /-- TASK_DISPATCH (R97): Hive hands a ready task to its idle assigned core, loading the dispatch registers and raising GO. -/
  | taskDispatch (t : TaskId)
  /-- DISPATCH_STEAL (R96): A task that has waited PL_STEAL_NS for its busy core goes to the lowest-numbered idle core allowed. -/
  | dispatchSteal (t : TaskId)
  /-- PLAN_COMPLETE (R101): The policy-core firmware completes a placement plan from the inputs of the previous epoch. -/
  | planComplete (items : List PlanItem)
  /-- SW_OPEN (R111): A SW_OPEN guard pair opens and clears a switch-group slot with its set tag and LAST flag. -/
  | swOpen (v : W32)
  /-- SW_ENT_VAL (R111): A write to SW_ENT_VAL appends SW_ENT_TGT and the value to the open slot, dropping a 1,025th entry. -/
  | swEntVal (v : W32)
  /-- SW_ARM_LO (R113): A completed SW_ARM_LO pair checks the open group in full and arms it for its apply frame, or refuses it. -/
  | swArmLo (v : W32)
  /-- SW_CANCEL (R114): A SW_CANCEL guard pair cancels an armed group if it completes before T(F), and the outcome is journaled. -/
  | swCancel (v : W32)
  /-- ANT_EVENT_ENTRY (R133): An engine takes a pending enabled event at an instruction boundary, checks its stack, pushes a 32 B frame and jumps to the handler. -/
  | antEventEntry (b : BayId) (e : EngId)
  /-- CAPTURE_EDGE (R142): An accepted pin edge is stamped into the capture FIFO and raises CAP, or is dropped with CAP_OVF. -/
  | captureEdge (b : BayId) (u : PinId) (rising : Bool)
  /-- COMPARE_ACTION (R143): The timebase reaches a compare target, the pin action occurs or the shift unit starts, and CMP is raised. -/
  | compareAction (b : BayId) (u : PinId)
  /-- SU_RX (R145): The shift unit stores a received word in the RX FIFO, or drops it with overrun, and raises SU_RX. -/
  | suRx (b : BayId) (e : EngId) (data : W32) (parity : Bool) (framing : Bool)
  /-- SU_TX (R145): The last word leaves the pin with the TX FIFO empty, SU_TX is raised and DE is released after DE_TAIL. -/
  | suTx (b : BayId) (e : EngId)
  /-- SU_IDLE (R131): The RX line stays idle for IDLE bit times after a received word, and SU_IDLE is raised. -/
  | suIdle (b : BayId) (e : EngId)
  /-- ENGINE_TIMER (R131): An engine's periodic timer expires and raises TIMER. -/
  | engineTimer (b : BayId) (e : EngId)
  /-- SPARE_LOAD_DONE (R148): The spare's local SRAM is loaded from ANT_IMG, and it starts at 0x0000 with start cause 1, journaling ENG_START. -/
  | spareLoadDone (b : BayId) (e : EngId)
  /-- BAY_SAFE_ALL (R141): A BAY_CTL.SAFE_ALL guard pair puts every pin of the bay at its safe state, or releases them. -/
  | baySafeAll (b : BayId) (v : W32)
  /-- MEM_DATA_READ (R151): A read of MEM_DATA returns the word at MEM_ADDR and adds 4 to OFFSET. -/
  | memDataRead (b : BayId) (q : Requester)
  /-- DECIMATED_SAMPLE (R153): A sinc3 decimator produces a stamped sample and converts it to an engineering value. -/
  | decimatedSample (i : InputId) (raw : BitVec 34)
  /-- MOD_FAULT (R155): A bitstream that holds one value for 256 clocks is faulted, or its fault clears. -/
  | modFault (i : InputId) (faulted : Bool)
  /-- NO_SYNC (R157): No positive crossing arrives within two nominal periods, so the group loses sync. -/
  | noSync (g : GroupId)
  /-- INTERLOCK_EVALUATION (R163): After the freeze completes, the sector unit updates its timers and evaluates every rule and channel permit. -/
  | interlockEvaluation
  /-- SUPPLY_WARN (R177): SUPPLY_WARN_N falls for 200 ns, and the device flushes the journal, posts 1, moves to P2 and tells the twin. -/
  | supplyWarn
  /-- SUPPLY_CLEAR (R177): SUPPLY_WARN_N stays high for 10,000,000 ns, and the device posts 0 and journals SUPPLY_CLEAR. -/
  | supplyClear
  /-- HEARTBEAT_SEND (R186): At T(M) + 1,000 ns the device sends its HEARTBEAT for frame M. -/
  | heartbeatSend
  /-- HEARTBEAT (R191): A partner HEARTBEAT arrives, and a non-holder steers its beacon and fixes T(N) from it. -/
  | heartbeat (h : Heartbeat)
  /-- TWIN_HB_DRIVE (R199): The holder drives TWIN_HB low for 2,000 ns in its side's slot of the frame. -/
  | twinHbDrive
  /-- TWIN_HB_PULSE (R199): A low on TWIN_HB of 1 to 4 µs is counted as a pulse and assigned to a side. -/
  | twinHbPulse (width : W32)
  /-- LISTEN_WINDOW_END (R190): The LISTEN window ends with both paths silent of a holder, so the beacon starts and the device becomes ALONE. -/
  | listenWindowEnd
  /-- MIRROR (R193): Mirrored region 0 lines from the holder's freeze are written into the non-holder's region 0. -/
  | mirror (frame : W64) (off : BitVec 26) (lines : List Line)
  /-- MIRROR_END (R193): The holder's freeze of frame N is marked complete on the non-holder. -/
  | mirrorEnd (frame : W64)
  /-- MIRROR_MISS (R194): At T(N) + TW_MIR_WAIT without MIRROR_END, the non-holder freezes the missing lines locally and fixes T(N). -/
  | mirrorMiss
  /-- DIGEST (R196): The partner's digest and outcome digest of frame N arrive. -/
  | digest (frame : W64) (dig : V128) (od : V128) (flags : Byte)
  /-- DIGEST_SEND_DEADLINE (R196): At T(N+2) − guard a device that has not yet sent DIGEST sends it with the late or unavailable flags. -/
  | digestSendDeadline
  /-- SW_ARM (R198): The non-holder receives an accepted arm, checks it and arms the same slot for the same frame. -/
  | swArm (slot : Fin 8) (set : Byte) (last : Bool) (frame : W64) (entries : List SwEntry)
  /-- SW_CANCEL_MSG (R198): The non-holder receives a holder cancel and cancels only if it arrives before its own T(F). -/
  | swCancelMsg (slot : Fin 8) (frame : W64)
  /-- SUPPLY (R208): The partner's supply warning or clear arrives, PARTNER_WARN is journaled, and a handover may start. -/
  | supply (warn : Bool)
  /-- HANDOVER_REQUEST (R207): A TW_CMD.HANDOVER guard pair on the holder sends HANDOVER for tick H, or fails at once. -/
  | handoverRequest
  /-- HANDOVER (R207): The non-holder receives HANDOVER for tick H and answers HANDOVER_ACK. -/
  | handover (h : W64)
  /-- HANDOVER_ACK (R207): The holder receives the acknowledgement of a handover for tick H. -/
  | handoverAck (h : W64)
  /-- REJOIN (R202): A TW_CMD.REJOIN guard pair moves a DIVERGED device to JOINING. -/
  | rejoin
  /-- ISOLATE (R202): A TW_CMD.ISOLATE guard pair moves a DIVERGED device to ISOLATED. -/
  | isolate
  /-- LINK_LANE_FAIL (R184): A leading-link lane loses block lock or exceeds TW_LANE_LIM errors in a beacon, and LANE_MAP is exchanged. -/
  | linkLaneFail (lane : Fin 9)
  /-- LANE_MAP (R184): The partner's failed-lane mask arrives. -/
  | laneMap (failed : BitVec 9)
  /-- ACK (R182): A cumulative acknowledgement arrives and frees resend storage. -/
  | ack (seq : W32)
  /-- ACK_TIMER (R182): The receiver sends a cumulative acknowledgement at least every 2 µs. -/
  | ackTimer
  /-- NAK (R182): A NAK arrives and the sender resends from the named sequence, or the link is lost. -/
  | nak (seq : W32)
  /-- LINK_SILENCE (R182): No message arrives for 100 µs, so the link is lost and retrains. -/
  | linkSilence
  /-- LINK_RETRAIN (R184): A lost link with too few healthy lanes retries every 100 ms. -/
  | linkRetrain (healthy : BitVec 9)
  /-- LINK_UP (R185): Link bring-up completes, the one-way delay is measured and the Keepers agree a link key. -/
  | linkUp (roundTrip : W32) (hello : KeeperHello)
  /-- JOURNAL (R55): Partner journal records arrive and are written unchanged to the partner ring. -/
  | journal (recs : List JRec)
  /-- JOIN_REQ (R204): The holder receives a join request and accepts it or refuses it. -/
  | joinReq (dig : BitVec 384)
  /-- JOIN_ACCEPT (R204): The joiner receives base tick B. -/
  | joinAccept (b : W64)
  /-- JOIN_REFUSE (R204): The joiner is refused and becomes ISOLATED or asks again after 64 beacons. -/
  | joinRefuse (cause : Byte)
  /-- COPY (R205): The joiner receives COPY lines and applies each version whose tick is not older than the one it holds. -/
  | copy (lines : List CopyLine)
  /-- COPY_END (R204): The joiner receives tick C, which ends the copy. -/
  | copyEnd (c : W64)
  /-- REPLAY (R205): The joiner receives lines whose committed version changed at tick M and applies them by tick. -/
  | replay (m : W64) (lines : List CopyLine)
  /-- REPLAY_END (R204): The joiner receives the end of the replay for tick M. -/
  | replayEnd (m : W64)
  /-- JOIN_AT (R204): The joiner receives the proposed join tick J. -/
  | joinAt (j : W64)
  /-- JOIN_GO (R204): The joiner receives confirmation that the join proceeds at tick J. -/
  | joinGo (j : W64)
  /-- UNIT_STATE (R206): The joiner loads the holder's rule, timer, start-queue, switch-group and live state. -/
  | unitState (u : UnitState)
  /-- JOIN_ABORT (R202): A join is aborted, and the joiner restarts the join. -/
  | joinAbort (cause : Byte)
  /-- STORE_DRAIN (R221): A committed store is written to the L1D or the next level and leaves the store queue. -/
  | storeDrain (k : CoreId)
  /-- INTERRUPT_ENTRY (R298): The core takes the highest takeable interrupt at an instruction boundary and enters its level. -/
  | interruptEntry (k : CoreId)
  /-- TIMER_SOURCE (R296): The timebase reaches IC_TMR and asserts interrupt source TIMER. -/
  | timerSource (k : CoreId)
  /-- DOORBELL (R302): A SYSW to IC_DOOR raises DOORBELL on the named physical core. -/
  | doorbell (k : CoreId) (n : W64)
  /-- RD_S (R372): A home receives a shared read request and starts its transaction. -/
  | rdS (k : CoreId) (line : LineAddr) (fallback : Bool) (fetch : Bool) (ecc : L3Ecc)
  /-- RD_X (R372): A home receives an exclusive read request and starts its transaction. -/
  | rdX (k : CoreId) (line : LineAddr) (fallback : Bool) (x : XAsk)
  /-- RD_NA (R372): A home receives a non-allocating read and answers from memory or the owner. -/
  | rdNa (q : CohAsk) (line : LineAddr)
  /-- WR_NA (R372): A home receives a non-allocating write and performs it at the home after any snoops. -/
  | wrNa (q : CohAsk) (line : LineAddr) (first : Fin 64) (last : Fin 64) (data : Line) (keep : Bool)
  /-- WB (R377): A home receives a writeback and writes it, holds it, or answers WB_STALE. -/
  | wb (k : CoreId) (line : LineAddr) (data : Line) (poison : Bool)
  /-- CMO (R372): A home receives a clean or invalidate request for a line. -/
  | cmo (k : CoreId) (line : LineAddr) (x : CmoAsk)
  /-- REVAL (R385): A home settles a state line and answers SAME or the new version. -/
  | reval (k : CoreId) (line : LineAddr) (slot : Bool) (tick : W32)
  /-- SNP_S (R373): An L2 answers a shared snoop by what it holds. -/
  | snpS (k : CoreId) (line : LineAddr)
  /-- SNP_X (R373): An L2 answers an exclusive snoop, sending data and invalidating. -/
  | snpX (k : CoreId) (line : LineAddr)
  /-- SNP_CLN (R373): An L2 answers a clean snoop, sending dirty data to the home. -/
  | snpCln (k : CoreId) (line : LineAddr)
  /-- SNP_RET (R377): A snoop returns to the home with its ring's combined answer. -/
  | snpRet (line : LineAddr) (ans : SnpAns)
  /-- DATA (R374): A requester receives line data with its grant. -/
  | data (k : CoreId) (line : LineAddr) (data : SentLine) (grant : Grant)
  /-- GRANT (R363): A requester receives a grant without data and zero-fills the line for ZERO.VA. -/
  | grant (k : CoreId) (line : LineAddr)
  /-- SAME (R385): A requester receives confirmation that its committed state copy is still current. -/
  | same (k : CoreId) (line : LineAddr)
  /-- MEM_RD (R425): A memory controller reads a line, decodes its ECC and returns MEM_DATA. -/
  | memRd (c : Fin 13) (line : BitVec 32) (e : EccOutcome)
  /-- MEM_DATA (R377): Memory data reaches a home waiting in MEM or SNPM. -/
  | memData (line : LineAddr) (data : Line) (poison : Fin 3)
  /-- MEM_WR (R425): A memory controller receives a write and performs it or merges it in the merge buffer. -/
  | memWr (c : Fin 13) (line : BitVec 32) (first : Fin 64) (last : Fin 64) (data : Line) (poison : Bool)
  /-- NACK (R376): A requester receives a NACK and schedules a retry. -/
  | nack (q : CohReq) (line : LineAddr)
  /-- NACK_RETRY (R376): The backoff expires and a NACKed request is sent again, with FALLBACK after the 16th NACK. -/
  | nackRetry (q : CohReq) (line : LineAddr)
  /-- DONE_MESSAGE (R374): The home receives the requester's DONE, closes the transaction and starts the queue head. -/
  | doneMessage (k : CoreId) (line : LineAddr)
  /-- WB_ACK (R365): An L2 receives acknowledgement of a writeback and frees its eviction-buffer entry. -/
  | wbAck (k : CoreId) (line : LineAddr)
  /-- WB_STALE (R365): An L2 receives notice of a stale writeback and frees its entry. -/
  | wbStale (k : CoreId) (line : LineAddr)
  /-- RH_DRAIN (R369): The last old home slice finishes draining a rehomed class. -/
  | rhDrain (cls : Fin 64)
  /-- L3_LOCK (R380): A guard pair to L3_LOCK locks or unlocks logical ways, or is refused above 12 ways. -/
  | l3Lock (t : TileId) (v : W32) (q : Requester)
  /-- LOCK_FILL (R380): An LF_CTL.GO guard pair brings the line at LF_ADDR into a locked way, or is refused. -/
  | lockFill (t : TileId) (way : BitVec 4) (q : Requester)
  /-- LF_DONE (R380): A lock-fill completes and sets LF_DONE. -/
  | lfDone (t : TileId)
  /-- RANGE_CLEAN (R381): RNG_CTL.GO with OP 1 starts a clean of every line in the range. -/
  | rangeClean (t : TileId) (force : Bool) (q : Requester)
  /-- RANGE_INV (R381): RNG_CTL.GO with OP 2 starts an invalidation of every line in the range. -/
  | rangeInv (t : TileId) (force : Bool) (q : Requester)
  /-- RANGE_CLINV (R381): RNG_CTL.GO with OP 3 starts a clean and invalidation of every line in the range. -/
  | rangeClinv (t : TileId) (force : Bool) (q : Requester)
  /-- RNG_END (R382): A range operation completes, RNG_DONE sets and RNG_END is journaled. -/
  | rngEnd (t : TileId)
  /-- RING_PASS (R400): A slot passes a station, which checks HPAR and ejects, turns, deflects or escapes the packet. -/
  | ringPass (x : RingPass)
  /-- RING_TIMEOUT (R404): A requester abandons a transaction after 2^20 ring cycles with MACHINE_CHECK source 0x08. -/
  | ringTimeout (q : CohReq) (line : LineAddr)
  /-- RING_HOME_TIMEOUT (R404): A home line transient for 2^20 ring cycles is written to the L3 and returns to I. -/
  | ringHomeTimeout (line : LineAddr)
  /-- RING_LANE_FAIL (R406): A ring lane exceeds RG_LANE_LIM parity errors in a beacon and fails. -/
  | ringLaneFail (ring : Fin 17) (dir : Bool) (lane : Fin 3)
  /-- LANE_TEST (R406): An RG_LANE_TEST.GO guard pair marks a ring lane failed. -/
  | laneTest (ring : Fin 17) (v : W32)
  /-- TRACE_RESTART (R409): A write of 0 to TRC_WPTR restarts the trace buffer at entry 0. -/
  | traceRestart (ring : Fin 17)
  /-- MERGE_DRAIN (R425): A merge-buffer entry drains to DRAM when the channel is idle or more than 24 entries are in use. -/
  | mergeDrain (c : Fin 13)
  /-- PATROL_READ (R428): Weevil reads the next line of a valid place in its evenly spread patrol. -/
  | patrolRead (c : Fin 13) (e : EccOutcome)
  /-- INITIALISATION_PASS (R481): Weevil writes zero data with valid check symbols to the next line not yet initialised. -/
  | initialisationPass (c : Fin 13)
  /-- MIGRATION_COPY_LINE (R420): The source controller copies the next line of a migrating berth to the target place. -/
  | migrationCopyLine (slot : Fin 16) (e : EccOutcome)
  /-- RING_TAIL_WRITE (R437): A write to RING_TAIL hands descriptors to the port or CAN controller. -/
  | ringTailWrite (u : RingUnit) (q : Fin 2) (v : W32)
  /-- NET_TX_DESCRIPTOR (R437): A port takes a transmit descriptor, queues its frame or completes it with not-mapped. -/
  | netTxDescriptor (p : Fin 8)
  /-- FRAME_TRANSMIT (R440): A queued frame starts transmission when its gate stays open for its whole length. -/
  | frameTransmit (p : Fin 8)
  /-- NET_RX_FRAME (R441): A port receives and stamps a frame, posts its match entries and completes a receive descriptor. -/
  | netRxFrame (p : Fin 8) (bytes : List Byte) (fcsOk : Bool)
  /-- GCL_ENTRY (R440): A gate control list entry's interval ends and the next entry takes effect. -/
  | gclEntry (p : Fin 8)
  /-- NET_LINK (R434): A network port's link comes up or goes down. -/
  | netLink (p : Fin 8) (up : Bool)
  /-- TXS_TAG_POP (R450): A read of TXS_TAG pops the oldest transmit stamp and latches TXS_LO and TXS_HI. -/
  | txsTagPop (p : Fin 8) (q : Requester)
  /-- CAN_FRAME_RECEIVE (R444): A CAN FD controller receives a stamped frame, posts its matches and completes a receive record. -/
  | canFrameReceive (c : Fin 16) (f : CanFrame)
  /-- CAN_TRANSMIT (R444): A CAN FD controller offers its lowest pending identifier and sends the frame. -/
  | canTransmit (c : Fin 16) (ok : Bool)
  /-- CAN_RECOVER (R442): A write of 1 to CC_CMD.RECOVER starts bus-off recovery. -/
  | canRecover (c : Fin 16)
  /-- BUS_OFF_RECOVERY (R442): After 128 occurrences of 11 recessive bits, the controller returns to error active and sets RECOVERED. -/
  | busOffRecovery (c : Fin 16)
  /-- PCIE_INBOUND (R447): An inbound PCI Express request passes stage 2 and is performed or completed with Unsupported Request. -/
  | pcieInbound (x : PcieReq)
  /-- MSI_DOOR (R448): A write to MSI_DOOR sets its vector in MSI_PEND, or is dropped for a vector of the other world. -/
  | msiDoor (h : Fin 8) (v : W32)
  /-- PCIE_LINK (R445): A PCI Express half's link comes up or goes down. -/
  | pcieLink (h : Fin 8) (up : Bool) (gen : Fin 8) (width : Fin 16)
  /-- PCIE_AER (R445): An AER message is received on a half. -/
  | pcieAer (h : Fin 8) (uncor : Bool)
  /-- PERST (R452): A PH_CTL guard pair drives or releases the half's PERST#. -/
  | perst (h : Fin 8) (v : W32)
  /-- RETRAIN (R452): A PH_CTL.RETRAIN guard pair retrains the half's link. -/
  | retrain (h : Fin 8) (v : W32)
  /-- SENSOR_SAMPLE (R455): Lantern samples every sensor once per millisecond and begins or ends alarms. -/
  | sensorSample (rs : List SensorReading)
  /-- NVM_PROGRAM (R459): Lantern programs admitted records into the NVM log, erasing the next block in rotation. -/
  | nvmProgram
  /-- WD_KICK (R461): A WD_KICK guard pair reloads a software watchdog with TIMEOUT. -/
  | wdKick (k : Fin 4) (v : W32)
  /-- WD_EXPIRE (R461): A software watchdog reaches 0 and journals, sets SAFE_ALL or resets the device. -/
  | wdExpire (k : Fin 4)
  /-- UNIT_WATCHDOG_EXPIRE (R461): A beacon, Hive or Keeper liveness word is missing for LN_WD_INT beacons, and Lantern resets with cause 7. -/
  | unitWatchdogExpire (u : Fin 4)
  /-- LANTERN_WATCHDOG_EXPIRE (R461): Lantern firmware goes 100 ms without a kick, and the device resets with cause 8. -/
  | lanternWatchdogExpire
  /-- WEAR_JUDGE (R464): Lantern judges a part worn, writes the retirement book and asks Hive to act. -/
  | wearJudge (part : WearPart)
  /-- LN_DOOR (R466): A write of 1 to LN_DOOR submits a Lantern mailbox request, or is dropped while BUSY. -/
  | lnDoor (m : Fin 8)
  /-- SENSORS (R466): Lantern returns the readings of up to 14 sensors. -/
  | sensors (m : LnMbox)
  /-- LOG_READ (R466): Lantern copies NVM log records to a buffer. -/
  | logRead (m : LnMbox)
  /-- RING_READ (R466): Lantern copies RAM ring records to a buffer. -/
  | ringRead (m : LnMbox)
  /-- BOOK_READ (R466): Lantern copies the retirement book to a buffer. -/
  | bookRead (m : LnMbox)
  /-- UPDATE_OPEN (R467): Lantern marks the slot that did not boot invalid and erases the blocks it needs. -/
  | updateOpen (m : LnMbox)
  /-- UPDATE_WRITE (R466): Lantern programs image bytes into the open slot. -/
  | updateWrite (m : LnMbox)
  /-- UPDATE_COMMIT (R467): Lantern hashes the image, has Keeper verify it with the update key and writes the slot header. -/
  | updateCommit (m : LnMbox)
  /-- SLOT_INFO (R466): Lantern reports the booted slot and both slots' valid flags and sequences. -/
  | slotInfo (m : LnMbox)
  /-- RESET (R466): With the confirm word Lantern replies and carries out a full reset with cause 2. -/
  | reset (m : LnMbox)
  /-- STREAM (R466): Over the port, Lantern streams every record entering the RAM ring to the requester. -/
  | stream (src : UdpSrc)
  /-- STREAM_TIMEOUT (R466): A stream ends after 60 s without a repeat request. -/
  | streamTimeout
  /-- LOG_FETCH (R466): Over the port, Lantern returns up to 32 log records inline. -/
  | logFetch (ip : W32) (port : W16) (mac : BitVec 48)
  /-- LANTERN_DATAGRAM (R454): A UDP request datagram arrives at the Lantern port and is served as a mailbox request. -/
  | lanternDatagram (h : UdpHead) (bytes : List Byte)
  /-- ARP_REQUEST (R454): Lantern firmware answers an ARP request for LN_IP. -/
  | arpRequest (ip : W32) (src : UdpSrc)
  /-- ICMP_ECHO (R454): Lantern firmware answers an ICMP echo request. -/
  | icmpEcho (ip : W32) (src : UdpSrc) (bytes : List Byte)
  /-- MB_DOOR (R327): A write of 1 to MB_DOOR moves a Keeper mailbox to BUSY, or is dropped with BUSY_DENIED. -/
  | mbDoor (m : Fin 16) (q : Requester)
  /-- RANDOM (R328): Keeper returns DRBG random bytes. -/
  | random (m : Fin 16)
  /-- KEEPER_DIGEST (R328): Keeper returns the SHA-384 of a buffer. -/
  | keeperDigest (m : Fin 16)
  /-- SIGN (R328): Keeper signs a hash with the device attestation key. -/
  | sign (m : Fin 16)
  /-- VERIFY (R328): Keeper verifies a signature with the image key or the update key. -/
  | verify (m : Fin 16)
  /-- FUSE_READ (R328): Keeper returns a public fuse word. -/
  | fuseRead (m : Fin 16)
  /-- SEAL (R328): Keeper encrypts a buffer with AES-256-GCM under the current enclave's sealing key. -/
  | keeperSeal (m : Fin 16)
  /-- UNSEAL (R328): Keeper decrypts and authenticates a sealed buffer. -/
  | keeperUnseal (m : Fin 16)
  /-- ATTEST (R328): Keeper returns a signed report of device ID, enclave and user data. -/
  | attest (m : Fin 16)
  /-- KEEPER_FAULT (R325): An entropy health test fails and Keeper stops generating until full reset. -/
  | keeperFault
  /-- BOOT_VERIFY (R476): Keeper finishes reading and hashing the chosen slot body and checks ISIG. -/
  | bootVerify
  /-- CHANNEL_TRAINING (R478): Every channel completes training after SPD reads, and the TWIN fields load. -/
  | channelTraining (cs : List ChanTrain)
  /-- BOOT_INITIALISE (R478): USED berths finish zero-filling and the state structures are set up. -/
  | bootInitialise
  /-- BOOT_LOAD (R478): OPEN_LOAD, ENCLAVE and ANT_IMG loads complete and the engines start. -/
  | bootLoad
  /-- CLK_SRC_WRITE (R495): A CLK_SRC guard pair starts a glitch-free switch of the core or Ant clock, or is refused while busy. -/
  | clkSrcWrite (v : W32) (q : Requester)
  /-- CLK_SWITCH (R495): A glitch-free multiplexer completes its switch to the new clock. -/
  | clkSwitch (ant : Bool)
  /-- PLL_REF_SELECT (R493): A CLK_REF guard pair moves PLLs to a new input without losing lock. -/
  | pllRefSelect (v : W32) (q : Requester)
  /-- PERF_REQUEST (R499): A PWR_PERF write changes the software level request, and a move to a slower level starts at once. -/
  | perfRequest (v : W32)
  /-- VOLTAGE_SETTLE (R500): After the ramp and settle wait the post-divider changes to the faster level. -/
  | voltageSettle
  /-- VOTE_WRITE (R504): A write sets or withdraws Open or Sealed power or clock votes, and a withdrawal of a Sealed vote from Open is denied. -/
  | voteWrite (q : Requester) (b : Byte) (off : BitVec 12) (v : W32)
  /-- DOMAIN_DROP_DONE (R505): A domain's drop completes and DOMAIN_STATE is journaled. -/
  | domainDropDone (d : Fin 95)
  /-- DOMAIN_READY (R506): The WAKE_DLY of a waking domain elapses and its clamps release. -/
  | domainReady (d : Fin 95)
  /-- REGISTER_WRITE (R12): A write to a control-space register that has no row of its own is performed by its access code. -/
  | registerWrite (q : Requester) (b : Byte) (off : BitVec 16) (v : W32)
  /-- GUARD_PAIR_HOLD (R517): A write to a guard-pair register is held pending for its complement. -/
  | guardPairHold (q : Requester) (b : Byte) (off : BitVec 16) (v : W32)
  /-- GUARD_WINDOW_EXPIRE (R518): A pending guard-pair write is discarded 64 core cycles after it arrived. -/
  | guardWindowExpire (b : Byte)
  /-- LATCHED_READ (R515): A read of a LO register latches its HI register for the next HI read. -/
  | latchedRead (q : Requester) (b : Byte) (off : BitVec 16)
  /-- STATUS_READ (R519): A read of an RC status field returns its value and clears the bits it returned. -/
  | statusRead (q : Requester) (b : Byte) (off : BitVec 16)
  /-- NOP (R128): Ant instruction that does nothing. -/
  | nop (b : BayId) (e : EngId)
  /-- ANT_ADD (R128): Ant Ad = Aa + Ab. -/
  | antAdd (b : BayId) (e : EngId) (d : AReg) (ra : AReg) (rb : AReg)
  /-- ANT_SUB (R128): Ant Ad = Aa − Ab. -/
  | antSub (b : BayId) (e : EngId) (d : AReg) (ra : AReg) (rb : AReg)
  /-- ANT_AND (R128): Ant bitwise AND. -/
  | antAnd (b : BayId) (e : EngId) (d : AReg) (ra : AReg) (rb : AReg)
  /-- ANT_OR (R128): Ant bitwise OR. -/
  | antOr (b : BayId) (e : EngId) (d : AReg) (ra : AReg) (rb : AReg)
  /-- ANT_XOR (R128): Ant bitwise XOR. -/
  | antXor (b : BayId) (e : EngId) (d : AReg) (ra : AReg) (rb : AReg)
  /-- SHL (R128): Ant shift left by Ab[4:0]. -/
  | shl (b : BayId) (e : EngId) (d : AReg) (ra : AReg) (rb : AReg)
  /-- SHR (R128): Ant logical shift right. -/
  | shr (b : BayId) (e : EngId) (d : AReg) (ra : AReg) (rb : AReg)
  /-- SAR (R128): Ant arithmetic shift right. -/
  | sar (b : BayId) (e : EngId) (d : AReg) (ra : AReg) (rb : AReg)
  /-- ANT_SLT (R128): Ant signed set-less-than. -/
  | antSlt (b : BayId) (e : EngId) (d : AReg) (ra : AReg) (rb : AReg)
  /-- ANT_SLTU (R128): Ant unsigned set-less-than. -/
  | antSltu (b : BayId) (e : EngId) (d : AReg) (ra : AReg) (rb : AReg)
  /-- ANT_MUL (R128): Ant low 32 bits of the product. -/
  | antMul (b : BayId) (e : EngId) (d : AReg) (ra : AReg) (rb : AReg)
  /-- ANT_MULH (R128): Ant high 32 bits of the signed product. -/
  | antMulh (b : BayId) (e : EngId) (d : AReg) (ra : AReg) (rb : AReg)
  /-- CRCB (R128): Ant folds one byte into a CRC with CRC_POLY. -/
  | crcb (b : BayId) (e : EngId) (d : AReg) (ra : AReg) (rb : AReg)
  /-- ANT_ADDI (R128): Ant add of a sign-extended immediate. -/
  | antAddi (b : BayId) (e : EngId) (d : AReg) (ra : AReg) (imm : BitVec 18)
  /-- ANT_ANDI (R128): Ant AND with an immediate. -/
  | antAndi (b : BayId) (e : EngId) (d : AReg) (ra : AReg) (imm : BitVec 18)
  /-- ANT_ORI (R128): Ant OR with an immediate. -/
  | antOri (b : BayId) (e : EngId) (d : AReg) (ra : AReg) (imm : BitVec 18)
  /-- ANT_XORI (R128): Ant XOR with an immediate. -/
  | antXori (b : BayId) (e : EngId) (d : AReg) (ra : AReg) (imm : BitVec 18)
  /-- SHLI (R128): Ant shift left by an immediate. -/
  | shli (b : BayId) (e : EngId) (d : AReg) (ra : AReg) (sh : BitVec 5)
  /-- SHRI (R128): Ant logical shift right by an immediate. -/
  | shri (b : BayId) (e : EngId) (d : AReg) (ra : AReg) (sh : BitVec 5)
  /-- SARI (R128): Ant arithmetic shift right by an immediate. -/
  | sari (b : BayId) (e : EngId) (d : AReg) (ra : AReg) (sh : BitVec 5)
  /-- ANT_LUI (R128): Ant Ad = imm18 << 14. -/
  | antLui (b : BayId) (e : EngId) (d : AReg) (imm : BitVec 18)
  /-- ANT_SLTI (R128): Ant signed compare with an immediate. -/
  | antSlti (b : BayId) (e : EngId) (d : AReg) (ra : AReg) (imm : BitVec 18)
  /-- LDW (R128): Ant word load from local or bay SRAM. -/
  | ldw (b : BayId) (e : EngId) (d : AReg) (ra : AReg) (imm : BitVec 18)
  /-- LDH (R128): Ant sign-extended half load. -/
  | ldh (b : BayId) (e : EngId) (d : AReg) (ra : AReg) (imm : BitVec 18)
  /-- LDHU (R128): Ant zero-extended half load. -/
  | ldhu (b : BayId) (e : EngId) (d : AReg) (ra : AReg) (imm : BitVec 18)
  /-- LDB (R128): Ant sign-extended byte load. -/
  | ldb (b : BayId) (e : EngId) (d : AReg) (ra : AReg) (imm : BitVec 18)
  /-- LDBU (R128): Ant zero-extended byte load. -/
  | ldbu (b : BayId) (e : EngId) (d : AReg) (ra : AReg) (imm : BitVec 18)
  /-- STW (R128): Ant word store. -/
  | stw (b : BayId) (e : EngId) (d : AReg) (ra : AReg) (imm : BitVec 18)
  /-- STH (R128): Ant half store. -/
  | sth (b : BayId) (e : EngId) (d : AReg) (ra : AReg) (imm : BitVec 18)
  /-- STB (R128): Ant byte store. -/
  | stb (b : BayId) (e : EngId) (d : AReg) (ra : AReg) (imm : BitVec 18)
  /-- PRD (R128): Ant reads the level of an owned bay pin. -/
  | prd (b : BayId) (e : EngId) (d : AReg) (u : Byte)
  /-- PWR (R128): Ant drives, sets, clears, toggles or releases an owned pin. -/
  | pwr (b : BayId) (e : EngId) (ra : AReg) (u : Byte) (imm : BitVec 10)
  /-- CAPR (R142): Ant pops a pin's capture FIFO into a stamp pair and an edge kind. -/
  | capr (b : BayId) (e : EngId) (d : AReg) (ra : AReg) (u : Byte)
  /-- CMPW (R143): Ant arms a pin's compare at a stamp, acting at once with CMP_LATE if the stamp has passed. -/
  | cmpw (b : BayId) (e : EngId) (d : AReg) (u : Byte) (act : BitVec 2)
  /-- CMPW_CANCEL (R128): Ant CMPW with imm10[2] set cancels the pin's pending compare. -/
  | cmpwCancel (b : BayId) (e : EngId) (u : Byte)
  /-- SUW (R144): Ant writes a shift unit register after checking pin ownership. -/
  | suw (b : BayId) (e : EngId) (ra : AReg) (n : BitVec 3)
  /-- SUTX (R128): Ant pushes a word to the TX FIFO, waiting while it is full. -/
  | sutx (b : BayId) (e : EngId) (ra : AReg)
  /-- SURX (R128): Ant pops the RX FIFO with its error flags. -/
  | surx (b : BayId) (e : EngId) (d : AReg) (ra : AReg)
  /-- POST (R146): Ant places a sample and stamp in the bay post queue, waiting while it is full. -/
  | post (b : BayId) (e : EngId) (d : AReg) (ra : AReg) (ch : BitVec 10)
  /-- ANT_BEQ (R129): Ant branch if equal, with a delay slot. -/
  | antBeq (b : BayId) (e : EngId) (n : Bool) (ra : AReg) (rb : AReg) (off : BitVec 17)
  /-- ANT_BNE (R129): Ant branch if not equal. -/
  | antBne (b : BayId) (e : EngId) (n : Bool) (ra : AReg) (rb : AReg) (off : BitVec 17)
  /-- ANT_BLT (R129): Ant branch if less, signed. -/
  | antBlt (b : BayId) (e : EngId) (n : Bool) (ra : AReg) (rb : AReg) (off : BitVec 17)
  /-- ANT_BGE (R129): Ant branch if greater or equal, signed. -/
  | antBge (b : BayId) (e : EngId) (n : Bool) (ra : AReg) (rb : AReg) (off : BitVec 17)
  /-- ANT_BLTU (R129): Ant branch if less, unsigned. -/
  | antBltu (b : BayId) (e : EngId) (n : Bool) (ra : AReg) (rb : AReg) (off : BitVec 17)
  /-- ANT_BGEU (R129): Ant branch if greater or equal, unsigned. -/
  | antBgeu (b : BayId) (e : EngId) (n : Bool) (ra : AReg) (rb : AReg) (off : BitVec 17)
  /-- JR (R129): Ant jump to Aa. -/
  | jr (b : BayId) (e : EngId) (n : Bool) (ra : AReg)
  /-- ANT_JALR (R129): Ant jump to Aa, linking past the slot. -/
  | antJalr (b : BayId) (e : EngId) (n : Bool) (ra : AReg)
  /-- ANT_J (R129): Ant PC-relative jump. -/
  | antJ (b : BayId) (e : EngId) (n : Bool) (off : BitVec 25)
  /-- ANT_JAL (R129): Ant PC-relative jump and link. -/
  | antJal (b : BayId) (e : EngId) (n : Bool) (off : BitVec 25)
  /-- TSR (R128): Ant reads the timebase into a register pair. -/
  | tsr (b : BayId) (e : EngId) (d : AReg)
  /-- FRM (R128): Ant reads BCN_FRAME bits [31:0]. -/
  | frm (b : BayId) (e : EngId) (d : AReg)
  /-- EVRET (R134): Ant handler return, chaining to a pending event or restoring the frame. -/
  | evret (b : BayId) (e : EngId)
  /-- EVWAIT (R132): Ant engine sleeps with its clock gated until an event is taken. -/
  | evwait (b : BayId) (e : EngId)
  /-- EVCFG (R132): Ant sets an event's priority and enable. -/
  | evcfg (b : BayId) (e : EngId) (ev : BitVec 4) (prio : BitVec 3) (en : Bool)
  /-- EVPEND (R128): Ant reads the mask of owned pins with captures pending. -/
  | evpend (b : BayId) (e : EngId) (d : AReg)
  /-- TMR (R128): Ant sets or stops the periodic timer. -/
  | tmr (b : BayId) (e : EngId) (ra : AReg)
  /-- DOOR (R131): Ant raises DOOR on another logical engine of the bay. -/
  | door (b : BayId) (e : EngId) (n : BitVec 5)
  /-- ANT_SYS_ID (R128): Ant SYS u = 0 reads logical engine, bay and start cause. -/
  | antSysId (b : BayId) (e : EngId) (d : AReg)
  /-- ANT_SYS_STATUS (R126): Ant SYS u = 1 reads the STATUS word. -/
  | antSysStatus (b : BayId) (e : EngId) (d : AReg)
  /-- ADD (R241): Xd = Xa + Xb modulo 2^64. -/
  | add (k : CoreId) (d : Reg) (a : Reg) (b : Reg)
  /-- SUB (R241): Xd = Xa − Xb. -/
  | sub (k : CoreId) (d : Reg) (a : Reg) (b : Reg)
  /-- AND (R241): Bitwise AND. -/
  | and (k : CoreId) (d : Reg) (a : Reg) (b : Reg)
  /-- OR (R241): Bitwise OR. -/
  | or (k : CoreId) (d : Reg) (a : Reg) (b : Reg)
  /-- XOR (R241): Bitwise XOR. -/
  | xor (k : CoreId) (d : Reg) (a : Reg) (b : Reg)
  /-- SLL (R241): Shift left by Xb[5:0]. -/
  | sll (k : CoreId) (d : Reg) (a : Reg) (b : Reg)
  /-- SRL (R241): Logical shift right. -/
  | srl (k : CoreId) (d : Reg) (a : Reg) (b : Reg)
  /-- SRA (R241): Arithmetic shift right. -/
  | sra (k : CoreId) (d : Reg) (a : Reg) (b : Reg)
  /-- SLT (R241): Signed set-less-than. -/
  | slt (k : CoreId) (d : Reg) (a : Reg) (b : Reg)
  /-- SLTU (R241): Unsigned set-less-than. -/
  | sltu (k : CoreId) (d : Reg) (a : Reg) (b : Reg)
  /-- MIN (R241): Signed minimum. -/
  | min (k : CoreId) (d : Reg) (a : Reg) (b : Reg)
  /-- MAX (R241): Signed maximum. -/
  | max (k : CoreId) (d : Reg) (a : Reg) (b : Reg)
  /-- MINU (R241): Unsigned minimum. -/
  | minu (k : CoreId) (d : Reg) (a : Reg) (b : Reg)
  /-- MAXU (R241): Unsigned maximum. -/
  | maxu (k : CoreId) (d : Reg) (a : Reg) (b : Reg)
  /-- MUL (R241): Low 64 bits of the product. -/
  | mul (k : CoreId) (d : Reg) (a : Reg) (b : Reg)
  /-- MULH (R241): High 64 bits of the signed product. -/
  | mulh (k : CoreId) (d : Reg) (a : Reg) (b : Reg)
  /-- MULHU (R241): High 64 bits of the unsigned product. -/
  | mulhu (k : CoreId) (d : Reg) (a : Reg) (b : Reg)
  /-- DIV (R242): Signed division with saturating results. -/
  | div (k : CoreId) (d : Reg) (a : Reg) (b : Reg)
  /-- DIVU (R242): Unsigned division. -/
  | divu (k : CoreId) (d : Reg) (a : Reg) (b : Reg)
  /-- REM (R242): Signed remainder. -/
  | rem (k : CoreId) (d : Reg) (a : Reg) (b : Reg)
  /-- REMU (R242): Unsigned remainder. -/
  | remu (k : CoreId) (d : Reg) (a : Reg) (b : Reg)
  /-- CLZ (R241): Count leading zeros. -/
  | clz (k : CoreId) (d : Reg) (a : Reg)
  /-- CTZ (R241): Count trailing zeros. -/
  | ctz (k : CoreId) (d : Reg) (a : Reg)
  /-- POPC (R241): Count set bits. -/
  | popc (k : CoreId) (d : Reg) (a : Reg)
  /-- ADDW (R241): 32-bit add, sign-extended. -/
  | addw (k : CoreId) (d : Reg) (a : Reg) (b : Reg)
  /-- SUBW (R241): 32-bit subtract. -/
  | subw (k : CoreId) (d : Reg) (a : Reg) (b : Reg)
  /-- SLLW (R241): 32-bit shift left. -/
  | sllw (k : CoreId) (d : Reg) (a : Reg) (b : Reg)
  /-- SRLW (R241): 32-bit logical shift right. -/
  | srlw (k : CoreId) (d : Reg) (a : Reg) (b : Reg)
  /-- SRAW (R241): 32-bit arithmetic shift right. -/
  | sraw (k : CoreId) (d : Reg) (a : Reg) (b : Reg)
  /-- MULW (R241): 32-bit multiply. -/
  | mulw (k : CoreId) (d : Reg) (a : Reg) (b : Reg)
  /-- DIVW (R242): 32-bit signed divide. -/
  | divw (k : CoreId) (d : Reg) (a : Reg) (b : Reg)
  /-- DIVUW (R242): 32-bit unsigned divide. -/
  | divuw (k : CoreId) (d : Reg) (a : Reg) (b : Reg)
  /-- REMW (R242): 32-bit signed remainder. -/
  | remw (k : CoreId) (d : Reg) (a : Reg) (b : Reg)
  /-- REMUW (R242): 32-bit unsigned remainder. -/
  | remuw (k : CoreId) (d : Reg) (a : Reg) (b : Reg)
  /-- ADDI (R243): Add of a sign-extended immediate. -/
  | addi (k : CoreId) (d : Reg) (a : Reg) (imm : BitVec 16)
  /-- ANDI (R243): AND with a zero-extended immediate. -/
  | andi (k : CoreId) (d : Reg) (a : Reg) (imm : BitVec 16)
  /-- ORI (R243): OR with an immediate. -/
  | ori (k : CoreId) (d : Reg) (a : Reg) (imm : BitVec 16)
  /-- XORI (R243): XOR with an immediate. -/
  | xori (k : CoreId) (d : Reg) (a : Reg) (imm : BitVec 16)
  /-- SLTI (R243): Signed compare with an immediate. -/
  | slti (k : CoreId) (d : Reg) (a : Reg) (imm : BitVec 16)
  /-- SLTIU (R243): Unsigned compare with an immediate. -/
  | sltiu (k : CoreId) (d : Reg) (a : Reg) (imm : BitVec 16)
  /-- SHIFTI (R243): Shift by an immediate, of the kind and width imm16 selects. -/
  | shifti (k : CoreId) (d : Reg) (a : Reg) (kind : ShiftKind) (w32 : Bool) (sh : BitVec 6)
  /-- ADDIW (R243): 32-bit add of an immediate. -/
  | addiw (k : CoreId) (d : Reg) (a : Reg) (imm : BitVec 16)
  /-- LUI (R243): Xd = imm21 << 16. -/
  | lui (k : CoreId) (d : Reg) (imm : BitVec 21)
  /-- AUIPC (R243): Xd = PC + (imm21 << 16). -/
  | auipc (k : CoreId) (d : Reg) (imm : BitVec 21)
  /-- LD (R244): 8 B load. -/
  | ld (k : CoreId) (d : Reg) (a : Reg) (imm : BitVec 16)
  /-- LW (R244): 4 B sign-extended load. -/
  | lw (k : CoreId) (d : Reg) (a : Reg) (imm : BitVec 16)
  /-- LWU (R244): 4 B zero-extended load. -/
  | lwu (k : CoreId) (d : Reg) (a : Reg) (imm : BitVec 16)
  /-- LH (R244): 2 B sign-extended load. -/
  | lh (k : CoreId) (d : Reg) (a : Reg) (imm : BitVec 16)
  /-- LHU (R244): 2 B zero-extended load. -/
  | lhu (k : CoreId) (d : Reg) (a : Reg) (imm : BitVec 16)
  /-- LB (R244): 1 B sign-extended load. -/
  | lb (k : CoreId) (d : Reg) (a : Reg) (imm : BitVec 16)
  /-- LBU (R244): 1 B zero-extended load. -/
  | lbu (k : CoreId) (d : Reg) (a : Reg) (imm : BitVec 16)
  /-- ST (R244): 8 B store. -/
  | st (k : CoreId) (d : Reg) (a : Reg) (imm : BitVec 16)
  /-- SW (R244): 4 B store. -/
  | sw (k : CoreId) (d : Reg) (a : Reg) (imm : BitVec 16)
  /-- SH (R244): 2 B store. -/
  | sh (k : CoreId) (d : Reg) (a : Reg) (imm : BitVec 16)
  /-- SB (R244): 1 B store. -/
  | sb (k : CoreId) (d : Reg) (a : Reg) (imm : BitVec 16)
  /-- FLD (R244): binary64 load to an F register. -/
  | fld (k : CoreId) (d : Reg) (a : Reg) (imm : BitVec 16)
  /-- FLW (R244): binary32 load to an F register. -/
  | flw (k : CoreId) (d : Reg) (a : Reg) (imm : BitVec 16)
  /-- FSD (R244): binary64 store. -/
  | fsd (k : CoreId) (d : Reg) (a : Reg) (imm : BitVec 16)
  /-- FSW (R244): binary32 store. -/
  | fsw (k : CoreId) (d : Reg) (a : Reg) (imm : BitVec 16)
  /-- VLD (R244): 16 B vector load. -/
  | vld (k : CoreId) (d : Reg) (a : Reg) (imm : BitVec 16)
  /-- VST (R244): 16 B vector store. -/
  | vst (k : CoreId) (d : Reg) (a : Reg) (imm : BitVec 16)
  /-- AMO_SWAP (R246): Atomic swap. -/
  | amoSwap (k : CoreId) (d : Reg) (a : Reg) (b : Reg) (dbl : Bool) (ord : BitVec 2)
  /-- AMO_ADD (R246): Atomic add. -/
  | amoAdd (k : CoreId) (d : Reg) (a : Reg) (b : Reg) (dbl : Bool) (ord : BitVec 2)
  /-- AMO_AND (R246): Atomic AND. -/
  | amoAnd (k : CoreId) (d : Reg) (a : Reg) (b : Reg) (dbl : Bool) (ord : BitVec 2)
  /-- AMO_OR (R246): Atomic OR. -/
  | amoOr (k : CoreId) (d : Reg) (a : Reg) (b : Reg) (dbl : Bool) (ord : BitVec 2)
  /-- AMO_XOR (R246): Atomic XOR. -/
  | amoXor (k : CoreId) (d : Reg) (a : Reg) (b : Reg) (dbl : Bool) (ord : BitVec 2)
  /-- AMO_MIN (R246): Atomic signed minimum. -/
  | amoMin (k : CoreId) (d : Reg) (a : Reg) (b : Reg) (dbl : Bool) (ord : BitVec 2)
  /-- AMO_MAX (R246): Atomic signed maximum. -/
  | amoMax (k : CoreId) (d : Reg) (a : Reg) (b : Reg) (dbl : Bool) (ord : BitVec 2)
  /-- AMO_MINU (R246): Atomic unsigned minimum. -/
  | amoMinu (k : CoreId) (d : Reg) (a : Reg) (b : Reg) (dbl : Bool) (ord : BitVec 2)
  /-- AMO_MAXU (R246): Atomic unsigned maximum. -/
  | amoMaxu (k : CoreId) (d : Reg) (a : Reg) (b : Reg) (dbl : Bool) (ord : BitVec 2)
  /-- CAS (R246): Atomic compare and swap. -/
  | cas (k : CoreId) (d : Reg) (a : Reg) (b : Reg) (dbl : Bool) (ord : BitVec 2)
  /-- LDAQ (R247): Load-acquire. -/
  | ldaq (k : CoreId) (d : Reg) (a : Reg) (size : BitVec 2)
  /-- STRL (R247): Store-release. -/
  | strl (k : CoreId) (d : Reg) (a : Reg) (size : BitVec 2)
  /-- BEQ (R248): Branch if equal. -/
  | beq (k : CoreId) (a : Reg) (b : Reg) (off : BitVec 16)
  /-- BNE (R248): Branch if not equal. -/
  | bne (k : CoreId) (a : Reg) (b : Reg) (off : BitVec 16)
  /-- BLT (R248): Branch if less, signed. -/
  | blt (k : CoreId) (a : Reg) (b : Reg) (off : BitVec 16)
  /-- BGE (R248): Branch if greater or equal, signed. -/
  | bge (k : CoreId) (a : Reg) (b : Reg) (off : BitVec 16)
  /-- BLTU (R248): Branch if less, unsigned. -/
  | bltu (k : CoreId) (a : Reg) (b : Reg) (off : BitVec 16)
  /-- BGEU (R248): Branch if greater or equal, unsigned. -/
  | bgeu (k : CoreId) (a : Reg) (b : Reg) (off : BitVec 16)
  /-- J (R248): PC-relative jump. -/
  | j (k : CoreId) (off : BitVec 26)
  /-- JAL (R248): Jump and link into X31. -/
  | jal (k : CoreId) (off : BitVec 26)
  /-- JALR (R248): Indirect jump and link. -/
  | jalr (k : CoreId) (d : Reg) (a : Reg) (imm : BitVec 16)
  /-- FADD (R252): Floating-point add. -/
  | fadd (k : CoreId) (sgl : Bool) (rnd : BitVec 3) (d : Reg) (a : Reg) (b : Reg)
  /-- FSUB (R252): Floating-point subtract. -/
  | fsub (k : CoreId) (sgl : Bool) (rnd : BitVec 3) (d : Reg) (a : Reg) (b : Reg)
  /-- FMUL (R252): Floating-point multiply. -/
  | fmul (k : CoreId) (sgl : Bool) (rnd : BitVec 3) (d : Reg) (a : Reg) (b : Reg)
  /-- FDIV (R252): Floating-point divide. -/
  | fdiv (k : CoreId) (sgl : Bool) (rnd : BitVec 3) (d : Reg) (a : Reg) (b : Reg)
  /-- FSQRT (R252): Floating-point square root. -/
  | fsqrt (k : CoreId) (sgl : Bool) (rnd : BitVec 3) (d : Reg) (a : Reg)
  /-- FMIN (R252): IEEE minimum. -/
  | fmin (k : CoreId) (sgl : Bool) (d : Reg) (a : Reg) (b : Reg)
  /-- FMAX (R252): IEEE maximum. -/
  | fmax (k : CoreId) (sgl : Bool) (d : Reg) (a : Reg) (b : Reg)
  /-- FMINNUM (R252): IEEE minimumNumber. -/
  | fminnum (k : CoreId) (sgl : Bool) (d : Reg) (a : Reg) (b : Reg)
  /-- FMAXNUM (R252): IEEE maximumNumber. -/
  | fmaxnum (k : CoreId) (sgl : Bool) (d : Reg) (a : Reg) (b : Reg)
  /-- FABS (R252): Clear the sign. -/
  | fabs (k : CoreId) (sgl : Bool) (d : Reg) (a : Reg)
  /-- FNEG (R252): Invert the sign. -/
  | fneg (k : CoreId) (sgl : Bool) (d : Reg) (a : Reg)
  /-- FCPS (R252): Copy the sign of Fb. -/
  | fcps (k : CoreId) (sgl : Bool) (d : Reg) (a : Reg) (b : Reg)
  /-- FCMP (R252): Quiet compare to a relation mask. -/
  | fcmp (k : CoreId) (sgl : Bool) (d : Reg) (a : Reg) (b : Reg)
  /-- FCMPO (R252): Signalling compare. -/
  | fcmpo (k : CoreId) (sgl : Bool) (d : Reg) (a : Reg) (b : Reg)
  /-- FKIND (R252): Classify a value. -/
  | fkind (k : CoreId) (sgl : Bool) (d : Reg) (a : Reg)
  /-- FTOS64 (R252): Convert to a signed 64-bit integer. -/
  | ftos64 (k : CoreId) (sgl : Bool) (rnd : BitVec 3) (d : Reg) (a : Reg)
  /-- FTOU64 (R252): Convert to an unsigned 64-bit integer. -/
  | ftou64 (k : CoreId) (sgl : Bool) (rnd : BitVec 3) (d : Reg) (a : Reg)
  /-- FTOS32 (R252): Convert to a signed 32-bit integer. -/
  | ftos32 (k : CoreId) (sgl : Bool) (rnd : BitVec 3) (d : Reg) (a : Reg)
  /-- FTOU32 (R252): Convert to an unsigned 32-bit integer. -/
  | ftou32 (k : CoreId) (sgl : Bool) (rnd : BitVec 3) (d : Reg) (a : Reg)
  /-- S64TOF (R252): Convert from a signed 64-bit integer. -/
  | s64tof (k : CoreId) (sgl : Bool) (rnd : BitVec 3) (d : Reg) (a : Reg)
  /-- U64TOF (R252): Convert from an unsigned 64-bit integer. -/
  | u64tof (k : CoreId) (sgl : Bool) (rnd : BitVec 3) (d : Reg) (a : Reg)
  /-- S32TOF (R252): Convert from a signed 32-bit integer. -/
  | s32tof (k : CoreId) (sgl : Bool) (rnd : BitVec 3) (d : Reg) (a : Reg)
  /-- U32TOF (R252): Convert from an unsigned 32-bit integer. -/
  | u32tof (k : CoreId) (sgl : Bool) (rnd : BitVec 3) (d : Reg) (a : Reg)
  /-- FRESIZE (R252): Convert between precisions. -/
  | fresize (k : CoreId) (sgl : Bool) (rnd : BitVec 3) (d : Reg) (a : Reg)
  /-- FBITS (R252): Move F bits to X. -/
  | fbits (k : CoreId) (sgl : Bool) (d : Reg) (a : Reg)
  /-- XBITS (R252): Move X bits to F. -/
  | xbits (k : CoreId) (sgl : Bool) (d : Reg) (a : Reg)
  /-- FMA_A (R253): Fa × Fb + Fc with one rounding. -/
  | fmaA (k : CoreId) (sgl : Bool) (rnd : BitVec 3) (d : Reg) (a : Reg) (b : Reg) (c : Reg)
  /-- FMA_S (R253): Fa × Fb − Fc. -/
  | fmaS (k : CoreId) (sgl : Bool) (rnd : BitVec 3) (d : Reg) (a : Reg) (b : Reg) (c : Reg)
  /-- FMA_NA (R253): −(Fa × Fb + Fc). -/
  | fmaNa (k : CoreId) (sgl : Bool) (rnd : BitVec 3) (d : Reg) (a : Reg) (b : Reg) (c : Reg)
  /-- FMA_NS (R253): Fc − Fa × Fb. -/
  | fmaNs (k : CoreId) (sgl : Bool) (rnd : BitVec 3) (d : Reg) (a : Reg) (b : Reg) (c : Reg)
  /-- VADD (R254): Lane add. -/
  | vadd (k : CoreId) (ty : BitVec 3) (d : Reg) (a : Reg) (b : Reg)
  /-- VSUB (R254): Lane subtract. -/
  | vsub (k : CoreId) (ty : BitVec 3) (d : Reg) (a : Reg) (b : Reg)
  /-- VMUL (R254): Lane multiply. -/
  | vmul (k : CoreId) (ty : BitVec 3) (d : Reg) (a : Reg) (b : Reg)
  /-- VDIV (R254): Lane divide. -/
  | vdiv (k : CoreId) (ty : BitVec 3) (d : Reg) (a : Reg) (b : Reg)
  /-- VSQRT (R254): Lane square root. -/
  | vsqrt (k : CoreId) (ty : BitVec 3) (d : Reg) (a : Reg)
  /-- VMIN (R254): Lane minimum. -/
  | vmin (k : CoreId) (ty : BitVec 3) (d : Reg) (a : Reg) (b : Reg)
  /-- VMAX (R254): Lane maximum. -/
  | vmax (k : CoreId) (ty : BitVec 3) (d : Reg) (a : Reg) (b : Reg)
  /-- VAND (R254): 128-bit AND. -/
  | vand (k : CoreId) (ty : BitVec 3) (d : Reg) (a : Reg) (b : Reg)
  /-- VOR (R254): 128-bit OR. -/
  | vor (k : CoreId) (ty : BitVec 3) (d : Reg) (a : Reg) (b : Reg)
  /-- VXOR (R254): 128-bit XOR. -/
  | vxor (k : CoreId) (ty : BitVec 3) (d : Reg) (a : Reg) (b : Reg)
  /-- VCMPEQ (R254): Lane compare equal. -/
  | vcmpeq (k : CoreId) (ty : BitVec 3) (d : Reg) (a : Reg) (b : Reg)
  /-- VCMPLT (R254): Lane compare less. -/
  | vcmplt (k : CoreId) (ty : BitVec 3) (d : Reg) (a : Reg) (b : Reg)
  /-- VCMPLE (R254): Lane compare less or equal. -/
  | vcmple (k : CoreId) (ty : BitVec 3) (d : Reg) (a : Reg) (b : Reg)
  /-- VSPLAT_X (R254): Broadcast Xa to every lane. -/
  | vsplatX (k : CoreId) (ty : BitVec 3) (d : Reg) (a : Reg)
  /-- VSPLAT_F (R254): Broadcast Fa to every lane. -/
  | vsplatF (k : CoreId) (ty : BitVec 3) (d : Reg) (a : Reg)
  /-- VEXT_X (R254): Extract an integer lane. -/
  | vextX (k : CoreId) (ty : BitVec 3) (d : Reg) (a : Reg) (lane : BitVec 5)
  /-- VINS_X (R254): Insert an integer lane. -/
  | vinsX (k : CoreId) (ty : BitVec 3) (d : Reg) (a : Reg) (lane : BitVec 5)
  /-- VEXT_F (R254): Extract a floating-point lane. -/
  | vextF (k : CoreId) (ty : BitVec 3) (d : Reg) (a : Reg) (lane : BitVec 5)
  /-- VINS_F (R254): Insert a floating-point lane. -/
  | vinsF (k : CoreId) (ty : BitVec 3) (d : Reg) (a : Reg) (lane : BitVec 5)
  /-- VSUMH (R254): Horizontal sum in a fixed order. -/
  | vsumh (k : CoreId) (ty : BitVec 3) (d : Reg) (a : Reg)
  /-- VCVT (R254): Lane conversion between binary32 and integer. -/
  | vcvt (k : CoreId) (ty : BitVec 3) (d : Reg) (a : Reg)
  /-- VSHL (R254): Lane shift left. -/
  | vshl (k : CoreId) (ty : BitVec 3) (d : Reg) (a : Reg) (b : Reg)
  /-- VSRA (R254): Lane arithmetic shift right. -/
  | vsra (k : CoreId) (ty : BitVec 3) (d : Reg) (a : Reg) (b : Reg)
  /-- VR4_FMA_A (R255): Vector Va × Vb + Vc. -/
  | vr4FmaA (k : CoreId) (ty : BitVec 2) (d : Reg) (a : Reg) (b : Reg) (c : Reg)
  /-- VR4_FMA_S (R255): Vector Va × Vb − Vc. -/
  | vr4FmaS (k : CoreId) (ty : BitVec 2) (d : Reg) (a : Reg) (b : Reg) (c : Reg)
  /-- VR4_FMA_NA (R255): Vector −(Va × Vb + Vc). -/
  | vr4FmaNa (k : CoreId) (ty : BitVec 2) (d : Reg) (a : Reg) (b : Reg) (c : Reg)
  /-- VR4_FMA_NS (R255): Vector Vc − Va × Vb. -/
  | vr4FmaNs (k : CoreId) (ty : BitVec 2) (d : Reg) (a : Reg) (b : Reg) (c : Reg)
  /-- VSEL (R255): Bitwise select by Vc. -/
  | vsel (k : CoreId) (ty : BitVec 2) (d : Reg) (a : Reg) (b : Reg) (c : Reg)
  /-- SYSR (R262): Reads a system register as the oldest instruction. -/
  | sysr (k : CoreId) (d : Reg) (a : Reg) (n : BitVec 12)
  /-- SYSW (R262): Writes a system register and refetches younger instructions. -/
  | sysw (k : CoreId) (d : Reg) (a : Reg) (n : BitVec 12)
  /-- FENCE (R257): Orders earlier accesses before later ones by its mask. -/
  | fence (k : CoreId) (m : BitVec 4)
  /-- IFENCE (R227): Invalidates the L1I and refetches. -/
  | ifence (k : CoreId)
  /-- IOFENCE (R256): Waits for acknowledgement of older device stores. -/
  | iofence (k : CoreId)
  /-- ECALL (R256): System call to the supervisor of the same world. -/
  | ecall (k : CoreId) (a : Reg) (code : BitVec 5)
  /-- WCALL (R321): Enters SS at level 9 through a world gate, or is refused. -/
  | wcall (k : CoreId) (a : Reg)
  /-- ERET (R305): Return from exception after its legality checks. -/
  | eret (k : CoreId) (a : Reg)
  /-- BRK (R256): Breakpoint exception. -/
  | brk (k : CoreId)
  /-- TLBI_ALL (R353): Invalidates every TLB and walk-cache entry of the world. -/
  | tlbiAll (k : CoreId) (a : Reg) (bcast : Bool)
  /-- TLBI_ASID (R353): Invalidates the non-global entries of an ASID. -/
  | tlbiAsid (k : CoreId) (a : Reg) (bcast : Bool)
  /-- TLBI_VA (R353): Invalidates the entries covering a VA under the current ASID. -/
  | tlbiVa (k : CoreId) (a : Reg) (bcast : Bool)
  /-- TLBI_VA_ALL (R353): Invalidates the entries covering a VA under any ASID. -/
  | tlbiVaAll (k : CoreId) (a : Reg) (bcast : Bool)
  /-- TLBI_WALK (R353): Invalidates every walk-cache entry. -/
  | tlbiWalk (k : CoreId) (a : Reg) (bcast : Bool)
  /-- CLEAN_VA (R256): Writes back the line at Xa if dirty. -/
  | cleanVa (k : CoreId) (a : Reg)
  /-- INV_VA (R256): Invalidates the line at Xa without writeback. -/
  | invVa (k : CoreId) (a : Reg)
  /-- CLINV_VA (R256): Cleans and invalidates the line at Xa. -/
  | clinvVa (k : CoreId) (a : Reg)
  /-- CLINV_SW (R383): Cleans and invalidates by level, set and way. -/
  | clinvSw (k : CoreId) (a : Reg)
  /-- ZERO_VA (R363): Writes zero to a line as one store. -/
  | zeroVa (k : CoreId) (a : Reg)
  /-- TINT1 (R270): One-axis table interpolation. -/
  | tint1 (k : CoreId) (d : Reg) (a : Reg) (b : Reg)
  /-- TINT2 (R270): Two-axis table interpolation. -/
  | tint2 (k : CoreId) (d : Reg) (a : Reg) (b : Reg) (c : Reg)
  /-- TINT3 (R270): Three-axis table interpolation. -/
  | tint3 (k : CoreId) (d : Reg) (a : Reg) (b : Reg) (c : Reg)
  /-- BLKCPY (R272): Resumable block copy in granules. -/
  | blkcpy (k : CoreId) (d : Reg) (a : Reg) (b : Reg)
  /-- BLKSET (R272): Resumable block fill in granules. -/
  | blkset (k : CoreId) (d : Reg) (a : Reg) (b : Reg)
  /-- VDOT (R273): Resumable dot product with two accumulators. -/
  | vdot (k : CoreId) (d : Reg) (a : Reg) (b : Reg) (c : Reg)
  /-- SLD (R282): Loads a sample container and its stamp. -/
  | sld (k : CoreId) (d : Reg) (a : Reg) (b : Reg) (c : Reg)
  /-- STAMP (R283): Reads the device's own timebase. -/
  | stamp (k : CoreId) (d : Reg)
  /-- FRAME_N (R283): Returns the task's frame number. -/
  | frameN (k : CoreId) (d : Reg)
  /-- FRAME_T (R283): Returns T of the task's frame, waiting on a non-holder under R192. -/
  | frameT (k : CoreId) (d : Reg)
  /-- DONE (R98): Ends the task after draining its stores, creates the walk entry and releases its hops. -/
  | done (k : CoreId) (status : Byte)
  /-- OUTPUT_ENABLE (R189): A device that gained the token at tick M enables its field outputs at its own T(M) + 2,000 ns. -/
  | outputEnable
  /-- TWIN_HB_RELEASE (R199): The holder releases TWIN_HB at the end of its 2,000 ns slot. -/
  | twinHbRelease
  /-- LINK_MESSAGE_ERROR (R182): A leading-link message arrives with a CRC error, a sequence gap or an unknown type, and the receiver sends a NAK or loses the link. -/
  | linkMessageError (unknown : Bool)
  /-- HEARTBEAT_WAIT_EXPIRE (R192): At T(N) + TW_MIR_WAIT without the holder's HEARTBEAT of frame N, the non-holder fixes T(N) from its own tick plus TW_PAIR_OFF and takes a LOCAL_INPUT entry. -/
  | heartbeatWaitExpire
  /-- COPY_WRITE_ACK (R420): The target of a berth migration acknowledges a copied or forwarded line write, which releases writes held at the source. -/
  | copyWriteAck (slot : Fin 16) (line : BitVec 15)
  /-- POWER_ON_RESET_ASSERT (R534): VDD_AON falls below 0.70 V and power-on reset asserts again. -/
  | powerOnResetAssert
  /-- RESET_N_RELEASE (R471): RESET_N returns high after a reset, and the always-on domain leaves reset to start boot step 1. -/
  | resetNRelease
  /-- NET_FRAME_END (R439): A network frame finishes transmission, its transmit descriptor completes and the next frame in the queues may start. -/
  | netFrameEnd (p : Fin 8)
  /-- SHIFT_UNIT_WORD_END (R145): The shift unit finishes sending a word that is not the last, frees a TX FIFO entry and starts the next word. -/
  | shiftUnitWordEnd (b : BayId) (e : EngId)
  /-- ILLEGAL_INSTRUCTION (R240): An unassigned SIS-64 encoding reaches retirement and raises the illegal-instruction exception. -/
  | illegalInstruction (k : CoreId) (w : W32)
  /-- ANT_ILLEGAL_OPCODE (R128): An Ant engine executes an unlisted opcode or sub-op and takes the ILLEGAL fault. -/
  | antIllegalOpcode (b : BayId) (e : EngId)
deriving DecidableEq, Repr

end Sys2Proof
end

