-- ==== Sys2Proof/Machine/Bits.lean ====
section
/-! DEFINITION. Bit fields, byte order and sparse maps: the helpers every family uses. -/

namespace Sys2Proof.Machine

/-- Bits [lo+w-1:lo] of a word, as a number. -/
def bitsAt {n : Nat} (x : BitVec n) (lo w : Nat) : Nat := (x.toNat >>> lo) % 2 ^ w

/-- Bit i of a word. -/
def bitAt {n : Nat} (x : BitVec n) (i : Nat) : Bool := x.getLsbD i

/-- The word whose bits [lo+w-1:lo] are replaced by the low w bits of v. -/
def putBits {n : Nat} (x : BitVec n) (lo w : Nat) (v : Nat) : BitVec n :=
  let m : BitVec n := BitVec.ofNat n ((2 ^ w - 1) <<< lo)
  (x &&& ~~~m) ||| (BitVec.ofNat n (v <<< lo) &&& m)

/-- 1 or 0. -/
def b2n (b : Bool) : Nat := if b then 1 else 0

/-- The value of bit i. -/
def bitIf (b : Bool) (i : Nat) : Nat := if b then 2 ^ i else 0

/-- How many ns stamp a lies after stamp b, negative where it lies before: stamps are modulo 2^64 (R9), and of the two ways round the shorter one counts (DEDUCED, log entry 71). -/
def stampDiff (a b : Stamp) : Int := (a - b).toInt

/-- Stamp a lies before stamp b (R9). -/
def stampLt (a b : Stamp) : Bool := decide (stampDiff a b < 0)

/-- Stamp a lies at or before stamp b (R9). -/
def stampLe (a b : Stamp) : Bool := !stampLt b a

/-- The later of two stamps (R9). -/
def stampMax (a b : Stamp) : Stamp := if stampLt a b then b else a

/-- The low 32 bits. -/
def lo32 (x : W64) : W32 := x.truncate 32

/-- The high 32 bits. -/
def hi32 (x : W64) : W32 := (x >>> 32).truncate 32

/-- A 64-bit word from its two halves. -/
def join32 (hi lo : W32) : W64 := hi ++ lo

/-- Byte i of a word, little-endian (R6). -/
def byteAt {n : Nat} (x : BitVec n) (i : Nat) : Byte := (x >>> (8 * i)).truncate 8

/-- The low k bytes of a word, lowest address first (R6). -/
def toBytes {n : Nat} (x : BitVec n) : Nat → List Byte
  | 0 => []
  | k + 1 => toBytes x k ++ [byteAt x k]

/-- The number whose little-endian bytes are given (R6). -/
def leNat : List Byte → Nat
  | [] => 0
  | b :: bs => b.toNat + 256 * leNat bs

/-- The number whose big-endian bytes are given. -/
def beNat (bs : List Byte) : Nat := leNat bs.reverse

/-- The k little-endian bytes of a number. -/
def leBytes (k n : Nat) : List Byte := toBytes (BitVec.ofNat (8 * k) n) k

/-- The number read as a two's complement value of w bits. -/
def signed (w n : Nat) : Int := if n % 2 ^ w < 2 ^ (w - 1) then (n % 2 ^ w : Nat) else (n % 2 ^ w : Nat) - (2 ^ w : Nat)

/-- Round half to even of n / d, for d above 0. -/
def divRne (n : Int) (d : Nat) : Int :=
  let q := n / (d : Int)
  let r := n % (d : Int)
  if 2 * r < d then q else if 2 * r > d then q + 1 else if q % 2 = 0 then q else q + 1

/-- An integer held within [lo, hi]. -/
def clampInt (lo hi v : Int) : Int := if v < lo then lo else if hi < v then hi else v

/-- The entry of a key in an association list. -/
def assoc? {α : Type} : List (Nat × α) → Nat → Option α
  | [], _ => none
  | (a, v) :: r, k => if a = k then some v else assoc? r k

/-- The entry of a key, or the default. -/
def assocD {α : Type} (l : List (Nat × α)) (k : Nat) (d : α) : α := (assoc? l k).getD d

/-- The list with the key's entry set, kept in rising key order. -/
def assocSet {α : Type} : List (Nat × α) → Nat → α → List (Nat × α)
  | [], k, v => [(k, v)]
  | (a, w) :: r, k, v =>
    if k < a then (k, v) :: (a, w) :: r
    else if k = a then (k, v) :: r
    else (a, w) :: assocSet r k v

/-- The list without the key's entry. -/
def assocDel {α : Type} (l : List (Nat × α)) (k : Nat) : List (Nat × α) := l.filter (fun p => p.1 != k)

/-- The k values from a, rising. -/
def rangeFrom (a : Nat) : Nat → List Nat
  | 0 => []
  | k + 1 => a :: rangeFrom (a + 1) k

/-- The number of list entries that satisfy a test. -/
def countIf {α : Type} (p : α → Bool) (l : List α) : Nat := (l.filter p).length

/-- A value put into a list before the first value it must precede. -/
def insBy {α : Type} (before : α → α → Bool) (x : α) : List α → List α
  | [] => [x]
  | y :: r => if before x y then x :: y :: r else y :: insBy before x r

/-- A list sorted by insertion; equal values keep their order. -/
def sortBy {α : Type} (before : α → α → Bool) (l : List α) : List α := l.reverse.foldl (fun acc x => insBy (fun a b => !before b a) x acc) []

/-- The list with entry i replaced. -/
def listSet {α : Type} (l : List α) (i : Nat) (v : α) : List α := l.set i v

/-- Entry i of a list or the default. -/
def listAt {α : Type} (l : List α) (i : Nat) (d : α) : α := l.getD i d

/-- Folds a function over the numbers a, a+1, ..., a+k-1. -/
def foldRange {σ : Type} (f : Nat → σ → σ) (a : Nat) : Nat → σ → σ
  | 0, s => s
  | k + 1, s => foldRange f (a + 1) k (f a s)

/-- Each value of a list with its index. -/
def indexed {α : Type} (l : List α) : List (Nat × α) := l.zipIdx.map (fun p => (p.2, p.1))

end Sys2Proof.Machine
end

