-- ==== Sys2Proof/Machine/Aes.lean ====
section
/-! DEFINITION. AES-256 (FIPS 197) and AES-256-XTS (IEEE 1619), the cipher of sealed ranges and of Sealed lines on the leading link (R316, R329). -/

namespace Sys2Proof.Machine

/-! ### AES-256 (R316)

A block and a round key are lists of 16 bytes, byte 0 first. -/

/-- The substitution table: entry i in bits [8i+7:8i]. -/
def aesSubst : Nat := 0x16bb54b00f2d99416842e6bf0d89a18cdf2855cee9871e9b948ed9691198f8e19e1dc186b95735610ef6034866b53e708a8bbd4b1f74dde8c6b4a61c2e2578ba08ae7a65eaf4566ca94ed58d6d37c8e779e4959162acd3c25c2406490a3a32e0db0b5ede14b8ee4688902a22dc4f816073195d643d7ea7c41744975fec130ccdd2f3ff1021dab6bcf5389d928f40a351a89f3c507f02f94585334d43fbaaefd0cf584c4a39becb6a5bb1fc20ed00d153842fe329b3d63b52a05a6e1b1a2c830975b227ebe28012079a059618c323c7041531d871f1e5a534ccf73f362693fdb7c072a49cafa2d4adf04759fa7dc982ca76abd7fe2b670130c56f6bf27b777c63

/-- The inverse substitution table: entry i in bits [8i+7:8i]. -/
def aesSubstInv : Nat := 0x7d0c2155631469e126d677ba7e042b17619953833cbbebc8b0f52aae4d3be0a0ef9cc9939f7ae52d0d4ab519a97f51605fec8027591012b131c7078833a8dd1ff45acd78fec0db9a2079d2c64b3e56fc1bbe18aa0e62b76f89c5291d711af1476edf751ce837f9e28535ade72274ac9673e6b4f0cecff297eadc674f4111913a6b8a130103bdafc1020f3fca8f1e2cd00645b3b80558e4f70ad3bc8c00abd890849d8da75746155edab9edfd5048706c92b6655dcc5ca4d41698688664f6f87225d18b6d49a25b76b224d92866a12e084ec3fa420b954cee3d23c2a632947b54cbe9dec444438e3487ff2f9b8239e37cfbd7f3819ea340bf38a53630d56a0952

/-- Entry b of a substitution table. -/
def aesLook (t : Nat) (b : Byte) : Byte := BitVec.ofNat 8 (t >>> (8 * b.toNat))

/-- Multiplication by x in GF(2^8) modulo x^8 + x^4 + x^3 + x + 1. -/
def aesTwice (b : Byte) : Byte := if b.msb then (b <<< 1) ^^^ 0x1b else b <<< 1

/-- A small multiple of a byte in GF(2^8). -/
def aesMul (k : Nat) (b : Byte) : Byte :=
  let b2 := aesTwice b
  let b4 := aesTwice b2
  let b8 := aesTwice b4
  (if k % 2 = 1 then b else 0) ^^^ (if k / 2 % 2 = 1 then b2 else 0) ^^^ (if k / 4 % 2 = 1 then b4 else 0) ^^^ (if k / 8 % 2 = 1 then b8 else 0)

/-- Two byte lists added. -/
def aesXor (a b : List Byte) : List Byte := List.zipWith (· ^^^ ·) a b

/-- One column times a circulant matrix whose first row is given. -/
def aesColumn (row : List Nat) (c : List Byte) : List Byte :=
  (List.range 4).map (fun i => (List.range 4).foldl (fun acc j => acc ^^^ aesMul (row.getD ((j + 4 - i) % 4) 0) (c.getD j 0)) 0)

/-- The columns of a block times a circulant matrix (MixColumns and its inverse). -/
def aesMix (row : List Nat) (x : List Byte) : List Byte :=
  (List.range 4).flatMap (fun c => aesColumn row ((x.drop (4 * c)).take 4))

/-- Row r of a block moves r * k columns to the left (ShiftRows for k = 1, its inverse for k = 3). -/
def aesShift (k : Nat) (x : List Byte) : List Byte :=
  (List.range 16).map (fun i => x.getD ((i + 4 * k * (i % 4)) % 16) 0)

/-- The next word of the key schedule, word number i, from the eight words before it. -/
def aesKeyWord (i : Nat) (rcon : Byte) (w : List (List Byte)) : List Byte :=
  let t := w.getD 7 []
  let t := if i % 8 = 0 then
      aesXor (((t.drop 1) ++ t.take 1).map (aesLook aesSubst)) [rcon, 0, 0, 0]
    else if i % 8 = 4 then t.map (aesLook aesSubst)
    else t
  aesXor (w.getD 0 []) t

/-- n further words of the key schedule from word i on. -/
def aesKeyWords : Nat → Nat → Byte → List (List Byte) → List (List Byte)
  | 0, _, _, _ => []
  | n + 1, i, rcon, w =>
    let x := aesKeyWord i rcon w
    x :: aesKeyWords n (i + 1) (if i % 8 = 0 then aesTwice rcon else rcon) (w.drop 1 ++ [x])

/-- The 15 round keys of a 32 B key. -/
def aesRounds (key : List Byte) : List (List Byte) :=
  let w := (List.range 8).map (fun i => (key.drop (4 * i)).take 4)
  let l := w ++ aesKeyWords 52 8 1 w
  (List.range 15).map (fun r => ((l.drop (4 * r)).take 4).flatMap id)

/-- The rounds of the cipher after the first key addition. -/
def aesEncRounds : List (List Byte) → List Byte → List Byte
  | [], x => x
  | [k], x => aesXor (aesShift 1 (x.map (aesLook aesSubst))) k
  | k :: r, x => aesEncRounds r (aesXor (aesMix [2, 3, 1, 1] (aesShift 1 (x.map (aesLook aesSubst)))) k)

/-- The rounds of the inverse cipher after the first key addition. -/
def aesDecRounds : List (List Byte) → List Byte → List Byte
  | [], x => x
  | [k], x => aesXor ((aesShift 3 x).map (aesLook aesSubstInv)) k
  | k :: r, x => aesDecRounds r (aesMix [14, 11, 13, 9] (aesXor ((aesShift 3 x).map (aesLook aesSubstInv)) k))

/-- AES-256 of a block, from the round keys. -/
def aesEnc (k : List (List Byte)) (x : List Byte) : List Byte := aesEncRounds (k.drop 1) (aesXor x (k.headD []))

/-- The inverse of AES-256 of a block, from the round keys. -/
def aesDec (k : List (List Byte)) (x : List Byte) : List Byte :=
  aesDecRounds (k.reverse.drop 1) (aesXor x (k.reverse.headD []))

/-! ### XTS (R316, R329) -/

/-- The next block's tweak: times x in GF(2^128), byte 0 lowest. -/
def xtsNext (t : BitVec 128) : BitVec 128 := if t.msb then (t <<< 1) ^^^ 0x87 else t <<< 1

/-- The blocks of a data unit, each through one cipher under its tweak. -/
def xtsBlocks (f : List Byte → List Byte) : Nat → BitVec 128 → List Byte → List Byte
  | 0, _, _ => []
  | n + 1, t, x => aesXor (f (aesXor (x.take 16) (leBytes 16 t.toNat))) (leBytes 16 t.toNat) ++ xtsBlocks f n (xtsNext t) (x.drop 16)

/-- The first block's tweak: the encrypted data unit number. The upper half of the key pair is the tweak key. -/
def xtsTweak (key : BitVec 512) (unit : Nat) : BitVec 128 :=
  BitVec.ofNat 128 (leNat (aesEnc (aesRounds (leBytes 32 (key.toNat / 2 ^ 256))) (leBytes 16 unit)))

/-- A 64 B line encrypted under a key pair; unit: the data unit number, address bits [45:6]. -/
def xtsSeal (key : BitVec 512) (unit : Nat) (d : Line) : Line :=
  BitVec.ofNat 512 (leNat (xtsBlocks (aesEnc (aesRounds (leBytes 32 key.toNat))) 4 (xtsTweak key unit) (leBytes 64 d.toNat)))

/-- A 64 B line decrypted under a key pair. -/
def xtsOpen (key : BitVec 512) (unit : Nat) (d : Line) : Line :=
  BitVec.ofNat 512 (leNat (xtsBlocks (aesDec (aesRounds (leBytes 32 key.toNat))) 4 (xtsTweak key unit) (leBytes 64 d.toNat)))

end Sys2Proof.Machine
end

