-- ==== Sys2Proof/Config.lean ====
section
/-! DEFINITION. The free values: what the spec leaves open, and the cryptographic functions its standards define, none of which has a body here. -/

namespace Sys2Proof.Config

/-- Free value number n, of w bits: nothing constrains it. -/
opaque freeBits (w n : Nat) : BitVec w

/-- The i-th actuator channel delivered to logical engine e of bay b, which no section of the image names (R147). -/
opaque outChannel (b e i : Nat) : Nat

/-- The level on MOSI at bit time i of a SYNC word of n bits, whose bit order the spec does not give (R145); i = n stands for the time between words. -/
opaque syncLevel (data : BitVec 32) (n i : Nat) : Bool

/-- The fundamental of a voltage at the newest of its samples (stamp, value), newest first, as the fundamental filter gives it (R157): the spec states no filter. -/
opaque gridFilter (samples : List (BitVec 64 × Int)) : Int

/-- The delay of the fundamental filter in ns (R157). -/
opaque gridDelay : Nat

/-- The fundamental of a window's samples as an RMS phasor (real, imaginary) in units of 1/256 of 0.1 V or 0.1 A, with the angle taken at the window's end (R158): the spec states no arithmetic for it. -/
opaque phasor (samples : List (BitVec 64 × Int)) (start stop : BitVec 64) : Int × Int

/-- The angle of a phasor in 0.01 degree (R158). -/
opaque angle (re im : Int) : Nat

/-- The phase of a voltage at a window end relative to the timebase second, in 0.01 degree, from its angle there (R158). -/
opaque secondPhase (angle : Nat) (stop : BitVec 64) : Nat

/-- Point n of the 4,096 to which a window's samples (stamp, value), newest first, are resampled (R159): the spec states no interpolation. -/
opaque gridPoint (samples : List (BitVec 64 × Int)) (start stop : BitVec 64) (n : Nat) : Int

/-- The factor e^(-2πi j / 4096) of the DFT as (real, imaginary) in the unit's arithmetic, whose word length the spec does not give (R159). -/
opaque dftFactor (j : Nat) : Int × Int

/-- The configured frequency of the leading-link receive clock in kHz, which the spec does not give (R455). -/
opaque linkClockKhz : Nat

/-- The configured frequency of the Lantern port clock in kHz, which the spec does not give (R455). -/
opaque lanternPortKhz : Nat

/-- The level of the TWIN_SIDE ball, which the board straps: high is side B (R190, R531). -/
opaque twinSide : Bool

/-- ECDH P-384: the device's share for one draw of randomness (R329). -/
opaque ecdhShare (draw : Nat) : List Byte

/-- The link key that ECDH P-384 agrees from one draw of randomness and the partner's share (R329). -/
opaque ecdhKey (draw : Nat) (share : List Byte) : BitVec 512

/-- SHA-384 of a byte string (R328, R475). -/
opaque sha384 (bytes : List Byte) : BitVec 384

/-- ECDSA P-384 verification of a signature over a hash with a public key (R328, R475). -/
opaque ecdsaValid (key : List Byte) (hash : List Byte) (sig : List Byte) : Bool

/-- ECDSA P-384 signature with the device attestation key, for one draw of randomness (R328). -/
opaque ecdsaSign (hash : List Byte) (draw : Nat) : List Byte

/-- AES-256-GCM with a key derived from an enclave measurement and a nonce: tag and ciphertext (R328). -/
opaque gcmSeal (measure : BitVec 384) (nonce : List Byte) (plain : List Byte) : List Byte × List Byte

/-- The plaintext of an AES-256-GCM box, where the tag verifies (R328). -/
opaque gcmOpen (measure : BitVec 384) (nonce tag cipher : List Byte) : Option (List Byte)

/-- The signed report of device ID, enclave ID, enclave measurement and 48 B of user data, for one draw of randomness, byte 0 in bits [7:0] (R328). -/
opaque attest (device : W64) (enclave : Nat) (measure : BitVec 384) (user : List Byte) (draw : Nat) : BitVec 1536

end Sys2Proof.Config
end

