-- ==== Sys2Proof/Machine/PartAnt.lean ====
section
/-! DEFINITION. State of the Ant bays, their engines and the field pins (chapter Ant Engines and Field Pins). -/

namespace Sys2Proof.Machine

/-- ENG_STATE.STATE (R151). -/
inductive EngSt where
  | spare | loading | running | waiting | halted | retired
deriving DecidableEq, Repr

/-- A branch whose delay slot comes next (R129, R130). -/
structure Slot where
  branchPc : W32
  /-- where the PC goes after the slot -/
  target : W32
  /-- the slot has no effect -/
  annul : Bool
deriving DecidableEq, Repr

/-- A shift unit (R144, R145). -/
structure ShiftUnit where
  mode : W32 := 0
  div : W32 := 0
  frame : W32 := 0
  pins : W32 := 0xfffff
  idle : W32 := 0
  tail : W32 := 0
  tx : List W32 := []
  /-- received words with their parity and framing errors -/
  rx : List (W32 × (Bool × Bool)) := []
  /-- a word was dropped for a full RX FIFO (R145) -/
  overrun : Bool := false
  /-- a word is being sent -/
  busy : Bool := false
  /-- DE asserted -/
  de : Bool := false
  /-- compare action 3 has released the burst that START_CMP holds (R143) -/
  go : Bool := false
  /-- the timebase clock at which the word being sent began -/
  wordAt : Stamp × Nat := (0, 0)
  /-- SYNC: the word being clocked out has stored the word sampled on MISO (R145) -/
  sampled : Bool := false
  /-- when DE is released after the last stop bit (R145) -/
  deEnd : Option Stamp := none
deriving DecidableEq, Repr

/-- A physical engine (R121 to R137). -/
structure Engine where
  sram : List Host.Cell
  a : Vector W32 16
  pc : W32
  level : BitVec 4
  event : BitVec 4
  cause : BitVec 4
  ds : Bool
  st : EngSt
  /-- the logical engine served; 31 none -/
  logical : Nat
  haltCause : BitVec 3
  haltPc : W32
  /-- SYS start cause: takeover (R128) -/
  takeover : Bool
  /-- pending events by number, with their stamps (R131) -/
  pend : List (Nat × Stamp)
  /-- priority and enable of events 2 to 10 (R132) -/
  evcfg : List (Nat × (Nat × Bool))
  slot : Option Slot
  /-- periodic timer, in engine clocks; 0 stopped -/
  timer : W32
  su : ShiftUnit
  /-- a POST is waiting for the queue -/
  stalled : Bool
deriving DecidableEq, Repr

/-- An engine after full reset (R151): a spare without a logical engine. -/
def Engine.reset : Engine where
  sram := []
  a := Vector.replicate 16 0
  pc := 0
  level := 0
  event := 0
  cause := 0
  ds := false
  st := .spare
  logical := 31
  haltCause := 0
  haltPc := 0
  takeover := false
  pend := []
  evcfg := []
  slot := none
  timer := 0
  su := {}
  stalled := false

/-- A bay pin (R138 to R143). -/
structure Pin where
  /-- the level at the pad, before INV -/
  pad : Bool := false
  /-- the pad level that the glitch filter has accepted (R142) -/
  flt : Bool := false
  /-- the timebase clock of the edge that began a level the filter has not yet accepted: its stamp and part of a ns (R142) -/
  glitch : Option (Stamp × Nat) := none
  /-- what the owner drives: none released -/
  drive : Option Bool := none
  /-- the owning engine has driven the pin since it started (R141) -/
  driven : Bool := false
  /-- what was driven when the safe state in force began (R141) -/
  hold : Option Bool := none
  /-- the safe state was in force when last judged -/
  safe : Bool := true
  /-- capture FIFO, oldest first: stamp, rising (R142) -/
  cap : List (Stamp × Bool) := []
  /-- the pending compare: target and action (R143) -/
  cmp : Option (Stamp × Fin 4) := none
  /-- the timebase clock of the last compare action, and the action (R143) -/
  cmpAt : Option ((Stamp × Nat) × Fin 4) := none
deriving DecidableEq, Repr

/-- A bay. -/
structure Bay where
  sram : List Host.Cell := []
  eng : List (Nat × Engine) := []
  pins : List (Nat × Pin) := []
  /-- the post queue, oldest first (R146) -/
  posts : List Post := []
  /-- bytes of the bay SRAM that engines stored in a timebase clock, each with its logical engine (R125) -/
  wrAt : Stamp × Nat := (0, 0)
  wrBy : List (Nat × Nat) := []
deriving DecidableEq, Repr

end Sys2Proof.Machine
end

