-- ==== Sys2Proof/Machine/PartCache.lean ====
section
/-! DEFINITION. State of the private caches, the homes, the directory and the L3 (chapter Caches and Coherence). -/

namespace Sys2Proof.Machine

/-- What an L2 holds of a line (R373). -/
inductive LineSt where
  | s | e | m
deriving DecidableEq, Repr

/-- The version key of a state-window line in an L2 (R67, R385). -/
structure StKey where
  /-- a pending copy carries its task; a committed copy none -/
  task : Option TaskId
  /-- a committed copy carries its slot and its commit tick -/
  slot : Bool
  tick : W32
  /-- the frame of its fill or of its last revalidation -/
  filled : W64
deriving DecidableEq, Repr

/-- A line of an L2; its set is bits [10:0] of the line number (R359). -/
structure L2Line where
  line : Nat
  st : LineSt
  data : Line
  way : Nat
  /-- the way of the L1D that holds the line too -/
  l1way : Option Nat
  /-- the line is poisoned (R405, R426) -/
  poison : Nat
  /-- of a state-window line: its version key (R385) -/
  key : Option StKey := none
deriving DecidableEq, Repr

/-- An eviction-buffer entry (R365). -/
structure EbEnt where
  line : Nat
  data : Line
  sent : Bool
  poison : Nat
  /-- of a pending state-window line: its version key (R385) -/
  key : Option StKey := none
  /-- when its writeback was sent (R404) -/
  since : Stamp := 0
deriving DecidableEq, Repr

/-- The requests of an L2 (R371). -/
inductive ReqKind where
  | rdS | rdX | rdNa | wrNa | cmo
deriving DecidableEq, Repr

/-- A request waiting for its home (R376). -/
structure Mshr where
  line : Nat
  kind : ReqKind
  nacks : Nat
  fallback : Bool
  /-- the request was NACKed, and its retry is due at a stamp (R376) -/
  waiting : Bool
  zero : Bool
  due : Stamp := 0
  /-- when the request was first sent (R404) -/
  since : Stamp := 0
deriving DecidableEq, Repr

/-- A line of an L1I (R227, R359). -/
structure L1iLine where
  line : Nat
  way : Nat
  /-- the line was poisoned when it was filled (R426) -/
  poison : Nat
deriving DecidableEq, Repr

/-- The private caches of a core. -/
structure CoreCache where
  l1i : List L1iLine := []
  l2 : List L2Line := []
  eb : List EbEnt := []
  mshr : List Mshr := []
  /-- pseudo-LRU bits by set (R360) -/
  plruI : List (Nat × Nat) := []
  plru1 : List (Nat × Nat) := []
  plru2 : List (Nat × Nat) := []
deriving DecidableEq, Repr

/-- A directory entry (R370); an entry in I is not kept. -/
structure DirEnt where
  line : Nat
  home : TileId
  cls : Nat
  /-- X rather than S -/
  excl : Bool
  mask : BitVec 9
  owner : CoreId
  /-- its way in the directory set (R359) -/
  way : Nat
deriving DecidableEq, Repr

/-- The transient states of a home line (R377). -/
inductive Trans where
  | mem | snp | snpm | ack | evd
deriving DecidableEq, Repr

/-- A transaction in progress at a home. -/
structure Txn where
  line : Nat
  home : TileId
  st : Trans
  kind : ReqKind
  who : CohReq
  /-- rings whose snoop has not returned -/
  rings : Nat
  /-- an owner has sent its data to the requester -/
  ownerSent : Bool
  /-- a dirty copy for the home, with the SUB of its poison, 0 for none -/
  dirty : Option (Line × Nat)
  /-- memory data held until the last snoop returns, with the SUB of its poison -/
  heldMem : Option (Line × Nat)
  /-- writebacks held until the last snoop returns -/
  heldWb : List CoreId
  grant : Grant
  /-- RD_X: the zero flag; WR_NA: KEEP -/
  zero : Bool
  /-- RD_S: a fetch; WR_NA: KEEP from the owner itself -/
  flag : Bool
  first : Fin 64
  last : Fin 64
  data : Line
  /-- when the line left its stable state (R404) -/
  since : Stamp := 0
  /-- the request carries FALLBACK (R376) -/
  fallback : Bool := false
  /-- the directory way reserved for a line without an entry (R379) -/
  way : Option Nat := none
  /-- the SUB of a write's poisoned payload, 0 for none (R405) -/
  poison : Nat := 0
deriving DecidableEq, Repr

/-- A line of an L3 slice (R359). -/
structure L3Line where
  line : Nat
  home : TileId
  way : Nat
  data : Line
  dirty : Bool
  cls : Nat
  poison : Nat
deriving DecidableEq, Repr

/-- The range operation in progress (R381, R382). -/
structure RangeOp where
  tile : TileId
  /-- 1 CLEAN, 2 INV, 3 CLINV -/
  op : Fin 4
  force : Bool
  sealed : Bool
  base : Nat
  stop : Nat
  pos : Nat
  lines : Nat
  exempt : Nat
deriving DecidableEq, Repr

/-- A lock-fill in progress (R380). -/
structure LockFill where
  tile : TileId
  line : Nat
  way : Nat
deriving DecidableEq, Repr

/-- A home draining a rehomed class (R369). -/
structure Drain where
  cls : Nat
  /-- the old home set: first slice, log2 size -/
  first : Nat
  size : Nat
  lines : Nat
deriving DecidableEq, Repr

/-- A message that a cache or a home has sent (R371 to R377). -/
inductive CohMsg where
  /-- data with its grant; sub: the SUB of its poison, 0 for none (R426) -/
  | data (k : CoreId) (line : Nat) (d : Line) (g : Grant) (sub : Nat)
  | grant (k : CoreId) (line : Nat)
  | nack (who : CohReq) (line : Nat)
  | wbAck (k : CoreId) (line : Nat)
  | wbStale (k : CoreId) (line : Nat)
  | snoop (kind : ReqKind) (clean : Bool) (ring : Nat) (line : Nat)
  | memRd (line : Nat)
  | memWr (line : Nat) (d : Line)
  | memData (line : Nat) (d : Line) (sub : Nat)
  | done (k : CoreId) (line : Nat)
  | same (k : CoreId) (line : Nat)
  /-- the new version with its slot and its commit tick (R385) -/
  | version (k : CoreId) (line : Nat) (d : Line) (slot : Bool) (tick : W32)
  | reply (who : CohReq) (line : Nat) (d : Line) (sub : Nat)
  | wb (k : CoreId) (line : Nat) (d : Line)
  /-- a dirty copy that answers a snoop, marked for the home (R373) -/
  | home (k : CoreId) (line : Nat) (d : Line) (sub : Nat)
  | request (who : CohReq) (kind : ReqKind) (line : Nat) (fallback : Bool)
deriving DecidableEq, Repr

/-- The caches, the homes and the L3. -/
structure CacheState where
  cores : List (Nat × CoreCache)
  dir : List DirEnt
  txns : List Txn
  l3 : List L3Line
  /-- FALLBACK requests of cores in the waiting queues of their homes (R376) -/
  queue : List Txn
  /-- requests of units without caches that wait for their home (R376, R388) -/
  outer : List (CohReq × Mshr)
  /-- errors found in L3 lines that are yet to be counted and journaled, oldest first (R387) -/
  l3seen : List (L3Line × L3Ecc)
  /-- requests that wait for a directory victim, by the victim's line (R379) -/
  parked : List (Nat × Txn)
  /-- pseudo-LRU bits of the L3 by slice * 2048 + set (R360) -/
  plru3 : List (Nat × Nat)
  /-- pseudo-LRU bits of the directory by slice * 4096 + set (R360) -/
  plruD : List (Nat × Nat)
  /-- logical ways out of service by slice (R387) -/
  deadWays : List (Nat × List Nat)
  range : Option RangeOp
  lockFill : List LockFill
  drains : List Drain
  /-- messages sent, newest first -/
  out : List CohMsg
deriving DecidableEq, Repr

end Sys2Proof.Machine
end

