-- ==== Sys2Proof/Machine/PartClk.lean ====
section
/-! DEFINITION. State of the clocks, the performance level and the power domains (chapter Clocks and Power). -/

namespace Sys2Proof.Machine

/-- A power domain (R503 to R506): where it stands, and for a waking or a ready one the vote that decided: 0 hardware, 1 Open, 2 Sealed. -/
inductive DomSt where
  | down
  | waking (vote : Fin 3)
  | up
  | dropping (vote : Fin 3)
  /-- dropping, with a vote that arrived meanwhile: the wake starts when the drop completes (R504) -/
  | dropWake (vote wake : Fin 3)
deriving DecidableEq, Repr

/-- A VOUT_COMMAND sent to the VDD_CORE regulator: its PMBus address, the target in mV, and whether it was acknowledged (R500, R535). -/
structure VrCommand where
  addr : BitVec 7
  target : BitVec 10
  acked : Bool
deriving DecidableEq, Repr

/-- The clocks and the power unit. -/
structure ClkState where
  /-- domains: tile t at t, bay b at 72 + b, channel c at 80 + c, the ring group at 93, the always-on domain at 94 -/
  doms : List (Nat × DomSt)
  /-- source being switched to by the core and by the Ant multiplexer (R495) -/
  swCore : Option Bool
  swAnt : Option Bool
  /-- the switch of the core's or the Ant multiplexer in progress has a stopped clock, and never completes (R496) -/
  hungCore : Bool
  hungAnt : Bool
  /-- source in use -/
  srcCore : Bool
  srcAnt : Bool
  /-- the input of PLL i, 0 core, 2 DDR 0, 3 DDR 1, 4 SerDes, 5 Ant: 0 ref A, 1 ref B, 2 crystal, 3 holdover (R493) -/
  pllIn : List (Nat × Nat)
  /-- the boot default of every PLL input and TB_CTL, as the references stood at step 3: 0 ref A, 1 ref B, 2 crystal (R501) -/
  bootRef : Nat
  /-- the commands sent to the VDD_CORE regulator, the newest last (R500, R535) -/
  vrOut : List VrCommand
  /-- the level that the requests asked for last, and the cause of that change (R499, R509) -/
  asked : Nat
  perfCause : Nat
  /-- the cause of the move in progress (R500, R509) -/
  moveCause : Nat
  /-- the stamp at which the settling wait of the move in progress ends (R500) -/
  moveEnd : Stamp
  /-- the stamp from which a waking domain counts its ready delay (R506) -/
  wakeAt : List (Nat × Stamp)
  /-- a move to a faster level waits for the next tick (R500) -/
  perfWait : Bool
deriving DecidableEq, Repr

end Sys2Proof.Machine
end

