-- ==== Sys2Proof/Machine/PartCore.lean ====
section
/-! DEFINITION. State of a Scarab core (chapters The Scarab Core, The SIS-64 Instruction Set, Exceptions, Address Translation, Register Interface and Event Counters). -/

namespace Sys2Proof.Machine

/-- DSP_STATE.STATE (R234). -/
inductive DspSt where
  | idle | entering | running | draining | stopping | halted | off
deriving DecidableEq, Repr

/-- A task is dispatched on the core (R232, R234). -/
def DspSt.busy : DspSt → Bool
  | .entering | .running | .draining | .stopping => true
  | _ => false

/-- The policies of ATTR_TBL (R361). -/
inductive Policy where
  | wb | wt | wa | unc | dev
deriving DecidableEq, Repr

/-- Where a device-physical address lies (R412). -/
inductive Range where
  | dram | window | pcie | control | nothing
deriving DecidableEq, Repr

/-- The bytes of a store that lie in one line, lowest address first. -/
structure StPart where
  pa : Nat
  bytes : List Byte
  pol : Policy
deriving DecidableEq, Repr

/-- A committed store waiting in the store queue (R221): the parts not yet written, two where it crosses a line (R245), and the world and level of its context. -/
structure StoreEnt where
  parts : List StPart
  sealed : Bool
  sup : Bool
  /-- the store of ZERO.VA, which asks for ownership with the zero flag (R363) -/
  zero : Bool
deriving DecidableEq, Repr

/-- A world's bank of exception state (R286, R295); level L of 1 to 15 at key L. -/
structure Bank where
  epc : List (Nat × W64) := []
  estat : List (Nat × W64) := []
  eaddr : List (Nat × W64) := []
  ml : BitVec 4 := 0
  act : BitVec 4 := 0
  irf : Bool := false
  irc : BitVec 3 := 0
  evec : W64 := 0
  scratch : W64 := 0
deriving DecidableEq, Repr

/-- A world's bank of translation and cache registers (R358, R390). -/
structure TrBank where
  root : W64 := 0
  asid : W16 := 0
  homeRoot : W64 := 0
  homeAsid : W16 := 0
  s2Base : W64 := 0
  s2Limit : Nat := 0
  lastWpa : W64 := 0
  attr : W32 := 0
  l1dEn : Bool := true
  l2En : Bool := true
deriving DecidableEq, Repr

/-- A TLB entry (R352): the combined result of both stages, for a page of 2^size bytes of virtual addresses. -/
structure TlbEnt where
  sealed : Bool
  asid : W16
  global : Bool
  size : Nat
  /-- virtual address bits above the page -/
  vpn : Nat
  /-- device-physical address of the page's first byte -/
  out : Nat
  u : Bool
  w : Bool
  ux : Bool
  sx : Bool
  af : Bool
  d : Bool
  attr : BitVec 3
  s2w : Bool
  s2x : Bool
  /-- level of the leaf -/
  level : Nat
  /-- world-physical address of the page's first byte -/
  wpa : Nat
deriving DecidableEq, Repr

/-- A walk-cache entry (R352). -/
inductive WalkC where
  /-- a table descriptor of a level, found under the VA bits that index that level and those above it -/
  | table (sealed : Bool) (asid : W16) (level : Nat) (prefx : Nat) (next : Nat)
  /-- a stage-2 entry -/
  | stage2 (sealed : Bool) (granule : Nat) (entry : W64)
deriving DecidableEq, Repr

/-- The kinds of branch that the target buffer holds (R216, R219, R249). -/
inductive BrKind where
  | cond | jump | call | indirect | ret
deriving DecidableEq, Repr

/-- The branch predictor (R216). -/
structure Pred where
  /-- two-bit direction counters that differ from weakly not-taken (1) -/
  dir : List (Nat × Nat) := []
  /-- target buffer: a target address and a branch kind -/
  target : List (Nat × (W64 × BrKind)) := []
  /-- return stack, newest first -/
  ras : List W64 := []
  hist : BitVec 14 := 0
  /-- set entries of the wait table -/
  wait : List Nat := []
deriving DecidableEq, Repr

/-- A Scarab core. -/
structure CoreSt where
  x : Vector W64 32
  f : Vector W64 32
  v : Vector V128 32
  pc : W64
  run : DspSt
  -- dispatch registers (R234)
  task : TaskId
  frame : W64
  /-- T of the task's frame, where it is known (R283) -/
  frameT : Option W64
  taskSealed : Bool
  enclave : BitVec 6
  pflush : Bool
  asid : W16
  entry : W64
  sp : W64
  arg : W64
  s1root : W64
  flushed : Bool
  /-- core cycles of the device at GO, and the count kept at the last DONE (R232) -/
  goAt : Nat
  cycles : Nat
  doneTask : TaskId
  doneStatus : Byte
  doneFrame : W32
  -- context (R286)
  sealed : Bool
  sup : Bool
  /-- world of the last context run (R218) -/
  lastSealed : Bool
  bankO : Bank
  bankS : Bank
  icEn : Vector W64 4
  icLvl : Vector W64 16
  tmr : W64
  doorbell : Bool
  fpstat : W64
  prg : Vector W64 4
  /-- the instruction at the PC is a block operation that has done a granule and waits (R276, R277) -/
  blkWait : Bool
  /-- uncached and device-ordered reads that the core has performed (R224): the model's own count -/
  devReads : Nat
  /-- ENC_CUR.ENCLAVE (R319, R337) -/
  encCur : BitVec 6
  trO : TrBank
  trS : TrBank
  /-- the L1 ITLB and the L1 DTLB, of 64 entries each -/
  itlb : List TlbEnt
  dtlb : List TlbEnt
  /-- the L2 TLB, of 256 sets and 8 ways -/
  tlb : List TlbEnt
  walkc : List WalkC
  /-- the store queue, oldest first (R221) -/
  sq : List StoreEnt
  pred : Pred
  /-- event counters (R521 to R526): counts that are not 0, and selectors that are not at reset -/
  evcnt : List (Nat × BitVec 48)
  evsel : List (Nat × W64)
  /-- core cycles already counted by this core's CYCLES counters -/
  seen : Nat
  /-- the core cycle at which the open counters were last brought up to date, and what the core's events have counted in the Open world since (R522) -/
  evAt : Nat
  evOcc : List (Nat × Nat)
  /-- the core cycle at which the core's load began to wait for the freeze (R37, R525) -/
  frzAt : Option Nat
  /-- the core has received the system register list (R484) -/
  loaded : Bool
deriving DecidableEq, Repr

/-- A core after full reset (R234, R295, R358, R390, R526). -/
def CoreSt.reset : CoreSt where
  x := Vector.replicate 32 0
  f := Vector.replicate 32 0
  v := Vector.replicate 32 0
  pc := 0
  run := .off
  task := 0
  frame := 0
  frameT := none
  taskSealed := false
  enclave := 0
  pflush := false
  asid := 0
  entry := 0
  sp := 0
  arg := 0
  s1root := 0
  flushed := false
  goAt := 0
  cycles := 0
  doneTask := 0
  doneStatus := 0
  doneFrame := 0
  sealed := false
  sup := false
  lastSealed := false
  bankO := {}
  bankS := {}
  icEn := Vector.replicate 4 0
  icLvl := Vector.replicate 16 0
  tmr := 0
  doorbell := false
  fpstat := 0
  prg := Vector.replicate 4 0
  blkWait := false
  devReads := 0
  encCur := 0
  trO := {}
  trS := {}
  itlb := []
  dtlb := []
  tlb := []
  walkc := []
  sq := []
  pred := {}
  evcnt := []
  evsel := []
  seen := 0
  evAt := 0
  evOcc := []
  frzAt := none
  loaded := false

/-- A core whose tile has come up (R505, R506, R521): it has lost what it held, but for its dispatch registers, which the ring group keeps. DEDUCED (log entry 77). -/
def CoreSt.powered (c : CoreSt) (cycles : Nat) (run : DspSt) : CoreSt :=
  { CoreSt.reset with
    run := run, task := c.task, frame := c.frame, taskSealed := c.taskSealed, enclave := c.enclave, pflush := c.pflush, asid := c.asid
    entry := c.entry, sp := c.sp, arg := c.arg, s1root := c.s1root, flushed := c.flushed, goAt := c.goAt, cycles := c.cycles
    doneTask := c.doneTask, doneStatus := c.doneStatus, doneFrame := c.doneFrame, lastSealed := c.lastSealed, seen := cycles, evAt := cycles }

end Sys2Proof.Machine
end

