-- ==== Sys2Proof/Machine/PartLan.lean ====
section
/-! DEFINITION. State of Lantern and of the non-volatile storage (chapter Lantern Management; R473, R476). -/

namespace Sys2Proof.Machine

/-- A sensor (R455, R456). -/
structure Sensor where
  value : BitVec 24 := 0
  valid : Bool := false
  alarm : Bool := false
  /-- samples in a row inside the limit since the alarm began -/
  inside : Nat := 0
  /-- SENS_MAX for this sensor -/
  top : BitVec 24 := 0
  /-- SENS_MAX has been written before the first sample -/
  wrote : Bool := false
deriving DecidableEq, Repr

/-- A mailbox of Lantern or Keeper: 0 IDLE, 1 BUSY, 2 DONE, and the last RESULT (R326, R327, R469). -/
structure Mbox where
  st : Fin 3 := 0
  result : Byte := 0
  /-- Keeper only: the enclave that rang, ENC_CUR of the requesting core (R328) -/
  enclave : Nat := 0
deriving DecidableEq, Repr

/-- A stream over the Lantern port: its requester, the stamp of its last request, the 64 B that begin its datagrams, and the records not yet sent (R466). -/
structure Stream where
  src : UdpSrc
  last : Stamp
  hdr : List Byte
  buf : List JRec
deriving DecidableEq, Repr

/-- An update in progress (R467). -/
structure Update where
  slot : Bool
  len : Nat
  seq : W32
deriving DecidableEq, Repr

/-- Lantern. -/
structure LanState where
  sensors : List (Nat × Sensor)
  /-- the stamp of the last sample (R455) -/
  sampleAt : Option Stamp
  /-- the last sample held a thermal reading at TRIP (R456) -/
  tripSeen : Bool
  /-- Lantern's thermal request is in force -/
  hot : Bool
  /-- samples in a row with every thermal reading below HOT - 5 -/
  cool : Nat
  /-- holding boot at step 2: for temperature after a thermal trip (R456), or until every rail has been read inside its range (R534) -/
  holdBoot : Bool
  /-- holding boot for temperature (R469) -/
  holdTemp : Bool
  running : Bool
  /-- aging sums of the running clock hour by tile: sum and samples (R464) -/
  aging : List (Nat × (Int × Nat))
  /-- the mean of the last full clock hour by tile -/
  agingMean : List (Nat × Int)
  agingHour : Nat
  /-- RAM ring, oldest first, at most 8,192 records, and the index of its next record (R458) -/
  ram : List JRec
  ramNext : Nat
  /-- admitted records not yet programmed (R458 to R460), oldest first -/
  admitted : List JRec
  /-- tokens in units of 10^-9 token, and the stamp to which they are counted -/
  tokens : Nat
  tokenAt : Stamp
  /-- a record has been refused since the last admission -/
  throttled : Bool
  /-- SUPPLY_WARN_N has fallen, and the admitted records are being programmed (R460) -/
  flush : Bool
  mbox : List (Nat × Mbox)
  /-- software watchdogs that have reached 0 and not yet expired (R461) -/
  wdDue : List Nat
  /-- the stamp of the last kick of Lantern's own watchdog, from the start of the firmware on (R461) -/
  kickAt : Option Stamp
  /-- the frame of the last liveness word: 0 beacon unit, 1 Hive dispatcher, 2 Hive policy core, 3 Keeper (R461) -/
  heard : List (Nat × W64)
  /-- the mailbox of the Lantern port: its 64 B (R454) -/
  portMb : BitVec 512
  portSrc : Option UdpSrc
  upd : Option Update
  streams : List Stream
  /-- datagrams and frames sent by the port, newest last -/
  portOut : List (UdpSrc × List Byte)
deriving DecidableEq, Repr

/-- An erase block of the NVM log: its header, its records in order, and the slots that a power loss left part-programmed (R459). -/
structure LogBlock where
  seq : W64 := 0
  erases : W32 := 0
  first : W64 := 0
  /-- the CRC-32C of header bytes 0 to 23 -/
  crc : W32 := 0
  recs : List JRec := []
  skipped : List Nat := []
deriving DecidableEq, Repr

/-- What survives a full reset (R473): the xSPI contents and the fuses. -/
structure NvState where
  /-- the bytes of slot A on device 0 and of slot B on device 1, by offset; an unlisted byte reads as erased, 0xFF (R474, R475) -/
  slotA : List Host.Cell
  slotB : List Host.Cell
  /-- the 256 log blocks by number, and the block being written -/
  log : List (Nat × LogBlock)
  logBlock : Nat
  /-- records written since first use -/
  logIndex : W64
  /-- the entries of the retirement book's block in use, oldest first, and whether that is the second of its two blocks (R465) -/
  book : List JRec
  bookBlock : Bool
  /-- reset periods begun since first use (R464) -/
  period : W32
  /-- public fuse words, 8 B each (R328, R475) -/
  fuses : List (Nat × W64)
deriving DecidableEq, Repr

end Sys2Proof.Machine
end

