-- ==== Sys2Proof/Machine/PartDev.lean ====
section
/-! DEFINITION. State of the boot sequence, of Keeper and of the sealed ranges (chapters Reset, Boot and the Configuration Image; Open and Sealed Worlds). -/

namespace Sys2Proof.Machine

/-- Where the boot sequence stands (R478). -/
structure BootState where
  /-- the always-on domain is out of reset -/
  aon : Bool
  /-- RESET_N is held low (R471) -/
  rstLow : Bool
  /-- power-on reset is asserted (R534) -/
  por : Bool
  /-- cause to be written to LN_RESET_CAUSE at step 2 (R463, R485) -/
  cause : Nat
  /-- the step reached, 0 to 14; 15 when boot has failed (R479) -/
  step : Nat
  /-- the slot in use and whether the other one has been tried -/
  slotB : Bool
  tried : Bool
  /-- Keeper's step 12 is done, so WD_LOCK is set (R312) -/
  assigned : Bool
  /-- step 10 has applied the image, which ends the boot defaults (R501) -/
  applied : Bool
  /-- RL fields are locked (R478 step 14) -/
  locked : Bool
  /-- the system register list: number, Sealed bank, value (R484) -/
  sysregs : List (Nat × (Bool × W64))
  /-- TR_S2_BASE and TR_S2_LIMIT of the Open and the Sealed bank (R347) -/
  s2Open : W64 × Nat
  s2Sealed : W64 × Nat
  /-- the SHA-384 of the partner's IKEY (R329, R483) -/
  partnerKey : BitVec 384
  /-- channels whose initialisation pass is not complete, with the next line of the channel (R481) -/
  initPass : List (Nat × Nat)
  /-- channels that are trained, with their module configuration (R414) -/
  trained : Bool
deriving DecidableEq, Repr

/-- Keeper (R325 to R329). -/
structure KeeperState where
  mbox : List (Nat × Mbox)
  /-- XTS key pairs by enclave (R312, R317) -/
  keys : List (Nat × BitVec 512)
  /-- enclave measurements (R328) -/
  measures : List (Nat × BitVec 384)
  /-- the key agreed for the leading link (R329) -/
  linkKey : Option (BitVec 512)
  /-- what this device's Keeper sent at the last bring-up of the link (R329) -/
  hello : Option KeeperHello
  faulted : Bool
deriving DecidableEq, Repr

/-- A sealed range as WD_RNG_BASE and WD_RNG_CFG give it (R336). -/
structure SealRange where
  base : W32
  cfg : W32
deriving DecidableEq, Repr

end Sys2Proof.Machine
end

