-- ==== Sys2Proof/Machine/PartGrid.lean ====
section
/-! DEFINITION. State of the grid sense unit and of the sector interlock unit (chapter Grid Sense, Sector Interlocks and Start Permits). -/

namespace Sys2Proof.Machine

/-- A sample of a modulator input: its stamp, its engineering value and whether it saturated (R153, R154). -/
structure GsSample where
  stamp : Stamp
  value : Int
  sat : Bool
deriving DecidableEq, Repr

/-- A modulator input (R153, R155). -/
structure GsInput where
  /-- outputs still to be discarded -/
  discard : Nat := 3
  faulted : Bool := false
  /-- good outputs since the fault cleared; 3 or more, or no fault so far, make its quantities valid -/
  good : Nat := 3
  /-- the samples of the windows in progress, newest first -/
  hist : List GsSample := []
deriving DecidableEq, Repr

/-- An event in progress (R161): the stamp at which it began and its extreme, in % * 100 of UDIN. -/
structure GsEvent where
  start : Stamp
  extreme : Nat
deriving DecidableEq, Repr

/-- A three-phase group (R156 to R162). -/
structure GsGroup where
  sync : Bool := false
  online : Bool := false
  sag : Option GsEvent := none
  swell : Option GsEvent := none
  intr : Option GsEvent := none
  /-- the phase A voltage fundamental at the last sample of phase A, and the sample's stamp (R157) -/
  prev : Option (Stamp × Int) := none
  /-- stamp of the last positive crossing -/
  lastPos : Option Stamp := none
  /-- the ends of half cycles so far, newest first: the last two -/
  ends : List Stamp := []
  /-- where the running cycle window began -/
  cycStart : Option Stamp := none
  /-- where the running harmonic window began -/
  harmStart : Option Stamp := none
  /-- half cycles timed at the nominal period since the last crossing (R157) -/
  nominal : Nat := 0
  /-- the stamp from which the nominal periods count -/
  origin : Stamp := 0
  /-- latest half-cycle RMS of the voltages, in 0.1 V -/
  rmsA : Nat := 0
  rmsB : Nat := 0
  rmsC : Nat := 0
  freq : BitVec 24 := 0
  power : BitVec 24 := 0
  /-- a power window has ended since the unit started -/
  powered : Bool := false
  /-- cycles of the running harmonic window -/
  cycles : Nat := 0
deriving DecidableEq, Repr

/-- The grid sense unit. -/
structure GridState where
  inputs : List (Nat × GsInput)
  groups : List (Nat × GsGroup)
  /-- the quantity map: GS_MAP_DATA by index 512 * g + q (R160) -/
  map : List (Nat × W32)
deriving DecidableEq, Repr

/-- A rule of the sector interlock unit: header and eight terms of control and threshold word (R165, R166). -/
structure SRule where
  hdr : W32
  terms : List (W32 × W32)
deriving DecidableEq, Repr

/-- The words of an actuator channel (R180): CH_PERMIT, CH_SAFE, CH_START, CH_HOLD and CH_FB. -/
structure SChan where
  permit : W32
  safe : W32
  start : W32
  hold : W32
  fb : W32
deriving DecidableEq, Repr

/-- The sector interlock unit. -/
structure SectorState where
  rules : List (Nat × SRule)
  results : List (Nat × Bool)
  latches : List (Nat × Bool)
  /-- timers: configuration word, then count and term result -/
  timers : List (Nat × W32)
  timerSt : List (Nat × (Nat × Bool))
  chans : List (Nat × SChan)
  chanSt : List (Nat × ChanState)
  /-- the start queue in order of joining (R174) -/
  queue : List Nat
  holds : List PoolHold
  /-- the entry released last on each channel, and that its word 0 was substituted or held back -/
  released : List (Nat × (W32 × W32))
  /-- the frame whose input image has been evaluated and whose permits are not yet released (R163) -/
  evaluated : Option W64
  /-- the freeze the running evaluation belongs to is complete at this stamp -/
  freezeDone : Option Stamp
  /-- channel permits of the last evaluation; an unlisted channel's permit is false -/
  permits : List (Nat × Bool)
  /-- INPUT_MAP: its entries of input point, kind and index, the last one first (R483) -/
  inputMap : List (Nat × (Nat × Nat))
  /-- SUPPLY_WARN_N is low, and the stamp of its last falling edge -/
  supplyLow : Bool
  supplyAt : Stamp
  /-- SUPPLY_WARN_N has risen since that fall, and when (R530) -/
  supplyRise : Option Stamp
  /-- the level to return to at the next tick after SUPPLY_CLEAR (R177) -/
  supplyBack : Bool
deriving DecidableEq, Repr

end Sys2Proof.Machine
end

