-- ==== Sys2Proof/Machine/PartHive.lean ====
section
/-! DEFINITION. State of Hive (chapter Hive: Dispatch and Placement). -/

namespace Sys2Proof.Machine

/-- HIVE2.CORE_STATE (R119). -/
inductive CStat where
  | reserve | waking | idle | running | carried | excluded | halted | retired
deriving DecidableEq, Repr

/-- What Hive keeps of a task between and within frames (R93 to R100, R105). -/
structure TaskRt where
  /-- due in the current frame (R41) -/
  due : Bool := false
  dispatched : Bool := false
  /-- executed DONE in the current frame on time -/
  done : Bool := false
  doneStamp : Stamp := 0
  missed : Bool := false
  /-- due while its previous instance was still carried: it does not start (R49) -/
  prevCarried : Bool := false
  /-- the core it runs on, and the frame it was dispatched in -/
  run : Option (CoreId × W64) := none
  /-- carried past the tick that ended its frame (R47) -/
  carried : Bool := false
  /-- to be stopped at the ERET or DONE of its handler (R46, R301) -/
  stopPending : Bool := false
  /-- the window it was dispatched with (R114): stamp of its deadline, and whether it was already late -/
  deadline : Stamp := 0
  lateSeen : Bool := false
  /-- assigned core of the placement epoch -/
  assigned : CoreId := 0
deriving DecidableEq, Repr

/-- A removed core and its replacement on the way (R106, R110). -/
structure Replace where
  removed : CoreId
  spare : CoreId
  ready : Bool
deriving DecidableEq, Repr

/-- What the policy core gathers over a placement epoch (R101, R103). -/
structure Gather where
  /-- the cycles reported at each DONE, oldest first -/
  cycles : List (TaskId × Nat) := []
  /-- the event counters of a core at each DONE of an Open task, oldest first -/
  events : List (CoreId × List (Nat × BitVec 48)) := []
  /-- the last thermal reading of each tile -/
  temps : List (Nat × BitVec 24) := []
  /-- wear judgments: part, unit and sub-unit, oldest first -/
  wear : List (Nat × (Nat × Nat)) := []
  /-- request packets that the samplers counted, by berth and by home slice (R408) -/
  byBerth : List (Nat × Nat) := []
  bySlice : List (Nat × Nat) := []
  /-- the load of each Sealed task as the epoch closes: the larger of EST_CYCLES and EST_RUN (R103) -/
  sealedLoad : List (TaskId × Nat) := []
deriving DecidableEq, Repr

/-- Hive. -/
structure HiveState where
  /-- task descriptors, byte i in bits [8i+7:8i] (R90); an unlisted descriptor is 0, so not VALID -/
  td : List (Nat × BitVec 1024)
  /-- hop table (R92) -/
  hops : List (Nat × W32)
  rt : List (Nat × TaskRt)
  /-- CORE_STATE (R119); an unlisted core is in reserve -/
  cores : List (Nat × CStat)
  /-- busy cycles of each core in the running epoch and in the last completed one (R119) -/
  load : List (Nat × Nat)
  loadLast : List (Nat × Nat)
  /-- what is gathered in the running epoch, and what was gathered in the last completed one (R101) -/
  gather : Gather
  gatherLast : Gather
  /-- placement epochs opened, modulo 2^32 (R101, HV_EPOCH) -/
  epochs : W32
  /-- some placement epoch has opened, so the tick that opens the next one closes it (R101) -/
  opened : Bool
  /-- a plan complete for the epoch, waiting for the tick that opens the next (R101) -/
  planReady : Option (List PlanItem)
  /-- an epoch has closed, so a plan is due, and the number of that epoch -/
  planDue : Bool
  /-- changes of the plan in force still waiting (R104) -/
  plan : List PlanItem
  /-- cores waiting to be removed at a tick: worn or retired (R110) -/
  worn : List CoreId
  replaces : List Replace
  /-- moves of pins and core sets to replacements (R109): from, to (none: pin released) -/
  pinMoves : List (CoreId × Option CoreId)
  /-- Ant engines waiting for a spare at the next tick: bay, logical engine (R148) -/
  antSpare : List (Nat × Nat)
  /-- Ant engines judged worn, to be retired at the next tick: bay, physical engine (R149) -/
  antWorn : List (Nat × Nat)
  /-- L3 ways waiting for the spare: slice, way (R387) -/
  waySpare : List (Nat × Nat)
  slots : List SwSlot
  /-- the slot named by the last SW_OPEN -/
  lastOpen : Nat
  /-- change-set tags that are MIXED (R115) -/
  openSets : List Byte
  /-- parameter input points and their values in force (R114) -/
  params : List (Nat × W32)
  /-- home set of each affinity class in force: first slice, log2 size (R102, R368) -/
  homes : List (Nat × (Nat × Nat))
deriving DecidableEq, Repr

end Sys2Proof.Machine
end

