-- ==== Sys2Proof/Machine/PartMem.lean ====
section
/-! DEFINITION. State of DRAM, the memory controllers, the berth table and migration (chapter Memory, Berths and Error Handling). -/

namespace Sys2Proof.Machine

/-- An entry of a merge buffer: a line of the channel, its byte mask and its data (R425). -/
structure MergeEnt where
  line : Nat
  mask : BitVec 64
  data : Line
  /-- the write carries the poison code (R426) -/
  poison : Bool
  /-- the write is the corrective write of R427: the corrected symbol's device and codeword -/
  corr : Option (Nat × Nat)
deriving DecidableEq, Repr

/-- An entry of a hard table (R427). -/
structure HardEnt where
  line : Nat
  device : Nat
  codeword : Nat
  stamp : Stamp
  hard : Bool
deriving DecidableEq, Repr

/-- A memory controller (R423 to R429). -/
structure Memc where
  merge : List MergeEnt := []
  /-- a write waiting in the input entry for a free merge entry (R425) -/
  input : Option MergeEnt := none
  hard : List HardEnt := []
  /-- the log ring, entry i at i mod 64 (R429) -/
  log : List (Nat × BitVec 256) := []
  bankHard : List (Nat × Nat) := []
  bankCe : List (Nat × Nat) := []
  /-- next line of the place patrolled, and the place (R428) -/
  patrolLine : Nat := 0
  patrolOff : Nat := 0
  /-- stamp of the last patrol read (R428) -/
  patrolAt : Stamp := 0
deriving DecidableEq, Repr

/-- Why a berth moves: the cause of BERTH_COPY (R431). -/
inductive MigCause where
  | placement | sparing | retirement | placeRetire
deriving DecidableEq, Repr

/-- A migration copy in flight (R419, R420). -/
structure Copy where
  berth : Nat
  srcCh : Nat
  srcOff : Nat
  dstCh : Nat
  dstOff : Nat
  /-- the copy pointer p -/
  ptr : Nat
  /-- the copy read of line p has been sent and its target write is not acknowledged (R420) -/
  readSent : Bool
  /-- forwarded writes not yet acknowledged, by line -/
  unacked : List Nat
  /-- writes held at the source until an acknowledgement: line, byte mask, data, poison (R420) -/
  heldWr : List MergeEnt
  cause : MigCause
deriving DecidableEq, Repr

/-- DRAM and what manages it. -/
structure MemState where
  /-- bytes by place: channel * 2^38 + channel address (R415); an unlisted byte reads 0 -/
  dram : List Host.Cell
  /-- lines written with the poison code, by channel * 2^32 + line of the channel (R426) -/
  poison : List Nat
  memc : List (Nat × Memc)
  /-- the berth table (R416); an unlisted entry is 0, so not VALID -/
  bt : List (Nat × W32)
  /-- copies by slot k (R433) -/
  copies : List (Nat × Copy)
  /-- bad places: channel, COFF (R424) -/
  bad : List (Nat × Nat)
  /-- berths whose source place is hard and waits for a migration (R424) -/
  hardPlaces : List Nat
  /-- channels judged worn, whose berths are being moved (R422) -/
  wornCh : List Nat
  /-- the channel in whose place the spare has entered service (R422) -/
  sparing : Option Nat
  /-- poisoned lines that a controller has read and not yet logged, oldest first: channel and line (R426, R429) -/
  seen : List (Nat × Nat)
  /-- what the copied lines still draw of PL_MIG_BW at a stamp, in tenths of a byte (R104, R419) -/
  migSeen : Stamp
  migDebt : Nat
deriving DecidableEq, Repr

end Sys2Proof.Machine
end

