-- ==== Sys2Proof/Machine/PartPorts.lean ====
section
/-! DEFINITION. State of the network ports, the CAN FD controllers and the PCI Express halves (chapter Network and Host Ports). -/

namespace Sys2Proof.Machine

/-- A frame in a transmit queue (R437 to R439): its bytes without FCS, and the ring entry it came from. -/
structure NetFrame where
  bytes : List Byte
  entry : Option Nat
  /-- the descriptor asks for a stamp -/
  stamp : Bool
  tag : W32
deriving DecidableEq, Repr

/-- A match entry of a port (R441, R450). -/
structure NetMatch where
  type : W32 := 0
  val : W32 := 0
  mask : W32 := 0
  out : W32 := 0
  ext : W32 := 0
deriving DecidableEq, Repr

/-- A network port (R434 to R441). -/
structure NetPort where
  /-- frames waiting, by class, oldest first (R439) -/
  queues : List (Nat × List NetFrame) := []
  /-- the frame on the wire, and its egress stamp -/
  sending : Option (NetFrame × Stamp) := none
  /-- stamp FIFO, oldest first (R436) -/
  txs : List (W16 × Stamp) := []
  /-- TXS_LO and TXS_HI as latched -/
  txsLatch : Stamp := 0
  /-- next transmit descriptor to be taken, and entries taken and completed ahead of HEAD -/
  taken : Nat := 0
  doneTx : List Nat := []
  /-- the tag last sent from each release slot (R438) -/
  relTags : List (Nat × W32) := []
  /-- the gate control list, the entry in force and the stamp at which it took effect (R440) -/
  gcl : List (Nat × W32) := []
  gclIdx : Nat := 0
  gclAt : Stamp := 0
  /-- match entries (R441) -/
  mtab : List (Nat × NetMatch) := []
  /-- frames sent, newest first -/
  out : List (List Byte) := []
deriving DecidableEq, Repr

/-- A release record of a CAN FD controller waiting to be sent (R444): its 80 bytes, by slot. -/
structure CanPend where
  slot : Nat
  bytes : List Byte
deriving DecidableEq, Repr

/-- A CAN FD controller (R442 to R444). -/
structure CanCtl where
  pend : List CanPend := []
  relTags : List (Nat × W16) := []
  doneTx : List Nat := []
  /-- error counts of ISO 11898-1 -/
  txErr : Nat := 0
  rxErr : Nat := 0
  busOff : Bool := false
  /-- recovery has been started by software (R442) -/
  recovering : Bool := false
  /-- the state last journaled: 0 active, 1 passive, 2 bus-off -/
  last : Fin 3 := 0
  /-- records sent, newest first -/
  out : List (List Byte) := []
deriving DecidableEq, Repr

/-- An entry of the shared CAN match table (R444, R451). -/
structure CanMatch where
  id : W32 := 0
  mask : W32 := 0
  out : W32 := 0
  ctrl : W32 := 0
deriving DecidableEq, Repr

/-- What a PCI Express half has sent: completions, and requests of the device below it (R446, R447). -/
inductive PcieMsg where
  | completion (half : Nat) (bytes : List Byte)
  | unsupported (half : Nat)
  | read (half : Nat) (addr : Nat) (len : Nat)
  | write (half : Nat) (addr : Nat) (bytes : List Byte)
  /-- configuration requests; the ECAM offset names bus, device, function and register (R446) -/
  | configRead (half : Nat) (offset : Nat) (len : Nat)
  | configWrite (half : Nat) (offset : Nat) (bytes : List Byte)
  | retrain (half : Nat)
deriving DecidableEq, Repr

/-- The ports. -/
structure PortState where
  net : List (Nat × NetPort)
  can : List (Nat × CanCtl)
  canMatch : List (Nat × CanMatch)
  /-- messages sent below the halves, newest first -/
  pcieOut : List PcieMsg
  /-- the PERST# balls driven low: all of them from reset until boot configures the halves (R452, R472, R530) -/
  perst : BitVec 8
deriving DecidableEq, Repr

end Sys2Proof.Machine
end

