-- ==== Sys2Proof/Machine/PartRing.lean ====
section
/-! DEFINITION. State of the ring fabric (chapter The Ring Fabric). -/

namespace Sys2Proof.Machine

/-- The token bucket of a station for a class of traffic (R402): settings, tokens in units of 1/2,048 token, and the stamp to which they are counted. -/
structure Regulator where
  rate : Nat
  burst : Nat
  en : Bool
  tokens : Nat
  seen : Stamp
deriving DecidableEq, Repr

/-- Lanes of a direction of a ring, bit masks over lanes 0 to 2 (R406). -/
structure RingDir where
  inUse : BitVec 3 := 3
  failed : BitVec 3 := 0
  /-- lanes that have failed and change at the next tick -/
  failing : BitVec 3 := 0
  down : Bool := false
  /-- header parity errors of the running beacon, by lane (R406) -/
  errs : List (Nat × Nat) := []
deriving DecidableEq, Repr

/-- A slot that a station has sent on, and its HOLD bit (R400, R401); TYPE 0 in an empty one. -/
structure RingHop where
  ring : Fin 17
  pos : Nat
  dir : Bool
  lane : Fin 3
  hold : Bool
  pkt : Packet
deriving DecidableEq, Repr

/-- HOLD at a station of a ring direction (R401): passes left until it may inject again, and passes left in which it takes HOLD off. -/
structure HoldSt where
  quiet : Nat := 0
  clear : Nat := 0
deriving DecidableEq, Repr

/-- A ring, 0 to 7 for H0 to H7 and 8 to 16 for V0 to V8. -/
structure RingSt where
  dir0 : RingDir := {}
  dir1 : RingDir := {}
  /-- the trace buffer, entry 0 first; an entry stays until it is written again (R409) -/
  trace : List (BitVec 256) := []
  /-- escape registers by 2 * position + direction (R401) -/
  esc : List (Nat × Packet) := []
  /-- packets that turn onto the slot that passes, by (2 * position + direction) * 4 + lane (R400) -/
  turning : List (Nat × Packet) := []
  /-- HOLD at each station, by 2 * position + direction (R401) -/
  holds : List (Nat × HoldSt) := []
  /-- the sampler: request packets by berth and by home slice (R408) -/
  byBerth : List (Nat × Nat) := []
  bySlice : List (Nat × Nat) := []
deriving DecidableEq, Repr

/-- The ring fabric. -/
structure RingState where
  rings : List (Nat × RingSt)
  /-- regulators by station * 4 + class; an unlisted one is disabled -/
  regl : List (Nat × Regulator)
  /-- routing tables by station * 128 + destination: RT_DATA (R398, R411) -/
  routes : List (Nat × W32)
  /-- local packets that wait at their source station, oldest first (R399, R402) -/
  waiting : List Packet
  /-- packets ejected at their destination, newest first, each with its payload poisoned or not -/
  ejected : List (Packet × Bool)
  /-- slots sent on, newest first -/
  sent : List RingHop
deriving DecidableEq, Repr

end Sys2Proof.Machine
end

