-- ==== Sys2Proof/Machine/PartState.lean ====
section
/-! DEFINITION. State of the state unit (chapter State Regions, Flip and Digest). -/

namespace Sys2Proof.Machine

/-- A state line: its two slots and its metadata (R65). -/
structure SLine where
  dataA : Line := 0
  dataB : Line := 0
  tagA : W32 := 0
  tagB : W32 := 0
  valA : Bool := true
  valB : Bool := false
  pend : Bool := false
  /-- the pending slot: false A, true B -/
  pslot : Bool := false
  held : Bool := false
  lateA : Bool := false
  lateB : Bool := false
  side : Bool := false
  writer : TaskId := 0
  digd : Bool := false
deriving DecidableEq, Repr

/-- A side-store entry (R67). -/
structure SideEnt where
  /-- the line: bits [45:6] of its window address -/
  line : Nat
  data : Line
  task : TaskId
  frame : W32
  held : Bool
  lost : Bool
deriving DecidableEq, Repr

/-- A touch-list entry (R68). -/
structure TouchEnt where
  line : Nat
  lost : Bool
deriving DecidableEq, Repr

/-- The kinds of walk entry (R69). -/
inductive WalkKind where
  | done
  | abort
  | carry
  | commit (m : W64)
  | discard
deriving DecidableEq, Repr

/-- A walk entry (R69): the touch list it walks is list 2 * core + half. -/
structure WalkEnt where
  task : TaskId
  frame : W64
  kind : WalkKind
  /-- the touch list, 2c or 2c + 1 for core c -/
  tlist : Nat
  /-- the walk itself is complete, and the entry waits for its commit (R69) -/
  walked : Bool
deriving DecidableEq, Repr

/-- The state unit (R58 to R89). -/
structure SuState where
  /-- the lines that differ from their contents at the first tick, by bits [45:6] of the window address -/
  lines : List (Nat × SLine)
  /-- the frame before the first tick, the tag of every line at the first tick (R66) -/
  tag0 : W32
  side : List SideEnt
  /-- touch lists by number, 2c and 2c + 1 for core c (R68) -/
  touch : List (Nat × List TouchEnt)
  /-- the touch list in use on a core: false 2c, true 2c + 1 -/
  touchSel : List (Nat × Bool)
  walks : List WalkEnt
  /-- running digests by frame (R84, R85) -/
  digests : List (Nat × V128)
  /-- frames that have ended and whose digest is not yet final (R86) -/
  digOpen : List W64
  /-- the last final digest and its frame -/
  digFrame : W64
  digVal : V128
  /-- its copies latched by the last read of DIG_FRAME_LO (R88) -/
  latFrame : W64
  latVal : V128
  sweepPos : Nat
  sweepPass : W32
  /-- DBG_META0 to DBG_META3 (R88, R89) -/
  dbgMeta : V128
deriving DecidableEq, Repr

end Sys2Proof.Machine
end

