-- ==== Sys2Proof/Machine/PartTime.lean ====
section
/-! DEFINITION. State of the timebase, the beacon, the triplicated words and the journal (chapter Beacon, Frames and the Timebase; R430). -/

namespace Sys2Proof.Machine

/-- One triplicated word: three copies, their parity, how often each was rewritten and whether it is retired (R430). -/
structure TripWord where
  a : Nat := 0
  b : Nat := 0
  c : Nat := 0
  badA : Bool := false
  badB : Bool := false
  badC : Bool := false
  fixA : Nat := 0
  fixB : Nat := 0
  fixC : Nat := 0
  retA : Bool := false
  retB : Bool := false
  retC : Bool := false
deriving DecidableEq, Repr

/-- The triplicated words, numbered as in VOTE_FIX (R430, R431). -/
structure Trip where
  tai : TripWord := {}
  epoch : TripWord := {}
  period : TripWord := {}
  wdLock : TripWord := {}
  digest : TripWord := {}
deriving DecidableEq, Repr

/-- The timebase (R25 to R28). -/
structure TbState where
  /-- counting, since the first lock to the crystal (R25) -/
  running : Bool
  /-- the integer part (R9) -/
  now : Stamp
  /-- the part below 1 ns, in units of 1 / (3 * 2^40) ns -/
  frac : Nat
  /-- source in use: 0 ref A, 1 ref B, 2 crystal -/
  src : Fin 3
  locked : Bool
  /-- ref A present and past its stable count (R26, R491) -/
  refA : Bool
  refB : Bool
  /-- TB_RATE in force -/
  rate : W32
  /-- TB_RATE waiting for the next tick, and whether it was clamped (R27) -/
  rateNext : Option (W32 × Bool)
  /-- a completed TB_TAI_LO pair waiting for the next tick (R28) -/
  taiNext : Option W64
  /-- the frequency of the lost reference kept in holdover, in units of 2^-40 (R26) -/
  held : W32
deriving DecidableEq, Repr

/-- A post in input staging and the stamp at which it reached it (R38, R39). -/
structure Staged where
  post : Post
  arrival : Stamp
deriving DecidableEq, Repr

/-- What FRAME_CLOSE of the running frame has counted so far (R50, R54). -/
structure FrameAcc where
  abort : Bool := false
  carry : Bool := false
  missed : Bool := false
  noncmp : Bool := false
  ovr : Nat := 0
  miss : Nat := 0
deriving DecidableEq, Repr

/-- The beacon (R29 to R35). -/
structure BcnState where
  /-- the first tick is fixed: R31, or R190 for a twin -/
  started : Bool
  /-- some tick has fired since reset -/
  ticked : Bool
  /-- N0, the frame of the first tick -/
  first : W64
  /-- the next tick to fire -/
  nextN : W64
  /-- BCN_FRAME: N of the last tick -/
  frame : W64
  /-- T(N) as the last tick fired it -/
  tickStamp : Stamp
  /-- T(N-1) as it fired; before the first tick had fired, one period earlier -/
  prevTick : Stamp
  /-- the first tick, and every later one that did not fire one period after the tick before it, the latest first (R32, R34) -/
  bases : List (W64 × Stamp)
  /-- the level of BCN_OUT and the stamp at which its pulse ends (R33) -/
  out : Bool
  outEnd : Stamp
  /-- BCN_OUT is high-impedance: from reset until boot configures it (R472, R530) -/
  outZ : Bool
  inLast : Stamp
  inErr : W32
  /-- BCN_IN lost under R35 -/
  inLost : Bool
  /-- BCN_IN edges have aligned the beacon since it was last lost -/
  aligned : Bool
  /-- expected BCN_IN edges missed in a row, up to 3 (R35) -/
  edgeMiss : Nat
  /-- the edge of the running frame's tick has arrived, and of the next tick's -/
  edgeGot : Bool
  edgeNext : Bool
  /-- the arrival of the running frame's expected edge has been judged -/
  edgeJudged : Bool
  /-- input staging (R38, R545), in order of arrival -/
  staging : List Staged
  /-- the freeze of the current tick has been performed (R37) -/
  frozen : Bool
  acc : FrameAcc
  /-- the frame ended by the last tick had committed late writes, and their lines (R48, R54) -/
  lateLines : Nat
deriving DecidableEq, Repr

/-- The journal (R51 to R55, R332). -/
structure JrnState where
  seq : W32
  wptr : W32
  /-- the Sealed ring (R332) -/
  swptr : W32
deriving DecidableEq, Repr

end Sys2Proof.Machine
end

