-- ==== Sys2Proof/Machine/PartTwin.lean ====
section
/-! DEFINITION. State of the twin unit and the leading link (chapter Operating as a Twin). -/

namespace Sys2Proof.Machine

/-- A message handed to the leading link (R186). -/
inductive LinkMsg where
  | heartbeat (h : Heartbeat)
  | mirror (frame : W64) (off : BitVec 26) (lines : List Line)
  | mirrorEnd (frame : W64) (lines : Nat)
  | digest (frame : W64) (dig od : V128) (flags : Byte)
  | swArm (slot : Fin 8) (set : Byte) (last : Bool) (frame : W64) (entries : List SwEntry)
  | swCancel (slot : Fin 8) (frame : W64)
  | supply (warn : Bool) (edge : Stamp)
  | handover (h : W64)
  | handoverAck (h : W64)
  | journal (r : JRec)
  | joinReq (dig : BitVec 384)
  | joinAccept (b : W64)
  | joinRefuse (cause : Byte)
  | copy (lines : List CopyLine)
  | copyEnd (c : W64)
  | replay (m : W64) (lines : List CopyLine)
  | replayEnd (m : W64) (lines : Nat)
  | joinAt (j : W64)
  | joinGo (j : W64)
  | unitState (u : UnitState)
  | joinAbort (cause : Byte)
  | ack (seq : W32)
  | nak (seq : W32)
  | laneMap (failed : BitVec 9)
deriving DecidableEq, Repr

/-- The roles of a device (R187). -/
inductive Role where
  | listen | alone | active | standby | joining | diverged | isolated
deriving DecidableEq, Repr

/-- This device's results for a frame: its digest, its outcome digest and the list it is built from (R195, R196). -/
structure OwnCmp where
  frame : W64
  dig : Option V128 := none
  noncmp : Bool := false
  late : Bool := false
  /-- entries of the list, as 64-bit little-endian values -/
  entries : List W64 := []
  /-- the list is closed at tick N + 1 -/
  closed : Bool := false
  /-- contributions of the lines whose late commit takes effect at tick N + 1 -/
  lateXor : V128 := 0
  sent : Bool := false
deriving DecidableEq, Repr

/-- A DIGEST message of the partner (R186). -/
structure PeerCmp where
  frame : W64
  dig : V128
  od : V128
  flags : Byte
deriving DecidableEq, Repr

/-- A join as the joiner sees it (R204, R205). -/
structure JoinState where
  /-- TW_JOIN.STEP -/
  step : Fin 6 := 0
  base : W64 := 0
  endTick : W64 := 0
  at_ : Option W64 := none
  go : Bool := false
  unitSeen : Bool := false
  replayEnd : Bool := false
  /-- the tick of the version held of each line -/
  ticks : List (Nat × W64) := []
  /-- the frame at which JOIN_REQ is to be sent, again after a refusal -/
  askAt : Option W64 := none
  /-- lines received by COPY -/
  lines : Nat := 0
deriving DecidableEq, Repr

/-- A join as the holder serves it (R204). -/
structure HostJoin where
  active : Bool := false
  base : W64 := 0
  /-- lines of regions 1 to 15 already sent by COPY -/
  copied : Nat := 0
  endTick : Option W64 := none
  at_ : Option W64 := none
  tries : Nat := 0
deriving DecidableEq, Repr

/-- The twin unit and its link. -/
structure TwState where
  role : Role
  /-- side B, from the TWIN_SIDE ball at reset (R190) -/
  sideB : Bool
  g : W32
  verified : Bool
  /-- stamp of the RUN write that opened the LISTEN window (R190) -/
  listenFrom : Option Stamp
  /-- a TWIN_HB pulse was heard in LISTEN -/
  listenPulse : Bool
  partnerRole : Role
  /-- VERIFIED as the partner last announced it -/
  partnerVer : Bool
  partnerB : Bool
  partnerWarn : Bool
  resyncDue : Bool
  heardLink : Bool
  heardLine : Bool
  silentLink : Nat
  silentLine : Nat
  divCount : Nat
  -- the link (R181 to R185)
  linkUp : Bool
  linkDly : BitVec 24
  inUse : BitVec 9
  failed : BitVec 9
  x4 : Bool
  mapSent : Bool
  mapRcvd : Bool
  txSeq : W32
  rxSeq : W32
  /-- messages waiting for the lanes, in the order they were queued (R183) -/
  txq : List LinkMsg
  /-- messages sent and kept for resending (R182), with their sequence numbers, oldest first -/
  sent : List (W32 × LinkMsg)
  /-- the sequence number of the next message on the lanes: below txSeq while messages are resent (R182) -/
  txPos : W32
  /-- the stamp from which the lanes are free (R181, R184) -/
  txFree : Stamp
  /-- the stamp from which class 3 may use the lanes again (R183) -/
  copyFree : Stamp
  nakSeq : W32
  nakCount : Nat
  lastRx : Stamp
  -- mirroring (R192 to R194)
  pairOff : W64
  /-- T(N) as fixed for FRAME.T, by frame (R192) -/
  fixedT : List (Nat × W64)
  mirFrame : W64
  mirLines : List Nat
  mirEnd : Bool
  mirMiss : Bool
  /-- region 0 lines of the local freeze of the frame, kept aside (R193) -/
  localLines : List (Nat × Line)
  -- comparison (R195, R196)
  own : List OwnCmp
  peer : List PeerCmp
  cmpFrame : W64
  cmpOd : V128
  latFrame : W64
  latOd : V128
  join : JoinState
  host : HostJoin
  /-- a handover for tick H in progress, and whether it is acknowledged (R207) -/
  handH : Option W64
  handAck : Bool
  /-- TWIN_HB driven low by this device (R199) -/
  hbLow : Bool
  /-- the TWIN_HB pulse of this frame has been driven -/
  hbDone : Bool
  /-- field outputs enabled (R188, R189) -/
  outputs : Bool
  /-- the stamp at which outputs become enabled -/
  outputsAt : Option Stamp
  pjWptr : W32
deriving DecidableEq, Repr

end Sys2Proof.Machine
end

