-- ==== Sys2Proof/Machine/RegTable.lean ====
section
/-! DEFINITION. The registers of control space, as the register tables of the chapters give them: offset, copies, access codes and reset value of each (R12, R13). -/

namespace Sys2Proof.Machine

/-- A register of a block: its offset, the stride and count of each index, the bits of each access code (R12), the bits loaded from the image, and the reset value (R13). -/
structure RegRow where
  off : Nat
  dims : List (Nat × Nat)
  rw : Nat
  gp : Nat
  rl : Nat
  rc : Nat
  wo : Nat
  ro : Nat
  img : Nat
  rst : Nat
deriving DecidableEq, Repr

/-- TIMEBASE registers (R56), part 1. -/
def rowsTimebaseA : List RegRow := [
  ⟨0, [], 0, 0x7, 0, 0, 0, 0, 0, 0x6⟩,
  ⟨0x4, [], 0, 0xffffffff, 0, 0, 0, 0, 0, 0⟩,
  ⟨0x8, [], 0, 0xffffffff, 0, 0, 0, 0, 0xffffffff, 0⟩,
  ⟨0xc, [], 0, 0xffffffff, 0, 0, 0, 0, 0xffffffff, 0⟩,
  ⟨0x10, [], 0, 0, 0, 0, 0, 0xffffffff, 0, 0⟩,
  ⟨0x14, [], 0, 0, 0, 0, 0, 0xffffffff, 0, 0⟩,
  ⟨0x18, [], 0, 0, 0, 0, 0, 0x7, 0, 0x2⟩,
  ⟨0x1c, [], 0, 0, 0, 0x7f, 0, 0, 0, 0⟩]

/-- BEACON registers (R57), part 1. -/
def rowsBeaconA : List RegRow := [
  ⟨0, [], 0, 0, 0xffffffff, 0, 0, 0, 0xffffffff, 0⟩,
  ⟨0x4, [], 0, 0, 0xffffffff, 0, 0, 0, 0xffffffff, 0⟩,
  ⟨0x8, [], 0, 0, 0xffffffff, 0, 0, 0, 0xffffffff, 0⟩,
  ⟨0xc, [], 0, 0, 0xffffffff, 0, 0, 0, 0xffffffff, 0⟩,
  ⟨0x10, [], 0, 0, 0xffffffff, 0, 0, 0, 0xffffffff, 0⟩,
  ⟨0x14, [], 0, 0xff, 0, 0, 0, 0, 0xfe, 0⟩,
  ⟨0x18, [], 0, 0xffffffff, 0, 0, 0, 0, 0xffffffff, 0⟩,
  ⟨0x1c, [], 0, 0xffffffff, 0, 0, 0, 0, 0xffffffff, 0⟩,
  ⟨0x20, [], 0, 0, 0, 0, 0, 0xffffffff, 0, 0⟩,
  ⟨0x24, [], 0, 0, 0, 0, 0, 0xffffffff, 0, 0⟩,
  ⟨0x28, [], 0, 0, 0, 0, 0, 0xffffffff, 0, 0⟩,
  ⟨0x2c, [], 0, 0, 0, 0, 0, 0xffffffff, 0, 0⟩]

/-- BEACON registers (R57), part 2. -/
def rowsBeaconB : List RegRow := [
  ⟨0x30, [], 0, 0, 0, 0, 0, 0xffffffff, 0, 0⟩,
  ⟨0x34, [], 0, 0, 0, 0, 0, 0xffffffff, 0, 0⟩,
  ⟨0x38, [], 0, 0, 0, 0, 0, 0xffffffff, 0, 0⟩,
  ⟨0x40, [], 0, 0, 0, 0x7ff, 0, 0, 0, 0⟩,
  ⟨0x44, [], 0x7ff, 0, 0, 0, 0, 0, 0, 0⟩,
  ⟨0x48, [], 0xffffffff, 0, 0, 0, 0, 0, 0, 0⟩,
  ⟨0x4c, [], 0xffffffff, 0, 0, 0, 0, 0, 0, 0⟩,
  ⟨0x50, [], 0xffffffff, 0, 0, 0, 0, 0, 0, 0⟩,
  ⟨0x60, [], 0, 0, 0xffffffff, 0, 0, 0, 0xffffffff, 0⟩,
  ⟨0x64, [], 0, 0, 0x3fff, 0, 0, 0, 0x3fff, 0⟩,
  ⟨0x68, [], 0, 0, 0x1f, 0, 0, 0, 0x1f, 0⟩,
  ⟨0x6c, [], 0, 0, 0, 0, 0, 0xffffffff, 0, 0⟩]

/-- BEACON registers (R57), part 3. -/
def rowsBeaconC : List RegRow := [
  ⟨0x70, [], 0xffffffff, 0, 0, 0, 0, 0, 0, 0⟩,
  ⟨0x74, [], 0xffffffff, 0, 0, 0, 0, 0, 0, 0⟩]

/-- STATE registers (R88), part 1. -/
def rowsStateA : List RegRow := [
  ⟨0, [(16, 16)], 0, 0, 0x7ffff, 0, 0, 0, 0x7ffff, 0⟩,
  ⟨0x4, [(16, 16)], 0, 0, 0xffff, 0, 0, 0, 0xffff, 0⟩,
  ⟨0x8, [(16, 16)], 0, 0, 0x7, 0, 0, 0x8, 0x7, 0⟩,
  ⟨0xc, [(16, 16)], 0, 0, 0x1fffff, 0, 0, 0, 0x1fffff, 0⟩,
  ⟨0x100, [], 0, 0, 0x3ffffff, 0, 0, 0, 0x3ffffff, 0⟩,
  ⟨0x104, [], 0, 0, 0x3ffffff, 0, 0, 0, 0x3ffffff, 0⟩,
  ⟨0x108, [], 0, 0, 0x7fffff, 0, 0, 0, 0x7fffff, 0⟩,
  ⟨0x10c, [], 0, 0, 0xffffff, 0, 0, 0, 0xffffff, 0⟩,
  ⟨0x110, [], 0, 0, 0x1fffff, 0, 0, 0, 0x1fffff, 0⟩,
  ⟨0x114, [], 0, 0, 0x1f, 0, 0, 0, 0x1f, 0⟩,
  ⟨0x118, [], 0, 0, 0x1fffff, 0, 0, 0, 0x1fffff, 0⟩,
  ⟨0x11c, [], 0, 0, 0x1f, 0, 0, 0, 0x1f, 0⟩]

/-- STATE registers (R88), part 2. -/
def rowsStateB : List RegRow := [
  ⟨0x120, [], 0, 0, 0xffffffff, 0, 0, 0, 0xffffffff, 0⟩,
  ⟨0x124, [], 0, 0, 0xffffffff, 0, 0, 0, 0xffffffff, 0⟩,
  ⟨0x128, [], 0, 0, 0xffffffff, 0, 0, 0, 0xffffffff, 0⟩,
  ⟨0x12c, [], 0, 0, 0xffffffff, 0, 0, 0, 0xffffffff, 0⟩,
  ⟨0x140, [], 0, 0, 0, 0, 0, 0xffffffff, 0, 0⟩,
  ⟨0x144, [], 0, 0, 0, 0, 0, 0xffffffff, 0, 0⟩,
  ⟨0x148, [], 0, 0, 0, 0, 0, 0xffffffff, 0, 0⟩,
  ⟨0x14c, [], 0, 0, 0, 0, 0, 0xffffffff, 0, 0⟩,
  ⟨0x150, [], 0, 0, 0, 0, 0, 0xffffffff, 0, 0⟩,
  ⟨0x154, [], 0, 0, 0, 0, 0, 0xffffffff, 0, 0⟩,
  ⟨0x160, [], 0, 0, 0, 0xff, 0, 0, 0, 0⟩,
  ⟨0x164, [], 0xff, 0, 0, 0, 0, 0, 0, 0⟩]

/-- STATE registers (R88), part 3. -/
def rowsStateC : List RegRow := [
  ⟨0x168, [], 0xffffffff, 0, 0, 0, 0, 0, 0, 0⟩,
  ⟨0x16c, [], 0xffffffff, 0, 0, 0, 0, 0, 0, 0⟩,
  ⟨0x170, [], 0, 0, 0, 0, 0, 0x1fffff, 0, 0⟩,
  ⟨0x174, [], 0x1fffff, 0, 0, 0, 0, 0, 0, 0⟩,
  ⟨0x178, [], 0, 0, 0, 0, 0, 0x3ff, 0, 0⟩,
  ⟨0x17c, [], 0, 0, 0, 0, 0, 0x3fffffff, 0, 0⟩,
  ⟨0x180, [], 0, 0, 0, 0, 0, 0xffffffff, 0, 0⟩,
  ⟨0x190, [], 0xffffffff, 0, 0, 0, 0, 0, 0, 0⟩,
  ⟨0x194, [], 0x3fff, 0, 0, 0, 0, 0, 0, 0⟩,
  ⟨0x198, [], 0, 0x1, 0, 0, 0, 0, 0, 0⟩,
  ⟨0x19c, [], 0, 0, 0, 0, 0, 0xffffffff, 0, 0⟩,
  ⟨0x1a0, [], 0, 0, 0, 0, 0, 0xffffffff, 0, 0⟩]

/-- STATE registers (R88), part 4. -/
def rowsStateD : List RegRow := [
  ⟨0x1a4, [], 0, 0, 0, 0, 0, 0xffffffff, 0, 0⟩,
  ⟨0x1a8, [], 0, 0, 0, 0, 0, 0xffffffff, 0, 0⟩]

/-- HIVE0 registers (R117), part 1. -/
def rowsHive0A : List RegRow := [
  ⟨0, [], 0, 0x1, 0, 0, 0, 0, 0x1, 0⟩,
  ⟨0x4, [], 0, 0, 0, 0xff, 0, 0, 0, 0⟩,
  ⟨0x8, [], 0xff, 0, 0, 0, 0, 0, 0, 0⟩,
  ⟨0xc, [], 0, 0, 0, 0, 0, 0xffffff, 0, 0⟩,
  ⟨0x10, [], 0, 0, 0, 0, 0, 0xfffffff, 0, 0⟩,
  ⟨0x14, [], 0, 0, 0, 0, 0, 0xffffffff, 0, 0⟩,
  ⟨0x18, [], 0xffffffff, 0, 0, 0, 0, 0, 0, 0⟩,
  ⟨0x1c, [], 0xffffffff, 0, 0, 0, 0, 0, 0, 0⟩,
  ⟨0x20, [], 0xffffffff, 0, 0, 0, 0, 0, 0, 0⟩,
  ⟨0x24, [], 0xffffffff, 0, 0, 0, 0, 0, 0, 0⟩,
  ⟨0x100, [], 0x1fff, 0, 0, 0, 0, 0, 0, 0⟩,
  ⟨0x180, [(4, 32)], 0, 0, 0, 0, 0, 0xffffffff, 0xffffffff, 0⟩]

/-- HIVE0 registers (R117), part 2. -/
def rowsHive0B : List RegRow := [
  ⟨0x200, [], 0xffff, 0, 0, 0, 0, 0, 0, 0⟩,
  ⟨0x204, [], 0, 0, 0, 0, 0, 0xffffffff, 0xffffffff, 0⟩]

/-- HIVE1 registers (R118), part 1. -/
def rowsHive1A : List RegRow := [
  ⟨0, [], 0, 0, 0, 0, 0, 0xffff, 0xffff, 0⟩,
  ⟨0x4, [], 0, 0, 0, 0, 0, 0xffff, 0xffff, 0⟩,
  ⟨0x8, [], 0, 0, 0, 0, 0, 0xffff, 0xffff, 0⟩,
  ⟨0xc, [], 0, 0, 0, 0, 0, 0xffff, 0xffff, 0⟩,
  ⟨0x10, [], 0, 0, 0, 0, 0, 0xffff, 0xffff, 0⟩,
  ⟨0x14, [], 0, 0, 0, 0, 0, 0xff, 0xff, 0⟩,
  ⟨0x18, [], 0, 0, 0, 0, 0, 0x1f7f, 0x1f7f, 0⟩,
  ⟨0x1c, [], 0, 0, 0, 0, 0, 0xffff, 0xffff, 0⟩,
  ⟨0x20, [], 0, 0, 0, 0, 0, 0x7, 0x7, 0⟩,
  ⟨0x24, [], 0, 0, 0, 0, 0, 0xff, 0xff, 0⟩,
  ⟨0x28, [], 0, 0, 0, 0, 0, 0xffffff, 0xffffff, 0⟩,
  ⟨0x40, [(4, 4)], 0, 0, 0, 0, 0, 0xffffffff, 0xffffffff, 0⟩,
  ⟨0x50, [], 0, 0, 0, 0, 0, 0xffff, 0xffff, 0⟩]

/-- HIVE1 registers (R118), part 2. -/
def rowsHive1B : List RegRow := [
  ⟨0x80, [(20, 16), (4, 5)], 0, 0, 0xffffffff, 0, 0, 0, 0xffffffff, 0⟩,
  ⟨0x200, [(4, 64)], 0, 0, 0x7ff, 0, 0, 0, 0x7ff, 0⟩,
  ⟨0x300, [(8, 64)], 0, 0, 0x1fffff, 0, 0, 0, 0x1fffff, 0⟩,
  ⟨0x304, [(8, 64)], 0, 0, 0x1fffff, 0, 0, 0, 0x1fffff, 0⟩]

/-- HIVE2 registers (R119), part 1. -/
def rowsHive2A : List RegRow := [
  ⟨0, [(4, 144)], 0, 0, 0, 0, 0, 0x1ffff, 0, 0⟩,
  ⟨0x400, [(4, 144)], 0, 0, 0, 0, 0, 0xffffffff, 0, 0⟩]

/-- HIVE3 registers (R120), part 1. -/
def rowsHive3A : List RegRow := [
  ⟨0, [], 0, 0xff0f, 0, 0, 0, 0, 0, 0⟩,
  ⟨0x4, [], 0xffffffff, 0, 0, 0, 0, 0, 0, 0⟩,
  ⟨0x8, [], 0, 0, 0, 0, 0xffffffff, 0, 0, 0⟩,
  ⟨0xc, [], 0, 0xffffffff, 0, 0, 0, 0, 0, 0⟩,
  ⟨0x10, [], 0xffffffff, 0, 0, 0, 0, 0, 0, 0⟩,
  ⟨0x14, [], 0, 0x7, 0, 0, 0, 0, 0, 0⟩,
  ⟨0x20, [(16, 8)], 0, 0, 0, 0, 0, 0x3ffffff, 0, 0⟩,
  ⟨0x24, [(16, 8)], 0, 0, 0, 0, 0, 0xffffffff, 0, 0⟩,
  ⟨0x100, [], 0, 0, 0x7ff, 0, 0, 0, 0x7ff, 0⟩,
  ⟨0x104, [], 0, 0, 0, 0xf, 0, 0, 0, 0⟩,
  ⟨0x108, [], 0xf, 0, 0, 0, 0, 0, 0, 0⟩]

/-- ANT registers (R151), part 1. -/
def rowsAntA : List RegRow := [
  ⟨0, [], 0, 0x1, 0, 0, 0, 0, 0, 0⟩,
  ⟨0x4, [], 0, 0, 0, 0xff, 0, 0, 0, 0⟩,
  ⟨0x8, [], 0xff, 0, 0, 0, 0, 0, 0, 0⟩,
  ⟨0xc, [], 0, 0, 0x7, 0, 0, 0, 0x7, 0⟩,
  ⟨0x10, [], 0, 0, 0xffff, 0, 0, 0, 0xffff, 0⟩,
  ⟨0x14, [], 0, 0, 0x1fffff, 0, 0, 0, 0x1fffff, 0⟩,
  ⟨0x18, [], 0, 0, 0, 0, 0, 0x7f, 0, 0⟩,
  ⟨0x20, [], 0xffffffff, 0, 0, 0, 0, 0, 0, 0⟩,
  ⟨0x24, [], 0xffffffff, 0, 0, 0, 0, 0, 0, 0⟩,
  ⟨0x28, [], 0xffffffff, 0, 0, 0, 0, 0, 0, 0⟩,
  ⟨0x2c, [], 0xffffffff, 0, 0, 0, 0, 0, 0, 0⟩,
  ⟨0x40, [], 0x3fffff, 0, 0, 0, 0, 0, 0, 0⟩]

/-- ANT registers (R151), part 2. -/
def rowsAntB : List RegRow := [
  ⟨0x44, [], 0, 0, 0, 0, 0, 0xffffffff, 0, 0⟩,
  ⟨0x80, [(4, 24)], 0, 0, 0x1ffffff, 0, 0, 0, 0x1ffffff, 0⟩,
  ⟨0x100, [(4, 24)], 0, 0, 0, 0, 0, 0x7f, 0, 0x4⟩,
  ⟨0x180, [(4, 28)], 0, 0, 0x7ffffff, 0, 0, 0, 0x7ffffff, 0⟩,
  ⟨0x200, [(4, 28)], 0, 0, 0xfffffff, 0, 0, 0, 0xfffffff, 0⟩,
  ⟨0x280, [(4, 32)], 0, 0, 0, 0, 0, 0x1ffffff, 0, 0xf8⟩]

/-- GRID registers (R179), part 1. -/
def rowsGridA : List RegRow := [
  ⟨0, [], 0, 0, 0x3, 0, 0, 0, 0x3, 0⟩,
  ⟨0x4, [], 0, 0, 0, 0x1f, 0, 0, 0, 0⟩,
  ⟨0x8, [], 0x1f, 0, 0, 0, 0, 0, 0, 0⟩,
  ⟨0x10, [(4, 4)], 0, 0, 0x3fffff, 0, 0, 0, 0x3fffff, 0⟩,
  ⟨0x40, [], 0xffffffff, 0, 0, 0, 0, 0, 0, 0⟩,
  ⟨0x44, [], 0xffffffff, 0, 0, 0, 0, 0, 0, 0⟩,
  ⟨0x100, [(4, 48)], 0, 0, 0x1f, 0, 0, 0, 0x1f, 0⟩,
  ⟨0x200, [(4, 48)], 0, 0, 0xffffff, 0, 0, 0, 0xffffff, 0⟩,
  ⟨0x300, [(4, 48)], 0, 0, 0xffffffff, 0, 0, 0, 0xffffffff, 0⟩,
  ⟨0x400, [(32, 16)], 0, 0, 0x7ffff, 0, 0, 0, 0x7ffff, 0⟩,
  ⟨0x404, [(32, 16)], 0, 0, 0x7ffff, 0, 0, 0, 0x7ffff, 0⟩,
  ⟨0x408, [(32, 16)], 0, 0, 0xfffffff, 0, 0, 0, 0xfffffff, 0⟩]

/-- GRID registers (R179), part 2. -/
def rowsGridB : List RegRow := [
  ⟨0x40c, [(32, 16)], 0, 0, 0xffff, 0, 0, 0, 0xffff, 0⟩,
  ⟨0x410, [(32, 16)], 0, 0, 0x1ffffff, 0, 0, 0, 0x1ffffff, 0⟩,
  ⟨0x414, [(32, 16)], 0, 0, 0, 0, 0, 0x3f, 0, 0⟩,
  ⟨0x418, [(32, 16)], 0, 0, 0, 0, 0, 0xffffff, 0, 0⟩,
  ⟨0x41c, [(32, 16)], 0, 0, 0, 0, 0, 0xffffff, 0, 0⟩,
  ⟨0x600, [(4, 4)], 0, 0, 0, 0, 0, 0xffffff, 0, 0⟩,
  ⟨0x610, [(4, 4)], 0, 0, 0x807fffff, 0, 0, 0, 0x807fffff, 0⟩,
  ⟨0x700, [], 0x1fff, 0, 0, 0, 0, 0, 0, 0⟩,
  ⟨0x704, [], 0, 0, 0, 0, 0, 0x807fffff, 0x807fffff, 0⟩]

/-- SECTOR registers (R180), part 1. -/
def rowsSectorA : List RegRow := [
  ⟨0, [], 0, 0x1, 0, 0, 0, 0, 0, 0⟩,
  ⟨0x4, [], 0, 0, 0, 0x7f, 0, 0, 0, 0⟩,
  ⟨0x8, [], 0x7f, 0, 0, 0, 0, 0, 0, 0⟩,
  ⟨0xc, [], 0, 0, 0, 0, 0, 0xffffffff, 0, 0⟩,
  ⟨0x10, [], 0, 0, 0x1fff, 0, 0, 0, 0x1fff, 0⟩,
  ⟨0x14, [], 0, 0, 0x807fffff, 0, 0, 0, 0x807fffff, 0⟩,
  ⟨0x20, [(4, 4)], 0, 0, 0, 0, 0, 0xffffff, 0xffffff, 0⟩,
  ⟨0x30, [(4, 4)], 0, 0, 0, 0, 0, 0xffffff, 0, 0⟩,
  ⟨0x40, [(4, 4)], 0, 0, 0, 0, 0, 0xffffff, 0, 0⟩,
  ⟨0x60, [], 0, 0, 0, 0, 0, 0x1ff, 0, 0⟩,
  ⟨0x64, [], 0xffffffff, 0, 0, 0, 0, 0, 0, 0⟩,
  ⟨0x68, [], 0xffffffff, 0, 0, 0, 0, 0, 0, 0⟩]

/-- SECTOR registers (R180), part 2. -/
def rowsSectorB : List RegRow := [
  ⟨0x6c, [], 0xffffffff, 0, 0, 0, 0, 0, 0, 0⟩,
  ⟨0x100, [], 0xfff, 0, 0, 0, 0, 0, 0, 0⟩,
  ⟨0x104, [], 0, 0, 0, 0, 0, 0xffffffff, 0xffffffff, 0⟩,
  ⟨0x108, [(8, 8)], 0, 0, 0, 0, 0, 0xffffffff, 0xffffffff, 0⟩,
  ⟨0x10c, [(8, 8)], 0, 0, 0, 0, 0, 0xffffffff, 0xffffffff, 0⟩,
  ⟨0x160, [], 0, 0, 0, 0, 0, 0x3, 0, 0⟩,
  ⟨0x180, [], 0x3ff, 0, 0, 0, 0, 0, 0, 0⟩,
  ⟨0x184, [], 0, 0, 0, 0, 0, 0x3fffffff, 0x3fffffff, 0⟩,
  ⟨0x188, [], 0, 0, 0, 0, 0, 0x1ffff, 0, 0⟩,
  ⟨0x1a0, [], 0x7ff, 0, 0, 0, 0, 0, 0, 0⟩,
  ⟨0x1a4, [], 0, 0, 0, 0, 0, 0x7ffff, 0x7ffff, 0⟩,
  ⟨0x1a8, [], 0, 0, 0, 0, 0, 0xffffff, 0xffffff, 0⟩]

/-- SECTOR registers (R180), part 3. -/
def rowsSectorC : List RegRow := [
  ⟨0x1ac, [], 0, 0, 0, 0, 0, 0xffffffff, 0xffffffff, 0⟩,
  ⟨0x1b0, [], 0, 0, 0, 0, 0, 0xffff, 0xffff, 0⟩,
  ⟨0x1b4, [], 0, 0, 0, 0, 0, 0x807fffff, 0x807fffff, 0⟩,
  ⟨0x1b8, [], 0, 0, 0, 0, 0, 0xffff001f, 0, 0⟩]

/-- TWIN registers (R210), part 1. -/
def rowsTwinA : List RegRow := [
  ⟨0, [], 0, 0, 0xfff, 0, 0, 0, 0xfff, 0⟩,
  ⟨0x4, [], 0, 0x7, 0, 0, 0, 0, 0, 0⟩,
  ⟨0x8, [], 0, 0, 0, 0, 0, 0x7ff, 0, 0⟩,
  ⟨0xc, [], 0, 0, 0, 0, 0, 0xffffffff, 0, 0⟩,
  ⟨0x10, [], 0, 0, 0, 0x3fff, 0, 0, 0, 0⟩,
  ⟨0x14, [], 0x3fff, 0, 0, 0, 0, 0, 0, 0⟩,
  ⟨0x18, [], 0, 0, 0, 0, 0, 0xff, 0, 0⟩,
  ⟨0x1c, [], 0, 0, 0, 0, 0, 0x7ffff, 0, 0xff⟩,
  ⟨0x20, [], 0, 0, 0xffff, 0, 0, 0, 0xffff, 0⟩,
  ⟨0x24, [], 0, 0, 0, 0, 0, 0xffffff, 0, 0⟩,
  ⟨0x28, [], 0, 0, 0xffffff, 0, 0, 0, 0xffffff, 0⟩,
  ⟨0x2c, [], 0, 0, 0xffff, 0, 0, 0, 0xffff, 0⟩]

/-- TWIN registers (R210), part 2. -/
def rowsTwinB : List RegRow := [
  ⟨0x30, [], 0, 0, 0, 0, 0, 0xffffffff, 0, 0⟩,
  ⟨0x34, [], 0, 0, 0, 0, 0, 0xffffffff, 0, 0⟩,
  ⟨0x38, [], 0xffffffff, 0, 0, 0, 0, 0, 0, 0⟩,
  ⟨0x3c, [], 0xffffffff, 0, 0, 0, 0, 0, 0, 0⟩,
  ⟨0x40, [], 0xffffffff, 0, 0, 0, 0, 0, 0, 0⟩,
  ⟨0x44, [], 0xffffffff, 0, 0, 0, 0, 0, 0, 0⟩,
  ⟨0x48, [], 0xffffffff, 0, 0, 0, 0, 0, 0, 0⟩,
  ⟨0x4c, [], 0, 0, 0, 0, 0, 0xf, 0, 0⟩,
  ⟨0x50, [(4, 4)], 0, 0, 0, 0, 0, 0xffffffff, 0, 0⟩,
  ⟨0x60, [], 0, 0, 0, 0, 0, 0x7, 0, 0⟩,
  ⟨0x64, [], 0, 0, 0, 0, 0, 0xffffffff, 0, 0⟩,
  ⟨0x68, [], 0, 0, 0, 0, 0, 0xffffffff, 0, 0⟩]

/-- TWIN registers (R210), part 3. -/
def rowsTwinC : List RegRow := [
  ⟨0x70, [], 0, 0, 0, 0, 0, 0xffffffff, 0, 0⟩,
  ⟨0x74, [], 0, 0, 0, 0, 0, 0xffffffff, 0, 0⟩,
  ⟨0x80, [], 0, 0, 0xffffffff, 0, 0, 0, 0xffffffff, 0⟩,
  ⟨0x84, [], 0, 0, 0x3fff, 0, 0, 0, 0x3fff, 0⟩,
  ⟨0x88, [], 0, 0, 0x1f, 0, 0, 0, 0x1f, 0⟩,
  ⟨0x8c, [], 0, 0, 0, 0, 0, 0xffffffff, 0, 0⟩,
  ⟨0x90, [], 0xffffffff, 0, 0, 0, 0, 0, 0, 0⟩,
  ⟨0x94, [], 0xffffffff, 0, 0, 0, 0, 0, 0, 0⟩]

/-- TILE registers (R234), part 1. -/
def rowsTileA : List RegRow := [
  ⟨0, [(256, 2)], 0, 0, 0, 0, 0, 0x1fffff, 0, 0⟩,
  ⟨0x4, [(256, 2)], 0, 0, 0, 0, 0, 0xffff, 0, 0⟩,
  ⟨0x8, [(256, 2)], 0, 0, 0, 0, 0, 0xffffffff, 0, 0⟩,
  ⟨0xc, [(256, 2)], 0, 0, 0, 0, 0, 0xffffffff, 0, 0⟩,
  ⟨0x10, [(256, 2)], 0, 0, 0, 0, 0, 0xffffffff, 0, 0⟩,
  ⟨0x14, [(256, 2)], 0, 0, 0, 0, 0, 0xffff, 0, 0⟩,
  ⟨0x18, [(256, 2)], 0, 0, 0, 0, 0, 0xffffffff, 0, 0⟩,
  ⟨0x1c, [(256, 2)], 0, 0, 0, 0, 0, 0xffffffff, 0, 0⟩,
  ⟨0x20, [(256, 2)], 0, 0, 0, 0, 0, 0xffffffff, 0, 0⟩,
  ⟨0x24, [(256, 2)], 0, 0, 0, 0, 0, 0xffffffff, 0, 0⟩,
  ⟨0x28, [(256, 2)], 0, 0, 0, 0, 0, 0xffffffff, 0, 0⟩,
  ⟨0x2c, [(256, 2)], 0, 0, 0, 0, 0, 0x3fff, 0, 0⟩]

/-- TILE registers (R234 to R391), part 2. -/
def rowsTileB : List RegRow := [
  ⟨0x30, [(256, 2)], 0, 0, 0, 0, 0, 0xf, 0, 0x6⟩,
  ⟨0x34, [(256, 2)], 0, 0, 0, 0, 0, 0xffffffff, 0, 0⟩,
  ⟨0x38, [(256, 2)], 0, 0, 0, 0, 0, 0xff1fff, 0, 0⟩,
  ⟨0x3c, [(256, 2)], 0, 0, 0, 0, 0, 0xffffffff, 0, 0⟩,
  ⟨0x200, [], 0, 0xffff, 0, 0, 0, 0, 0xffff, 0⟩,
  ⟨0x204, [], 0, 0, 0, 0xff, 0, 0, 0, 0⟩,
  ⟨0x208, [], 0xff, 0, 0, 0, 0, 0, 0, 0⟩,
  ⟨0x20c, [], 0, 0, 0, 0, 0, 0x1f, 0, 0⟩,
  ⟨0x210, [], 0xffffffff, 0, 0, 0, 0, 0, 0, 0⟩,
  ⟨0x214, [], 0x3fff, 0, 0, 0, 0, 0, 0, 0⟩,
  ⟨0x218, [], 0, 0x1f, 0, 0, 0, 0, 0, 0⟩,
  ⟨0x21c, [], 0xffffffff, 0, 0, 0, 0, 0, 0, 0⟩]

/-- TILE registers (R391), part 3. -/
def rowsTileC : List RegRow := [
  ⟨0x220, [], 0xffffffff, 0, 0, 0, 0, 0, 0, 0⟩,
  ⟨0x224, [], 0xffffffff, 0, 0, 0, 0, 0, 0, 0⟩,
  ⟨0x228, [], 0xff, 0, 0, 0, 0, 0, 0, 0⟩,
  ⟨0x22c, [], 0xffffffff, 0, 0, 0, 0, 0, 0, 0⟩,
  ⟨0x230, [], 0xffffffff, 0, 0, 0, 0, 0, 0, 0⟩,
  ⟨0x234, [], 0xffffffff, 0, 0, 0, 0, 0, 0, 0⟩,
  ⟨0x240, [(4, 17)], 0, 0, 0, 0, 0, 0xffff, 0, 0⟩,
  ⟨0x300, [], 0xffffffff, 0, 0, 0, 0, 0, 0, 0⟩,
  ⟨0x304, [], 0x3fff, 0, 0, 0, 0, 0, 0, 0⟩,
  ⟨0x308, [], 0xffffffff, 0, 0, 0, 0, 0, 0, 0⟩,
  ⟨0x30c, [], 0x3fff, 0, 0, 0, 0, 0, 0, 0⟩,
  ⟨0x310, [], 0, 0xf, 0, 0, 0, 0, 0, 0⟩]

/-- TILE registers (R391), part 4. -/
def rowsTileD : List RegRow := [
  ⟨0x314, [], 0, 0, 0, 0, 0, 0x1, 0, 0⟩]

/-- WORLD registers (R336), part 1. -/
def rowsWorldA : List RegRow := [
  ⟨0, [], 0, 0, 0x3, 0, 0, 0, 0, 0⟩,
  ⟨0x4, [], 0, 0, 0, 0x1f, 0, 0, 0, 0⟩,
  ⟨0x8, [], 0x1f, 0, 0, 0, 0, 0, 0, 0⟩,
  ⟨0xc, [], 0xffffffff, 0, 0, 0, 0, 0, 0, 0⟩,
  ⟨0x10, [], 0xffffffff, 0, 0, 0, 0, 0, 0, 0⟩,
  ⟨0x20, [], 0, 0, 0xff, 0, 0, 0, 0xff, 0⟩,
  ⟨0x24, [], 0, 0, 0xff, 0, 0, 0, 0xff, 0⟩,
  ⟨0x28, [], 0, 0, 0xff, 0, 0, 0, 0xff, 0⟩,
  ⟨0x2c, [], 0, 0, 0xffff, 0, 0, 0, 0xffff, 0⟩,
  ⟨0x30, [], 0, 0, 0xffff, 0, 0, 0, 0xffff, 0⟩,
  ⟨0x40, [(4, 8)], 0, 0, 0xffffffff, 0, 0, 0, 0xffffffff, 0⟩,
  ⟨0x80, [], 0xff, 0, 0, 0, 0, 0, 0, 0⟩]

/-- WORLD registers (R336), part 2. -/
def rowsWorldB : List RegRow := [
  ⟨0x84, [], 0, 0, 0x801fffff, 0, 0, 0, 0x801fffff, 0⟩,
  ⟨0x88, [], 0, 0, 0x7fffff, 0, 0, 0, 0x7fffff, 0⟩,
  ⟨0xc0, [(4, 64)], 0, 0, 0xff07, 0, 0, 0, 0xff07, 0⟩,
  ⟨0x1c0, [], 0, 0, 0xffffffff, 0, 0, 0, 0xffffffff, 0⟩,
  ⟨0x1c4, [], 0, 0, 0x3fff, 0, 0, 0, 0x3fff, 0⟩,
  ⟨0x1c8, [], 0, 0, 0x1f, 0, 0, 0, 0x1f, 0⟩,
  ⟨0x1cc, [], 0, 0, 0, 0, 0, 0xffffffff, 0, 0⟩,
  ⟨0x1d0, [], 0xffffffff, 0, 0, 0, 0, 0, 0, 0⟩,
  ⟨0x1d4, [], 0xffffffff, 0, 0, 0, 0, 0, 0, 0⟩,
  ⟨0x1e0, [], 0, 0, 0, 0, 0, 0xffffffff, 0, 0⟩,
  ⟨0x1e4, [], 0, 0, 0, 0, 0, 0xffffffff, 0, 0⟩]

/-- KEEPER registers (R338), part 1. -/
def rowsKeeperA : List RegRow := [
  ⟨0, [(64, 16), (4, 16)], 0xffffffff, 0, 0, 0, 0, 0, 0, 0⟩,
  ⟨0x400, [(4, 16)], 0, 0, 0, 0, 0x1, 0, 0, 0⟩,
  ⟨0x440, [(4, 16)], 0, 0, 0, 0, 0, 0x3ff, 0, 0⟩,
  ⟨0x480, [], 0, 0, 0, 0x3ffff, 0, 0, 0, 0⟩,
  ⟨0x484, [], 0x3ffff, 0, 0, 0, 0, 0, 0, 0⟩,
  ⟨0x488, [], 0, 0, 0xffff, 0, 0, 0, 0xffff, 0⟩,
  ⟨0x48c, [], 0, 0, 0, 0, 0, 0x3, 0, 0⟩,
  ⟨0x490, [], 0xffffffff, 0, 0, 0, 0, 0, 0, 0⟩]

/-- RING registers (R411), part 1. -/
def rowsRingA : List RegRow := [
  ⟨0, [], 0, 0, 0xf, 0, 0, 0, 0xf, 0⟩,
  ⟨0x4, [], 0, 0, 0, 0xff, 0, 0, 0, 0⟩,
  ⟨0x8, [], 0xff, 0, 0, 0, 0, 0, 0, 0⟩,
  ⟨0xc, [], 0, 0, 0, 0, 0, 0x3fff, 0, 0x1b⟩,
  ⟨0x10, [], 0, 0, 0xffff, 0, 0, 0, 0xffff, 0⟩,
  ⟨0x14, [], 0, 0xf, 0, 0, 0, 0, 0, 0⟩,
  ⟨0x20, [], 0xffffffff, 0, 0, 0, 0, 0, 0, 0⟩,
  ⟨0x24, [], 0xffffffff, 0, 0, 0, 0, 0, 0, 0⟩,
  ⟨0x28, [], 0xffffffff, 0, 0, 0, 0, 0, 0, 0⟩,
  ⟨0x2c, [], 0xffffffff, 0, 0, 0, 0, 0, 0, 0⟩,
  ⟨0x30, [], 0xffffffff, 0, 0, 0, 0, 0, 0, 0⟩,
  ⟨0x40, [], 0x7f0f, 0, 0, 0, 0, 0, 0, 0⟩]

/-- RING registers (R411), part 2. -/
def rowsRingB : List RegRow := [
  ⟨0x44, [], 0, 0, 0, 0, 0, 0x1ff, 0x1ff, 0⟩,
  ⟨0x48, [], 0x3f, 0, 0, 0, 0, 0, 0, 0⟩,
  ⟨0x4c, [], 0, 0, 0, 0, 0, 0x1ff07ff, 0x1ff07ff, 0⟩,
  ⟨0x50, [], 0, 0, 0, 0, 0, 0xff, 0, 0⟩,
  ⟨0x100, [(16, 4)], 0xffff, 0, 0, 0, 0, 0, 0, 0⟩,
  ⟨0x104, [(16, 4)], 0xffffffff, 0, 0, 0, 0, 0, 0, 0⟩,
  ⟨0x108, [(16, 4)], 0xffffffff, 0, 0, 0, 0, 0, 0, 0⟩,
  ⟨0x200, [], 0xff, 0, 0, 0, 0, 0, 0, 0⟩,
  ⟨0x204, [], 0x1ff, 0, 0, 0, 0, 0, 0, 0⟩,
  ⟨0x208, [(4, 8)], 0, 0, 0, 0, 0, 0xffffffff, 0, 0⟩]

/-- MEMC registers (R432), part 1. -/
def rowsMemcA : List RegRow := [
  ⟨0, [], 0, 0, 0, 0, 0, 0x1fffff, 0, 0⟩,
  ⟨0x4, [], 0, 0, 0, 0, 0, 0x7, 0, 0⟩,
  ⟨0x8, [], 0, 0, 0, 0x7f, 0, 0, 0, 0⟩,
  ⟨0xc, [], 0x7f, 0, 0, 0, 0, 0, 0, 0⟩,
  ⟨0x10, [], 0, 0x1ff, 0, 0, 0, 0, 0x1ff, 0⟩,
  ⟨0x14, [], 0, 0, 0, 0, 0, 0xffffffff, 0, 0⟩,
  ⟨0x18, [], 0, 0, 0, 0, 0, 0xffffffff, 0, 0⟩,
  ⟨0x20, [], 0xffffffff, 0, 0, 0, 0, 0, 0, 0⟩,
  ⟨0x24, [], 0xffffffff, 0, 0, 0, 0, 0, 0, 0⟩,
  ⟨0x28, [], 0xffffffff, 0, 0, 0, 0, 0, 0, 0⟩,
  ⟨0x2c, [], 0xffffffff, 0, 0, 0, 0, 0, 0, 0⟩,
  ⟨0x30, [], 0xffffffff, 0, 0, 0, 0, 0, 0, 0⟩]

/-- MEMC registers (R432), part 2. -/
def rowsMemcB : List RegRow := [
  ⟨0x34, [], 0, 0, 0, 0, 0, 0x3f, 0, 0⟩,
  ⟨0x38, [], 0x3f, 0, 0, 0, 0, 0, 0, 0⟩,
  ⟨0x3c, [], 0, 0, 0, 0, 0, 0x1ff, 0, 0⟩,
  ⟨0x80, [], 0x3f, 0, 0, 0, 0, 0, 0, 0⟩,
  ⟨0x84, [], 0, 0, 0, 0, 0, 0xffffffff, 0, 0⟩,
  ⟨0x88, [], 0xffffffff, 0, 0, 0, 0, 0, 0, 0⟩,
  ⟨0x8c, [], 0xffffffff, 0, 0, 0, 0, 0, 0, 0⟩,
  ⟨0x90, [(4, 8)], 0, 0, 0, 0, 0, 0xffffffff, 0, 0⟩,
  ⟨0x100, [], 0xff, 0, 0, 0, 0, 0, 0, 0⟩,
  ⟨0x104, [], 0, 0, 0, 0, 0, 0xffffffff, 0, 0⟩]

/-- BERTH registers (R433), part 1. -/
def rowsBerthA : List RegRow := [
  ⟨0, [], 0, 0, 0, 0, 0, 0x1fffff, 0, 0⟩,
  ⟨0x4, [], 0, 0, 0, 0x3f, 0, 0, 0, 0⟩,
  ⟨0x8, [], 0x3f, 0, 0, 0, 0, 0, 0, 0⟩,
  ⟨0xc, [], 0x1fffff, 0, 0, 0, 0, 0, 0, 0⟩,
  ⟨0x10, [], 0, 0, 0, 0, 0, 0xffffffff, 0, 0⟩,
  ⟨0x20, [(4, 13)], 0, 0, 0, 0, 0, 0x3ffff, 0, 0⟩,
  ⟨0x60, [(4, 13)], 0, 0, 0, 0, 0, 0x3ffff, 0, 0⟩,
  ⟨0xa0, [], 0xf, 0, 0, 0, 0, 0, 0, 0⟩,
  ⟨0xa4, [], 0, 0, 0, 0, 0, 0x801fffff, 0, 0⟩,
  ⟨0xa8, [], 0, 0, 0, 0, 0, 0x1fffff, 0, 0⟩,
  ⟨0xac, [], 0, 0, 0, 0, 0, 0xffff, 0, 0⟩,
  ⟨0xb0, [], 0xffffffff, 0, 0, 0, 0, 0, 0, 0⟩]

/-- BERTH registers (R433), part 2. -/
def rowsBerthB : List RegRow := [
  ⟨0xb4, [], 0xffffffff, 0, 0, 0, 0, 0, 0, 0⟩,
  ⟨0xb8, [], 0xffffffff, 0, 0, 0, 0, 0, 0, 0⟩,
  ⟨0xc0, [], 0xffffffff, 0, 0, 0, 0, 0, 0, 0⟩,
  ⟨0xc4, [], 0x3fff, 0, 0, 0, 0, 0, 0, 0⟩,
  ⟨0xc8, [], 0, 0, 0, 0, 0, 0x801fffff, 0, 0⟩,
  ⟨0xcc, [], 0, 0, 0, 0, 0, 0xffffffff, 0, 0⟩,
  ⟨0xe0, [], 0, 0, 0, 0, 0, 0x7fff, 0, 0⟩]

/-- NET registers (R450), part 1. -/
def rowsNetA : List RegRow := [
  ⟨0, [(512, 4)], 0, 0, 0xf, 0, 0, 0, 0xf, 0⟩,
  ⟨0x4, [(512, 4)], 0, 0, 0, 0x7f, 0, 0, 0, 0⟩,
  ⟨0x8, [(512, 4)], 0x7f, 0, 0, 0, 0, 0, 0, 0⟩,
  ⟨0xc, [(512, 4)], 0, 0, 0, 0, 0, 0x3, 0, 0x2⟩,
  ⟨0x10, [(512, 4)], 0, 0, 0xffffffff, 0, 0, 0, 0xffffffff, 0⟩,
  ⟨0x14, [(512, 4)], 0, 0, 0x3fff, 0, 0, 0, 0x3fff, 0⟩,
  ⟨0x18, [(512, 4)], 0, 0, 0xffffffff, 0, 0, 0, 0xffffffff, 0⟩,
  ⟨0x20, [(512, 4), (16, 2)], 0xffffffff, 0, 0, 0, 0, 0, 0, 0⟩,
  ⟨0x24, [(512, 4), (16, 2)], 0x3fff, 0, 0, 0, 0, 0, 0, 0⟩,
  ⟨0x28, [(512, 4), (16, 2)], 0xf, 0, 0, 0, 0, 0xfff0000, 0, 0⟩,
  ⟨0x2c, [(512, 4), (16, 2)], 0xfff, 0, 0, 0, 0, 0, 0, 0⟩,
  ⟨0x40, [(512, 4)], 0, 0, 0, 0, 0, 0x8000ffff, 0, 0⟩]

/-- NET registers (R450), part 2. -/
def rowsNetB : List RegRow := [
  ⟨0x44, [(512, 4)], 0, 0, 0, 0, 0, 0xffffffff, 0, 0⟩,
  ⟨0x48, [(512, 4)], 0, 0, 0, 0, 0, 0xffffffff, 0, 0⟩,
  ⟨0x50, [(512, 4)], 0xffffffff, 0, 0, 0, 0, 0, 0, 0⟩,
  ⟨0x54, [(512, 4)], 0xffffffff, 0, 0, 0, 0, 0, 0, 0⟩,
  ⟨0x58, [(512, 4)], 0xffffffff, 0, 0, 0, 0, 0, 0, 0⟩,
  ⟨0x80, [(512, 4)], 0xff, 0, 0, 0, 0, 0, 0, 0⟩,
  ⟨0x84, [(512, 4)], 0, 0, 0, 0, 0, 0xffffffff, 0xffffffff, 0⟩,
  ⟨0x88, [(512, 4)], 0x1f, 0, 0, 0, 0, 0, 0, 0⟩,
  ⟨0x8c, [(512, 4)], 0, 0, 0, 0, 0, 0x87ffffff, 0x87ffffff, 0⟩,
  ⟨0x90, [(512, 4)], 0, 0, 0, 0, 0, 0xffffffff, 0xffffffff, 0⟩,
  ⟨0x94, [(512, 4)], 0, 0, 0, 0, 0, 0xffffffff, 0xffffffff, 0⟩,
  ⟨0x98, [(512, 4)], 0, 0, 0, 0, 0, 0x7fffff, 0x7fffff, 0⟩]

/-- NET registers (R450), part 3. -/
def rowsNetC : List RegRow := [
  ⟨0x9c, [(512, 4)], 0, 0, 0, 0, 0, 0x7ff, 0x7ff, 0⟩]

/-- CAN registers (R451), part 1. -/
def rowsCanA : List RegRow := [
  ⟨0, [(64, 16)], 0, 0, 0xffff03, 0, 0, 0, 0xffff03, 0⟩,
  ⟨0x4, [(64, 16)], 0, 0, 0x3fffffff, 0, 0, 0, 0x3fffffff, 0⟩,
  ⟨0x8, [(64, 16)], 0, 0, 0x3ffffff, 0, 0, 0, 0x3ffffff, 0⟩,
  ⟨0xc, [(64, 16)], 0, 0, 0, 0x3f, 0, 0, 0, 0⟩,
  ⟨0x10, [(64, 16)], 0x3f, 0, 0, 0, 0, 0, 0, 0⟩,
  ⟨0x14, [(64, 16)], 0, 0, 0, 0, 0, 0x3ffff, 0, 0x3⟩,
  ⟨0x18, [(64, 16)], 0, 0, 0x1fffffff, 0, 0, 0, 0x1fffffff, 0⟩,
  ⟨0x1c, [(64, 16)], 0, 0, 0, 0, 0x1, 0, 0, 0⟩,
  ⟨0x20, [(64, 16), (16, 2)], 0xffffffff, 0, 0, 0, 0, 0, 0, 0⟩,
  ⟨0x24, [(64, 16), (16, 2)], 0x3fff, 0, 0, 0, 0, 0, 0, 0⟩,
  ⟨0x28, [(64, 16), (16, 2)], 0xf, 0, 0, 0, 0, 0xfff0000, 0, 0⟩,
  ⟨0x2c, [(64, 16), (16, 2)], 0xfff, 0, 0, 0, 0, 0, 0, 0⟩]

/-- CAN registers (R451), part 2. -/
def rowsCanB : List RegRow := [
  ⟨0x400, [], 0xff, 0, 0, 0, 0, 0, 0, 0⟩,
  ⟨0x404, [], 0, 0, 0, 0, 0, 0xffffffff, 0xffffffff, 0⟩,
  ⟨0x408, [], 0, 0, 0, 0, 0, 0x1fffffff, 0x1fffffff, 0⟩,
  ⟨0x40c, [], 0, 0, 0, 0, 0, 0x1fffffff, 0x1fffffff, 0⟩,
  ⟨0x410, [], 0, 0, 0, 0, 0, 0xf, 0xf, 0⟩]

/-- PCIE registers (R452), part 1. -/
def rowsPcieA : List RegRow := [
  ⟨0, [(64, 8)], 0, 0, 0x1f, 0, 0, 0, 0x1f, 0⟩,
  ⟨0x4, [(64, 8)], 0, 0, 0, 0, 0, 0xff, 0, 0⟩,
  ⟨0x8, [(64, 8)], 0, 0, 0, 0x1f, 0, 0, 0, 0⟩,
  ⟨0xc, [(64, 8)], 0x1f, 0, 0, 0, 0, 0, 0, 0⟩,
  ⟨0x10, [(64, 8)], 0, 0x3, 0, 0, 0, 0, 0, 0⟩,
  ⟨0x14, [(64, 8)], 0xffffffff, 0, 0, 0, 0, 0, 0, 0⟩,
  ⟨0x18, [(64, 8)], 0xffffffff, 0, 0, 0, 0, 0, 0, 0⟩,
  ⟨0x200, [], 0, 0, 0, 0x3, 0, 0, 0, 0⟩,
  ⟨0x204, [], 0x3, 0, 0, 0, 0, 0, 0, 0⟩,
  ⟨0x208, [], 0, 0, 0xf, 0, 0, 0, 0xf, 0⟩,
  ⟨0x220, [(4, 8)], 0, 0, 0, 0xffffffff, 0, 0, 0, 0⟩,
  ⟨0x240, [], 0, 0, 0, 0, 0xff, 0, 0, 0⟩]

/-- LANTERN registers (R469), part 1. -/
def rowsLanternA : List RegRow := [
  ⟨0, [(64, 8), (4, 16)], 0xffffffff, 0, 0, 0, 0, 0, 0, 0⟩,
  ⟨0x200, [(4, 8)], 0, 0, 0, 0, 0x1, 0, 0, 0⟩,
  ⟨0x220, [(4, 8)], 0, 0, 0, 0, 0, 0x3ff, 0, 0⟩,
  ⟨0x240, [], 0, 0, 0, 0x7fff, 0, 0, 0, 0⟩,
  ⟨0x244, [], 0x7fff, 0, 0, 0, 0, 0, 0, 0⟩,
  ⟨0x248, [], 0, 0, 0, 0, 0, 0xf, 0, 0⟩,
  ⟨0x24c, [], 0, 0, 0, 0, 0, 0xf, 0, 0⟩,
  ⟨0x250, [], 0, 0, 0xffff, 0, 0, 0, 0xffff, 0⟩,
  ⟨0x254, [], 0, 0, 0xffffffff, 0, 0, 0, 0xffffffff, 0⟩,
  ⟨0x258, [], 0, 0, 0x1fff007f, 0, 0, 0, 0x1fff007f, 0⟩,
  ⟨0x25c, [], 0, 0, 0x1ffff, 0, 0, 0, 0x1ffff, 0⟩,
  ⟨0x260, [], 0xff, 0, 0, 0, 0, 0, 0, 0⟩]

/-- LANTERN registers (R469), part 2. -/
def rowsLanternB : List RegRow := [
  ⟨0x264, [], 0, 0, 0, 0, 0, 0x3ffffff, 0, 0⟩,
  ⟨0x268, [], 0xffffff, 0, 0, 0, 0, 0, 0, 0⟩,
  ⟨0x270, [], 0xffffffff, 0, 0, 0, 0, 0, 0, 0⟩,
  ⟨0x274, [], 0xffffffff, 0, 0, 0, 0, 0, 0, 0⟩,
  ⟨0x278, [], 0, 0, 0, 0, 0, 0xffffffff, 0, 0⟩,
  ⟨0x280, [(16, 4)], 0, 0, 0x7ffff, 0, 0, 0, 0x7ffff, 0⟩,
  ⟨0x284, [(16, 4)], 0, 0x1, 0, 0, 0, 0, 0, 0⟩,
  ⟨0x288, [(16, 4)], 0, 0, 0, 0, 0, 0xffff, 0, 0⟩,
  ⟨0x2c0, [], 0, 0, 0xff, 0, 0, 0, 0xff, 0⟩,
  ⟨0x2c4, [], 0, 0, 0xffff0003, 0, 0, 0, 0xffff0003, 0⟩,
  ⟨0x2c8, [], 0, 0, 0xffffffff, 0, 0, 0, 0xffffffff, 0⟩]

/-- DEVICE registers (R486), part 1. -/
def rowsDeviceA : List RegRow := [
  ⟨0, [], 0, 0, 0, 0, 0, 0x1ffffff, 0, 0xb10128⟩,
  ⟨0x4, [], 0, 0, 0, 0, 0, 0xffffffff, 0, 0⟩,
  ⟨0x8, [], 0, 0, 0, 0, 0, 0xffffffff, 0, 0⟩,
  ⟨0xc, [], 0, 0, 0, 0, 0, 0xff1f, 0, 0⟩,
  ⟨0x10, [], 0, 0, 0, 0, 0, 0xffffffff, 0, 0⟩,
  ⟨0x14, [], 0, 0, 0, 0, 0, 0xffffffff, 0, 0⟩,
  ⟨0x18, [], 0, 0, 0, 0x1, 0, 0, 0, 0⟩,
  ⟨0x1c, [], 0x1, 0, 0, 0, 0, 0, 0, 0⟩,
  ⟨0x20, [], 0xf, 0, 0, 0, 0, 0, 0, 0⟩,
  ⟨0x24, [], 0, 0, 0, 0, 0, 0xffffffff, 0, 0⟩]

/-- CLOCK registers (R510), part 1. -/
def rowsClockA : List RegRow := [
  ⟨0, [], 0, 0x3ff, 0, 0, 0, 0, 0x3ff, 0⟩,
  ⟨0x4, [], 0, 0x3, 0, 0, 0, 0, 0, 0⟩,
  ⟨0x8, [], 0, 0, 0, 0xf, 0, 0, 0, 0⟩,
  ⟨0xc, [], 0xf, 0, 0, 0, 0, 0, 0, 0⟩,
  ⟨0x10, [], 0, 0, 0, 0, 0, 0x33f, 0, 0⟩,
  ⟨0x14, [], 0, 0xf, 0, 0, 0, 0, 0, 0⟩,
  ⟨0x20, [], 0xffffffff, 0, 0, 0, 0, 0, 0xffffffff, 0⟩,
  ⟨0x24, [], 0xffffffff, 0, 0, 0, 0, 0, 0xffffffff, 0⟩,
  ⟨0x28, [], 0xffff, 0, 0, 0, 0, 0, 0xffff, 0⟩,
  ⟨0x30, [(4, 3)], 0, 0, 0, 0, 0, 0xffffffff, 0, 0⟩,
  ⟨0x40, [], 0xffffffff, 0, 0, 0, 0, 0, 0, 0⟩]

/-- POWER registers (R511), part 1. -/
def rowsPowerA : List RegRow := [
  ⟨0, [], 0, 0, 0x1, 0, 0, 0, 0x1, 0⟩,
  ⟨0x4, [], 0, 0, 0, 0x3f, 0, 0, 0, 0⟩,
  ⟨0x8, [], 0x3f, 0, 0, 0, 0, 0, 0, 0⟩,
  ⟨0xc, [], 0, 0x7, 0, 0, 0, 0, 0x7, 0⟩,
  ⟨0x10, [], 0, 0, 0, 0, 0, 0x1ff, 0, 0x12⟩,
  ⟨0x14, [], 0, 0, 0x7fffff, 0, 0, 0, 0x7fffff, 0⟩,
  ⟨0x20, [(4, 5)], 0, 0, 0, 0, 0, 0x3ff, 0, 0⟩,
  ⟨0x40, [(4, 3)], 0, 0, 0, 0, 0, 0xffffffff, 0, 0⟩,
  ⟨0x50, [(4, 3)], 0xffffffff, 0, 0, 0, 0, 0, 0, 0⟩,
  ⟨0x60, [(4, 3)], 0xffffffff, 0, 0, 0, 0, 0, 0, 0⟩,
  ⟨0x70, [], 0xffff, 0, 0, 0, 0, 0, 0xffff, 0⟩,
  ⟨0x74, [], 0, 0, 0, 0, 0, 0x1fff, 0, 0⟩]

/-- POWER registers (R511), part 2. -/
def rowsPowerB : List RegRow := [
  ⟨0x78, [], 0xffffffff, 0, 0, 0, 0, 0, 0xffffffff, 0⟩,
  ⟨0x7c, [], 0xffffffff, 0, 0, 0, 0, 0, 0xffffffff, 0⟩,
  ⟨0xa0, [(4, 3)], 0, 0, 0, 0, 0, 0xffffffff, 0, 0⟩,
  ⟨0xac, [], 0, 0, 0, 0, 0, 0x3fffff, 0, 0⟩,
  ⟨0xc0, [(4, 3)], 0, 0, 0, 0, 0, 0xffff, 0, 0x280⟩,
  ⟨0xd0, [], 0xffffffff, 0, 0, 0, 0, 0, 0, 0⟩,
  ⟨0xd4, [], 0xffffffff, 0, 0, 0, 0, 0, 0, 0⟩]

/-- The registers of the block at an index (R512); none where the index holds no block. -/
def blockRows (b : Nat) : List RegRow :=
  if b = 0x1 then rowsTimebaseA
  else if b = 0x2 then rowsBeaconA ++ rowsBeaconB ++ rowsBeaconC
  else if b = 0x8 then rowsStateA ++ rowsStateB ++ rowsStateC ++ rowsStateD
  else if b = 0x4 then rowsHive0A ++ rowsHive0B
  else if b = 0x5 then rowsHive1A ++ rowsHive1B
  else if b = 0x6 then rowsHive2A
  else if b = 0x7 then rowsHive3A
  else if 0x10 ≤ b ∧ b < 0x18 then rowsAntA ++ rowsAntB
  else if b = 0x18 then rowsGridA ++ rowsGridB
  else if b = 0x19 then rowsSectorA ++ rowsSectorB ++ rowsSectorC
  else if b = 0x1a then rowsTwinA ++ rowsTwinB ++ rowsTwinC
  else if 0x50 ≤ b ∧ b < 0x98 then rowsTileA ++ rowsTileB ++ rowsTileC ++ rowsTileD
  else if b = 0x21 then rowsWorldA ++ rowsWorldB
  else if b = 0x20 then rowsKeeperA
  else if 0x38 ≤ b ∧ b < 0x49 then rowsRingA ++ rowsRingB
  else if 0x28 ≤ b ∧ b < 0x35 then rowsMemcA ++ rowsMemcB
  else if b = 0x36 then rowsBerthA ++ rowsBerthB
  else if 0x1c ≤ b ∧ b < 0x1e then rowsNetA ++ rowsNetB ++ rowsNetC
  else if b = 0x1f then rowsCanA ++ rowsCanB
  else if b = 0x1e then rowsPcieA
  else if b = 0x22 then rowsLanternA ++ rowsLanternB
  else if b = 0x0 then rowsDeviceA
  else if b = 0x24 then rowsClockA
  else if b = 0x25 then rowsPowerA ++ rowsPowerB
  else []

/-- Whether an index holds a block (R512). -/
def blockExists (b : Nat) : Bool := !(blockRows b).isEmpty

/-- Whether an offset is a copy of a register whose indices have these strides and counts. -/
def dimsHit : List (Nat × Nat) → Nat → Bool
  | [], d => d == 0
  | (st, n) :: r, d => (List.range n).any (fun i => i * st ≤ d && dimsHit r (d - i * st))

/-- The register at an offset of a block's 4 KiB image. -/
def rowAt (b off : Nat) : Option RegRow :=
  (blockRows b).find? (fun r => r.off ≤ off && dimsHit r.dims (off - r.off))

/-- The reset value of the register at key block * 0x1000 + offset (R13); WAKE_DLY k resets to 640, 200 and 2,000 (R511). -/
def resetVal (key : Nat) : W32 :=
  if key = 0x250c4 then 200 else if key = 0x250c8 then 2000
  else match rowAt (key / 0x1000) (key % 0x1000) with
    | some r => BitVec.ofNat 32 r.rst
    | none => 0

end Sys2Proof.Machine
end

