-- ==== Sys2Proof/Machine/RegNames.lean ====
section
/-! DEFINITION. The names of the registers of control space: the key block * 0x1000 + offset of each (R11, R512). -/

namespace Sys2Proof.Machine.R

/-- TIMEBASE.TB_CTL (R56). -/
abbrev TB_CTL : Nat := 0x1000
/-- TIMEBASE.TB_RATE (R56). -/
abbrev TB_RATE : Nat := 0x1004
/-- TIMEBASE.TB_TAI_LO (R56). -/
abbrev TB_TAI_LO : Nat := 0x1008
/-- TIMEBASE.TB_TAI_HI (R56). -/
abbrev TB_TAI_HI : Nat := 0x100c
/-- TIMEBASE.TB_NOW_LO (R56). -/
abbrev TB_NOW_LO : Nat := 0x1010
/-- TIMEBASE.TB_NOW_HI (R56). -/
abbrev TB_NOW_HI : Nat := 0x1014
/-- TIMEBASE.TB_SRC (R56). -/
abbrev TB_SRC : Nat := 0x1018
/-- TIMEBASE.TB_STATUS (R56). -/
abbrev TB_STATUS : Nat := 0x101c
/-- BEACON.BCN_PERIOD (R57). -/
abbrev BCN_PERIOD : Nat := 0x2000
/-- BEACON.BCN_GUARD (R57). -/
abbrev BCN_GUARD : Nat := 0x2004
/-- BEACON.BCN_GRACE (R57). -/
abbrev BCN_GRACE : Nat := 0x2008
/-- BEACON.BCN_OUT_W (R57). -/
abbrev BCN_OUT_W : Nat := 0x200c
/-- BEACON.BCN_SLEW (R57). -/
abbrev BCN_SLEW : Nat := 0x2010
/-- BEACON.BCN_CTL (R57). -/
abbrev BCN_CTL : Nat := 0x2014
/-- BEACON.BCN_EPOCH_LO (R57). -/
abbrev BCN_EPOCH_LO : Nat := 0x2018
/-- BEACON.BCN_EPOCH_HI (R57). -/
abbrev BCN_EPOCH_HI : Nat := 0x201c
/-- BEACON.BCN_FRAME_LO (R57). -/
abbrev BCN_FRAME_LO : Nat := 0x2020
/-- BEACON.BCN_FRAME_HI (R57). -/
abbrev BCN_FRAME_HI : Nat := 0x2024
/-- BEACON.BCN_TICK_LO (R57). -/
abbrev BCN_TICK_LO : Nat := 0x2028
/-- BEACON.BCN_TICK_HI (R57). -/
abbrev BCN_TICK_HI : Nat := 0x202c
/-- BEACON.BCN_IN_LAST_LO (R57). -/
abbrev BCN_IN_LAST_LO : Nat := 0x2030
/-- BEACON.BCN_IN_LAST_HI (R57). -/
abbrev BCN_IN_LAST_HI : Nat := 0x2034
/-- BEACON.BCN_IN_ERR (R57). -/
abbrev BCN_IN_ERR : Nat := 0x2038
/-- BEACON.BCN_STATUS (R57). -/
abbrev BCN_STATUS : Nat := 0x2040
/-- BEACON.BCN_IRQ_EN (R57). -/
abbrev BCN_IRQ_EN : Nat := 0x2044
/-- BEACON.BCN_CNT_OVR (R57). -/
abbrev BCN_CNT_OVR : Nat := 0x2048
/-- BEACON.BCN_CNT_MISS (R57). -/
abbrev BCN_CNT_MISS : Nat := 0x204c
/-- BEACON.BCN_CNT_LATE (R57). -/
abbrev BCN_CNT_LATE : Nat := 0x2050
/-- BEACON.JRN_BASE_LO (R57). -/
abbrev JRN_BASE_LO : Nat := 0x2060
/-- BEACON.JRN_BASE_HI (R57). -/
abbrev JRN_BASE_HI : Nat := 0x2064
/-- BEACON.JRN_SIZE (R57). -/
abbrev JRN_SIZE : Nat := 0x2068
/-- BEACON.JRN_WPTR (R57). -/
abbrev JRN_WPTR : Nat := 0x206c
/-- BEACON.JRN_RPTR (R57). -/
abbrev JRN_RPTR : Nat := 0x2070
/-- BEACON.JRN_LOST (R57). -/
abbrev JRN_LOST : Nat := 0x2074
/-- STATE.REG_BASE (R88). -/
abbrev REG_BASE (i : Nat) : Nat := 0x8000 + i * 0x10
/-- STATE.REG_SIZE (R88). -/
abbrev REG_SIZE (i : Nat) : Nat := 0x8004 + i * 0x10
/-- STATE.REG_ATTR (R88). -/
abbrev REG_ATTR (i : Nat) : Nat := 0x8008 + i * 0x10
/-- STATE.REG_BACK (R88). -/
abbrev REG_BACK (i : Nat) : Nat := 0x800c + i * 0x10
/-- STATE.IN_SAMPLE_OFF (R88). -/
abbrev IN_SAMPLE_OFF : Nat := 0x8100
/-- STATE.IN_STAMP_OFF (R88). -/
abbrev IN_STAMP_OFF : Nat := 0x8104
/-- STATE.IN_POINTS (R88). -/
abbrev IN_POINTS : Nat := 0x8108
/-- STATE.OUT_ENTRY_OFF (R88). -/
abbrev OUT_ENTRY_OFF : Nat := 0x810c
/-- STATE.SIDE_BERTH (R88). -/
abbrev SIDE_BERTH : Nat := 0x8110
/-- STATE.SIDE_SIZE (R88). -/
abbrev SIDE_SIZE : Nat := 0x8114
/-- STATE.TOUCH_BERTH (R88). -/
abbrev TOUCH_BERTH : Nat := 0x8118
/-- STATE.TOUCH_SIZE (R88). -/
abbrev TOUCH_SIZE : Nat := 0x811c
/-- STATE.DIG_KEY0 (R88). -/
abbrev DIG_KEY0 : Nat := 0x8120
/-- STATE.DIG_KEY1 (R88). -/
abbrev DIG_KEY1 : Nat := 0x8124
/-- STATE.DIG_KEY2 (R88). -/
abbrev DIG_KEY2 : Nat := 0x8128
/-- STATE.DIG_KEY3 (R88). -/
abbrev DIG_KEY3 : Nat := 0x812c
/-- STATE.DIG_FRAME_LO (R88). -/
abbrev DIG_FRAME_LO : Nat := 0x8140
/-- STATE.DIG_FRAME_HI (R88). -/
abbrev DIG_FRAME_HI : Nat := 0x8144
/-- STATE.DIG0 (R88). -/
abbrev DIG0 : Nat := 0x8148
/-- STATE.DIG1 (R88). -/
abbrev DIG1 : Nat := 0x814c
/-- STATE.DIG2 (R88). -/
abbrev DIG2 : Nat := 0x8150
/-- STATE.DIG3 (R88). -/
abbrev DIG3 : Nat := 0x8154
/-- STATE.ST_STATUS (R88). -/
abbrev ST_STATUS : Nat := 0x8160
/-- STATE.ST_IRQ_EN (R88). -/
abbrev ST_IRQ_EN : Nat := 0x8164
/-- STATE.CNT_COLL (R88). -/
abbrev CNT_COLL : Nat := 0x8168
/-- STATE.CNT_FOREIGN (R88). -/
abbrev CNT_FOREIGN : Nat := 0x816c
/-- STATE.SIDE_USED (R88). -/
abbrev SIDE_USED : Nat := 0x8170
/-- STATE.SIDE_PEAK (R88). -/
abbrev SIDE_PEAK : Nat := 0x8174
/-- STATE.WALK_USED (R88). -/
abbrev WALK_USED : Nat := 0x8178
/-- STATE.SWEEP_POS (R88). -/
abbrev SWEEP_POS : Nat := 0x817c
/-- STATE.SWEEP_PASS (R88). -/
abbrev SWEEP_PASS : Nat := 0x8180
/-- STATE.DBG_ADDR_LO (R88). -/
abbrev DBG_ADDR_LO : Nat := 0x8190
/-- STATE.DBG_ADDR_HI (R88). -/
abbrev DBG_ADDR_HI : Nat := 0x8194
/-- STATE.DBG_CTL (R88). -/
abbrev DBG_CTL : Nat := 0x8198
/-- STATE.DBG_META0 (R88). -/
abbrev DBG_META0 : Nat := 0x819c
/-- STATE.DBG_META1 (R88). -/
abbrev DBG_META1 : Nat := 0x81a0
/-- STATE.DBG_META2 (R88). -/
abbrev DBG_META2 : Nat := 0x81a4
/-- STATE.DBG_META3 (R88). -/
abbrev DBG_META3 : Nat := 0x81a8
/-- HIVE0.HV_CTL (R117). -/
abbrev HV_CTL : Nat := 0x4000
/-- HIVE0.HV_STATUS (R117). -/
abbrev HV_STATUS : Nat := 0x4004
/-- HIVE0.HV_IRQ_EN (R117). -/
abbrev HV_IRQ_EN : Nat := 0x4008
/-- HIVE0.HV_CORES (R117). -/
abbrev HV_CORES : Nat := 0x400c
/-- HIVE0.HV_FRAME (R117). -/
abbrev HV_FRAME : Nat := 0x4010
/-- HIVE0.HV_EPOCH (R117). -/
abbrev HV_EPOCH : Nat := 0x4014
/-- HIVE0.HV_CNT_DISP (R117). -/
abbrev HV_CNT_DISP : Nat := 0x4018
/-- HIVE0.HV_CNT_STEAL (R117). -/
abbrev HV_CNT_STEAL : Nat := 0x401c
/-- HIVE0.HV_CNT_MOVE (R117). -/
abbrev HV_CNT_MOVE : Nat := 0x4020
/-- HIVE0.HV_CNT_MIG (R117). -/
abbrev HV_CNT_MIG : Nat := 0x4024
/-- HIVE0.TD_INDEX (R117). -/
abbrev TD_INDEX : Nat := 0x4100
/-- HIVE0.TD_DATA (R117). -/
abbrev TD_DATA (i : Nat) : Nat := 0x4180 + i * 0x4
/-- HIVE0.HOP_INDEX (R117). -/
abbrev HOP_INDEX : Nat := 0x4200
/-- HIVE0.HOP_DATA (R117). -/
abbrev HOP_DATA : Nat := 0x4204
/-- HIVE1.PL_EPOCH (R118). -/
abbrev PL_EPOCH : Nat := 0x5000
/-- HIVE1.PL_W_AFF (R118). -/
abbrev PL_W_AFF : Nat := 0x5004
/-- HIVE1.PL_W_LOAD (R118). -/
abbrev PL_W_LOAD : Nat := 0x5008
/-- HIVE1.PL_W_THERM (R118). -/
abbrev PL_W_THERM : Nat := 0x500c
/-- HIVE1.PL_W_MOVE (R118). -/
abbrev PL_W_MOVE : Nat := 0x5010
/-- HIVE1.PL_LIM_TASK (R118). -/
abbrev PL_LIM_TASK : Nat := 0x5014
/-- HIVE1.PL_LIM_BERTH (R118). -/
abbrev PL_LIM_BERTH : Nat := 0x5018
/-- HIVE1.PL_MIG_BW (R118). -/
abbrev PL_MIG_BW : Nat := 0x501c
/-- HIVE1.PL_LIM_HOME (R118). -/
abbrev PL_LIM_HOME : Nat := 0x5020
/-- HIVE1.PL_THERM_LIM (R118). -/
abbrev PL_THERM_LIM : Nat := 0x5024
/-- HIVE1.PL_STEAL_NS (R118). -/
abbrev PL_STEAL_NS : Nat := 0x5028
/-- HIVE1.CORE_EXCL (R118). -/
abbrev CORE_EXCL (i : Nat) : Nat := 0x5040 + i * 0x4
/-- HIVE1.CSET (R118). -/
abbrev CSET (i j : Nat) : Nat := 0x5080 + i * 0x14 + j * 0x4
/-- HIVE1.HOME_PIN (R118). -/
abbrev HOME_PIN (i : Nat) : Nat := 0x5200 + i * 0x4
/-- HIVE1.BPIN_LO (R118). -/
abbrev BPIN_LO (i : Nat) : Nat := 0x5300 + i * 0x8
/-- HIVE1.BPIN_HI (R118). -/
abbrev BPIN_HI (i : Nat) : Nat := 0x5304 + i * 0x8
/-- HIVE2.CORE_STATE (R119). -/
abbrev CORE_STATE (i : Nat) : Nat := 0x6000 + i * 0x4
/-- HIVE2.CORE_LOAD (R119). -/
abbrev CORE_LOAD (i : Nat) : Nat := 0x6400 + i * 0x4
/-- HIVE3.SW_OPEN (R120). -/
abbrev SW_OPEN : Nat := 0x7000
/-- HIVE3.SW_ENT_TGT (R120). -/
abbrev SW_ENT_TGT : Nat := 0x7004
/-- HIVE3.SW_ENT_VAL (R120). -/
abbrev SW_ENT_VAL : Nat := 0x7008
/-- HIVE3.SW_ARM_LO (R120). -/
abbrev SW_ARM_LO : Nat := 0x700c
/-- HIVE3.SW_ARM_HI (R120). -/
abbrev SW_ARM_HI : Nat := 0x7010
/-- HIVE3.SW_CANCEL (R120). -/
abbrev SW_CANCEL : Nat := 0x7014
/-- HIVE3.SW_SLOT_STAT (R120). -/
abbrev SW_SLOT_STAT (i : Nat) : Nat := 0x7020 + i * 0x10
/-- HIVE3.SW_SLOT_FRM (R120). -/
abbrev SW_SLOT_FRM (i : Nat) : Nat := 0x7024 + i * 0x10
/-- HIVE3.SW_CAP (R120). -/
abbrev SW_CAP : Nat := 0x7100
/-- HIVE3.SW_STATUS (R120). -/
abbrev SW_STATUS : Nat := 0x7104
/-- HIVE3.SW_IRQ_EN (R120). -/
abbrev SW_IRQ_EN : Nat := 0x7108
/-- ANT.BAY_CTL (R151). -/
abbrev BAY_CTL (b : Nat) : Nat := (0x10 + b) * 0x1000 + 0x0
/-- ANT.BAY_STATUS (R151). -/
abbrev BAY_STATUS (b : Nat) : Nat := (0x10 + b) * 0x1000 + 0x4
/-- ANT.BAY_IRQ_EN (R151). -/
abbrev BAY_IRQ_EN (b : Nat) : Nat := (0x10 + b) * 0x1000 + 0x8
/-- ANT.BANK_V (R151). -/
abbrev BANK_V (b : Nat) : Nat := (0x10 + b) * 0x1000 + 0xc
/-- ANT.CRC_POLY (R151). -/
abbrev CRC_POLY (b : Nat) : Nat := (0x10 + b) * 0x1000 + 0x10
/-- ANT.ANT_IMG (R151). -/
abbrev ANT_IMG (b : Nat) : Nat := (0x10 + b) * 0x1000 + 0x14
/-- ANT.POST_DEPTH (R151). -/
abbrev POST_DEPTH (b : Nat) : Nat := (0x10 + b) * 0x1000 + 0x18
/-- ANT.CNT_POST (R151). -/
abbrev CNT_POST (b : Nat) : Nat := (0x10 + b) * 0x1000 + 0x20
/-- ANT.CNT_STALL (R151). -/
abbrev CNT_STALL (b : Nat) : Nat := (0x10 + b) * 0x1000 + 0x24
/-- ANT.CNT_CAP_OVF (R151). -/
abbrev CNT_CAP_OVF (b : Nat) : Nat := (0x10 + b) * 0x1000 + 0x28
/-- ANT.CNT_FAULT (R151). -/
abbrev CNT_FAULT (b : Nat) : Nat := (0x10 + b) * 0x1000 + 0x2c
/-- ANT.MEM_ADDR (R151). -/
abbrev MEM_ADDR (b : Nat) : Nat := (0x10 + b) * 0x1000 + 0x40
/-- ANT.MEM_DATA (R151). -/
abbrev MEM_DATA (b : Nat) : Nat := (0x10 + b) * 0x1000 + 0x44
/-- ANT.PIN_CFG (R151). -/
abbrev PIN_CFG (b i : Nat) : Nat := (0x10 + b) * 0x1000 + 0x80 + i * 0x4
/-- ANT.PIN_STATE (R151). -/
abbrev PIN_STATE (b i : Nat) : Nat := (0x10 + b) * 0x1000 + 0x100 + i * 0x4
/-- ANT.ENG_CFG (R151). -/
abbrev ENG_CFG (b i : Nat) : Nat := (0x10 + b) * 0x1000 + 0x180 + i * 0x4
/-- ANT.ENG_OUT (R151). -/
abbrev ENG_OUT (b i : Nat) : Nat := (0x10 + b) * 0x1000 + 0x200 + i * 0x4
/-- ANT.ENG_STATE (R151). -/
abbrev ENG_STATE (b i : Nat) : Nat := (0x10 + b) * 0x1000 + 0x280 + i * 0x4
/-- GRID.GS_CTL (R179). -/
abbrev GS_CTL : Nat := 0x18000
/-- GRID.GS_STATUS (R179). -/
abbrev GS_STATUS : Nat := 0x18004
/-- GRID.GS_IRQ_EN (R179). -/
abbrev GS_IRQ_EN : Nat := 0x18008
/-- GRID.MCLK_CFG (R179). -/
abbrev MCLK_CFG (i : Nat) : Nat := 0x18010 + i * 0x4
/-- GRID.CNT_EVT (R179). -/
abbrev CNT_EVT : Nat := 0x18040
/-- GRID.CNT_MODF (R179). -/
abbrev CNT_MODF : Nat := 0x18044
/-- GRID.CH_CFG (R179). -/
abbrev CH_CFG (i : Nat) : Nat := 0x18100 + i * 0x4
/-- GRID.CH_SCALE (R179). -/
abbrev CH_SCALE (i : Nat) : Nat := 0x18200 + i * 0x4
/-- GRID.CH_CAL (R179). -/
abbrev CH_CAL (i : Nat) : Nat := 0x18300 + i * 0x4
/-- GRID.GRP_V (R179). -/
abbrev GRP_V (i : Nat) : Nat := 0x18400 + i * 0x20
/-- GRID.GRP_I (R179). -/
abbrev GRP_I (i : Nat) : Nat := 0x18404 + i * 0x20
/-- GRID.GRP_CFG (R179). -/
abbrev GRP_CFG (i : Nat) : Nat := 0x18408 + i * 0x20
/-- GRID.GRP_GEN (R179). -/
abbrev GRP_GEN (i : Nat) : Nat := 0x1840c + i * 0x20
/-- GRID.GRP_EVT (R179). -/
abbrev GRP_EVT (i : Nat) : Nat := 0x18410 + i * 0x20
/-- GRID.GRP_STATE (R179). -/
abbrev GRP_STATE (i : Nat) : Nat := 0x18414 + i * 0x20
/-- GRID.GRP_FREQ (R179). -/
abbrev GRP_FREQ (i : Nat) : Nat := 0x18418 + i * 0x20
/-- GRID.GRP_P (R179). -/
abbrev GRP_P (i : Nat) : Nat := 0x1841c + i * 0x20
/-- GRID.POOL_HR (R179). -/
abbrev POOL_HR (i : Nat) : Nat := 0x18600 + i * 0x4
/-- GRID.POOL_PT (R179). -/
abbrev POOL_PT (i : Nat) : Nat := 0x18610 + i * 0x4
/-- GRID.GS_MAP_IDX (R179). -/
abbrev GS_MAP_IDX : Nat := 0x18700
/-- GRID.GS_MAP_DATA (R179). -/
abbrev GS_MAP_DATA : Nat := 0x18704
/-- SECTOR.SI_CTL (R180). -/
abbrev SI_CTL : Nat := 0x19000
/-- SECTOR.SI_STATUS (R180). -/
abbrev SI_STATUS : Nat := 0x19004
/-- SECTOR.SI_IRQ_EN (R180). -/
abbrev SI_IRQ_EN : Nat := 0x19008
/-- SECTOR.SI_EVAL_NS (R180). -/
abbrev SI_EVAL_NS : Nat := 0x1900c
/-- SECTOR.SI_RULES (R180). -/
abbrev SI_RULES : Nat := 0x19010
/-- SECTOR.SUPPLY_PT (R180). -/
abbrev SUPPLY_PT : Nat := 0x19014
/-- SECTOR.POOL_RES (R180). -/
abbrev POOL_RES (i : Nat) : Nat := 0x19020 + i * 0x4
/-- SECTOR.POOL_PEND (R180). -/
abbrev POOL_PEND (i : Nat) : Nat := 0x19030 + i * 0x4
/-- SECTOR.POOL_AVAIL (R180). -/
abbrev POOL_AVAIL (i : Nat) : Nat := 0x19040 + i * 0x4
/-- SECTOR.QUEUE_DEPTH (R180). -/
abbrev QUEUE_DEPTH : Nat := 0x19060
/-- SECTOR.CNT_DENY (R180). -/
abbrev CNT_DENY : Nat := 0x19064
/-- SECTOR.CNT_GRANT (R180). -/
abbrev CNT_GRANT : Nat := 0x19068
/-- SECTOR.CNT_TIMEOUT (R180). -/
abbrev CNT_TIMEOUT : Nat := 0x1906c
/-- SECTOR.RULE_INDEX (R180). -/
abbrev RULE_INDEX : Nat := 0x19100
/-- SECTOR.RULE_HDR (R180). -/
abbrev RULE_HDR : Nat := 0x19104
/-- SECTOR.TERM_CTL (R180). -/
abbrev TERM_CTL (i : Nat) : Nat := 0x19108 + i * 0x8
/-- SECTOR.TERM_THR (R180). -/
abbrev TERM_THR (i : Nat) : Nat := 0x1910c + i * 0x8
/-- SECTOR.RULE_RESULT (R180). -/
abbrev RULE_RESULT : Nat := 0x19160
/-- SECTOR.TMR_INDEX (R180). -/
abbrev TMR_INDEX : Nat := 0x19180
/-- SECTOR.TMR_CFG (R180). -/
abbrev TMR_CFG : Nat := 0x19184
/-- SECTOR.TMR_STATE (R180). -/
abbrev TMR_STATE : Nat := 0x19188
/-- SECTOR.CH_INDEX (R180). -/
abbrev CH_INDEX : Nat := 0x191a0
/-- SECTOR.CH_PERMIT (R180). -/
abbrev CH_PERMIT : Nat := 0x191a4
/-- SECTOR.CH_SAFE (R180). -/
abbrev CH_SAFE : Nat := 0x191a8
/-- SECTOR.CH_START (R180). -/
abbrev CH_START : Nat := 0x191ac
/-- SECTOR.CH_HOLD (R180). -/
abbrev CH_HOLD : Nat := 0x191b0
/-- SECTOR.CH_FB (R180). -/
abbrev CH_FB : Nat := 0x191b4
/-- SECTOR.CH_STATE (R180). -/
abbrev CH_STATE : Nat := 0x191b8
/-- TWIN.TW_CFG (R210). -/
abbrev TW_CFG : Nat := 0x1a000
/-- TWIN.TW_CMD (R210). -/
abbrev TW_CMD : Nat := 0x1a004
/-- TWIN.TW_ROLE (R210). -/
abbrev TW_ROLE : Nat := 0x1a008
/-- TWIN.TW_GEN (R210). -/
abbrev TW_GEN : Nat := 0x1a00c
/-- TWIN.TW_STATUS (R210). -/
abbrev TW_STATUS : Nat := 0x1a010
/-- TWIN.TW_IRQ_EN (R210). -/
abbrev TW_IRQ_EN : Nat := 0x1a014
/-- TWIN.TW_SILENT (R210). -/
abbrev TW_SILENT : Nat := 0x1a018
/-- TWIN.TW_LANES (R210). -/
abbrev TW_LANES : Nat := 0x1a01c
/-- TWIN.TW_LANE_LIM (R210). -/
abbrev TW_LANE_LIM : Nat := 0x1a020
/-- TWIN.TW_LINK_DLY (R210). -/
abbrev TW_LINK_DLY : Nat := 0x1a024
/-- TWIN.TW_MIR_WAIT (R210). -/
abbrev TW_MIR_WAIT : Nat := 0x1a028
/-- TWIN.TW_COPY_BW (R210). -/
abbrev TW_COPY_BW : Nat := 0x1a02c
/-- TWIN.TW_CMP_FRAME_LO (R210). -/
abbrev TW_CMP_FRAME_LO : Nat := 0x1a030
/-- TWIN.TW_CMP_FRAME_HI (R210). -/
abbrev TW_CMP_FRAME_HI : Nat := 0x1a034
/-- TWIN.TW_CNT_CMP (R210). -/
abbrev TW_CNT_CMP : Nat := 0x1a038
/-- TWIN.TW_CNT_SKIP (R210). -/
abbrev TW_CNT_SKIP : Nat := 0x1a03c
/-- TWIN.TW_CNT_DIV (R210). -/
abbrev TW_CNT_DIV : Nat := 0x1a040
/-- TWIN.TW_CNT_RESYNC (R210). -/
abbrev TW_CNT_RESYNC : Nat := 0x1a044
/-- TWIN.TW_CNT_MISS (R210). -/
abbrev TW_CNT_MISS : Nat := 0x1a048
/-- TWIN.TW_DIV_COUNT (R210). -/
abbrev TW_DIV_COUNT : Nat := 0x1a04c
/-- TWIN.TW_OD (R210). -/
abbrev TW_OD (i : Nat) : Nat := 0x1a050 + i * 0x4
/-- TWIN.TW_JOIN (R210). -/
abbrev TW_JOIN : Nat := 0x1a060
/-- TWIN.TW_JOIN_LINES (R210). -/
abbrev TW_JOIN_LINES : Nat := 0x1a064
/-- TWIN.TW_JOIN_TOTAL (R210). -/
abbrev TW_JOIN_TOTAL : Nat := 0x1a068
/-- TWIN.TW_PAIR_OFF_LO (R210). -/
abbrev TW_PAIR_OFF_LO : Nat := 0x1a070
/-- TWIN.TW_PAIR_OFF_HI (R210). -/
abbrev TW_PAIR_OFF_HI : Nat := 0x1a074
/-- TWIN.TW_PJRN_BASE_LO (R210). -/
abbrev TW_PJRN_BASE_LO : Nat := 0x1a080
/-- TWIN.TW_PJRN_BASE_HI (R210). -/
abbrev TW_PJRN_BASE_HI : Nat := 0x1a084
/-- TWIN.TW_PJRN_SIZE (R210). -/
abbrev TW_PJRN_SIZE : Nat := 0x1a088
/-- TWIN.TW_PJRN_WPTR (R210). -/
abbrev TW_PJRN_WPTR : Nat := 0x1a08c
/-- TWIN.TW_PJRN_RPTR (R210). -/
abbrev TW_PJRN_RPTR : Nat := 0x1a090
/-- TWIN.TW_PJRN_LOST (R210). -/
abbrev TW_PJRN_LOST : Nat := 0x1a094
/-- TILE.DSP_TASK (R234). -/
abbrev DSP_TASK (b i : Nat) : Nat := (0x50 + b) * 0x1000 + 0x0 + i * 0x100
/-- TILE.DSP_ASID (R234). -/
abbrev DSP_ASID (b i : Nat) : Nat := (0x50 + b) * 0x1000 + 0x4 + i * 0x100
/-- TILE.DSP_FRAME_LO (R234). -/
abbrev DSP_FRAME_LO (b i : Nat) : Nat := (0x50 + b) * 0x1000 + 0x8 + i * 0x100
/-- TILE.DSP_FRAME_HI (R234). -/
abbrev DSP_FRAME_HI (b i : Nat) : Nat := (0x50 + b) * 0x1000 + 0xc + i * 0x100
/-- TILE.DSP_ENTRY_LO (R234). -/
abbrev DSP_ENTRY_LO (b i : Nat) : Nat := (0x50 + b) * 0x1000 + 0x10 + i * 0x100
/-- TILE.DSP_ENTRY_HI (R234). -/
abbrev DSP_ENTRY_HI (b i : Nat) : Nat := (0x50 + b) * 0x1000 + 0x14 + i * 0x100
/-- TILE.DSP_SP_LO (R234). -/
abbrev DSP_SP_LO (b i : Nat) : Nat := (0x50 + b) * 0x1000 + 0x18 + i * 0x100
/-- TILE.DSP_SP_HI (R234). -/
abbrev DSP_SP_HI (b i : Nat) : Nat := (0x50 + b) * 0x1000 + 0x1c + i * 0x100
/-- TILE.DSP_ARG_LO (R234). -/
abbrev DSP_ARG_LO (b i : Nat) : Nat := (0x50 + b) * 0x1000 + 0x20 + i * 0x100
/-- TILE.DSP_ARG_HI (R234). -/
abbrev DSP_ARG_HI (b i : Nat) : Nat := (0x50 + b) * 0x1000 + 0x24 + i * 0x100
/-- TILE.DSP_S1ROOT_LO (R234). -/
abbrev DSP_S1ROOT_LO (b i : Nat) : Nat := (0x50 + b) * 0x1000 + 0x28 + i * 0x100
/-- TILE.DSP_S1ROOT_HI (R234). -/
abbrev DSP_S1ROOT_HI (b i : Nat) : Nat := (0x50 + b) * 0x1000 + 0x2c + i * 0x100
/-- TILE.DSP_STATE (R234). -/
abbrev DSP_STATE (b i : Nat) : Nat := (0x50 + b) * 0x1000 + 0x30 + i * 0x100
/-- TILE.DSP_CYCLES (R234). -/
abbrev DSP_CYCLES (b i : Nat) : Nat := (0x50 + b) * 0x1000 + 0x34 + i * 0x100
/-- TILE.DSP_DONE (R234). -/
abbrev DSP_DONE (b i : Nat) : Nat := (0x50 + b) * 0x1000 + 0x38 + i * 0x100
/-- TILE.DSP_DONE_FRAME (R234). -/
abbrev DSP_DONE_FRAME (b i : Nat) : Nat := (0x50 + b) * 0x1000 + 0x3c + i * 0x100
/-- WORLD.WD_LOCK (R336). -/
abbrev WD_LOCK : Nat := 0x21000
/-- WORLD.WD_STATUS (R336). -/
abbrev WD_STATUS : Nat := 0x21004
/-- WORLD.WD_IRQ_EN (R336). -/
abbrev WD_IRQ_EN : Nat := 0x21008
/-- WORLD.CNT_DENIED_VOTE (R336). -/
abbrev CNT_DENIED_VOTE : Nat := 0x2100c
/-- WORLD.CNT_SEALED_DENY (R336). -/
abbrev CNT_SEALED_DENY : Nat := 0x21010
/-- WORLD.WD_BAY (R336). -/
abbrev WD_BAY : Nat := 0x21020
/-- WORLD.WD_NETPORT (R336). -/
abbrev WD_NETPORT : Nat := 0x21024
/-- WORLD.WD_PCIE (R336). -/
abbrev WD_PCIE : Nat := 0x21028
/-- WORLD.WD_CAN (R336). -/
abbrev WD_CAN : Nat := 0x2102c
/-- WORLD.WD_REGION (R336). -/
abbrev WD_REGION : Nat := 0x21030
/-- WORLD.WD_IRQW (R336). -/
abbrev WD_IRQW (i : Nat) : Nat := 0x21040 + i * 0x4
/-- WORLD.WD_RNG_INDEX (R336). -/
abbrev WD_RNG_INDEX : Nat := 0x21080
/-- WORLD.WD_RNG_BASE (R336). -/
abbrev WD_RNG_BASE : Nat := 0x21084
/-- WORLD.WD_RNG_CFG (R336). -/
abbrev WD_RNG_CFG : Nat := 0x21088
/-- WORLD.WD_GATE (R336). -/
abbrev WD_GATE (i : Nat) : Nat := 0x210c0 + i * 0x4
/-- WORLD.WD_SJRN_BASE_LO (R336). -/
abbrev WD_SJRN_BASE_LO : Nat := 0x211c0
/-- WORLD.WD_SJRN_BASE_HI (R336). -/
abbrev WD_SJRN_BASE_HI : Nat := 0x211c4
/-- WORLD.WD_SJRN_SIZE (R336). -/
abbrev WD_SJRN_SIZE : Nat := 0x211c8
/-- WORLD.WD_SJRN_WPTR (R336). -/
abbrev WD_SJRN_WPTR : Nat := 0x211cc
/-- WORLD.WD_SJRN_RPTR (R336). -/
abbrev WD_SJRN_RPTR : Nat := 0x211d0
/-- WORLD.WD_SJRN_LOST (R336). -/
abbrev WD_SJRN_LOST : Nat := 0x211d4
/-- WORLD.WD_KEYED_LO (R336). -/
abbrev WD_KEYED_LO : Nat := 0x211e0
/-- WORLD.WD_KEYED_HI (R336). -/
abbrev WD_KEYED_HI : Nat := 0x211e4
/-- KEEPER.MB (R338). -/
abbrev keeper_MB (i j : Nat) : Nat := 0x20000 + i * 0x40 + j * 0x4
/-- KEEPER.MB_DOOR (R338). -/
abbrev MB_DOOR (i : Nat) : Nat := 0x20400 + i * 0x4
/-- KEEPER.MB_STAT (R338). -/
abbrev MB_STAT (i : Nat) : Nat := 0x20440 + i * 0x4
/-- KEEPER.KP_STATUS (R338). -/
abbrev KP_STATUS : Nat := 0x20480
/-- KEEPER.KP_IRQ_EN (R338). -/
abbrev KP_IRQ_EN : Nat := 0x20484
/-- KEEPER.KP_MBW (R338). -/
abbrev KP_MBW : Nat := 0x20488
/-- KEEPER.KP_STATE (R338). -/
abbrev KP_STATE : Nat := 0x2048c
/-- KEEPER.CNT_REQ (R338). -/
abbrev CNT_REQ : Nat := 0x20490
/-- TILE.L3_LOCK (R391). -/
abbrev L3_LOCK (b : Nat) : Nat := (0x50 + b) * 0x1000 + 0x200
/-- TILE.L3_STATUS (R391). -/
abbrev L3_STATUS (b : Nat) : Nat := (0x50 + b) * 0x1000 + 0x204
/-- TILE.L3_IRQ_EN (R391). -/
abbrev L3_IRQ_EN (b : Nat) : Nat := (0x50 + b) * 0x1000 + 0x208
/-- TILE.L3_WAYMAP (R391). -/
abbrev L3_WAYMAP (b : Nat) : Nat := (0x50 + b) * 0x1000 + 0x20c
/-- TILE.LF_ADDR_LO (R391). -/
abbrev LF_ADDR_LO (b : Nat) : Nat := (0x50 + b) * 0x1000 + 0x210
/-- TILE.LF_ADDR_HI (R391). -/
abbrev LF_ADDR_HI (b : Nat) : Nat := (0x50 + b) * 0x1000 + 0x214
/-- TILE.LF_CTL (R391). -/
abbrev LF_CTL (b : Nat) : Nat := (0x50 + b) * 0x1000 + 0x218
/-- TILE.CNT_NACK (R391). -/
abbrev CNT_NACK (b : Nat) : Nat := (0x50 + b) * 0x1000 + 0x21c
/-- TILE.CNT_FALLBACK (R391). -/
abbrev CNT_FALLBACK (b : Nat) : Nat := (0x50 + b) * 0x1000 + 0x220
/-- TILE.CNT_DIR_EVICT (R391). -/
abbrev CNT_DIR_EVICT (b : Nat) : Nat := (0x50 + b) * 0x1000 + 0x224
/-- TILE.WAITQ_PEAK (R391). -/
abbrev WAITQ_PEAK (b : Nat) : Nat := (0x50 + b) * 0x1000 + 0x228
/-- TILE.CNT_WB_STALE (R391). -/
abbrev CNT_WB_STALE (b : Nat) : Nat := (0x50 + b) * 0x1000 + 0x22c
/-- TILE.CNT_PROTO (R391). -/
abbrev CNT_PROTO (b : Nat) : Nat := (0x50 + b) * 0x1000 + 0x230
/-- TILE.CNT_UE (R391). -/
abbrev tile_CNT_UE (b : Nat) : Nat := (0x50 + b) * 0x1000 + 0x234
/-- TILE.L3_CE (R391). -/
abbrev L3_CE (b i : Nat) : Nat := (0x50 + b) * 0x1000 + 0x240 + i * 0x4
/-- TILE.RNG_BASE_LO (R391). -/
abbrev RNG_BASE_LO (b : Nat) : Nat := (0x50 + b) * 0x1000 + 0x300
/-- TILE.RNG_BASE_HI (R391). -/
abbrev RNG_BASE_HI (b : Nat) : Nat := (0x50 + b) * 0x1000 + 0x304
/-- TILE.RNG_END_LO (R391). -/
abbrev RNG_END_LO (b : Nat) : Nat := (0x50 + b) * 0x1000 + 0x308
/-- TILE.RNG_END_HI (R391). -/
abbrev RNG_END_HI (b : Nat) : Nat := (0x50 + b) * 0x1000 + 0x30c
/-- TILE.RNG_CTL (R391). -/
abbrev RNG_CTL (b : Nat) : Nat := (0x50 + b) * 0x1000 + 0x310
/-- TILE.RNG_STATE (R391). -/
abbrev RNG_STATE (b : Nat) : Nat := (0x50 + b) * 0x1000 + 0x314
/-- RING.RG_CTL (R411). -/
abbrev RG_CTL (b : Nat) : Nat := (0x38 + b) * 0x1000 + 0x0
/-- RING.RG_STATUS (R411). -/
abbrev RG_STATUS (b : Nat) : Nat := (0x38 + b) * 0x1000 + 0x4
/-- RING.RG_IRQ_EN (R411). -/
abbrev RG_IRQ_EN (b : Nat) : Nat := (0x38 + b) * 0x1000 + 0x8
/-- RING.RG_LANES (R411). -/
abbrev RG_LANES (b : Nat) : Nat := (0x38 + b) * 0x1000 + 0xc
/-- RING.RG_LANE_LIM (R411). -/
abbrev RG_LANE_LIM (b : Nat) : Nat := (0x38 + b) * 0x1000 + 0x10
/-- RING.RG_LANE_TEST (R411). -/
abbrev RG_LANE_TEST (b : Nat) : Nat := (0x38 + b) * 0x1000 + 0x14
/-- RING.CNT_DEFLECT (R411). -/
abbrev CNT_DEFLECT (b : Nat) : Nat := (0x38 + b) * 0x1000 + 0x20
/-- RING.CNT_PRIO (R411). -/
abbrev CNT_PRIO (b : Nat) : Nat := (0x38 + b) * 0x1000 + 0x24
/-- RING.CNT_HPAR (R411). -/
abbrev CNT_HPAR (b : Nat) : Nat := (0x38 + b) * 0x1000 + 0x28
/-- RING.CNT_PAY_CE (R411). -/
abbrev CNT_PAY_CE (b : Nat) : Nat := (0x38 + b) * 0x1000 + 0x2c
/-- RING.CNT_PAY_UE (R411). -/
abbrev CNT_PAY_UE (b : Nat) : Nat := (0x38 + b) * 0x1000 + 0x30
/-- RING.RT_INDEX (R411). -/
abbrev RT_INDEX (b : Nat) : Nat := (0x38 + b) * 0x1000 + 0x40
/-- RING.RT_DATA (R411). -/
abbrev RT_DATA (b : Nat) : Nat := (0x38 + b) * 0x1000 + 0x44
/-- RING.RR_INDEX (R411). -/
abbrev RR_INDEX (b : Nat) : Nat := (0x38 + b) * 0x1000 + 0x48
/-- RING.RR_DATA (R411). -/
abbrev RR_DATA (b : Nat) : Nat := (0x38 + b) * 0x1000 + 0x4c
/-- RING.RR_TOKENS (R411). -/
abbrev RR_TOKENS (b : Nat) : Nat := (0x38 + b) * 0x1000 + 0x50
/-- RING.PRB_CFG (R411). -/
abbrev PRB_CFG (b i : Nat) : Nat := (0x38 + b) * 0x1000 + 0x100 + i * 0x10
/-- RING.PRB_MATCH (R411). -/
abbrev PRB_MATCH (b i : Nat) : Nat := (0x38 + b) * 0x1000 + 0x104 + i * 0x10
/-- RING.PRB_CNT (R411). -/
abbrev PRB_CNT (b i : Nat) : Nat := (0x38 + b) * 0x1000 + 0x108 + i * 0x10
/-- RING.TRC_INDEX (R411). -/
abbrev TRC_INDEX (b : Nat) : Nat := (0x38 + b) * 0x1000 + 0x200
/-- RING.TRC_WPTR (R411). -/
abbrev TRC_WPTR (b : Nat) : Nat := (0x38 + b) * 0x1000 + 0x204
/-- RING.TRC_DATA (R411). -/
abbrev TRC_DATA (b i : Nat) : Nat := (0x38 + b) * 0x1000 + 0x208 + i * 0x4
/-- MEMC.MC_CFG (R432). -/
abbrev MC_CFG (b : Nat) : Nat := (0x28 + b) * 0x1000 + 0x0
/-- MEMC.MC_STATE (R432). -/
abbrev MC_STATE (b : Nat) : Nat := (0x28 + b) * 0x1000 + 0x4
/-- MEMC.MC_STATUS (R432). -/
abbrev MC_STATUS (b : Nat) : Nat := (0x28 + b) * 0x1000 + 0x8
/-- MEMC.MC_IRQ_EN (R432). -/
abbrev MC_IRQ_EN (b : Nat) : Nat := (0x28 + b) * 0x1000 + 0xc
/-- MEMC.PATROL_CTL (R432). -/
abbrev PATROL_CTL (b : Nat) : Nat := (0x28 + b) * 0x1000 + 0x10
/-- MEMC.PATROL_POS (R432). -/
abbrev PATROL_POS (b : Nat) : Nat := (0x28 + b) * 0x1000 + 0x14
/-- MEMC.PATROL_PASSES (R432). -/
abbrev PATROL_PASSES (b : Nat) : Nat := (0x28 + b) * 0x1000 + 0x18
/-- MEMC.CNT_CE (R432). -/
abbrev CNT_CE (b : Nat) : Nat := (0x28 + b) * 0x1000 + 0x20
/-- MEMC.CNT_UE (R432). -/
abbrev memc_CNT_UE (b : Nat) : Nat := (0x28 + b) * 0x1000 + 0x24
/-- MEMC.CNT_HARD (R432). -/
abbrev CNT_HARD (b : Nat) : Nat := (0x28 + b) * 0x1000 + 0x28
/-- MEMC.CNT_CORR_WR (R432). -/
abbrev CNT_CORR_WR (b : Nat) : Nat := (0x28 + b) * 0x1000 + 0x2c
/-- MEMC.CNT_MERGE (R432). -/
abbrev CNT_MERGE (b : Nat) : Nat := (0x28 + b) * 0x1000 + 0x30
/-- MEMC.MERGE_USED (R432). -/
abbrev MERGE_USED (b : Nat) : Nat := (0x28 + b) * 0x1000 + 0x34
/-- MEMC.MERGE_PEAK (R432). -/
abbrev MERGE_PEAK (b : Nat) : Nat := (0x28 + b) * 0x1000 + 0x38
/-- MEMC.HT_USED (R432). -/
abbrev HT_USED (b : Nat) : Nat := (0x28 + b) * 0x1000 + 0x3c
/-- MEMC.LOG_INDEX (R432). -/
abbrev LOG_INDEX (b : Nat) : Nat := (0x28 + b) * 0x1000 + 0x80
/-- MEMC.LOG_WPTR (R432). -/
abbrev LOG_WPTR (b : Nat) : Nat := (0x28 + b) * 0x1000 + 0x84
/-- MEMC.LOG_RPTR (R432). -/
abbrev LOG_RPTR (b : Nat) : Nat := (0x28 + b) * 0x1000 + 0x88
/-- MEMC.LOG_LOST (R432). -/
abbrev LOG_LOST (b : Nat) : Nat := (0x28 + b) * 0x1000 + 0x8c
/-- MEMC.LOG_DATA (R432). -/
abbrev LOG_DATA (b i : Nat) : Nat := (0x28 + b) * 0x1000 + 0x90 + i * 0x4
/-- MEMC.BANK_INDEX (R432). -/
abbrev BANK_INDEX (b : Nat) : Nat := (0x28 + b) * 0x1000 + 0x100
/-- MEMC.BANK_CNT (R432). -/
abbrev BANK_CNT (b : Nat) : Nat := (0x28 + b) * 0x1000 + 0x104
/-- BERTH.BT_COUNT (R433). -/
abbrev BT_COUNT : Nat := 0x36000
/-- BERTH.BT_STATUS (R433). -/
abbrev BT_STATUS : Nat := 0x36004
/-- BERTH.BT_IRQ_EN (R433). -/
abbrev BT_IRQ_EN : Nat := 0x36008
/-- BERTH.BT_INDEX (R433). -/
abbrev BT_INDEX : Nat := 0x3600c
/-- BERTH.BT_DATA (R433). -/
abbrev BT_DATA : Nat := 0x36010
/-- BERTH.PLACES_FREE (R433). -/
abbrev PLACES_FREE (i : Nat) : Nat := 0x36020 + i * 0x4
/-- BERTH.PLACES_BAD (R433). -/
abbrev PLACES_BAD (i : Nat) : Nat := 0x36060 + i * 0x4
/-- BERTH.MIG_INDEX (R433). -/
abbrev MIG_INDEX : Nat := 0x360a0
/-- BERTH.MIG_BERTH (R433). -/
abbrev MIG_BERTH : Nat := 0x360a4
/-- BERTH.MIG_TARGET (R433). -/
abbrev MIG_TARGET : Nat := 0x360a8
/-- BERTH.MIG_LINES (R433). -/
abbrev MIG_LINES : Nat := 0x360ac
/-- BERTH.CNT_SWITCH (R433). -/
abbrev berth_CNT_SWITCH : Nat := 0x360b0
/-- BERTH.CNT_COPY (R433). -/
abbrev CNT_COPY : Nat := 0x360b4
/-- BERTH.CNT_UNPLACED (R433). -/
abbrev CNT_UNPLACED : Nat := 0x360b8
/-- BERTH.DEC_ADDR_LO (R433). -/
abbrev DEC_ADDR_LO : Nat := 0x360c0
/-- BERTH.DEC_ADDR_HI (R433). -/
abbrev DEC_ADDR_HI : Nat := 0x360c4
/-- BERTH.DEC_PLACE (R433). -/
abbrev DEC_PLACE : Nat := 0x360c8
/-- BERTH.DEC_RESULT (R433). -/
abbrev DEC_RESULT : Nat := 0x360cc
/-- BERTH.TRIP_STATE (R433). -/
abbrev TRIP_STATE : Nat := 0x360e0
/-- NET.PORT_CFG (R450). -/
abbrev PORT_CFG (b i : Nat) : Nat := (0x1c + b) * 0x1000 + 0x0 + i * 0x200
/-- NET.PORT_STATUS (R450). -/
abbrev PORT_STATUS (b i : Nat) : Nat := (0x1c + b) * 0x1000 + 0x4 + i * 0x200
/-- NET.PORT_IRQ_EN (R450). -/
abbrev PORT_IRQ_EN (b i : Nat) : Nat := (0x1c + b) * 0x1000 + 0x8 + i * 0x200
/-- NET.PORT_STATE (R450). -/
abbrev PORT_STATE (b i : Nat) : Nat := (0x1c + b) * 0x1000 + 0xc + i * 0x200
/-- NET.PORT_DLY (R450). -/
abbrev PORT_DLY (b i : Nat) : Nat := (0x1c + b) * 0x1000 + 0x10 + i * 0x200
/-- NET.GCL_CTL (R450). -/
abbrev GCL_CTL (b i : Nat) : Nat := (0x1c + b) * 0x1000 + 0x14 + i * 0x200
/-- NET.REL_OFF (R450). -/
abbrev REL_OFF (b i : Nat) : Nat := (0x1c + b) * 0x1000 + 0x18 + i * 0x200
/-- NET.RING_LO (R450). -/
abbrev net_RING_LO (b i j : Nat) : Nat := (0x1c + b) * 0x1000 + 0x20 + i * 0x200 + j * 0x10
/-- NET.RING_HI (R450). -/
abbrev net_RING_HI (b i j : Nat) : Nat := (0x1c + b) * 0x1000 + 0x24 + i * 0x200 + j * 0x10
/-- NET.RING_CTL (R450). -/
abbrev net_RING_CTL (b i j : Nat) : Nat := (0x1c + b) * 0x1000 + 0x28 + i * 0x200 + j * 0x10
/-- NET.RING_TAIL (R450). -/
abbrev net_RING_TAIL (b i j : Nat) : Nat := (0x1c + b) * 0x1000 + 0x2c + i * 0x200 + j * 0x10
/-- NET.TXS_TAG (R450). -/
abbrev TXS_TAG (b i : Nat) : Nat := (0x1c + b) * 0x1000 + 0x40 + i * 0x200
/-- NET.TXS_LO (R450). -/
abbrev TXS_LO (b i : Nat) : Nat := (0x1c + b) * 0x1000 + 0x44 + i * 0x200
/-- NET.TXS_HI (R450). -/
abbrev TXS_HI (b i : Nat) : Nat := (0x1c + b) * 0x1000 + 0x48 + i * 0x200
/-- NET.CNT_TX (R450). -/
abbrev CNT_TX (b i : Nat) : Nat := (0x1c + b) * 0x1000 + 0x50 + i * 0x200
/-- NET.CNT_RX (R450). -/
abbrev CNT_RX (b i : Nat) : Nat := (0x1c + b) * 0x1000 + 0x54 + i * 0x200
/-- NET.CNT_RX_DROP (R450). -/
abbrev CNT_RX_DROP (b i : Nat) : Nat := (0x1c + b) * 0x1000 + 0x58 + i * 0x200
/-- NET.GCL_INDEX (R450). -/
abbrev GCL_INDEX (b i : Nat) : Nat := (0x1c + b) * 0x1000 + 0x80 + i * 0x200
/-- NET.GCL_DATA (R450). -/
abbrev GCL_DATA (b i : Nat) : Nat := (0x1c + b) * 0x1000 + 0x84 + i * 0x200
/-- NET.MT_INDEX (R450). -/
abbrev MT_INDEX (b i : Nat) : Nat := (0x1c + b) * 0x1000 + 0x88 + i * 0x200
/-- NET.MT_TYPE (R450). -/
abbrev MT_TYPE (b i : Nat) : Nat := (0x1c + b) * 0x1000 + 0x8c + i * 0x200
/-- NET.MT_VAL (R450). -/
abbrev MT_VAL (b i : Nat) : Nat := (0x1c + b) * 0x1000 + 0x90 + i * 0x200
/-- NET.MT_MASK (R450). -/
abbrev MT_MASK (b i : Nat) : Nat := (0x1c + b) * 0x1000 + 0x94 + i * 0x200
/-- NET.MT_OUT (R450). -/
abbrev MT_OUT (b i : Nat) : Nat := (0x1c + b) * 0x1000 + 0x98 + i * 0x200
/-- NET.MT_EXT (R450). -/
abbrev MT_EXT (b i : Nat) : Nat := (0x1c + b) * 0x1000 + 0x9c + i * 0x200
/-- CAN.CC_CFG (R451). -/
abbrev CC_CFG (i : Nat) : Nat := 0x1f000 + i * 0x40
/-- CAN.CC_NBT (R451). -/
abbrev CC_NBT (i : Nat) : Nat := 0x1f004 + i * 0x40
/-- CAN.CC_DBT (R451). -/
abbrev CC_DBT (i : Nat) : Nat := 0x1f008 + i * 0x40
/-- CAN.CC_STATUS (R451). -/
abbrev CC_STATUS (i : Nat) : Nat := 0x1f00c + i * 0x40
/-- CAN.CC_IRQ_EN (R451). -/
abbrev CC_IRQ_EN (i : Nat) : Nat := 0x1f010 + i * 0x40
/-- CAN.CC_STATE (R451). -/
abbrev CC_STATE (i : Nat) : Nat := 0x1f014 + i * 0x40
/-- CAN.CC_REL (R451). -/
abbrev CC_REL (i : Nat) : Nat := 0x1f018 + i * 0x40
/-- CAN.CC_CMD (R451). -/
abbrev CC_CMD (i : Nat) : Nat := 0x1f01c + i * 0x40
/-- CAN.RING_LO (R451). -/
abbrev can_RING_LO (i j : Nat) : Nat := 0x1f020 + i * 0x40 + j * 0x10
/-- CAN.RING_HI (R451). -/
abbrev can_RING_HI (i j : Nat) : Nat := 0x1f024 + i * 0x40 + j * 0x10
/-- CAN.RING_CTL (R451). -/
abbrev can_RING_CTL (i j : Nat) : Nat := 0x1f028 + i * 0x40 + j * 0x10
/-- CAN.RING_TAIL (R451). -/
abbrev can_RING_TAIL (i j : Nat) : Nat := 0x1f02c + i * 0x40 + j * 0x10
/-- CAN.CAN_MT_INDEX (R451). -/
abbrev CAN_MT_INDEX : Nat := 0x1f400
/-- CAN.CAN_MT_ID (R451). -/
abbrev CAN_MT_ID : Nat := 0x1f404
/-- CAN.CAN_MT_MASK (R451). -/
abbrev CAN_MT_MASK : Nat := 0x1f408
/-- CAN.CAN_MT_OUT (R451). -/
abbrev CAN_MT_OUT : Nat := 0x1f40c
/-- CAN.CAN_MT_CTRL (R451). -/
abbrev CAN_MT_CTRL : Nat := 0x1f410
/-- PCIE.PH_CFG (R452). -/
abbrev PH_CFG (i : Nat) : Nat := 0x1e000 + i * 0x40
/-- PCIE.PH_STATE (R452). -/
abbrev PH_STATE (i : Nat) : Nat := 0x1e004 + i * 0x40
/-- PCIE.PH_STATUS (R452). -/
abbrev PH_STATUS (i : Nat) : Nat := 0x1e008 + i * 0x40
/-- PCIE.PH_IRQ_EN (R452). -/
abbrev PH_IRQ_EN (i : Nat) : Nat := 0x1e00c + i * 0x40
/-- PCIE.PH_CTL (R452). -/
abbrev PH_CTL (i : Nat) : Nat := 0x1e010 + i * 0x40
/-- PCIE.CNT_UR (R452). -/
abbrev CNT_UR (i : Nat) : Nat := 0x1e014 + i * 0x40
/-- PCIE.CNT_AER (R452). -/
abbrev CNT_AER (i : Nat) : Nat := 0x1e018 + i * 0x40
/-- PCIE.PCIE_STATUS (R452). -/
abbrev PCIE_STATUS : Nat := 0x1e200
/-- PCIE.PCIE_IRQ_EN (R452). -/
abbrev PCIE_IRQ_EN : Nat := 0x1e204
/-- PCIE.PR_SPLIT (R452). -/
abbrev PR_SPLIT : Nat := 0x1e208
/-- PCIE.MSI_PEND (R452). -/
abbrev MSI_PEND (i : Nat) : Nat := 0x1e220 + i * 0x4
/-- PCIE.MSI_DOOR (R452). -/
abbrev MSI_DOOR : Nat := 0x1e240
/-- LANTERN.MB (R469). -/
abbrev lantern_MB (i j : Nat) : Nat := 0x22000 + i * 0x40 + j * 0x4
/-- LANTERN.LN_DOOR (R469). -/
abbrev LN_DOOR (i : Nat) : Nat := 0x22200 + i * 0x4
/-- LANTERN.LN_MBSTAT (R469). -/
abbrev LN_MBSTAT (i : Nat) : Nat := 0x22220 + i * 0x4
/-- LANTERN.LN_STATUS (R469). -/
abbrev LN_STATUS : Nat := 0x22240
/-- LANTERN.LN_IRQ_EN (R469). -/
abbrev LN_IRQ_EN : Nat := 0x22244
/-- LANTERN.LN_STATE (R469). -/
abbrev LN_STATE : Nat := 0x22248
/-- LANTERN.LN_RESET_CAUSE (R469). -/
abbrev LN_RESET_CAUSE : Nat := 0x2224c
/-- LANTERN.LN_THERM (R469). -/
abbrev LN_THERM : Nat := 0x22250
/-- LANTERN.LN_WEAR (R469). -/
abbrev LN_WEAR : Nat := 0x22254
/-- LANTERN.LN_NVM_RATE (R469). -/
abbrev LN_NVM_RATE : Nat := 0x22258
/-- LANTERN.LN_NVM_MASK (R469). -/
abbrev LN_NVM_MASK : Nat := 0x2225c
/-- LANTERN.SENS_INDEX (R469). -/
abbrev SENS_INDEX : Nat := 0x22260
/-- LANTERN.SENS_DATA (R469). -/
abbrev SENS_DATA : Nat := 0x22264
/-- LANTERN.SENS_MAX (R469). -/
abbrev SENS_MAX : Nat := 0x22268
/-- LANTERN.CNT_NVM_WR (R469). -/
abbrev CNT_NVM_WR : Nat := 0x22270
/-- LANTERN.CNT_NVM_SKIP (R469). -/
abbrev CNT_NVM_SKIP : Nat := 0x22274
/-- LANTERN.NVM_ERASE_MAX (R469). -/
abbrev NVM_ERASE_MAX : Nat := 0x22278
/-- LANTERN.WD_CFG (R469). -/
abbrev WD_CFG (i : Nat) : Nat := 0x22280 + i * 0x10
/-- LANTERN.WD_KICK (R469). -/
abbrev WD_KICK (i : Nat) : Nat := 0x22284 + i * 0x10
/-- LANTERN.WD_LEFT (R469). -/
abbrev WD_LEFT (i : Nat) : Nat := 0x22288 + i * 0x10
/-- LANTERN.LN_WD_INT (R469). -/
abbrev LN_WD_INT : Nat := 0x222c0
/-- LANTERN.LN_PORT (R469). -/
abbrev LN_PORT : Nat := 0x222c4
/-- LANTERN.LN_IP (R469). -/
abbrev LN_IP : Nat := 0x222c8
/-- DEVICE.DEV_ID (R486). -/
abbrev DEV_ID : Nat := 0x0
/-- DEVICE.DEV_SER_LO (R486). -/
abbrev DEV_SER_LO : Nat := 0x4
/-- DEVICE.DEV_SER_HI (R486). -/
abbrev DEV_SER_HI : Nat := 0x8
/-- DEVICE.BOOT_STAT (R486). -/
abbrev BOOT_STAT : Nat := 0xc
/-- DEVICE.BOOT_MS (R486). -/
abbrev BOOT_MS : Nat := 0x10
/-- DEVICE.IMG_SEQ (R486). -/
abbrev IMG_SEQ : Nat := 0x14
/-- DEVICE.DEV_STATUS (R486). -/
abbrev DEV_STATUS : Nat := 0x18
/-- DEVICE.DEV_IRQ_EN (R486). -/
abbrev DEV_IRQ_EN : Nat := 0x1c
/-- DEVICE.CFG_DIG_IDX (R486). -/
abbrev CFG_DIG_IDX : Nat := 0x20
/-- DEVICE.CFG_DIG_DATA (R486). -/
abbrev CFG_DIG_DATA : Nat := 0x24
/-- CLOCK.CLK_REF (R510). -/
abbrev CLK_REF : Nat := 0x24000
/-- CLOCK.CLK_SRC (R510). -/
abbrev CLK_SRC : Nat := 0x24004
/-- CLOCK.CLK_STATUS (R510). -/
abbrev CLK_STATUS : Nat := 0x24008
/-- CLOCK.CLK_IRQ_EN (R510). -/
abbrev CLK_IRQ_EN : Nat := 0x2400c
/-- CLOCK.CLK_LOCK (R510). -/
abbrev CLK_LOCK : Nat := 0x24010
/-- CLOCK.CLK_AG_DIS (R510). -/
abbrev CLK_AG_DIS : Nat := 0x24014
/-- CLOCK.CV_UNIT_OPEN (R510). -/
abbrev CV_UNIT_OPEN : Nat := 0x24020
/-- CLOCK.CV_UNIT_SEALED (R510). -/
abbrev CV_UNIT_SEALED : Nat := 0x24024
/-- CLOCK.CV_BAY (R510). -/
abbrev CV_BAY : Nat := 0x24028
/-- CLOCK.CV_TILE_SEAL (R510). -/
abbrev CV_TILE_SEAL (i : Nat) : Nat := 0x24030 + i * 0x4
/-- CLOCK.CNT_SWITCH (R510). -/
abbrev clock_CNT_SWITCH : Nat := 0x24040
/-- POWER.PWR_CTL (R511). -/
abbrev PWR_CTL : Nat := 0x25000
/-- POWER.PWR_STATUS (R511). -/
abbrev PWR_STATUS : Nat := 0x25004
/-- POWER.PWR_IRQ_EN (R511). -/
abbrev PWR_IRQ_EN : Nat := 0x25008
/-- POWER.PWR_PERF (R511). -/
abbrev PWR_PERF : Nat := 0x2500c
/-- POWER.PWR_LEVEL (R511). -/
abbrev PWR_LEVEL : Nat := 0x25010
/-- POWER.PWR_VR (R511). -/
abbrev PWR_VR : Nat := 0x25014
/-- POWER.PWR_VTGT (R511). -/
abbrev PWR_VTGT (i : Nat) : Nat := 0x25020 + i * 0x4
/-- POWER.PV_TILE_HW (R511). -/
abbrev PV_TILE_HW (i : Nat) : Nat := 0x25040 + i * 0x4
/-- POWER.PV_TILE_OPEN (R511). -/
abbrev PV_TILE_OPEN (i : Nat) : Nat := 0x25050 + i * 0x4
/-- POWER.PV_TILE_SEALED (R511). -/
abbrev PV_TILE_SEALED (i : Nat) : Nat := 0x25060 + i * 0x4
/-- POWER.PV_BAY (R511). -/
abbrev PV_BAY : Nat := 0x25070
/-- POWER.PV_MEM_HW (R511). -/
abbrev PV_MEM_HW : Nat := 0x25074
/-- POWER.PV_UNIT_OPEN (R511). -/
abbrev PV_UNIT_OPEN : Nat := 0x25078
/-- POWER.PV_UNIT_SEALED (R511). -/
abbrev PV_UNIT_SEALED : Nat := 0x2507c
/-- POWER.DOM_TILE (R511). -/
abbrev DOM_TILE (i : Nat) : Nat := 0x250a0 + i * 0x4
/-- POWER.DOM_OTHER (R511). -/
abbrev DOM_OTHER : Nat := 0x250ac
/-- POWER.WAKE_DLY (R511). -/
abbrev WAKE_DLY (i : Nat) : Nat := 0x250c0 + i * 0x4
/-- POWER.CNT_WAKE (R511). -/
abbrev CNT_WAKE : Nat := 0x250d0
/-- POWER.CNT_OFF_ACCESS (R511). -/
abbrev CNT_OFF_ACCESS : Nat := 0x250d4

end Sys2Proof.Machine.R
end

