-- ==== Sys2Proof/Machine/State.lean ====
section
/-! DEFINITION. The state of the SC128, and its state right after reset. -/

namespace Sys2Proof.Machine

/-- A guard-pair write held pending by a block (R517). -/
structure GuardPend where
  off : Nat
  value : W32
  who : Requester
  arrival : Stamp
  /-- the core clock in force when it arrived, as State.coreRate gives it -/
  rate : Nat
deriving DecidableEq, Repr

/-- Why the machine stops with a fault. No rule of the spec stops the block, so no command raises one. -/
inductive Fault where
  /-- raised by no command; safe -/
  | none
deriving DecidableEq, Repr

/-- Why a command has no meaning. -/
inductive Refusal where
  /-- raised by the dispatch of a command whose meaning is not written; safe -/
  | notModelled (mnemonic : String)
deriving DecidableEq, Repr

/-- The whole state of the device, and the commands waiting. -/
structure State where
  tb : TbState
  trip : Trip
  bcn : BcnState
  jrn : JrnState
  su : SuState
  hive : HiveState
  mem : MemState
  tw : TwState
  lan : LanState
  nv : NvState
  /-- the cores by number; an unlisted core is as after full reset -/
  cores : List (Nat × CoreSt)
  /-- core clock cycles of the device since reset, in units of 1/60 cycle (R232, R498, R521) -/
  coreSub : Nat
  cache : CacheState
  ring : RingState
  bays : List (Nat × Bay)
  ports : PortState
  grid : GridState
  sector : SectorState
  clk : ClkState
  boot : BootState
  keeper : KeeperState
  /-- sealed ranges by number (R316) -/
  ranges : List (Nat × SealRange)
  /-- registers of control space that differ from their reset value, by block * 0x1000 + offset -/
  regs : List (Nat × W32)
  /-- the pending guard-pair write of each block (R518) -/
  guard : List (Nat × GuardPend)
  /-- HI registers as latched by the last latching read, by key (R515) -/
  latch : List (Nat × W32)
  /-- the value the last register read returned to its requester -/
  readVal : W32
  /-- MODEL: the number of free values taken so far -/
  freeCtr : Nat
  /-- the commands waiting, first in first out -/
  pending : List Instr
deriving DecidableEq, Repr

/-- The timebase after full reset (R25, R491). -/
def TbState.reset : TbState where
  running := false
  now := 0
  frac := 0
  src := 2
  locked := false
  refA := false
  refB := false
  rate := 0
  rateNext := none
  taiNext := none
  held := 0

/-- The beacon after full reset (R31, R489). -/
def BcnState.reset : BcnState where
  started := false
  ticked := false
  first := 0
  nextN := 0
  frame := 0
  tickStamp := 0
  prevTick := 0
  bases := []
  out := false
  outEnd := 0
  outZ := true
  inLast := 0
  inErr := 0
  inLost := false
  aligned := false
  edgeMiss := 0
  edgeGot := false
  edgeNext := false
  edgeJudged := false
  staging := []
  frozen := true
  acc := {}
  lateLines := 0

/-- The state unit after full reset (R88). -/
def SuState.reset : SuState where
  lines := []
  tag0 := 0
  side := []
  touch := []
  touchSel := []
  walks := []
  digests := []
  digOpen := []
  digFrame := 0
  digVal := 0
  latFrame := 0
  latVal := 0
  sweepPos := 0
  sweepPass := 0
  dbgMeta := 0

/-- Hive after full reset (R118 to R120). -/
def HiveState.reset : HiveState where
  td := []
  hops := []
  rt := []
  cores := []
  load := []
  loadLast := []
  gather := {}
  gatherLast := {}
  epochs := 0
  opened := false
  planReady := none
  planDue := false
  plan := []
  worn := []
  replaces := []
  pinMoves := []
  antSpare := []
  antWorn := []
  waySpare := []
  slots := List.replicate 8 {}
  lastOpen := 8
  openSets := []
  params := []
  homes := []

/-- Memory after full reset: nothing listed (R416, R433). -/
def MemState.reset : MemState where
  dram := []
  poison := []
  memc := []
  bt := []
  copies := []
  bad := []
  hardPlaces := []
  wornCh := []
  sparing := none
  seen := []
  migSeen := 0
  migDebt := 0

/-- The twin unit after full reset (R190, R209 to R211). -/
def TwState.reset : TwState where
  role := .listen
  sideB := false
  g := 0
  verified := false
  listenFrom := none
  listenPulse := false
  partnerRole := .listen
  partnerVer := false
  partnerB := false
  partnerWarn := false
  resyncDue := false
  heardLink := false
  heardLine := false
  silentLink := 0
  silentLine := 0
  divCount := 0
  linkUp := false
  linkDly := 0
  inUse := 0x0ff
  failed := 0
  x4 := false
  mapSent := false
  mapRcvd := false
  txSeq := 0
  rxSeq := 0
  txq := []
  sent := []
  txPos := 0
  txFree := 0
  copyFree := 0
  nakSeq := 0
  nakCount := 0
  lastRx := 0
  pairOff := 0
  fixedT := []
  mirFrame := 0
  mirLines := []
  mirEnd := false
  mirMiss := false
  localLines := []
  own := []
  peer := []
  cmpFrame := 0
  cmpOd := 0
  latFrame := 0
  latOd := 0
  join := {}
  host := {}
  handH := none
  handAck := false
  hbLow := false
  hbDone := false
  outputs := false
  outputsAt := none
  pjWptr := 0

/-- Lantern after full reset (R468). -/
def LanState.reset : LanState where
  sensors := []
  sampleAt := none
  tripSeen := false
  hot := false
  cool := 0
  holdBoot := false
  holdTemp := false
  running := false
  aging := []
  agingMean := []
  agingHour := 0
  ram := []
  ramNext := 0
  admitted := []
  tokens := 0
  tokenAt := 0
  throttled := false
  flush := false
  mbox := []
  wdDue := []
  kickAt := none
  heard := []
  portMb := 0
  portSrc := none
  upd := none
  streams := []
  portOut := []

/-- The non-volatile storage of a device never used: erased xSPI devices and blank fuses. -/
def NvState.fresh : NvState where
  slotA := []
  slotB := []
  log := []
  logBlock := 0
  logIndex := 0
  book := []
  bookBlock := false
  period := 0
  fuses := []

/-- The sector interlock unit after full reset (R180). -/
def SectorState.reset : SectorState where
  rules := []
  results := []
  latches := []
  timers := []
  timerSt := []
  chans := []
  chanSt := []
  queue := []
  holds := []
  released := []
  evaluated := none
  freezeDone := none
  permits := []
  inputMap := []
  supplyLow := false
  supplyAt := 0
  supplyRise := none
  supplyBack := false

/-- The caches after full reset: nothing valid (R390). -/
def CacheState.reset : CacheState where
  cores := []
  dir := []
  txns := []
  l3 := []
  queue := []
  outer := []
  l3seen := []
  parked := []
  plru3 := []
  plruD := []
  deadWays := []
  range := none
  lockFill := []
  drains := []
  out := []

/-- The clocks and domains after full reset: the always-on domain is up (R492 to R503). -/
def ClkState.reset : ClkState where
  doms := [(94, .up)]
  swCore := none
  swAnt := none
  srcCore := false
  srcAnt := false
  pllIn := []
  asked := 2
  perfCause := 0
  moveCause := 0
  moveEnd := 0
  wakeAt := []
  perfWait := false
  hungCore := false
  hungAnt := false
  bootRef := 2
  vrOut := []

/-- The boot sequence at step 1: the always-on domain has left reset (R478). -/
def BootState.reset : BootState where
  aon := true
  rstLow := false
  por := false
  cause := 0
  step := 1
  slotB := false
  tried := false
  assigned := false
  applied := false
  locked := false
  sysregs := []
  s2Open := (0, 0)
  s2Sealed := (0, 0)
  partnerKey := 0
  initPass := []
  trained := false

/-- The device right after reset: boot step 1 begins after a power-on reset (R471, R478). -/
def State.reset : State where
  tb := .reset
  trip := {}
  bcn := .reset
  jrn := ⟨0, 0, 0⟩
  su := .reset
  hive := .reset
  mem := .reset
  tw := .reset
  lan := .reset
  nv := .fresh
  cores := []
  coreSub := 0
  cache := .reset
  ring := ⟨[], [], [], [], [], []⟩
  bays := []
  ports := ⟨[], [], [], [], 0xff⟩
  grid := ⟨[], [], []⟩
  sector := .reset
  clk := .reset
  boot := .reset
  keeper := ⟨[], [], [], none, none, false⟩
  ranges := []
  regs := []
  guard := []
  latch := []
  readVal := 0
  freeCtr := 0
  pending := []

end Sys2Proof.Machine
end

