-- ==== Sys2Proof/Machine/Ops.lean ====
section
/-! DEFINITION. The named operations over registers, free values, memory cells, time and the records every unit keeps. -/

namespace Sys2Proof.Machine

/-! ### Free values -/

/-- Takes the next free value of w bits. -/
def State.free (s : State) (w : Nat) : BitVec w × State :=
  (Config.freeBits w s.freeCtr, { s with freeCtr := s.freeCtr + 1 })

/-! ### Reset (R471) -/

/-- What a command does to a device out of reset; while RESET_N or the supply monitor holds it in reset, nothing (R471). -/
def State.awake (s : State) (f : State → State) : State := if s.boot.aon then f s else s

/-! ### Stored registers (R11 to R14) -/

/-- The stored value of the register at key block * 0x1000 + offset. -/
def State.rd (s : State) (key : Nat) : W32 := (assoc? s.regs key).getD (resetVal key)

/-- Stores a register. -/
def State.wr (s : State) (key : Nat) (v : W32) : State :=
  { s with regs := if v = resetVal key then assocDel s.regs key else assocSet s.regs key v }

/-- A field of a stored register. -/
def State.fld (s : State) (key lo w : Nat) : Nat := bitsAt (s.rd key) lo w

/-- A bit of a stored register. -/
def State.flagAt (s : State) (key i : Nat) : Bool := bitAt (s.rd key) i

/-- Stores a field of a register. -/
def State.setFld (s : State) (key lo w v : Nat) : State := s.wr key (putBits (s.rd key) lo w v)

/-- Sets status bit i of a register (R519: an event is reported once per read). -/
def State.flag (s : State) (key i : Nat) : State := s.setFld key i 1 1

/-- Adds 1 to a counter register that wraps at 2^32. -/
def State.bump (s : State) (key : Nat) : State := s.wr key (s.rd key + 1)

/-- Adds 1 to a counter field that saturates. -/
def State.bumpSat (s : State) (key lo w : Nat) : State :=
  s.setFld key lo w (min (2 ^ w - 1) (s.fld key lo w + 1))

/-- Raises a peak field to a level (the counter class of R520). -/
def State.peak (s : State) (key lo w v : Nat) : State :=
  if s.fld key lo w < v then s.setFld key lo w (min v (2 ^ w - 1)) else s

/-- A 64-bit value held in a LO and a HI register. -/
def State.rd64 (s : State) (lo hi : Nat) : W64 := join32 (s.rd hi) (s.rd lo)

/-- Stores a 64-bit value in a LO and a HI register. -/
def State.wr64 (s : State) (lo hi : Nat) (v : W64) : State := (s.wr lo (lo32 v)).wr hi (hi32 v)

/-! ### Byte cells in canonical form: addresses rising, no entry equal to the byte an unlisted address reads as -/

/-- The byte at an address; an unlisted address reads as d. -/
def cellGet (d : Byte) : List Host.Cell → Nat → Byte
  | [], _ => d
  | (k, v) :: r, a => if k = a then v else if a < k then d else cellGet d r a

/-- Writes a byte. -/
def cellSet (d : Byte) : List Host.Cell → Nat → Byte → List Host.Cell
  | [], a, v => if v = d then [] else [(a, v)]
  | (k, w) :: r, a, v =>
    if a < k then (if v = d then (k, w) :: r else (a, v) :: (k, w) :: r)
    else if a = k then (if v = d then r else (k, v) :: r)
    else (k, w) :: cellSet d r a v

/-- The n bytes from an address, lowest first. -/
def cellRead (d : Byte) (m : List Host.Cell) (a : Nat) : Nat → List Byte
  | 0 => []
  | n + 1 => cellGet d m a :: cellRead d m (a + 1) n

/-- Writes bytes from an address up. -/
def cellWrite (d : Byte) (m : List Host.Cell) (a : Nat) : List Byte → List Host.Cell
  | [] => m
  | b :: bs => cellWrite d (cellSet d m a b) (a + 1) bs

/-- Writes the bytes whose mask bit is 1, from bit i up. -/
def cellWriteMask (d : Byte) (m : List Host.Cell) (a : Nat) (mask : BitVec 64) (data : Line) : Nat → Nat → List Host.Cell
  | _, 0 => m
  | i, n + 1 =>
    cellWriteMask d (if bitAt mask i then cellSet d m (a + i) (byteAt data i) else m) a mask data (i + 1) n

/-- The canonical form: addresses strictly rising from lo, and no byte equal to d. -/
def cellsFrom (d : Byte) (lo : Nat) : List Host.Cell → Bool
  | [] => true
  | (k, v) :: r => decide (lo ≤ k) && decide (v ≠ d) && cellsFrom d (k + 1) r

/-- Memory is in its canonical form. -/
def Memory.wf (m : List Host.Cell) : Bool := cellsFrom 0 0 m

/-! ### The configuration devices (R474, R475) -/

/-- CRC-32C of a byte string. -/
def crc32c (bs : List Byte) : W32 :=
  let bit (c : W32) : W32 := if bitAt c 0 then (c >>> 1) ^^^ 0x82f63b78 else c >>> 1
  ~~~(bs.foldl (fun c b =>
    let c := c ^^^ (b.zeroExtend 32)
    bit (bit (bit (bit (bit (bit (bit (bit c)))))))) (0xffffffff : W32))

/-- The cells of a slot: false A, true B (R474). -/
def State.slotCells (s : State) (b : Bool) : List Host.Cell := if b then s.nv.slotB else s.nv.slotA

/-- n bytes of a slot. -/
def State.slotRead (s : State) (b : Bool) (off n : Nat) : List Byte := cellRead 0xff (s.slotCells b) off n

/-! ### Lines -/

/-- The line whose little-endian bytes are given (R6). -/
def lineOf (bs : List Byte) : Line := BitVec.ofNat 512 (leNat bs)

/-- The mask of bytes first to last of a line. -/
def maskOf (first last : Nat) : BitVec 64 :=
  BitVec.ofNat 64 ((2 ^ (last + 1) - 1) - (2 ^ first - 1))

/-- A full mask. -/
def fullMask : BitVec 64 := BitVec.allOnes 64

/-- The line-wide bit mask of a byte mask. -/
def wideMask (mask : BitVec 64) : Nat → Line
  | 0 => 0
  | n + 1 => wideMask mask n ||| (if bitAt mask n then (0xff : Line) <<< (8 * n) else 0)

/-- The line old with the masked bytes of new. -/
def mergeLine (old new : Line) (mask : BitVec 64) : Line :=
  let w := wideMask mask 64
  (old &&& ~~~w) ||| (new &&& w)

/-- n bytes of a line from byte o, as a number. -/
def lineNum (l : Line) (o n : Nat) : Nat := (l.toNat >>> (8 * o)) % 2 ^ (8 * n)

/-- The line with n bytes from byte o replaced. -/
def linePut (l : Line) (o n v : Nat) : Line :=
  putBits l (8 * o) (8 * n) (v % 2 ^ (8 * n))

/-! ### Triplicated words (R430) -/

/-- Writes every copy that is not retired, with good parity. -/
def TripWord.put (t : TripWord) (v : Nat) : TripWord :=
  { t with
    a := if t.retA then t.a else v
    b := if t.retB then t.b else v
    c := if t.retC then t.c else v
    badA := t.badA && t.retA
    badB := t.badB && t.retB
    badC := t.badC && t.retC }

/-- The values of the copies that vote. -/
def TripWord.votes (t : TripWord) : List Nat :=
  (if t.retA || t.badA then [] else [t.a]) ++ (if t.retB || t.badB then [] else [t.b]) ++
  (if t.retC || t.badC then [] else [t.c])

/-- The outcome of a vote: the value, or none where every voting copy differs or no copy votes (R430). -/
def TripWord.vote (t : TripWord) : Option Nat :=
  match t.votes with
  | [x] => some x
  | [x, y] => if x = y then some x else none
  | [x, y, z] => if x = y ∨ x = z then some x else if y = z then some y else none
  | _ => none

/-- The voted value; where the vote is lost the device is reset before the value is used. -/
def TripWord.val (t : TripWord) : Nat := t.vote.getD 0

/-- Copy i disagrees with the voted value or has bad parity, and is not retired. -/
def TripWord.wrong (t : TripWord) (v : Nat) (i : Nat) : Bool :=
  match i with
  | 0 => !t.retA && (t.badA || t.a != v)
  | 1 => !t.retB && (t.badB || t.b != v)
  | _ => !t.retC && (t.badC || t.c != v)

/-- Copy i rewritten; it is retired when it has been rewritten four times since full reset. -/
def TripWord.fix (t : TripWord) (v : Nat) (i : Nat) : TripWord :=
  match i with
  | 0 => { t with a := v, badA := false, fixA := t.fixA + 1, retA := decide (4 ≤ t.fixA + 1) }
  | 1 => { t with b := v, badB := false, fixB := t.fixB + 1, retB := decide (4 ≤ t.fixB + 1) }
  | _ => { t with c := v, badC := false, fixC := t.fixC + 1, retC := decide (4 ≤ t.fixC + 1) }

/-- Copy i is retired. -/
def TripWord.retired (t : TripWord) (i : Nat) : Bool :=
  match i with
  | 0 => t.retA
  | 1 => t.retB
  | _ => t.retC

/-- The triplicated word numbered as in VOTE_FIX (R431). -/
def Trip.word (t : Trip) (i : Nat) : TripWord :=
  match i with
  | 0 => t.tai
  | 1 => t.epoch
  | 2 => t.period
  | 3 => t.wdLock
  | _ => t.digest

/-- Replaces the triplicated word of a number. -/
def Trip.setWord (t : Trip) (i : Nat) (w : TripWord) : Trip :=
  match i with
  | 0 => { t with tai := w }
  | 1 => { t with epoch := w }
  | 2 => { t with period := w }
  | 3 => { t with wdLock := w }
  | _ => { t with digest := w }

/-- Writes a triplicated word. -/
def State.tripPut (s : State) (i v : Nat) : State :=
  { s with trip := s.trip.setWord i ((s.trip.word i).put v) }

/-! ### Time, frames and the beacon's settings -/

/-- The beacon period P (R29). -/
def State.period (s : State) : Nat := s.trip.period.val

/-- epoch_offset, the stamp of T(0) (R30). -/
def State.epoch (s : State) : W64 := BitVec.ofNat 64 s.trip.epoch.val

/-- The configuration digest, its byte 0 in bits [7:0] (R477). -/
def State.cfgDigest (s : State) : BitVec 384 := BitVec.ofNat 384 s.trip.digest.val

/-- Both lock bits of WD_LOCK (R312, R336). -/
def State.wdLocked (s : State) : Bool := s.trip.wdLock.val == 3

/-- T(N) = epoch_offset + N * P, modulo 2^64 (R10). -/
def State.tickAt (s : State) (n : W64) : Stamp := s.epoch + n * BitVec.ofNat 64 s.period

/-- The timebase. -/
def State.now (s : State) : Stamp := s.tb.now

/-- Core clock cycles in a ns as configured, in units of 1/60: the clock of the level in force, or 1.5 GHz with CLK_SRC.CORE at 1 (R498). -/
def State.levelRate (s : State) : Nat :=
  if s.clk.srcCore then 90
  else match s.fld R.PWR_LEVEL 0 3 with
    | 0 => 90
    | 1 => 72
    | 2 => 60
    | 3 => 45
    | _ => 30

/-- Core clock cycles in a ns, in units of 1/60: none while the core's multiplexer hangs (R496). -/
def State.coreRate (s : State) : Nat := if s.clk.hungCore then 0 else s.levelRate

/-- Core clock cycles since reset. -/
def State.coreCycles (s : State) : Nat := s.coreSub / 60

/-- The timebase moved to a stamp, where the stamp lies ahead: an event whose rule fixes its stamp happens at it. -/
def State.advanceTo (s : State) (t : Stamp) : State :=
  if stampLt s.tb.now t then
    { s with tb := { s.tb with now := t, frac := 0 }, coreSub := s.coreSub + (stampDiff t s.tb.now).toNat * s.coreRate }
  else s

/-- The guard in ns (R43). -/
def State.guardNs (s : State) : Nat := (s.rd R.BCN_GUARD).toNat

/-- T(N) as it fired for a frame that has begun, which no adjustment moves any more (R34); else by R10. -/
def State.tickOf (s : State) (n : W64) : Stamp :=
  if s.bcn.ticked && n == s.bcn.frame then s.bcn.tickStamp
  else if s.bcn.ticked && n + 1 == s.bcn.frame then s.bcn.prevTick
  else if s.bcn.ticked && decide (n.toNat < s.bcn.frame.toNat) then
    match s.bcn.bases.find? (fun b => decide (b.1.toNat ≤ n.toNat)) with
    | some b => b.2 + (n - b.1) * BitVec.ofNat 64 s.period
    | none => s.tickAt n
  else s.tickAt n

/-- ns from a stamp to now, negative where the stamp lies ahead. -/
def State.since (s : State) (t : Stamp) : Int := stampDiff s.now t

/-- Periods from stamp a to stamp b, rounded up. -/
def State.periodsUp (s : State) (a b : Stamp) : Int := (stampDiff b a + s.period - 1) / s.period

/-- The frame that holds a stamp before tick hi, whose stamp is upper: a frame of changed length ends where the next tick fired, and below the first tick whole periods are counted (R10, R34). -/
def State.frameBack (s : State) (t : Stamp) (hi : Int) (upper : Stamp) : List (W64 × Stamp) → Int
  | [] => hi - s.periodsUp t upper
  | b :: r =>
    if stampLe b.2 t then min (hi - 1) (b.1.toNat + stampDiff t b.2 / s.period) else s.frameBack t b.1.toNat b.2 r

/-- The number of the frame that holds a stamp, counted also below the first frame (R10, R34). -/
def State.frameIdx (s : State) (t : Stamp) : Int :=
  if s.period = 0 then 0
  else if !s.bcn.ticked then stampDiff t s.epoch / s.period
  else if stampLe s.bcn.tickStamp t then
    let d := stampDiff t (s.tickAt s.bcn.nextN)
    if d < 0 then s.bcn.frame.toNat else s.bcn.nextN.toNat + d / s.period
  else s.frameBack t s.bcn.frame.toNat s.bcn.tickStamp s.bcn.bases

/-- The frame in which a stamp falls (R10); 0 before the first tick (R489). -/
def State.frameAt (s : State) (t : Stamp) : W64 :=
  if s.period == 0 || !s.bcn.started || decide (s.frameIdx t < s.bcn.first.toNat) then 0
  else BitVec.ofInt 64 (s.frameIdx t)

/-- BCN_CTL.RUN. -/
def State.runSet (s : State) : Bool := s.flagAt R.BCN_CTL 0

/-! ### Worlds (R311) -/

/-- Ant bay b is Sealed. -/
def State.baySealed (s : State) (b : Nat) : Bool := s.flagAt R.WD_BAY b
/-- Network port p is Sealed. -/
def State.portSealed (s : State) (p : Nat) : Bool := s.flagAt R.WD_NETPORT p
/-- Half h of the root ports is Sealed. -/
def State.pcieSealed (s : State) (h : Nat) : Bool := s.flagAt R.WD_PCIE h
/-- CAN FD controller c is Sealed. -/
def State.canSealed (s : State) (c : Nat) : Bool := s.flagAt R.WD_CAN c
/-- The world of a mailbox (R326). -/
def State.kpSealed (s : State) (m : Nat) : Bool := s.flagAt R.KP_MBW m
/-- State region r is Sealed; regions 0 and 1 never are (R311). -/
def State.regionSealed (s : State) (r : Nat) : Bool := decide (2 ≤ r) && s.flagAt R.WD_REGION r

/-- The sealed range that holds a device-physical address (R316). -/
def State.sealedAt (s : State) (pa : Nat) : Option SealRange :=
  (s.ranges.find? (fun p => bitAt p.2.base 31 &&
    decide (bitsAt p.2.base 0 21 ≤ pa / 2 ^ 21 ∧ pa / 2 ^ 21 < bitsAt p.2.base 0 21 + bitsAt p.2.cfg 0 16))).map (·.2)

/-! ### Cores, bays and tasks -/

/-- A core. -/
def State.core (s : State) (k : CoreId) : CoreSt := assocD s.cores k.val CoreSt.reset
/-- Replaces a core. -/
def State.setCore (s : State) (k : CoreId) (c : CoreSt) : State := { s with cores := assocSet s.cores k.val c }
/-- The private caches of a core. -/
def State.cc (s : State) (k : CoreId) : CoreCache := assocD s.cache.cores k.val {}
/-- Replaces the private caches of a core. -/
def State.setCc (s : State) (k : CoreId) (c : CoreCache) : State :=
  { s with cache := { s.cache with cores := assocSet s.cache.cores k.val c } }
/-- A bay. -/
def State.bay (s : State) (b : BayId) : Bay := assocD s.bays b.val {}
/-- Replaces a bay. -/
def State.setBay (s : State) (b : BayId) (x : Bay) : State := { s with bays := assocSet s.bays b.val x }
/-- A task's run-time record. -/
def State.rt (s : State) (t : TaskId) : TaskRt := assocD s.hive.rt t.val {}
/-- Replaces a task's run-time record. -/
def State.setRt (s : State) (t : TaskId) (x : TaskRt) : State :=
  { s with hive := { s.hive with rt := assocSet s.hive.rt t.val x } }
/-- CORE_STATE of a core (R119). -/
def State.cstat (s : State) (k : Nat) : CStat := assocD s.hive.cores k .reserve
/-- Sets CORE_STATE. -/
def State.setCstat (s : State) (k : Nat) (x : CStat) : State :=
  { s with hive := { s.hive with cores := assocSet s.hive.cores k x } }

/-- The core of a number taken modulo 144. -/
def coreOf (n : Nat) : CoreId := ⟨n % 144, Nat.mod_lt n (by decide)⟩
/-- The task of a number taken modulo 8,192. -/
def taskOf (n : Nat) : TaskId := ⟨n % 8192, Nat.mod_lt n (by decide)⟩
/-- The tile of a number taken modulo 72. -/
def tileOf (n : Nat) : TileId := ⟨n % 72, Nat.mod_lt n (by decide)⟩
/-- The bay of a number taken modulo 8. -/
def bayOf (n : Nat) : BayId := ⟨n % 8, Nat.mod_lt n (by decide)⟩
/-- The tile of a core: two cores a tile (R19). -/
def tileOfCore (k : CoreId) : TileId := tileOf (k.val / 2)

/-- The rail that BANK_V gives a pin's bank lies inside its range, by the last reading of its monitor (R123, R455, R533, R536). -/
def State.bankOk (s : State) (b : BayId) (u : Nat) : Bool :=
  let v33 := bitAt (s.rd (R.BANK_V b.val)) (u / 8)
  let x : Sensor := assocD s.lan.sensors (if v33 then 131 else 130) {}
  let n : Int := if v33 then 3300 else 1800
  !x.valid || decide ((x.value.toInt - n).natAbs * 100 ≤ n.toNat * 5)

end Sys2Proof.Machine
end

