-- ==== Sys2Proof/Machine/Backing.lean ====
section
/-! DEFINITION. Regions and state lines, and what the berths of the state unit hold: slots, metadata, side entries and touch lists (R58, R59, R63, R65 to R68, R79). -/

namespace Sys2Proof.Machine

/-! ### Regions (R58, R59) -/

/-- The first byte of the state window (R412). -/
def windowBase : Nat := 0x100000000000

/-- The line number of the first line of the window. -/
def windowLine : Nat := windowBase / 64

/-- Region r is enabled (R88). -/
def State.regEn (s : State) (r : Nat) : Bool := s.flagAt (R.REG_ATTR r) 0

/-- The first line of region r and the number of its lines. -/
def State.regLines (s : State) (r : Nat) : Nat × Nat :=
  (windowLine + s.fld (R.REG_BASE r) 0 19 * 32768, s.fld (R.REG_SIZE r) 0 16 * 32768)

/-- The enabled region that holds a line (R58). -/
def State.regionOf (s : State) (line : Nat) : Option Nat :=
  (List.range 16).find? (fun r => s.regEn r &&
    decide ((s.regLines r).1 ≤ line ∧ line < (s.regLines r).1 + (s.regLines r).2))

/-- Tasks may write region r: never region 0, always region 1 (R61). -/
def State.regTaskWr (s : State) (r : Nat) : Bool := r != 0 && (r == 1 || s.flagAt (R.REG_ATTR r) 1)

/-- The line contributes to the digest (R84). -/
def State.digestLine (s : State) (line : Nat) : Bool :=
  match s.regionOf line with
  | some r => s.flagAt (R.REG_ATTR r) 2
  | none => false

/-- The line belongs to a Sealed region. -/
def State.lineSealed (s : State) (line : Nat) : Bool :=
  match s.regionOf line with
  | some r => s.regionSealed r
  | none => false

/-! ### Lines (R65, R66) -/

/-- A line no write has reached since the first tick: slot A holds zero data (R66). -/
def State.sline0 (s : State) : SLine := { tagA := s.su.tag0 }

/-- The slots and metadata of a line. -/
def State.sline (s : State) (line : Nat) : SLine := assocD s.su.lines line s.sline0

/-- Replaces a line's slots and metadata. -/
def State.setSline (s : State) (line : Nat) (m : SLine) : State :=
  { s with su := { s.su with lines := if m = s.sline0 then assocDel s.su.lines line else assocSet s.su.lines line m } }

/-- The data of a slot: false A, true B. -/
def SLine.data (m : SLine) (p : Bool) : Line := if p then m.dataB else m.dataA
/-- The tag of a slot. -/
def SLine.tag (m : SLine) (p : Bool) : W32 := if p then m.tagB else m.tagA
/-- The LATE bit of a slot. -/
def SLine.late (m : SLine) (p : Bool) : Bool := if p then m.lateB else m.lateA
/-- The committed slot: the valid one that is not pending. -/
def SLine.committed (m : SLine) : Bool := if m.pend then !m.pslot else !m.valA
/-- The committed data. -/
def SLine.cdata (m : SLine) : Line := m.data m.committed

/-- A slot written with data, tag and LATE bit, and valid. -/
def SLine.putSlot (m : SLine) (p : Bool) (d : Line) (tag : W32) (late : Bool) : SLine :=
  if p then { m with dataB := d, tagB := tag, lateB := late, valB := true }
  else { m with dataA := d, tagA := tag, lateA := late, valA := true }

/-- A slot invalidated. -/
def SLine.invalid (m : SLine) (p : Bool) : SLine := if p then { m with valB := false } else { m with valA := false }

/-- commit(m) of R70: the pending slot becomes the committed one. -/
def SLine.commit (m : SLine) : SLine := { m.invalid (!m.pslot) with pend := false, held := false }

/-- drop(m, PSLOT) of R70: the pending slot is freed. -/
def SLine.drop (m : SLine) : SLine := { m.invalid m.pslot with pend := false, held := false }

/-- late_commit of the pending slot (R70). -/
def SLine.lateCommit (m : SLine) (tag : W32) : SLine :=
  { ((m.putSlot m.pslot (m.data m.pslot) tag true).invalid (!m.pslot)) with pend := false, held := false }

/-- late_commit of a side entry (R70): over a held version the committed slot is written in place. -/
def SLine.lateSide (m : SLine) (d : Line) (tag : W32) : SLine :=
  if m.pend then m.putSlot m.committed d tag true
  else
    let p := !m.committed
    { ((m.putSlot p d tag true).invalid (!p)) with pend := false, held := false }

/-- The entries of a touch list. -/
def State.touch (s : State) (n : Nat) : List TouchEnt := assocD s.su.touch n []

/-- The metadata word of a line (R65). -/
def SLine.meta (m : SLine) : V128 :=
  BitVec.ofNat 128 (m.tagA.toNat + m.tagB.toNat * 2 ^ 32 + bitIf m.valA 64 + bitIf m.valB 65 + bitIf m.pend 66 +
    bitIf m.pslot 67 + bitIf m.held 68 + bitIf m.lateA 69 + bitIf m.lateB 70 + bitIf m.side 71 +
    m.writer.val * 2 ^ 72 + bitIf m.digd 85)

/-! ### Backing berths (R63, R67, R68, R79) -/

/-- Four metadata words of 16 B in one line, the first lowest. -/
def metaLine (a b c d : V128) : Line := (d ++ c ++ b ++ a : BitVec 512)

/-- What line l of the n-th backing berth of a region of size units at base holds (R63): slot A, slot B, then the metadata in line order; beyond the last line, 0. -/
def State.regionBacking (s : State) (base size n l : Nat) : Line :=
  if n < size then (s.sline (base + n * 32768 + l)).dataA
  else if n < 2 * size then (s.sline (base + (n - size) * 32768 + l)).dataB
  else
    let i := ((n - 2 * size) * 32768 + l) * 4
    let word (j : Nat) : V128 := if i + j < size * 32768 then (s.sline (base + i + j)).meta else 0
    metaLine (word 0) (word 1) (word 2) (word 3)

/-- A side entry as its 128 B lie in DRAM, as two lines (R67). -/
def SideEnt.lines (x : SideEnt) : Line × Line :=
  (x.data, linePut (linePut (linePut (linePut 0 0 6 (x.line * 64)) 6 2 x.task.val) 8 4 x.frame.toNat) 12 1 (b2n x.held + 2 * b2n x.lost))

/-- What line l of the n-th side-store berth holds. The spec gives no hash: entry i in use lies at place i, and a free entry holds 0 (DESIGN CHOICE, log entry 73). -/
def State.sideBacking (s : State) (n l : Nat) : Line :=
  let i := n * 32768 + l
  match s.su.side[i / 2]? with
  | some x => if i % 2 = 0 then x.lines.1 else x.lines.2
  | none => 0

/-- A touch-list entry as its 8 B (R68). -/
def TouchEnt.word (e : TouchEnt) : W64 := BitVec.ofNat 64 (e.line * 64 + b2n e.lost)

/-- What line l of the n-th touch-list berth holds: the lists in order, 2^log entries of 8 B each (R68, R88). -/
def State.touchBacking (s : State) (log n l : Nat) : Line :=
  let i := (n * 32768 + l) * 8
  let ents := s.touch (i / 2 ^ log)
  foldRange (fun j d => match ents[i % 2 ^ log + j]? with
    | some e => linePut d (8 * j) 8 e.word.toNat
    | none => d) 0 8 (0 : Line)

/-- Berths a structure of n bytes takes. -/
def berthsFor (n : Nat) : Nat := (n + 2 ^ 21 - 1) / 2 ^ 21

/-- What line l of berth b holds where the berth belongs to the state unit (R63, R64, R67, R68): the state unit's own slots, metadata, side entries and touch lists, which therefore reach a migration's copy as they stand (R79). -/
def State.backedLine (s : State) (b l : Nat) : Option Line :=
  let side := s.fld R.SIDE_BERTH 0 21
  let touch := s.fld R.TOUCH_BERTH 0 21
  let sideLog := s.fld R.SIDE_SIZE 0 5
  let touchLog := s.fld R.TOUCH_SIZE 0 5
  match (List.range 16).find? (fun r => s.regEn r &&
      (let back := s.fld (R.REG_BACK r) 0 21
       let size := s.fld (R.REG_SIZE r) 0 16
       decide (back ≤ b ∧ b < back + 2 * size + (size + 3) / 4))) with
  | some r => some (s.regionBacking (s.regLines r).1 (s.fld (R.REG_SIZE r) 0 16) (b - s.fld (R.REG_BACK r) 0 21) l)
  | none =>
    if 10 ≤ sideLog ∧ side ≤ b ∧ b < side + berthsFor (128 * 2 ^ sideLog) then some (s.sideBacking (b - side) l)
    else if 12 ≤ touchLog ∧ touch ≤ b ∧ b < touch + berthsFor (288 * 8 * 2 ^ touchLog) then some (s.touchBacking touchLog (b - touch) l)
    else none

end Sys2Proof.Machine
end

