-- ==== Sys2Proof/Machine/Dram.lean ====
section
/-! DEFINITION. The raw operations of the memory controllers over DRAM: places, channel lines, the merge buffer, migration forwarding (R415, R416, R420, R425, R426). None of them journals. -/

namespace Sys2Proof.Machine

/-- The berth-table entry of a berth (R416). -/
def State.btEntry (s : State) (b : Nat) : W32 := assocD s.mem.bt b 0

/-- Stores a berth-table entry. -/
def State.setBt (s : State) (b : Nat) (e : W32) : State :=
  { s with mem := { s.mem with bt := if e = 0 then assocDel s.mem.bt b else assocSet s.mem.bt b e } }

/-- BT_COUNT (R418). -/
def State.btCount (s : State) : Nat := s.fld R.BT_COUNT 0 21

/-- The channel and the channel line of a device-physical address in a placed berth (R413, R415, R416). -/
def State.placeOf (s : State) (pa : Nat) : Option (Nat × Nat) :=
  let b := pa / 2 ^ 21
  let e := s.btEntry b
  if b < s.btCount ∧ bitAt e 27 then some (bitsAt e 0 4, bitsAt e 4 17 * 32768 + (pa % 2 ^ 21) / 64) else none

/-- The berth whose place holds a channel line. -/
def State.berthAt (s : State) (ch cl : Nat) : Option Nat :=
  (s.mem.bt.find? (fun p => bitAt p.2 27 && bitsAt p.2 0 4 == ch && bitsAt p.2 4 17 == cl / 32768)).map (·.1)

/-- The device-physical address of a channel line, or 0 where no berth holds it. -/
def State.addrOf (s : State) (ch cl : Nat) : Nat :=
  match s.berthAt ch cl with
  | some b => b * 2 ^ 21 + (cl % 32768) * 64
  | none => 0

/-- A memory controller. -/
def State.memc (s : State) (ch : Nat) : Memc := assocD s.mem.memc ch {}

/-- Replaces a memory controller. -/
def State.setMemc (s : State) (ch : Nat) (m : Memc) : State :=
  { s with mem := { s.mem with memc := assocSet s.mem.memc ch m } }

/-- The address of a channel line's first byte in the DRAM array. -/
def dramKey (ch cl : Nat) : Nat := ch * 2 ^ 38 + cl * 64

/-- The key of a channel line in the poison list. -/
def poisonKey (ch cl : Nat) : Nat := ch * 2 ^ 32 + cl

/-- The berth whose contents a channel line holds, and its line there: of its own place, or of a copy's target that the copy pointer has passed (R416, R420). -/
def State.contentsOf (s : State) (ch cl : Nat) : Option (Nat × Nat) :=
  let l := cl % 32768
  match s.berthAt ch cl with
  | some b => some (b, l)
  | none => (s.mem.copies.find? (fun p => p.2.dstCh == ch && p.2.dstOff == cl / 32768 &&
      (decide (l < p.2.ptr) || (l == p.2.ptr && p.2.readSent)))).map (fun p => (p.2.berth, l))

/-- A line as the DRAM devices hold it: the state unit's berths hold its slots, metadata, side entries and touch lists (R63, R79). -/
def State.dramLine (s : State) (ch cl : Nat) : Line :=
  match (s.contentsOf ch cl).bind (fun p => s.backedLine p.1 p.2) with
  | some d => d
  | none => lineOf (cellRead 0 s.mem.dram (dramKey ch cl) 64)

/-- A line holds the poison code (R426). -/
def State.dramPoison (s : State) (ch cl : Nat) : Bool := s.mem.poison.contains (poisonKey ch cl)

/-- Writes the masked bytes of a line into the array. -/
def State.dramPut (s : State) (ch cl : Nat) (mask : BitVec 64) (data : Line) : State :=
  { s with mem := { s.mem with dram := cellWriteMask 0 s.mem.dram (dramKey ch cl) mask data 0 64 } }

/-- Marks or clears the poison code of a line. -/
def State.setPoison (s : State) (ch cl : Nat) (p : Bool) : State :=
  let k := poisonKey ch cl
  { s with mem := { s.mem with poison :=
      if p then (if s.mem.poison.contains k then s.mem.poison else k :: s.mem.poison) else s.mem.poison.filter (· != k) } }

/-- The array write of R426: a write of the poison code poisons, a narrow write leaves poison, only a write of all 64 bytes clears it. -/
def State.arrayWrite (s : State) (ch cl : Nat) (mask : BitVec 64) (data : Line) (poison : Bool) : State :=
  let s := s.dramPut ch cl mask data
  if poison then s.setPoison ch cl true else if mask = fullMask then s.setPoison ch cl false else s

/-- The copy whose source place holds a channel line (R419). -/
def State.copyOn (s : State) (ch cl : Nat) : Option (Nat × Copy) :=
  s.mem.copies.find? (fun p => p.2.srcCh == ch && p.2.srcOff == cl / 32768)

/-- Replaces a copy slot. -/
def State.setCopy (s : State) (i : Nat) (c : Copy) : State :=
  { s with mem := { s.mem with copies := assocSet s.mem.copies i c } }

/-- The day of R427, in ns. -/
def hardWindow : Nat := 86400000000000

/-- An entry of the hard table is in use at a stamp (R427): its window has not passed. -/
def HardEnt.live (e : HardEnt) (t : Stamp) : Bool := decide ((t - e.stamp).toNat < hardWindow)

/-- A corrective write is performed: the line's entry is filled, over the oldest one when all 256 are in use; an entry in use stays (R427). -/
def State.hardFill (s : State) (ch cl : Nat) (device codeword : Nat) : State :=
  let m := s.memc ch
  let live := m.hard.filter (fun e => e.live s.now)
  if live.any (fun e => e.line == cl && e.hard) then s
  else
    let rest := live.filter (fun e => e.line != cl)
    let kept := if rest.length < 256 then rest
      else match rest.foldl (fun (best : Option HardEnt) e => match best with
          | none => some e
          | some b => if (s.now - b.stamp).toNat < (s.now - e.stamp).toNat then some e else some b) none with
        | some old => rest.erase old
        | none => rest
    s.setMemc ch { m with hard := kept ++ [{ line := cl, device := device, codeword := codeword, stamp := s.now, hard := false }] }

/-- The corrective write of R427, where a write is one. -/
def State.corrDone (s : State) (ch cl : Nat) (corr : Option (Nat × Nat)) : State :=
  match corr with
  | some (d, w) => (s.bump (R.CNT_CORR_WR ch)).hardFill ch cl d w
  | none => s

/-- A write performed by a controller: in the array, and toward the target of a copy under R420. -/
def State.performWrite (s : State) (ch cl : Nat) (mask : BitVec 64) (data : Line) (poison : Bool) (corr : Option (Nat × Nat)) : State :=
  match s.copyOn ch cl with
  | none => (s.arrayWrite ch cl mask data poison).corrDone ch cl corr
  | some (i, c) =>
    let l := cl % 32768
    if c.unacked.contains l || (l == c.ptr && c.readSent) then
      s.setCopy i { c with heldWr := c.heldWr ++ [{ line := cl, mask := mask, data := data, poison := poison, corr := corr }] }
    else
      let s := (s.arrayWrite ch cl mask data poison).corrDone ch cl corr
      if l < c.ptr then
        (s.arrayWrite c.dstCh (c.dstOff * 32768 + l) mask data poison).setCopy i { c with unacked := c.unacked ++ [l] }
      else s

/-- The writes to a channel line that a copy holds back, oldest first. -/
def State.heldOf (s : State) (ch cl : Nat) : List MergeEnt :=
  match s.copyOn ch cl with
  | none => []
  | some (_, c) => c.heldWr.filter (fun e => e.line == cl)

/-- A line with a write laid over it. -/
def overlay (x : Line × Bool) (e : MergeEnt) : Line × Bool :=
  (mergeLine x.1 e.data e.mask, e.poison || (x.2 && e.mask != fullMask))

/-- What a read of a channel line returns: DRAM data, the writes held for a copy and the merge buffer laid over it, and whether it is poisoned (R425). -/
def State.readChan (s : State) (ch cl : Nat) : Line × Bool :=
  let m := s.memc ch
  let waiting := match m.input with
    | some e => [e]
    | none => []
  ((s.heldOf ch cl ++ (m.merge ++ waiting).filter (fun e => e.line == cl)).foldl overlay
    (s.dramLine ch cl, s.dramPoison ch cl))

/-- A controller has read a line of its channel: one that holds the poison code waits for its log entry (R426, R429). -/
def State.noteRead (s : State) (ch cl : Nat) : State :=
  if s.dramPoison ch cl then { s with mem := { s.mem with seen := s.mem.seen ++ [(ch, cl)] } } else s

/-- Drains the oldest merge entry: the line is read first where the mask is not full, and its masked bytes are written, over poison that stays (R425, R426). -/
def State.drainOne (s : State) (ch : Nat) : State :=
  let m := s.memc ch
  match m.merge with
  | [] => s
  | e :: r =>
    let s := if e.mask = fullMask then s else s.noteRead ch e.line
    let s := s.performWrite ch e.line e.mask e.data e.poison e.corr
    let m := s.memc ch
    match m.input with
    | none => s.setMemc ch { m with merge := r }
    | some w => s.setMemc ch { m with merge := r ++ [w], input := none }

/-- Drains n entries. -/
def State.drainN (s : State) (ch : Nat) : Nat → State
  | 0 => s
  | n + 1 => (s.drainOne ch).drainN ch n

/-- A merge entry with a later write laid over it (R425). -/
def mergeInto (e : MergeEnt) (mask : BitVec 64) (data : Line) (poison : Bool) : MergeEnt :=
  { e with mask := e.mask ||| mask, data := mergeLine e.data data mask,
           poison := poison || (e.poison && mask != fullMask), corr := none }

/-- A write at a controller (R425): merged into the line's entry, performed where the request covers all 64 bytes (whole), entered otherwise; with all 32 entries in use a narrow write takes the input entry.
A write that finds the input entry taken has deflected until a drain freed it (R400). -/
def State.chanWrite (s : State) (ch cl : Nat) (mask : BitVec 64) (data : Line) (poison whole : Bool) : State :=
  let s := if (s.memc ch).input.isSome then s.drainOne ch else s
  let m := s.memc ch
  if m.merge.any (fun e => e.line == cl) then
    (s.setMemc ch { m with merge := m.merge.map (fun e => if e.line == cl then mergeInto e mask data poison else e) }).bump (R.CNT_MERGE ch)
  else if whole then s.performWrite ch cl mask data poison none
  else
    let ent : MergeEnt := { line := cl, mask := mask, data := data, poison := poison, corr := none }
    if m.merge.length < 32 then
      (s.setMemc ch { m with merge := m.merge ++ [ent] }).peak (R.MERGE_PEAK ch) 0 6 (m.merge.length + 1)
    else (s.setMemc ch { m with input := some ent }).flag (R.MC_STATUS ch) 6

/-! ### Encryption (R316)

The encryption unit stands between the requests and what the controller keeps: the merge buffer, ECC, the patrol, copies and the array hold ciphertext. -/

/-- The key pair under which a device-physical address is kept: that of the enclave of its sealed range (R316). -/
def State.keyAt (s : State) (pa : Nat) : Option (BitVec 512) :=
  (s.sealedAt pa).bind (fun r => assoc? s.keeper.keys (bitsAt r.cfg 16 6))

/-- A line as it passes the encryption unit under f, with data unit number address bits [45:6]. -/
def State.cipher (s : State) (f : BitVec 512 → Nat → Line → Line) (pa : Nat) (d : Line) : Line :=
  match s.keyAt pa with
  | some k => f k (pa / 64 % 2 ^ 40) d
  | none => d

/-- A read of a channel line for the device-physical address that it holds: decrypted in a sealed range. -/
def State.openChan (s : State) (pa ch cl : Nat) : Line × Bool :=
  let r := s.readChan ch cl
  (s.cipher xtsOpen pa r.1, r.2)

/-- A write of a channel line for the device-physical address that it holds: encrypted in a sealed range, where the merge takes place first and the entry holds the whole line (R316, R425). -/
def State.sealChan (s : State) (pa ch cl : Nat) (mask : BitVec 64) (data : Line) (poison : Bool) : State :=
  if (s.sealedAt pa).isNone then s.chanWrite ch cl mask data poison (mask == fullMask)
  else if mask == fullMask then s.chanWrite ch cl fullMask (s.cipher xtsSeal pa data) poison true
  else
    let old := s.openChan pa ch cl
    s.chanWrite ch cl fullMask (s.cipher xtsSeal pa (mergeLine old.1 data mask)) (poison || old.2) false

/-- A read of a device-physical line: data and poison; an unplaced line reads zeros (R413). -/
def State.readPa (s : State) (pa : Nat) : Line × Bool :=
  match s.placeOf pa with
  | some (ch, cl) => s.openChan pa ch cl
  | none => (0, false)

/-- A write of a device-physical line; a write to an unplaced line is dropped (R413). -/
def State.writePa (s : State) (pa : Nat) (mask : BitVec 64) (data : Line) (poison : Bool) : State :=
  match s.placeOf pa with
  | none => s
  | some (ch, cl) => s.sealChan pa ch cl mask data poison

end Sys2Proof.Machine
end

