-- ==== Sys2Proof/Machine/Coh.lean ====
section
/-! DEFINITION. The caches, the directory and the home slices: replacement, lookups and whole transactions (chapter Caches and Coherence). -/

namespace Sys2Proof.Machine

/-! ### Tree pseudo-LRU (R360): bit n of the number is node n, node 1 is the root, and a 1 points to the right subtree -/

/-- The bits after an access to the way whose leaf, or to the node, given: every node on the path points away. -/
def plruUp (bits node : Nat) : Nat → Nat
  | 0 => bits
  | d + 1 =>
    let p := node / 2
    let b := bits % 2 ^ p + (if node % 2 = 0 then 2 ^ p else 0) + (bits / 2 ^ (p + 1)) * 2 ^ (p + 1)
    plruUp b p d

/-- The bits of a tree of 2^levels ways after an access to a way. -/
def plruTouch (levels bits way : Nat) : Nat := plruUp bits (2 ^ levels + way) levels

/-- Some way under a node, d levels above the leaves, may be used. -/
def plruHas (levels node d : Nat) (ok : Nat → Bool) : Bool :=
  (rangeFrom (node * 2 ^ d - 2 ^ levels) (2 ^ d)).any ok

/-- The way reached by following the bits from a node; the other subtree is taken where the chosen one holds no usable way. -/
def plruWalk (levels bits node : Nat) (ok : Nat → Bool) : Nat → Nat
  | 0 => node - 2 ^ levels
  | d + 1 =>
    let c := 2 * node + (bits / 2 ^ node) % 2
    let c := if plruHas levels c d ok then c else if c % 2 = 0 then c + 1 else c - 1
    plruWalk levels bits c ok d

/-- The victim way of R360: the lowest-numbered invalid usable way, else the walk from the root; none where no way may be used. -/
def plruVictim (levels bits : Nat) (used : List Nat) (ok : Nat → Bool) : Option Nat :=
  let ways := (List.range (2 ^ levels)).filter ok
  if ways.isEmpty then none
  else match ways.find? (fun w => !used.contains w) with
    | some w => some w
    | none => some (plruWalk levels bits 1 ok levels)

/-! ### Homes (R368) -/

/-- The h of R368: the XOR of the SIZE-bit fields of address bits [45:6], from bit 6 upward. -/
def homeHash (line size : Nat) : Nat → Nat
  | 0 => 0
  | n + 1 => if size = 0 then 0 else (line % 2 ^ size) ^^^ homeHash (line / 2 ^ size) size n

/-- The home set of an affinity class: first slice and log2 of its size (R102). -/
def State.homeSet (s : State) (cls : Nat) : Nat × Nat := assocD s.hive.homes cls (0, 0)

/-- The slice of a home set that serves a line. -/
def homeIn (h : Nat × Nat) (line : Nat) : TileId := tileOf (h.1 + homeHash line h.2 40)

/-- The berth that a line belongs to: of a line of the state window, the slot-A backing berth of its region (R63, R368). -/
def State.classBerth (s : State) (line : Nat) : Nat :=
  if line < windowLine then line / 32768
  else match s.regionOf line with
    | some r => s.fld (R.REG_BACK r) 0 21 + (line - (s.regLines r).1) / 32768
    | none => line / 32768

/-- The class of the berth that holds a line (R368, R416). -/
def State.classOf (s : State) (line : Nat) : Nat := bitsAt (s.btEntry (s.classBerth line)) 21 6

/-- The home slice of a line of DRAM or of the state window (R368). -/
def State.homeOf (s : State) (line : Nat) : TileId := homeIn (s.homeSet (s.classOf line)) line

/-- A line that has a home: one of DRAM or of the state window; a line of the PCIe windows or control space has none (R368, R412). -/
def homed (line : Nat) : Bool := decide (line < 0x110000000000 / 64)

/-- The vertical ring of a core: V(t mod 9) (R18, R370). -/
def ringOf (k : CoreId) : Nat := (k.val / 2) % 9

/-! ### Lookups -/

/-- A core's L2 copy of a line. -/
def State.l2Find (s : State) (k : CoreId) (line : Nat) : Option L2Line := (s.cc k).l2.find? (fun x => x.line == line)

/-- A core's eviction-buffer entry for a line. -/
def State.ebFind (s : State) (k : CoreId) (line : Nat) : Option EbEnt := (s.cc k).eb.find? (fun x => x.line == line)

/-- The L3 copy of a line at its home. -/
def State.l3Find (s : State) (line : Nat) : Option L3Line := s.cache.l3.find? (fun x => x.line == line)

/-- The directory entry of a line. -/
def State.dirFind (s : State) (line : Nat) : Option DirEnt := s.cache.dir.find? (fun x => x.line == line)

/-- The transaction in progress on a line. -/
def State.txnFind (s : State) (line : Nat) : Option Txn := s.cache.txns.find? (fun x => x.line == line)

/-- Records a message sent. -/
def State.sendCoh (s : State) (m : CohMsg) : State := { s with cache := { s.cache with out := m :: s.cache.out } }

/-- Sets or drops a directory entry. -/
def State.setDir (s : State) (line : Nat) (e : Option DirEnt) : State :=
  let r := s.cache.dir.filter (fun x => x.line != line)
  { s with cache := { s.cache with dir := match e with
      | some d => d :: r
      | none => r } }

/-- Replaces the transaction of a line. -/
def State.setTxn (s : State) (line : Nat) (t : Option Txn) : State :=
  let r := s.cache.txns.filter (fun x => x.line != line)
  { s with cache := { s.cache with txns := match t with
      | some d => d :: r
      | none => r } }

/-! ### The L3 (R359, R367, R372, R380, R387) -/

/-- The index of an L3 set's replacement bits; the set is taken from the low bits of the line number. -/
def l3Set (t : TileId) (line : Nat) : Nat := t.val * 2048 + line % 2048

/-- A logical way that replacement may use: neither locked nor out of service (R360, R387). -/
def State.l3WayOk (s : State) (t : TileId) (w : Nat) : Bool :=
  !(s.flagAt (R.L3_LOCK t.val) w) && !((assocD s.cache.deadWays t.val []).contains w)

/-- Changes the L3 copy of a line. -/
def State.l3Map (s : State) (line : Nat) (f : L3Line → L3Line) : State :=
  { s with cache := { s.cache with l3 := s.cache.l3.map (fun y => if y.line == line then f y else y) } }

/-- Marks an access to an L3 way. -/
def State.l3Touch (s : State) (t : TileId) (line w : Nat) : State :=
  let k := l3Set t line
  { s with cache := { s.cache with plru3 := assocSet s.cache.plru3 k (plruTouch 4 (assocD s.cache.plru3 k 0) w) } }

/-- Removes a line from the L3. -/
def State.l3Drop (s : State) (line : Nat) : State :=
  { s with cache := { s.cache with l3 := s.cache.l3.filter (fun x => x.line != line) } }

/-- Writes a dirty L3 line to the memory controller of its berth (R367, R426). -/
def State.l3Clean (s : State) (line : Nat) : State :=
  match s.l3Find line with
  | none => s
  | some x =>
    if x.dirty then
      (s.writePa (line * 64) fullMask x.data (x.poison != 0)).l3Map line (fun y => { y with dirty := false })
    else s

/-- Puts a line into a way of its home slice, writing back what was there. -/
def State.l3PutWay (s : State) (t : TileId) (line w : Nat) (data : Line) (dirty : Bool) (poison : Nat) : State :=
  let olds := s.cache.l3.filter (fun x => x.home == t && x.way == w && x.line % 2048 == line % 2048 && x.line != line)
  let s := olds.foldl (fun s x => (s.l3Clean x.line).l3Drop x.line) s
  let s := s.l3Drop line
  let ent : L3Line := { line := line, home := t, way := w, data := data, dirty := dirty, cls := s.classOf line, poison := poison }
  ({ s with cache := { s.cache with l3 := ent :: s.cache.l3 } } : State).l3Touch t line w

/-- Allocates a line at its home, where replacement has a way for it; otherwise a dirty line goes to memory. -/
def State.l3Alloc (s : State) (line : Nat) (data : Line) (dirty : Bool) (poison : Nat) : State :=
  match s.l3Find line with
  | some x =>
    (s.l3Map line (fun y => { y with data := data, dirty := dirty || x.dirty, poison := poison })).l3Touch x.home line x.way
  | none =>
    let t := s.homeOf line
    let used := (s.cache.l3.filter (fun x => x.home == t && x.line % 2048 == line % 2048)).map (·.way)
    match plruVictim 4 (assocD s.cache.plru3 (l3Set t line) 0) used (s.l3WayOk t) with
    | some w => s.l3PutWay t line w data dirty poison
    | none => if dirty then s.writePa (line * 64) fullMask data (poison != 0) else s

/-- The home's memory read (R372): its L3, or DRAM where the L3 misses, with the SUB of poisoned data (R426). -/
def State.memoryRead (s : State) (line : Nat) : Line × Nat :=
  match s.l3Find line with
  | some x => (x.data, x.poison)
  | none =>
    let r := s.readPa (line * 64)
    (r.1, if r.2 then 2 else 0)

/-- What the SECDED of the L3 finds as the home looks a line up by itself: a free value (log entry 90). A clean line in error is discarded and read again, a dirty one is poisoned (R387); counting and journaling follow (`State.l3Seen`). -/
def State.l3Look (s : State) (line : Nat) : State :=
  match s.l3Find line with
  | none => s
  | some x =>
    let r := s.free 8
    let note (s : State) (e : L3Ecc) : State := { s with cache := { s.cache with l3seen := s.cache.l3seen ++ [(x, e)] } }
    if r.1 = 1 then note r.2 (.corrected false)
    else if r.1 = 2 then note r.2 (.corrected true)
    else if r.1 = 3 then note (if x.dirty then r.2.l3Map line (fun y => { y with poison := 3 }) else r.2.l3Drop line) .uncorrectable
    else r.2

/-- A memory read for a fill: the L3 allocates the line where it misses and alloc is set (R361). -/
def State.memoryFill (s : State) (line : Nat) (alloc : Bool) : (Line × Nat) × State :=
  let r := s.memoryRead line
  match s.l3Find line with
  | some x => (r, s.l3Touch x.home line x.way)
  | none =>
    let s := match s.placeOf (line * 64) with
      | some p => s.noteRead p.1 p.2
      | none => s
    (r, if alloc then s.l3Alloc line r.1 false r.2 else s)

/-- A write at the home (R372): into the L3 where the line is present or the policy allocates, else to the merge buffer. -/
def State.homeWrite (s : State) (line : Nat) (mask : BitVec 64) (data : Line) (alloc : Bool) (poison : Nat) : State :=
  match s.l3Find line with
  | some x =>
    let p := if poison != 0 then poison else if mask = fullMask then 0 else x.poison
    (s.l3Map line (fun y => { y with data := mergeLine y.data data mask, dirty := true, poison := p })).l3Touch x.home line x.way
  | none =>
    if alloc then
      let old := s.memoryRead line
      s.l3Alloc line (mergeLine old.1 data mask) true (if poison != 0 then poison else if mask = fullMask then 0 else old.2)
    else s.writePa (line * 64) mask data (poison != 0)

/-! ### The private caches (R359, R365, R366, R373) -/

/-- The set of a line in an L2 and in an L1D. -/
def l2Set (line : Nat) : Nat := line % 2048
/-- The L1D set of a line. -/
def l1Set (line : Nat) : Nat := line % 128

/-- Drops a line from an L2, and so from its L1D. -/
def State.l2Drop (s : State) (k : CoreId) (line : Nat) : State :=
  s.setCc k { s.cc k with l2 := (s.cc k).l2.filter (fun x => x.line != line) }

/-- Replaces an L2 line. -/
def State.l2Set' (s : State) (k : CoreId) (x : L2Line) : State :=
  s.setCc k { s.cc k with l2 := (s.cc k).l2.map (fun y => if y.line == x.line then x else y) }

/-- Frees the eviction-buffer entry of a line. -/
def State.ebFree (s : State) (k : CoreId) (line : Nat) : State :=
  s.setCc k { s.cc k with eb := (s.cc k).eb.filter (fun x => x.line != line) }

/-- A snoop of one L2 (R373): what it answers and what it keeps. The answer is the data of an owner and whether a dirty copy goes to the home. -/
def State.snoopL2 (s : State) (k : CoreId) (kind : ReqKind) (line : Nat) : Option (Line × Bool × Nat) × State :=
  match s.l2Find k line with
  | some x =>
    match x.st, kind with
    | .m, .rdS => (some (x.data, true, x.poison), s.l2Set' k { x with st := .s })
    | .m, .rdX => (some (x.data, true, x.poison), s.l2Drop k line)
    | .m, _ => (some (x.data, true, x.poison), s.l2Set' k { x with st := .e })
    | .e, .rdS => (some (x.data, false, x.poison), s.l2Set' k { x with st := .s })
    | .e, .rdX => (some (x.data, false, x.poison), s.l2Drop k line)
    | .e, _ => (none, s)
    | .s, .rdX => (none, s.l2Drop k line)
    | .s, _ => (none, s)
  | none =>
    match s.ebFind k line with
    | some e => (some (e.data, true, e.poison), if e.sent then s else s.ebFree k line)
    | none => (none, s)

/-- The cores on the rings of a MASK, in ring order. -/
def maskCores (mask : BitVec 9) : List CoreId :=
  ((List.range 144).map coreOf).filter (fun k => bitAt mask (ringOf k))

/-- A snoop along every ring of MASK, sparing one core (R372, R373): the answers joined. -/
def State.snoopMask (s : State) (mask : BitVec 9) (kind : ReqKind) (line : Nat) (spare : Option CoreId) : Option (Line × Bool × Nat) × State :=
  (maskCores mask).foldl (fun (acc : Option (Line × Bool × Nat) × State) k =>
    if spare = some k then acc
    else
      let r := acc.2.snoopL2 k kind line
      match r.1 with
      | some a => (some a, r.2)
      | none => (acc.1, r.2)) (none, s)

/-- A dirty victim enters the eviction buffer unsent (R365). -/
def State.evictDirty (s : State) (k : CoreId) (x : L2Line) : State :=
  s.setCc k { s.cc k with eb := (s.cc k).eb ++ [{ line := x.line, data := x.data, sent := false, poison := x.poison, key := x.key }] }

/-- The writeback of an unsent entry leaves for its home (R365).
DESIGN CHOICE (log entry 79): it does so as time passes, or at the latest as the WB reaches the home. -/
def State.ebSend (s : State) (k : CoreId) (line : Nat) : State :=
  match s.ebFind k line with
  | some e =>
    if e.sent then s
    else (s.setCc k { s.cc k with eb := (s.cc k).eb.map (fun x => if x.line == line then { x with sent := true, since := s.now } else x) }).sendCoh (.wb k line e.data)
  | none => s

/-- Every unsent writeback leaves. -/
def State.ebSendAll (s : State) : State :=
  s.cache.cores.foldl (fun s p => (p.2.eb.filter (fun e => !e.sent)).foldl (fun s e => s.ebSend (coreOf p.1) e.line) s) s

/-- Removes an L2 line: a dirty one leaves through the eviction buffer, a clean one without a message (R365). -/
def State.l2Evict (s : State) (k : CoreId) (x : L2Line) : State :=
  let s := s.l2Drop k x.line
  if x.st = .m then s.evictDirty k x else s

/-- An L2 can take a line: a way is free or clean, or the eviction buffer has room (R365). -/
def State.ebFull (s : State) (k : CoreId) : Bool := decide (16 ≤ (s.cc k).eb.length)

/-- Marks an access to a way of the L2 and of the L1D. -/
def State.l2Touch (s : State) (k : CoreId) (line way : Nat) : State :=
  let c := s.cc k
  s.setCc k { c with plru2 := assocSet c.plru2 (l2Set line) (plruTouch 3 (assocD c.plru2 (l2Set line) 0) way) }

/-- Puts a line into the L1D beside its L2 copy, replacing a victim whose data the L2 already holds (R359). -/
def State.l1Fill (s : State) (k : CoreId) (line : Nat) : State :=
  let c := s.cc k
  let touch (c : CoreCache) (w : Nat) : CoreCache :=
    { c with plru1 := assocSet c.plru1 (l1Set line) (plruTouch 3 (assocD c.plru1 (l1Set line) 0) w) }
  match (c.l2.find? (fun x => x.line == line)).bind (·.l1way) with
  | some w => s.setCc k (touch c w)
  | none =>
    let used := (c.l2.filter (fun x => l1Set x.line == l1Set line)).filterMap (·.l1way)
    match plruVictim 3 (assocD c.plru1 (l1Set line) 0) used (fun _ => true) with
    | none => s
    | some w =>
      let l2 := c.l2.map (fun x =>
        if x.line == line then { x with l1way := some w }
        else if l1Set x.line == l1Set line && x.l1way == some w then { x with l1way := none } else x)
      s.setCc k (touch { c with l2 := l2 } w)

/-- Fills a line into an L2, evicting a victim (R359, R360, R365); key: the version key of a state-window line (R385). -/
def State.l2Fill (s : State) (k : CoreId) (line : Nat) (st : LineSt) (data : Line) (poison : Nat) (key : Option StKey := none) : State :=
  match s.l2Find k line with
  | some x => (s.l2Set' k { x with st := st, data := data, poison := poison, key := key }).l2Touch k line x.way
  | none =>
    let c := s.cc k
    let inSet := c.l2.filter (fun x => l2Set x.line == l2Set line)
    match plruVictim 3 (assocD c.plru2 (l2Set line) 0) (inSet.map (·.way)) (fun _ => true) with
    | none => s
    | some w =>
      let s := (inSet.filter (fun x => x.way == w)).foldl (fun s x => s.l2Evict k x) s
      let c := s.cc k
      (s.setCc k { c with l2 := { line := line, st := st, data := data, way := w, l1way := none, poison := poison, key := key } :: c.l2 }).l2Touch k line w

/-- An access by a core to its own eviction buffer (R366): an unsent entry returns to the L2 in its former state. -/
def State.ebRecall (s : State) (k : CoreId) (line : Nat) : State :=
  match s.ebFind k line with
  | some e => if e.sent then s else (s.ebFree k line).l2Fill k line .m e.data e.poison e.key
  | none => s

/-! ### Directory room (R379) -/

/-- The directory set of a line. -/
def dirSet (line : Nat) : Nat := line % 4096

/-- The directory entries of the set of a line at its home. -/
def State.dirInSet (s : State) (t : TileId) (line : Nat) : List DirEnt :=
  s.cache.dir.filter (fun d => d.home == t && dirSet d.line == dirSet line)

/-- The ways of the set of a line that open transactions on lines without an entry have taken (R379). -/
def State.dirHeld (s : State) (t : TileId) (line : Nat) : List Nat :=
  (s.cache.txns.filter (fun x => x.home == t && dirSet x.line == dirSet line)).filterMap (·.way)

/-- The way of a directory set for a new entry: a free one, or the pseudo-LRU victim among the stable entries (R360, R379). -/
def State.dirWay (s : State) (line : Nat) : Option Nat :=
  let t := s.homeOf line
  let l := s.dirInSet t line
  let held := s.dirHeld t line
  let stable (w : Nat) : Bool := !held.contains w && !l.any (fun d => d.way == w && (s.txnFind d.line).isSome)
  plruVictim 4 (assocD s.cache.plruD (t.val * 4096 + dirSet line) 0) (l.map (·.way) ++ held) stable

/-- An access to a directory way. -/
def State.dirTouch (s : State) (t : TileId) (line way : Nat) : State :=
  let k := t.val * 4096 + dirSet line
  { s with cache := { s.cache with plruD := assocSet s.cache.plruD k (plruTouch 4 (assocD s.cache.plruD k 0) way) } }

/-- Makes room for a line in the directory set of its home, recalling a victim at once: none where every way is transient (R379). An entry that the line has is accessed (R360). -/
def State.dirRoom (s : State) (line : Nat) : Option State :=
  match s.dirFind line with
  | some e => some (s.dirTouch e.home line e.way)
  | none =>
    match s.dirWay line with
    | none => none
    | some w =>
      match (s.dirInSet (s.homeOf line) line).find? (fun d => d.way == w) with
      | none => some s
      | some v =>
        let s := s.bump (R.CNT_DIR_EVICT v.home.val)
        let r := s.snoopMask v.mask .rdX v.line none
        let s := match r.1 with
          | some (d, true, p) => r.2.homeWrite v.line fullMask d true p
          | _ => r.2
        some (s.setDir v.line none)

/-! ### The requester's side (R371, R374, R376) -/

/-- A core's request waiting for its home. -/
def State.mshrFind (s : State) (k : CoreId) (line : Nat) : Option Mshr := (s.cc k).mshr.find? (fun m => m.line == line)

/-- Sets or drops the request of a line. -/
def State.setMshr (s : State) (k : CoreId) (line : Nat) (m : Option Mshr) : State :=
  let c := s.cc k
  let r := c.mshr.filter (fun x => x.line != line)
  s.setCc k { c with mshr := match m with
    | some x => r ++ [x]
    | none => r }

/-- A core's request for a line, where it had one waiting, is complete. -/
def State.mshrDrop (s : State) (k : CoreId) (line : Nat) : State := if (s.mshrFind k line).isSome then s.setMshr k line none else s

/-! ### Whole transactions at the home (R372 to R374) -/

/-- Requests for a line are NACKed: a transaction is in progress on it, or its class is being drained (R369, R375). -/
def State.lineBusy (s : State) (line : Nat) : Bool :=
  (s.txnFind line).isSome || s.cache.drains.any (fun d => d.cls == s.classOf line)

/-- A request for a line cannot start: its line is busy, or it has no directory entry and every way of its set is transient (R375, R379). -/
def State.lineBlocked (s : State) (line : Nat) : Bool :=
  s.lineBusy line || ((s.dirFind line).isNone && (s.dirWay line).isNone)

/-- The home takes a request for a line: its L3 is looked up, and a directory way found (R379, R387). -/
def State.homeOpen (s : State) (line : Nat) : Option State := (s.l3Look line).dirRoom line

/-- A directory entry of a line at its home (R369, R370), in the way it has or that its transaction has taken. -/
def State.dirEnt (s : State) (line : Nat) (excl : Bool) (mask : BitVec 9) (owner : CoreId) : DirEnt :=
  let w := match s.dirFind line with
    | some e => e.way
    | none => ((s.txnFind line).bind (·.way)).getD ((s.dirWay line).getD 0)
  ⟨line, s.homeOf line, s.classOf line, excl, mask, owner, w⟩

/-- Records a directory entry, an access to its way. -/
def State.putDir (s : State) (e : DirEnt) : State := (s.setDir e.line (some e)).dirTouch e.home e.line e.way

/-- RD_S from start to DONE: data and poison SUB, with the line filled (R372, R374). fetch asks for a shared grant. -/
def State.cohRdS (s : State) (k : CoreId) (line : Nat) (fetch alloc : Bool) : Option ((Line × Nat) × State) :=
  match s.homeOpen line with
  | none => none
  | some s =>
    let ring : BitVec 9 := (1 : BitVec 9) <<< ringOf k
    let shared (s : State) (mask : BitVec 9) : State :=
      s.putDir (s.dirEnt line false (mask ||| ring) k)
    let finish (s : State) (d : Line) (p : Nat) (st : LineSt) : Option ((Line × Nat) × State) :=
      some ((d, p), (s.l2Fill k line st d p).mshrDrop k line)
    match s.dirFind line with
    | some e =>
      if e.excl then
        let r := s.snoopMask e.mask .rdS line none
        match r.1 with
        | some (d, dirty, p) =>
          let s := if dirty then r.2.homeWrite line fullMask d true p else r.2
          finish (shared s e.mask) d p .s
        | none =>
          let m := r.2.memoryFill line alloc
          finish (shared m.2 e.mask) m.1.1 m.1.2 .s
      else
        let m := s.memoryFill line alloc
        finish (shared m.2 e.mask) m.1.1 m.1.2 .s
    | none =>
      let m := s.memoryFill line alloc
      if fetch then finish (shared m.2 0) m.1.1 m.1.2 .s
      else
        let s := m.2.putDir (m.2.dirEnt line true ring k)
        finish s m.1.1 m.1.2 .e

/-- RD_X from start to DONE: the line owned in M (R363, R372, R374). With zero, the grant comes without data where no owner sends it. -/
def State.cohRdX (s : State) (k : CoreId) (line : Nat) (zero alloc : Bool) : Option ((Line × Nat) × State) :=
  match s.homeOpen line with
  | none => none
  | some s =>
    let r := match s.dirFind line with
      | some e => s.snoopMask e.mask .rdX line none
      | none => (none, s)
    let m : (Line × Nat) × State := match r.1 with
      | some (d, _, p) => ((d, p), r.2)
      | none => if zero then ((0, 0), r.2) else r.2.memoryFill line alloc
    let s := m.2.putDir (m.2.dirEnt line true ((1 : BitVec 9) <<< ringOf k) k)
    some (m.1, (s.l2Fill k line .m m.1.1 m.1.2).mshrDrop k line)

/-- RD_NA from start to reply: an owner's data goes through the home, which keeps a dirty copy in its L3 (R372). -/
def State.cohRdNa (s : State) (line : Nat) : (Line × Nat) × State :=
  let s := (s.homeOpen line).getD s
  match s.dirFind line with
  | some e =>
    if e.excl then
      let r := s.snoopMask e.mask .rdNa line none
      match r.1 with
      | some (d, true, p) => ((d, p), r.2.homeWrite line fullMask d true p)
      | some (d, false, p) => ((d, p), r.2)
      | none => r.2.memoryFill line false
    else s.memoryFill line false
  | none => s.memoryFill line false

/-- WR_NA from start to reply: copies are invalidated, sparing the requester with KEEP, an owner's dirty data is merged at the home, and the write is performed there (R372). DEDUCED (log entry 7): a requester with KEEP that is itself the owner keeps its copy clean, as R361 says of a write-through store. -/
def State.cohWrNa (s : State) (line : Nat) (mask : BitVec 64) (data : Line) (keep : Option CoreId) (alloc : Bool) (poison : Nat) : State :=
  let s := (s.homeOpen line).getD s
  match s.dirFind line with
  | some e =>
    let own := e.excl && keep == some e.owner
    let r := s.snoopMask e.mask (if own then .rdNa else .rdX) line (if e.excl then none else keep)
    let s := match r.1 with
      | some (d, true, p) => r.2.homeWrite line fullMask d true p
      | _ => r.2
    let s := if keep.isSome && (!e.excl || own) then s else s.setDir line none
    s.homeWrite line mask data alloc poison
  | none => s.homeWrite line mask data alloc poison

/-- A CMO of one line at its home (R372, R380, R381): CLEAN and CLINV write dirty data to DRAM, INV drops it, and INV and CLINV drop every copy. A locked L3 line is exempt from invalidation without FORCE, and then takes an owner's dirty data; the answer says whether it was. -/
def State.cohCmo (s : State) (line : Nat) (clean inv force : Bool) : Bool × State :=
  let s := (s.homeOpen line).getD s
  let locked := match s.l3Find line with
    | some x => s.flagAt (R.L3_LOCK x.home.val) x.way
    | none => false
  let exempt := locked && inv && !force
  let doClean := clean || (locked && force && inv)
  let r := match s.dirFind line with
    | some e => s.snoopMask e.mask (if inv then .rdX else .rdNa) line none
    | none => (none, s)
  let s := match r.1 with
    | some (d, true, p) => if doClean || !inv || exempt then r.2.homeWrite line fullMask d true p else r.2
    | _ => r.2
  let s := if inv then s.setDir line none else s
  let s := if doClean then s.l3Clean line else s
  (exempt, if inv && !exempt then s.l3Drop line else s)

end Sys2Proof.Machine
end

