-- ==== Sys2Proof/Machine/SysRegs.lean ====
section
/-! DEFINITION. The system registers a core holds, by number and bank, and its event counters (R250, R263, R275, R286, R295, R302, R358, R390, R521 to R526). -/

namespace Sys2Proof.Machine

/-! ### Banks -/

/-- The exception bank of a world. -/
def CoreSt.bank (c : CoreSt) (w : Bool) : Bank := if w then c.bankS else c.bankO

/-- Replaces the exception bank of a world. -/
def CoreSt.setBank (c : CoreSt) (w : Bool) (b : Bank) : CoreSt := if w then { c with bankS := b } else { c with bankO := b }

/-- The translation and cache registers of a world. -/
def CoreSt.tr (c : CoreSt) (w : Bool) : TrBank := if w then c.trS else c.trO

/-- Replaces the translation and cache registers of a world. -/
def CoreSt.setTr (c : CoreSt) (w : Bool) (b : TrBank) : CoreSt := if w then { c with trS := b } else { c with trO := b }

/-! ### Exception bank registers, by their place 0x00 to 0x2F from EPC 1 (R295) -/

/-- CUR as a word (R295). -/
def Bank.cur (b : Bank) (world priv : Bool) : W64 :=
  BitVec.ofNat 64 (b.ml.toNat + b.act.toNat * 16 + bitIf world 8 + bitIf priv 9 + bitIf b.irf 10 + b.irc.toNat * 2 ^ 11)

/-- The mask that a write of ML stores (R287). -/
def Bank.mlStored (b : Bank) (v : BitVec 4) : BitVec 4 :=
  if b.act = 15 then 15 else if v.toNat < b.act.toNat then b.act else if 14 < v.toNat then 14 else v

/-- Reads place p of an exception bank; priv is the privilege of the reader. -/
def Bank.get (b : Bank) (world priv : Bool) (p : Nat) : W64 :=
  if p < 45 then
    match p % 3 with
    | 0 => assocD b.epc (p / 3 + 1) 0
    | 1 => assocD b.estat (p / 3 + 1) 0
    | _ => assocD b.eaddr (p / 3 + 1) 0
  else if p = 45 then b.cur world priv
  else if p = 46 then b.evec
  else b.scratch

/-- Writes place p of an exception bank, reserved fields and low bits as the table gives them. -/
def Bank.put (b : Bank) (p : Nat) (v : W64) : Bank :=
  if p < 45 then
    match p % 3 with
    | 0 => { b with epc := assocSet b.epc (p / 3 + 1) (putBits v 0 2 0) }
    | 1 => { b with estat := assocSet b.estat (p / 3 + 1) (BitVec.ofNat 64 (bitsAt v 0 31)) }
    | _ => { b with eaddr := assocSet b.eaddr (p / 3 + 1) v }
  else if p = 45 then
    { b with
      ml := b.mlStored (BitVec.ofNat 4 (bitsAt v 0 4))
      irf := bitAt v 10
      irc := BitVec.ofNat 3 (bitsAt v 11 3) }
  else if p = 46 then { b with evec := putBits v 0 12 0 }
  else { b with scratch := v }

/-! ### Event counters (R521 to R526) -/

/-- EVSEL n; its event is n at reset. -/
def CoreSt.evselN (c : CoreSt) (n : Nat) : W64 := assocD c.evsel n (BitVec.ofNat 64 n)

/-- EVCNT n. -/
def CoreSt.evcntN (c : CoreSt) (n : Nat) : BitVec 48 := assocD c.evcnt n 0

/-- Counter n selects event e and is not the high half of a chain (R523). -/
def CoreSt.evMatch (c : CoreSt) (n e : Nat) : Bool :=
  bitsAt (c.evselN n) 0 8 == e && !(n % 2 == 1 && bitAt (c.evselN (n - 1)) 9)

/-- Adds occurrences to counter n; a wrap carries into a chained partner or sets OVF (R523, R524). -/
def CoreSt.evAdd (c : CoreSt) (n k : Nat) : CoreSt :=
  let t := (c.evcntN n).toNat + k
  let chain := n % 2 == 0 && bitAt (c.evselN n) 9
  let u := (c.evcntN (n + 1)).toNat + t / 2 ^ 48
  let low := assocSet c.evcnt n (BitVec.ofNat 48 t)
  { c with
    evcnt := if chain && decide (2 ^ 48 ≤ t) then assocSet low (n + 1) (BitVec.ofNat 48 u) else low
    evsel :=
      if t < 2 ^ 48 then c.evsel
      else if !chain then assocSet c.evsel n (putBits (c.evselN n) 12 1 1)
      else if u < 2 ^ 48 then c.evsel
      else assocSet c.evsel (n + 1) (putBits (c.evselN (n + 1)) 12 1 1) }

/-- The counters that may select an event: the one whose selector is at reset and those whose selector has been written. -/
def CoreSt.evUsers (c : CoreSt) (e : Nat) : List Nat :=
  ((e :: c.evsel.map (·.1)).eraseDups).filter (fun n => n < 128 && c.evMatch n e)

/-- An event occurs k times: counted at level by the counters that select it, which are frozen in the Sealed world (R330, R522). What it counts bounds the edges of the event, which the counters with EDGE take later. -/
def CoreSt.ev (c : CoreSt) (e k : Nat) : CoreSt :=
  if c.sealed || k = 0 then c
  else
    let c := { c with evOcc := assocSet c.evOcc e (assocD c.evOcc e 0 + k) }
    (c.evUsers e).foldl (fun c n => if bitAt (c.evselN n) 8 then c else c.evAdd n k) c

/-- CYCLES up to the device's count of core cycles: event 0 at every cycle the tile is up and the core is Open (R521). With EDGE the level never falls, so nothing is added. -/
def CoreSt.evSync (c : CoreSt) (cycles : Nat) : CoreSt :=
  let k := cycles - c.seen
  let c := { c with seen := cycles }
  if c.sealed || c.run == .off || k = 0 then c
  else (c.evUsers 0).foldl (fun c n => if bitAt (c.evselN n) 8 then c else c.evAdd n k) c

/-- The events whose counts turn on timing, prediction or speculation, which the rules do not fix (R213, R217, R226, R525). A decode redirect and a mispredict of one branch are two events, counted separately (R220). -/
def openEvents : List Nat := [0x02, 0x06, 0x07, 0x09, 0x0a, 0x10, 0x1e, 0x30, 0x31]

/-- Event numbers of R525. -/
def eventNamed (e : Nat) : Bool := decide (e ≤ 0x27) || e == 0x30 || e == 0x31

/-- Counter n counts something whose occurrences the rules leave open: such an event, or the edges of an event (R522, R525). With EDGE, event 0 has no edge. -/
def CoreSt.evOpen (c : CoreSt) (n : Nat) : Bool :=
  let e := bitsAt (c.evselN n) 0 8
  n < 128 && c.evMatch n e && (if bitAt (c.evselN n) 8 then eventNamed e && e != 0 else openEvents.contains e)

/-- The most that an event raises in one cycle: 1 for an event that counts cycles, 16 for FLOP, 6 for any other (R522). -/
def evPer (e : Nat) : Nat := if [0x09, 0x0a, 0x1e, 0x25].contains e then 1 else if e = 0x24 then 16 else 6

/-- The most occurrences of event e in span cycles: exactly what was counted, for an event that the rules fix; for an open one what the cycles have room for, and no more mispredicts than branches and jumps retired (R219, R522, R525). -/
def CoreSt.evMost (c : CoreSt) (e span : Nat) : Nat :=
  if openEvents.contains e then
    (if e = 0x06 then Nat.min (evPer e * span) (assocD c.evOcc 0x05 0) else evPer e * span)
  else assocD c.evOcc e 0

/-- The most that counter n has counted since the open counters were last brought up to date: with EDGE a cycle that counts follows one that does not, so every second cycle at most (R522). -/
def CoreSt.evBound (c : CoreSt) (n cycles : Nat) : Nat :=
  let e := bitsAt (c.evselN n) 0 8
  let span := cycles - c.evAt + 1
  if bitAt (c.evselN n) 8 then Nat.min ((span + 1) / 2) (c.evMost e span) else c.evMost e span

/-- The open counters of a core are up to date at a core cycle. -/
def CoreSt.evMark (c : CoreSt) (cycles : Nat) : CoreSt := { c with evAt := cycles, evOcc := [] }

/-- What the open counters of a core have counted since they were last brought up to date: each adds a free number of occurrences within its bound (R522 to R524), none in the Sealed world (R330). -/
def State.evDraw (s : State) (k : CoreId) : State :=
  let t :=
    if (s.core k).sealed then s
    else (((openEvents ++ (s.core k).evsel.map (·.1)).eraseDups).filter (s.core k).evOpen).foldl (fun s n =>
      let r := s.free 48
      r.2.setCore k ((r.2.core k).evAdd n (r.1.toNat % ((r.2.core k).evBound n s.coreCycles + 1)))) s
  t.setCore k ((t.core k).evMark s.coreCycles)

/-- An event occurs k times on a core. -/
def State.count (s : State) (k : CoreId) (e n : Nat) : State := s.setCore k ((s.core k).ev e n)

/-- Some counter has OVF and OVF_IE (R524). -/
def CoreSt.counterIrq (c : CoreSt) : Bool := c.evsel.any (fun p => bitAt p.2 12 && bitAt p.2 10)

/-- Counters and selectors at their reset values, when the tile domain becomes ready (R521). -/
def CoreSt.evReset (c : CoreSt) (cycles : Nat) : CoreSt := { c with evcnt := [], evsel := [], seen := cycles, evAt := cycles, evOcc := [], frzAt := none }

/-! ### Registers by number -/

/-- ATTR_TBL as stored: the reserved bit of each field is 0, and a code of 5 to 7 is stored as 3 (R361, R390). -/
def attrStored (v : W64) : W32 :=
  (List.range 8).foldl (fun w i => putBits w (4 * i) 4 (if 4 < bitsAt v (4 * i) 3 then 3 else bitsAt v (4 * i) 3)) 0

/-- The register at a number in a bank as the core holds it: none where the number needs the rest of the device or names no register. -/
def CoreSt.getReg (c : CoreSt) (w : Bool) (n : Nat) : Option W64 :=
  if n = 0x010 then some c.fpstat
  else if 0x080 ≤ n ∧ n < 0x100 then some (if bitAt (c.evselN (n - 0x80)) 11 then (c.evcntN (n - 0x80)).zeroExtend 64 else 0)
  else if 0x100 ≤ n ∧ n < 0x104 then some (c.prg.toList.getD (n - 0x100) 0)
  else if 0x400 ≤ n ∧ n < 0x404 then some (c.prg.toList.getD (n - 0x400) 0)
  else if 0x410 ≤ n ∧ n < 0x440 then some ((c.bank w).get c.sealed true (n - 0x410))
  else if 0x810 ≤ n ∧ n < 0x840 then some (c.bankO.get c.sealed true (n - 0x810))
  else if 0x440 ≤ n ∧ n < 0x444 then some (c.icEn.toList.getD (n - 0x440) 0)
  else if 0x448 ≤ n ∧ n < 0x458 then some (c.icLvl.toList.getD (n - 0x448) 0)
  else if n = 0x45c then some c.tmr
  else if 0x480 ≤ n ∧ n < 0x500 then some ((c.evcntN (n - 0x480)).zeroExtend 64)
  else if 0x500 ≤ n ∧ n < 0x580 then some (c.evselN (n - 0x500))
  else if n = 0x600 then some (c.tr w).root
  else if n = 0x601 then some ((c.tr w).asid.zeroExtend 64)
  else if n = 0x602 then some (c.tr w).homeRoot
  else if n = 0x603 then some ((c.tr w).homeAsid.zeroExtend 64)
  else if n = 0x604 then some (c.tr w).s2Base
  else if n = 0x605 then some (BitVec.ofNat 64 (c.tr w).s2Limit)
  else if n = 0x606 then some (c.tr w).lastWpa
  else if n = 0x680 then some ((c.tr w).attr.zeroExtend 64)
  else if n = 0x681 then some (BitVec.ofNat 64 (b2n (c.tr w).l1dEn + 2 * b2n (c.tr w).l2En))
  else if n = 0x900 then some (c.encCur.zeroExtend 64)
  else none

/-- PRG word i as stored: word 0 keeps OP 0 to 3 (R275). -/
def prgStored (i : Nat) (v : W64) : W64 :=
  if i = 0 then BitVec.ofNat 64 (if 3 < bitsAt v 0 4 then 0 else bitsAt v 0 4) else v

/-- Writes the register at a number in a bank, fields as its table gives them. Boot also writes the fields of access RL (R484). -/
def CoreSt.putReg (c : CoreSt) (boot w : Bool) (n : Nat) (v : W64) : CoreSt :=
  if n = 0x010 then { c with fpstat := BitVec.ofNat 64 ((if 4 < bitsAt v 0 3 then 0 else bitsAt v 0 3) + bitsAt v 8 5 * 256) }
  else if 0x400 ≤ n ∧ n < 0x404 then { c with prg := c.prg.setIfInBounds (n - 0x400) (prgStored (n - 0x400) v) }
  else if 0x410 ≤ n ∧ n < 0x440 then c.setBank w ((c.bank w).put (n - 0x410) v)
  else if 0x810 ≤ n ∧ n < 0x840 then { c with bankO := c.bankO.put (n - 0x810) v }
  else if 0x440 ≤ n ∧ n < 0x444 then { c with icEn := c.icEn.setIfInBounds (n - 0x440) v }
  else if 0x448 ≤ n ∧ n < 0x458 then { c with icLvl := c.icLvl.setIfInBounds (n - 0x448) v }
  else if n = 0x45c then { c with tmr := v }
  else if 0x480 ≤ n ∧ n < 0x500 then { c with evcnt := assocSet c.evcnt (n - 0x480) (v.truncate 48) }
  else if 0x500 ≤ n ∧ n < 0x580 then
    let m := n - 0x500
    let chain := if m % 2 = 0 then bitIf (bitAt v 9) 9 else 0
    let ovf := bitIf (bitAt v 12) 12
    { c with evsel := assocSet c.evsel m (BitVec.ofNat 64 (bitsAt v 0 9 + chain + bitsAt v 10 2 * 2 ^ 10 + ovf)) }
  else if n = 0x600 then c.setTr w { c.tr w with root := BitVec.ofNat 64 (bitsAt v 12 34 * 4096) }
  else if n = 0x601 then c.setTr w { c.tr w with asid := v.truncate 16 }
  else if n = 0x602 ∧ boot then c.setTr w { c.tr w with homeRoot := BitVec.ofNat 64 (bitsAt v 12 34 * 4096) }
  else if n = 0x603 ∧ boot then c.setTr w { c.tr w with homeAsid := v.truncate 16 }
  else if n = 0x680 then c.setTr w { c.tr w with attr := attrStored v }
  else if n = 0x681 then c.setTr w { c.tr w with l1dEn := bitAt v 0, l2En := bitAt v 1 }
  else if n = 0x900 then { c with encCur := v.truncate 6 }
  else c

/-- The image assigns source n to the Sealed world (R297). -/
def State.srcSealed (s : State) (n : Nat) : Bool := s.flagAt (R.WD_IRQW (n / 32)) (n % 32)

/-- The bits of 64 that a test on source numbers sets, from source b up. -/
def srcBits (b : Nat) (p : Nat → Bool) : W64 :=
  (List.range 64).foldl (fun w j => w ||| BitVec.ofNat 64 (bitIf (p (b + j)) j)) 0

/-- A register whose bits outside a mask keep their value. -/
def keepBits (old v mask : W64) : W64 := (old &&& ~~~mask) ||| (v &&& mask)

/-- The value of a system-register entry for a core: an IC_EN or IC_LVL entry of a bank sets the bits of that world's sources (R302, R483). -/
def State.sysEntry (s : State) (c : CoreSt) (w : Bool) (n : Nat) (v : W64) : W64 :=
  if 0x440 ≤ n ∧ n < 0x444 then
    keepBits (c.icEn.toList.getD (n - 0x440) 0) v (srcBits (64 * (n - 0x440)) (fun j => s.srcSealed j == w))
  else if 0x448 ≤ n ∧ n < 0x458 then
    keepBits (c.icLvl.toList.getD (n - 0x448) 0) v ((List.range 16).foldl (fun m j =>
      m ||| BitVec.ofNat 64 (if s.srcSealed (16 * (n - 0x448) + j) == w then 15 * 2 ^ (4 * j) else 0)) 0)
  else v

/-- A core that enters placement takes the system register list and the stage-2 registers (R347, R484). -/
def State.loadSys (s : State) (k : CoreId) : State :=
  let c := s.boot.sysregs.foldl (fun c e => c.putReg true e.2.1 e.1 (s.sysEntry c e.2.1 e.1 e.2.2)) (s.core k)
  let c := c.setTr false { c.trO with s2Base := s.boot.s2Open.1, s2Limit := s.boot.s2Open.2 }
  let c := c.setTr true { c.trS with s2Base := s.boot.s2Sealed.1, s2Limit := s.boot.s2Sealed.2 }
  s.setCore k { c with loaded := true }

end Sys2Proof.Machine
end

