-- ==== Sys2Proof/Machine/Txns.lean ====
section
/-! DEFINITION. The transactions of the home slices, message by message, and what closes one that another request for its line waits for (R372 to R379, R388). -/

namespace Sys2Proof.Machine

/-! ### Requests that wait for their home (R376) -/

/-- A requester's request for a line. -/
def State.reqFind (s : State) (q : CohReq) (line : Nat) : Option Mshr :=
  match q with
  | .core k _ => s.mshrFind k line
  | _ => (s.cache.outer.find? (fun p => p.1 == q && p.2.line == line)).map (·.2)

/-- Sets or drops a requester's request for a line. -/
def State.reqSet (s : State) (q : CohReq) (line : Nat) (m : Option Mshr) : State :=
  match q with
  | .core k _ => s.setMshr k line m
  | _ =>
    let r := s.cache.outer.filter (fun p => !(p.1 == q && p.2.line == line))
    { s with cache := { s.cache with outer := match m with
        | some x => r ++ [(q, x)]
        | none => r } }

/-- A request that reaches a home is outstanding at its requester. -/
def State.reqOpen (s : State) (q : CohReq) (line : Nat) (kind : ReqKind) (fallback zero : Bool) : State :=
  match s.reqFind q line with
  | some m => s.reqSet q line (some { m with fallback := m.fallback || fallback })
  | none => s.reqSet q line (some { line := line, kind := kind, nacks := 0, fallback := fallback, waiting := false, zero := zero, since := s.now })

/-- Messages on their way that a test picks are there no more. -/
def State.outDrop (s : State) (p : CohMsg → Bool) : State := { s with cache := { s.cache with out := s.cache.out.filter (fun m => !p m) } }

/-! ### The home's transactions (R372 to R377) -/

/-- A snoop message kind of a request: SNP_S, SNP_X or SNP_CLN. -/
def snoopKind (x : Txn) : ReqKind :=
  match x.kind with
  | .rdS => .rdS
  | .rdX => .rdX
  | .rdNa => .rdNa
  | .wrNa => if x.flag then .rdNa else .rdX
  | .cmo => if x.first.val = 1 then .rdNa else .rdX

/-- The grant of a read reaches its requester's side as a message. -/
def State.sendData (s : State) (x : Txn) (d : Line × Nat) : State :=
  match x.who with
  | .core k _ => s.sendCoh (.data k x.line d.1 x.grant d.2)
  | w => s.sendCoh (.reply w x.line d.1 d.2)

/-- A state of the line's transaction. -/
def State.txnSet (s : State) (x : Txn) (st : Trans) : State := s.setTxn x.line (some { x with st := st })

/-- Write at the home (R361, R371, R372): a message with KEEP is a write-through store, which allocates in the L3; any other allocates nothing. -/
def State.txnWrite (s : State) (x : Txn) : State := s.homeWrite x.line (maskOf x.first.val x.last.val) x.data x.zero x.poison

/-- The L3 holds a line in a locked way (R380). -/
def State.l3Locked (s : State) (line : Nat) : Bool :=
  match s.l3Find line with
  | some x => s.flagAt (R.L3_LOCK x.home.val) x.way
  | none => false

/-- The memory step of a CMO: 1 CLEAN, 2 INV, 3 CLINV (R372, R380, R381). -/
def State.cmoStep (s : State) (op line : Nat) : State :=
  let locked := s.l3Locked line
  let s := if op = 1 ∨ op = 3 then s.l3Clean line else s
  if (op = 2 ∨ op = 3) ∧ !locked then s.l3Drop line else s

/-- The reply that closes a RD_NA, WR_NA or CMO: its requester's request is complete (R374). -/
def State.txnReply (s : State) (x : Txn) (d : Line × Nat) : State := (s.reqSet x.who x.line none).sendCoh (.reply x.who x.line d.1 d.2)

/-- The memory's answer is at the home (R372, R377): data to the requester, or the reply that closes the transaction. -/
def State.txnMemory (s : State) (x : Txn) (d : Line × Nat) : State :=
  match x.kind with
  | .rdS => (s.txnSet x .ack).sendData x d
  | .rdX => (s.txnSet x .ack).sendData x d
  | .rdNa => (s.setTxn x.line none).txnReply x d
  | .wrNa => ((s.setTxn x.line none).txnWrite x).txnReply x (0, 0)
  | .cmo => ((s.setTxn x.line none).cmoStep x.first.val x.line).txnReply x (0, 0)

/-- The memory read of a transaction: at once from the home's L3, else from the memory controller (R372). A grant without data needs no read (R363). -/
def State.txnRead (s : State) (x : Txn) : State :=
  if x.zero && x.kind == .rdX then
    match x.who with
    | .core k _ => (s.txnSet x .ack).sendCoh (.grant k x.line)
    | _ => s.txnSet x .ack
  else match s.l3Find x.line with
    | some y => (s.l3Touch y.home x.line y.way).txnMemory x (y.data, y.poison)
    | none => (s.txnSet x .mem).sendCoh (.memRd x.line)

/-- The number of rings of a MASK. -/
def maskCount (m : BitVec 9) : Nat := countIf (fun i => bitAt m i) (List.range 9)

/-- Snoops leave along every ring of MASK, and the transaction waits for them. -/
def State.txnSnoop (s : State) (x : Txn) (mask : BitVec 9) (st : Trans) : State :=
  let s := ((List.range 9).filter (fun i => bitAt mask i)).foldl
    (fun s r => s.sendCoh (.snoop (snoopKind x) (snoopKind x == .rdNa) r x.line)) s
  s.txnSet { x with rings := maskCount mask } st

/-- The home starts a transaction from a stable state (R372). -/
def State.homeStart (s : State) (x : Txn) : State :=
  let x := { x with since := s.now }
  match s.dirFind x.line with
  | none =>
    match x.kind with
    | .wrNa => (s.txnWrite x).txnReply x (0, 0)
    | .rdS => s.txnRead { x with grant := if x.flag then .s else .e }
    | .rdX => s.txnRead { x with grant := .m }
    | _ => s.txnRead x
  | some e =>
    let s := s.dirTouch e.home e.line e.way
    let x := { x with grant := match x.kind with
      | .rdX => .m
      | _ => .s }
    let own : Bool := match x.who with
      | .core k _ => x.kind == .wrNa && x.zero && e.excl && e.owner == k
      | _ => false
    let x := if own then { x with flag := true } else x
    if e.excl then s.txnSnoop x e.mask .snp
    else match x.kind with
      | .rdS => s.txnRead x
      | .rdNa => s.txnRead x
      | .rdX =>
        if x.zero then s.txnSnoop x e.mask .snp
        else match s.l3Find x.line with
          | some y => (s.l3Touch y.home x.line y.way).txnSnoop { x with heldMem := some (y.data, y.poison) } e.mask .snp
          | none => (s.txnSnoop x e.mask .snpm).sendCoh (.memRd x.line)
      | _ => s.txnSnoop x e.mask .snp

/-- A NACK (R375). -/
def State.homeNack (s : State) (x : Txn) : State := (s.bump (R.CNT_NACK x.home.val)).sendCoh (.nack x.who x.line)

/-- A FALLBACK request of a core enters the waiting queue of its home (R376); a unit without caches has no entry there. -/
def State.homeQueue (s : State) (x : Txn) : State :=
  match x.who with
  | .core _ _ =>
    let s := { s with cache := { s.cache with queue := s.cache.queue ++ [x] } }
    (s.bump (R.CNT_FALLBACK x.home.val)).peak (R.WAITQ_PEAK x.home.val) 0 8 (countIf (fun y => y.home == x.home) s.cache.queue)
  | _ => s.homeNack x

/-- A request that its line cannot take: queued with FALLBACK, else NACKed (R375, R376, R379). -/
def State.homeDefer (s : State) (x : Txn) : State := if x.fallback then s.homeQueue x else s.homeNack x

/-- A directory victim is recalled while a request waits for its way (R379). -/
def State.dirRecall (s : State) (v : DirEnt) (x : Txn) : State :=
  let s := s.bump (R.CNT_DIR_EVICT v.home.val)
  let y : Txn := { x with line := v.line, home := v.home, kind := .rdX, zero := false, heldWb := [], heldMem := none, dirty := none, ownerSent := false, since := s.now, way := none }
  if v.mask = 0 then (s.setDir v.line none).homeStart x
  else ({ s with cache := { s.cache with parked := s.cache.parked ++ [(v.line, x)] } } : State).txnSnoop y v.mask .evd

/-- A request arrives at a home (R375, R376, R379); a line without a home starts nothing (R368). A request for a state-window line that waited in the queue is taken up by its home as it first came (R385). -/
def State.homeAdmit (s : State) (x : Txn) : State :=
  if !homed x.line then s
  else if windowLine ≤ x.line then s.sendCoh (.request x.who x.kind x.line true)
  else if s.lineBusy x.line then s.homeDefer x
  else if (s.dirFind x.line).isSome then s.homeStart x
  else match s.dirWay x.line with
    | none => s.homeDefer x
    | some w =>
      match (s.dirInSet x.home x.line).find? (fun d => d.way == w) with
      | none => s.homeStart { x with way := some w }
      | some v => s.dirRecall v { x with way := some w }

/-- A request as a transaction at its home. -/
def State.txnOf (s : State) (line : Nat) (kind : ReqKind) (who : CohReq) : Txn :=
  { line := line, home := s.homeOf line, st := .mem, kind := kind, who := who, rings := 0, ownerSent := false, dirty := none
    heldMem := none, heldWb := [], grant := .s, zero := false, flag := false, first := 0, last := 63, data := 0 }

/-- The head of the waiting queue that can start is started (R376, R377). -/
def State.homeNext (s : State) : State :=
  match s.cache.queue.find? (fun w => !s.lineBlocked w.line) with
  | none => s
  | some w => ({ s with cache := { s.cache with queue := s.cache.queue.erase w } } : State).homeAdmit { w with home := s.homeOf w.line }

/-- Held writebacks are answered WB_STALE (R377). -/
def State.wbStales (s : State) (x : Txn) : State :=
  x.heldWb.foldl (fun s k => (s.bump (R.CNT_WB_STALE x.home.val)).sendCoh (.wbStale k x.line)) s

/-- The request parked on a recalled directory entry starts (R379). -/
def State.unpark (s : State) (victim : Nat) : State :=
  match s.cache.parked.find? (fun p => p.1 == victim) with
  | none => s
  | some p =>
    let s := { s with cache := { s.cache with parked := s.cache.parked.filter (fun q => q.1 != victim) } }
    if s.lineBusy p.2.line then s.homeDefer p.2 else s.homeStart p.2

/-- The last snoop has returned (R377); INV drops an owner's dirty data unless the L3 line is locked (R372, R381). -/
def State.snoopsBack (s : State) (x : Txn) : State :=
  let s := (s.wbStales x).outDrop (fun m => match m with
    | .home _ l _ _ => l == x.line
    | _ => false)
  let x := { x with heldWb := [], rings := 0 }
  let s := match x.dirty with
    | some d => if x.kind == ReqKind.cmo && x.first.val == 2 && !s.l3Locked x.line then s else s.homeWrite x.line fullMask d.1 true d.2
    | none => s
  match x.st with
  | .evd => ((s.setTxn x.line none).setDir x.line none).unpark x.line
  | .snpm => s.txnSet x .mem
  | _ =>
    match x.kind with
    | .wrNa =>
      let keep := x.zero && (match s.dirFind x.line with
        | some e => !e.excl || x.flag
        | none => false)
      let s := if keep then s else s.setDir x.line none
      if x.dirty.isSome then s.txnMemory x (0, 0) else s.txnRead x
    | .cmo =>
      let s := if x.first.val = 1 then s else s.setDir x.line none
      if x.dirty.isSome then s.txnMemory x (0, 0) else s.txnRead x
    | .rdNa =>
      match x.dirty with
      | some d => s.txnMemory x d
      | none => s.txnRead x
    | _ =>
      if x.ownerSent || x.dirty.isSome then s.txnSet x .ack
      else match x.heldMem with
        | some m => s.txnMemory x m
        | none => s.txnRead x

/-- The snoop of a write with KEEP spares its requester's shared copy (R372). -/
def State.snoopSpares (s : State) (k : CoreId) (line : Nat) : Bool :=
  match s.txnFind line with
  | some x => x.kind == .wrNa && x.zero && !x.flag && x.st != .evd &&
      (match x.who with
       | .core j _ => j == k
       | _ => false)
  | none => false

/-- An L2 answers a snoop by what it holds (R373): an owner's data goes to the requester of a read; its dirty copy goes to the home for SNP_S, for SNP_CLN, and where the home merges, writes or drops it (R372, R377). -/
def State.snoopMsg (s : State) (k : CoreId) (line : Nat) (kind : ReqKind) : State :=
  let r := if s.snoopSpares k line then (none, s) else s.snoopL2 k kind line
  match r.1 with
  | none => r.2
  | some (d, dirty, p) =>
    let home (s : State) : State := if dirty then s.sendCoh (.home k line d p) else s
    match s.txnFind line with
    | some x =>
      if (x.kind == .rdS || x.kind == .rdX) && x.st != .evd then
        (if kind == .rdX then r.2 else home r.2).sendData x (d, p)
      else home r.2
    | none => if kind == .rdX then r.2 else home r.2

/-- The event that counts an L2 fill of a line, by who answers it: another L2 or eviction buffer, an L3 or DRAM (R525). -/
def State.fillEvent (s : State) (k : CoreId) (line : Nat) : Nat :=
  let peer := match s.dirFind line with
    | some e => e.excl && e.owner != k && ((s.l2Find e.owner line).isSome || (s.ebFind e.owner line).isSome)
    | none => false
  if peer then 0x17 else if (s.l3Find line).isSome then 0x15 else 0x16

/-- An L2 can allocate nothing for a line it does not hold while its eviction buffer is full (R365). -/
def State.noRoom (s : State) (k : CoreId) (line : Nat) : Bool := (s.l2Find k line).isNone && s.ebFull k

/-- Messages a stable line cannot use are counted (R377). -/
def State.protoErr (s : State) (line : Nat) : State := s.bump (R.CNT_PROTO (s.homeOf line).val)

/-- DONE at the home (R374, R377): the final state is recorded and the queue head starts. -/
def State.doneIn (s : State) (k : CoreId) (l : Nat) : State :=
  match s.txnFind l with
  | none => s.protoErr l
  | some x =>
    let mine := match x.who with
      | .core j _ => j == k
      | _ => false
    if x.st != .ack || !mine then s
    else
      let ring : BitVec 9 := (1 : BitVec 9) <<< ringOf k
      let old := match s.dirFind l with
        | some e => e.mask
        | none => 0
      let e := if x.grant == .s then s.dirEnt l false (old ||| ring) k else s.dirEnt l true ring k
      ((s.setTxn l none).putDir e).homeNext


/-! ### The requester's grant -/

/-- A grant on its way to a core for a line. -/
def CohMsg.grants (k : CoreId) (line : Nat) (m : CohMsg) : Bool :=
  match m with
  | .data j l _ _ _ => j == k && l == line
  | .grant j l => j == k && l == line
  | _ => false

/-- What an L2 holds of a line under a grant. -/
def grantSt : Grant → LineSt
  | .s => .s
  | .e => .e
  | .m => .m

/-- DATA (R374): the requester takes the line with its grant; with the eviction buffer full the message waits (R365). -/
def State.dataIn (s : State) (k : CoreId) (l : Nat) (data : Line) (grant : Grant) (sub : Nat) : State :=
  match s.mshrFind k l with
  | none => s
  | some _ =>
    if s.noRoom k l then s
    else (((s.setMshr k l none).l2Fill k l (grantSt grant) data sub).count k (s.fillEvent k l) 1).outDrop (CohMsg.grants k l)

/-- GRANT (R363): the line is filled with zeros. -/
def State.grantIn (s : State) (k : CoreId) (l : Nat) : State :=
  match s.mshrFind k l with
  | none => s
  | some m => if m.zero && !s.noRoom k l then ((s.setMshr k l none).l2Fill k l .m 0 0).outDrop (CohMsg.grants k l) else s

/-- The memory's data is at the home of a transaction that waits for it: the line allocates in the L3 on the fill of a read (R361, R377). -/
def State.memArrive (s : State) (x : Txn) (data : Line) (sub : Nat) : State :=
  let s := if x.kind == .rdS || x.kind == .rdX then s.l3Alloc x.line data false (if sub = 0 then 0 else 2) else s
  s.txnMemory x (data, sub)

/-! ### A transaction that others wait for

A unit without caches, the journal, a lock-fill or a drain finds a line whose transaction is open. Its request is NACKed and tried again until that transaction has closed (R375, R388). In a model whose commands are whole, the messages of the open transaction that are on their way arrive meanwhile (DESIGN CHOICE, log entry 90). -/

/-- The snoops that have not returned do so. -/
def State.closeSnoops (s : State) (line : Nat) : State :=
  match s.txnFind line with
  | none => s
  | some x =>
    if x.rings = 0 then s
    else
      let mask := match s.dirFind line with
        | some e => e.mask
        | none => 0
      let s := (maskCores mask).foldl (fun s k => s.snoopMsg k line (snoopKind x)) s
      let home : Option (Line × Nat) := s.cache.out.findSome? (fun m => match m with
        | .home _ l d p => if l == line then some (d, p) else none
        | _ => none)
      let sent := match x.who with
        | .core k _ => (x.kind == .rdS || x.kind == .rdX) && x.st != .evd && s.cache.out.any (CohMsg.grants k line)
        | _ => false
      s.snoopsBack { x with dirty := x.dirty.or home, ownerSent := x.ownerSent || sent }

/-- The memory read of a transaction comes back. -/
def State.closeMem (s : State) (line : Nat) : State :=
  match s.txnFind line with
  | some x =>
    if x.st == .mem then
      let r := s.readPa (line * 64)
      let s := match s.placeOf (line * 64) with
        | some p => s.noteRead p.1 p.2
        | none => s
      s.memArrive x r.1 (if r.2 then 2 else 0)
    else s
  | none => s

/-- The requester takes its line and sends DONE. -/
def State.closeAck (s : State) (line : Nat) : State :=
  match s.txnFind line with
  | some x =>
    match x.st, x.who with
    | .ack, .core k _ =>
      let s := match s.cache.out.find? (CohMsg.grants k line) with
        | some (.data _ _ d g p) => s.dataIn k line d g p
        | some _ => s.grantIn k line
        | none => s
      if (s.mshrFind k line).isSome then s else s.doneIn k line
    | _, _ => s
  | none => s

/-- The open transaction of a line closes as far as its messages allow, and the queue head starts. -/
def State.closeTxn (s : State) (line : Nat) : State :=
  let s := ((s.closeSnoops line).closeMem line).closeAck line
  if (s.txnFind line).isNone then s.homeNext else s

/-- A request for a line is tried again until the line takes it, at most fuel times. -/
def agentWait : Nat → Nat → State → State
  | 0, _, s => s
  | n + 1, line, s =>
    if (s.txnFind line).isSome then agentWait n line (s.closeTxn line)
    else if (s.dirFind line).isNone && (s.dirWay line).isNone then
      match s.cache.txns.find? (fun x => x.home == s.homeOf line && dirSet x.line == dirSet line) with
      | some x => agentWait n line (s.closeTxn x.line)
      | none => s
    else s

/-- The lines of a draining class that a drain handles. -/
def State.drainLines (s : State) (cls : Nat) : List Nat :=
  ((s.cache.dir.filter (fun e => e.cls == cls)).map (·.line) ++ (s.cache.l3.filter (fun x => x.cls == cls)).map (·.line)).eraseDups

/-- A line is drained (R369): an entry is recalled as a directory victim is, which is counted (R379), and an L3 line is written back and dropped. -/
def State.drainLine (s : State) (line : Nat) : State :=
  let s := match s.dirFind line with
    | some e => s.bump (R.CNT_DIR_EVICT e.home.val)
    | none => s
  (s.cohCmo line true true true).2

/-- The lines of a class are drained now, after the transactions open on them (R369, R378); its drain counts them. -/
def State.drainClass (s : State) (cls : Nat) : State :=
  let s := (s.cache.txns.filter (fun x => s.classOf x.line == cls)).foldl (fun s x => agentWait 18 x.line s) s
  let l := s.drainLines cls
  let s := l.foldl (fun s x => s.drainLine x) s
  { s with cache := { s.cache with drains := s.cache.drains.map (fun d => if d.cls == cls then { d with lines := d.lines + l.length } else d) } }

/-- A request of a unit without caches takes its turn at the home of a line (R375, R388): where the line is busy, its class draining or its set full of open transactions, the request is NACKed, which is counted once, until it can start. -/
def State.agentOrder (s : State) (line : Nat) : State :=
  if s.lineBlocked line then
    let s := s.bump (R.CNT_NACK (s.homeOf line).val)
    let s := if s.cache.drains.any (fun d => d.cls == s.classOf line) then s.drainClass (s.classOf line) else s
    agentWait (2 * s.cache.queue.length + 18) line s
  else s

/-! ### Units without caches (R388) -/

/-- Bytes of DRAM written by a unit that holds no copies, line by line (R388). -/
def State.naWrite (s : State) (pa : Nat) (bytes : List Byte) : State :=
  match bytes with
  | [] => s
  | b :: bs =>
    ((s.agentOrder (pa / 64)).cohWrNa (pa / 64) (maskOf (pa % 64) (pa % 64)) (linePut 0 (pa % 64) 1 b.toNat) none false 0).naWrite (pa + 1) bs

/-- The line of DRAM that a unit without copies reads (R388). -/
def State.naReadLine (s : State) (line : Nat) : (Line × Nat) × State := (s.agentOrder line).cohRdNa line

/-- n bytes of DRAM read by a unit without copies (R388). -/
def State.naRead (s : State) (pa : Nat) : Nat → List Byte × State
  | 0 => ([], s)
  | n + 1 =>
    let r := (s.agentOrder (pa / 64)).cohRdNa (pa / 64)
    let rest := r.2.naRead (pa + 1) n
    (byteAt r.1.1 (pa % 64) :: rest.1, rest.2)

/-- Up to one line's worth of bytes written at one place (R51: a journal record lies within one line). -/
def State.naWriteIn (s : State) (pa n v : Nat) : State :=
  (s.agentOrder (pa / 64)).cohWrNa (pa / 64) (maskOf (pa % 64) (pa % 64 + n - 1)) (linePut 0 (pa % 64) n v) none false 0

/-! ### A core's caches (R366, R384) -/

/-- The caches' enables in force (R384). -/
def CoreSt.cacheOn (c : CoreSt) : Bool × Bool := ((c.tr c.sealed).l1dEn && (c.tr c.sealed).l2En, (c.tr c.sealed).l2En)

/-- The L1D does not hold a line. -/
def State.l1Misses (s : State) (k : CoreId) (line : Nat) : Bool := ((s.l2Find k line).bind (·.l1way)).isNone

/-- The copy in the L2 goes into the L1D too, where that allocates; one that the L1D holds is accessed (R360, R384). -/
def State.l1Maybe (s : State) (k : CoreId) (line : Nat) : State :=
  if (s.core k).cacheOn.1 || !s.l1Misses k line then s.l1Fill k line else s

/-- A core's access to its own eviction buffer recalls an unsent entry, which is counted (R366, R525). -/
def State.recall (s : State) (k : CoreId) (line : Nat) : State :=
  if (s.ebFind k line).isSome then (s.ebRecall k line).count k 0x1a 1 else s

/-! ### A core's request that is NACKed (R375, R376) -/

/-- The backoff after the n-th NACK of a request: 16 + 16 × min(n, 8) ring cycles of 2/3 ns, in ns (R376). -/
def nackDelay (n : Nat) : Nat := ((16 + 16 * min n 8) * 2 + 2) / 3

/-- A core's access finds that its line's home cannot take it (R375, R376): the request is NACKed, and again at each attempt after its backoff; after the 16th NACK it carries FALLBACK and is queued, once no other FALLBACK request of the core is outstanding. -/
def State.coreNack (s : State) (k : CoreId) (line : Nat) (kind : ReqKind) (zero flag : Bool) : State :=
  let nack (n : Nat) (since : Stamp) : State :=
    ((s.bump (R.CNT_NACK (s.homeOf line).val)).setMshr k line (some { line := line, kind := kind, nacks := n + 1, fallback := false, waiting := true, zero := zero, due := s.now + BitVec.ofNat 64 (nackDelay (n + 1)), since := since })).count k 0x18 1
  match s.mshrFind k line with
  | none => nack 0 s.now
  | some m =>
    if !m.waiting || stampLt s.now m.due then s
    else if m.nacks < 16 then nack m.nacks m.since
    else if (s.cc k).mshr.any (fun x => x.fallback && x.line != line) then s
    else
      let x := { s.txnOf line kind (.core k (s.core k).sealed) with zero := zero, flag := flag, fallback := true }
      ((s.setMshr k line (some { m with waiting := false, fallback := true })).count k 0x19 1).homeQueue x

end Sys2Proof.Machine
end

