-- ==== Sys2Proof/Machine/Journal.lean ====
section
/-! DEFINITION. Journal records and their three destinations: the rings in DRAM, the leading link and Lantern (R51 to R55, R332, R458). -/

namespace Sys2Proof.Machine

/-- The type code of a message (R186). -/
def LinkMsg.code : LinkMsg → Byte
  | .heartbeat _ => 0x01
  | .digest _ _ _ _ => 0x02
  | .swArm _ _ _ _ _ => 0x03
  | .swCancel _ _ => 0x04
  | .supply _ _ => 0x05
  | .handover _ => 0x06
  | .handoverAck _ => 0x07
  | .laneMap _ => 0x08
  | .ack _ => 0x0e
  | .nak _ => 0x0f
  | .mirror _ _ _ => 0x10
  | .mirrorEnd _ _ => 0x11
  | .journal _ => 0x20
  | .joinReq _ => 0x30
  | .joinAccept _ => 0x31
  | .joinRefuse _ => 0x32
  | .copy _ => 0x33
  | .copyEnd _ => 0x34
  | .replay _ _ => 0x35
  | .replayEnd _ _ => 0x36
  | .joinAt _ => 0x37
  | .joinGo _ => 0x38
  | .unitState _ => 0x39
  | .joinAbort _ => 0x3a

/-- The class of a message (R186): 0 control, 1 mirror, 2 journal, 3 copy and replay. -/
def LinkMsg.cls : LinkMsg → Nat
  | .mirror _ _ _ | .mirrorEnd _ _ => 1
  | .journal _ => 2
  | .copy _ | .replay _ _ => 3
  | _ => 0

/-- The payload of UNIT_STATE in 8 B words (R206); its layout is DESIGN CHOICE (log entry 76): a bit for each result and latch of 4,096 rules, 4 B for each of 1,024 timers, 32 B for each of 2,048 channels, 2 B for each place of the queue, 8 B for each hold, open change set, slot header, entry and live value. -/
def unitWords (u : UnitState) : Nat :=
  64 + 64 + 512 + 8192 + 512 + u.holds.length + u.openSets.length +
  u.slots.foldl (fun n x => n + 2 + x.entries.length) 0 + u.live.length

/-- The payload of a message in 8 B words (R186). -/
def LinkMsg.words : LinkMsg → Nat
  | .heartbeat _ => 4
  | .mirror _ _ l => 2 + 8 * l.length
  | .mirrorEnd _ _ => 2
  | .digest _ _ _ _ => 6
  | .swArm _ _ _ _ l => 2 + l.length
  | .swCancel _ _ => 2
  | .supply _ _ => 2
  | .journal _ => 4
  | .joinReq _ => 6
  | .copy l => 10 * l.length
  | .replay _ l => 1 + 9 * l.length
  | .replayEnd _ _ => 2
  | .unitState u => unitWords u
  | .handover _ | .handoverAck _ | .laneMap _ | .ack _ | .nak _ | .joinAccept _ | .joinRefuse _ | .copyEnd _ | .joinAt _ | .joinGo _ | .joinAbort _ => 1

/-- The header word of a message: type, payload length in words, sequence number (R182). -/
def LinkMsg.header (m : LinkMsg) (seq : W32) : W64 :=
  BitVec.ofNat 64 (m.code.toNat + m.words % 2 ^ 16 * 2 ^ 8 + seq.toNat * 2 ^ 32)

/-- The bytes of a message on the link: header word, payload, trailer word (R182). -/
def msgBytes (m : LinkMsg) : Nat := 16 + 8 * m.words

/-- The messages kept for resending: the newest, up to 256 KiB (R182). -/
def keepSent (room : Nat) : List (W32 × LinkMsg) → List (W32 × LinkMsg)
  | [] => []
  | x :: r => if msgBytes x.2 ≤ room then x :: keepSent (room - msgBytes x.2) r else []

/-- Hands a message to the leading link, where it waits for the lanes (R183); a link that is down carries none. -/
def State.linkSend (s : State) (m : LinkMsg) : State :=
  if s.tw.linkUp then { s with tw := { s.tw with txq := s.tw.txq ++ [m] } } else s

/-- A payload from its fields: byte offset, size in bytes, value. -/
def payloadOf (l : List (Nat × Nat × Nat)) : BitVec 96 :=
  BitVec.ofNat 96 (l.foldl (fun acc f => acc ||| ((f.2.2 % 2 ^ (8 * f.2.1)) <<< (8 * f.1))) 0)

/-- A record as its 32 bytes, byte 0 lowest (R51). -/
def recWord (r : JRec) : Nat :=
  r.stamp.toNat + (r.frame.toNat <<< 64) + (r.source.toNat <<< 96) + (r.type.toNat <<< 112) +
  (r.seq.toNat <<< 128) + (r.payload.toNat <<< 160)

/-- A record from its 32 bytes. -/
def recOfWord (n : Nat) : JRec :=
  { stamp := BitVec.ofNat 64 n, frame := BitVec.ofNat 32 (n >>> 64), source := BitVec.ofNat 16 (n >>> 96)
    type := BitVec.ofNat 16 (n >>> 112), seq := BitVec.ofNat 32 (n >>> 128), payload := BitVec.ofNat 96 (n >>> 160) }

/-- Writes a record into the journal ring (R55). -/
def State.ringWrite (s : State) (r : JRec) : State :=
  let size := 2 ^ s.fld R.JRN_SIZE 0 5
  let i := s.jrn.wptr
  let full := decide (size ≤ (i - s.rd R.JRN_RPTR).toNat)
  let s := s.naWriteIn ((s.rd64 R.JRN_BASE_LO R.JRN_BASE_HI).toNat + (i.toNat % size) * 32) 32 (recWord r)
  let s := if full then (s.bump R.JRN_LOST).flag R.BCN_STATUS 7 else s
  { s with jrn := { s.jrn with wptr := i + 1 } }

/-- Writes a full record of a Sealed subject into the Sealed ring (R332). -/
def State.sealedRingWrite (s : State) (r : JRec) : State :=
  let size := 2 ^ s.fld R.WD_SJRN_SIZE 0 5
  let i := s.jrn.swptr
  let full := decide (size ≤ (i - s.rd R.WD_SJRN_RPTR).toNat)
  let s := s.naWriteIn ((s.rd64 R.WD_SJRN_BASE_LO R.WD_SJRN_BASE_HI).toNat + (i.toNat % size) * 32) 32 (recWord r)
  let s := if full then (s.bump R.WD_SJRN_LOST).flag R.WD_STATUS 4 else s
  { s with jrn := { s.jrn with swptr := i + 1 } }

/-- The token bucket filled to the present stamp, in units of 10^-9 token (R458). -/
def State.tokensNow (s : State) : Nat :=
  let burst := s.fld R.LN_NVM_RATE 16 13 * 1000000000
  min burst (s.lan.tokens + s.fld R.LN_NVM_RATE 0 7 * (s.now - s.lan.tokenAt).toNat)

/-- A record as its 32 bytes, byte 0 first (R51). -/
def recBytes (r : JRec) : List Byte := leBytes 32 (recWord r)

/-- A stream takes a record; 32 of them make a datagram (R466). -/
def Stream.take (x : Stream) (r : JRec) : Stream × Option (UdpSrc × List Byte) :=
  let b := x.buf ++ [r]
  if b.length < 32 then ({ x with buf := b }, none)
  else ({ x with buf := [] }, some (x.src, x.hdr ++ b.flatMap recBytes))

/-- 60 s have not passed since the requester of a stream last asked (R466). -/
def State.streamLive (s : State) (x : Stream) : Bool := decide ((s.now - x.last).toNat < 60000000000)

/-- The Lantern port serves: it is enabled and Lantern runs its firmware (R454, R479). -/
def State.lnPortOn (s : State) : Bool := s.flagAt R.LN_PORT 1 && s.lan.running

/-- A record enters the RAM ring of 8,192 records, and every stream while the port serves (R458, R466). -/
def State.lanRam (s : State) (r : JRec) : State :=
  let l := s.lan.ram ++ [r]
  let s := { s with lan := { s.lan with ram := l.drop (l.length - 8192), ramNext := s.lan.ramNext + 1 } }
  if !s.lnPortOn then s else
  let t := (s.lan.streams.filter s.streamLive).map (fun x => x.take r)
  { s with lan := { s.lan with
    streams := t.map (·.1), portOut := s.lan.portOut ++ t.filterMap (·.2) } }

/-- A record is admitted to the NVM log, and takes a token when one is present (R458). -/
def State.lanAdmit (s : State) (r : JRec) : State :=
  let t := s.tokensNow
  { s with lan := { s.lan with admitted := s.lan.admitted ++ [r], tokens := if 1000000000 ≤ t then t - 1000000000 else t, tokenAt := s.now, throttled := false } }

/-- Lantern receives a record (R458): the answer says whether the record is the first refused since an admission. -/
def State.lanReceive (s : State) (r : JRec) : Bool × State :=
  let s := s.lanRam r
  if r.source = 0x6700 then (false, s.lanAdmit r)
  else if !s.flagAt R.LN_NVM_MASK (bitsAt r.type 8 5) then (false, s)
  else if 1000000000 ≤ s.tokensNow then (false, s.lanAdmit r)
  else
    let first := !s.lan.throttled
    (first, { s.bump R.CNT_NVM_SKIP with lan := { s.lan with throttled := true } })

/-- Makes a record: it takes the next sequence number (R51). -/
def State.mkRec (s : State) (stamp : Stamp) (station unit type : Nat) (payload : BitVec 96) : JRec :=
  { stamp := stamp, frame := lo32 (s.frameAt stamp), source := BitVec.ofNat 16 (station * 256 + unit)
    type := BitVec.ofNat 16 type, seq := s.jrn.seq, payload := payload }

/-- Delivers a record to the ring, the leading link and Lantern (R55); before boot step 11 to Lantern only (R489). full is the record for the Sealed ring, where the subject is Sealed (R332). -/
def State.deliver (s : State) (r : JRec) (full : Option JRec) : Bool × State :=
  let s := { s with jrn := { s.jrn with seq := s.jrn.seq + 1 } }
  let s :=
    if 11 ≤ s.boot.step ∧ s.boot.step ≤ 14 then
      let s := s.ringWrite r
      let s := match full with
        | some f => s.sealedRingWrite f
        | none => s
      s.linkSend (.journal r)
    else s
  s.lanReceive r

/-- Journals a record; full is the unmasked payload of a Sealed subject. -/
def State.jlogFull (s : State) (stamp : Stamp) (station unit type : Nat) (payload : BitVec 96) (full : Option (BitVec 96)) : State :=
  let r := s.mkRec stamp station unit type payload
  let d := s.deliver r (full.map (fun p => { r with payload := p }))
  if d.1 then
    let s := d.2.flag R.LN_STATUS 14
    (s.deliver (s.mkRec s.now 103 0 0x0f06 (payloadOf [(0, 4, (s.rd R.CNT_NVM_SKIP).toNat)])) none).2
  else d.2

/-- Journals a record whose subject is Open. -/
def State.jlog (s : State) (stamp : Stamp) (station unit type : Nat) (fields : List (Nat × Nat × Nat)) : State :=
  s.jlogFull stamp station unit type (payloadOf fields) none

/-- Journals a record whose subject is Sealed or not: plain fields are kept, the others are cleared in the masked record (R332). -/
def State.jlogW (s : State) (isSealed : Bool) (stamp : Stamp) (station unit type : Nat)
    (plain masked : List (Nat × Nat × Nat)) : State :=
  if isSealed then s.jlogFull stamp station unit type (payloadOf plain) (some (payloadOf (plain ++ masked)))
  else s.jlog stamp station unit type (plain ++ masked)

/-- The station of the tile of a core (R392): tile t is station t. -/
def coreStation (k : CoreId) : Nat := k.val / 2

/-- The compacted copy of the book: of entries that say the same, the oldest (R465; what compaction leaves out is DESIGN CHOICE, log entry 83). -/
def bookCompact (l : List JRec) : List JRec :=
  l.foldl (fun acc r => if acc.any (fun x => x.payload == r.payload) then acc else acc ++ [r]) []

/-- A full block of the book, of 2,048 entries: the compacted copy goes into the other block, and the full one is erased (R465). -/
def NvState.bookRoom (v : NvState) : NvState :=
  if v.book.length < 2048 then v else { v with book := bookCompact v.book, bookBlock := !v.bookBlock }

/-- Lantern appends an entry to the retirement book, marked with the reset period (R464, R465, R468). -/
def State.bookAdd (s : State) (kind unit sub coff : Nat) : State :=
  let v := s.nv.bookRoom
  { s with nv := { v with book := v.book ++ [s.mkRec s.now 103 0 0x0f07
      (payloadOf [(0, 1, kind), (1, 2, unit), (3, 1, sub), (4, 4, coff), (8, 4, s.nv.period.toNat)])] } }

/-- Lantern judges a part worn: the book records it, WEAR_JUDGE is journaled (R464, R468), and the policy core gathers the judgment (R101). -/
def State.judgeWorn (s : State) (part unit sub coff : Nat) : State :=
  let s := { s with hive := { s.hive with gather := { s.hive.gather with wear := s.hive.gather.wear ++ [(part, (unit, sub))] } } }
  ((s.bookAdd part unit sub coff).flag R.LN_STATUS 13).jlog s.now 103 0 0x0f03 [(0, 1, part), (1, 2, unit), (3, 1, sub), (4, 4, coff)]

/-- A vote on a triplicated word that is read: each voting copy that disagrees is rewritten, VOTE_FIX is journaled and set in the word's block (R430). -/
def State.voteFixCopy (s : State) (i v c : Nat) : State :=
  let w := s.trip.word i
  if w.wrong v c then
    let w' := w.fix v c
    let s := { s with trip := s.trip.setWord i w' }
    let s := match i with
      | 0 => s.flag R.TB_STATUS 5
      | 1 => s.flag R.BCN_STATUS 9
      | 2 => s.flag R.BCN_STATUS 9
      | 3 => s.flag R.WD_STATUS 3
      | _ => s.flag R.DEV_STATUS 0
    let s := s.jlog s.now 104 0 0x0d06 [(0, 1, i), (1, 1, c), (2, 1, b2n (w'.retired c))]
    if w'.retired c then
      s.judgeWorn 6 c i 0
    else s
  else s

/-- Reads a triplicated word for the machine: the value and the state after VOTE_FIX, or none when the vote is lost. -/
def State.tripRead (s : State) (i : Nat) : Option (Nat × State) :=
  match (s.trip.word i).vote with
  | none => none
  | some v =>
    if (s.trip.word i).votes.length < 2 then some (v, s)
    else some (v, ((s.voteFixCopy i v 0).voteFixCopy i v 1).voteFixCopy i v 2)

/-- A reserve part enters service: SPARE_IN (R110, R116). kind: 0 core, 1 L3 way, 2 channel, 3 Ant engine. -/
def State.spareIn (s : State) (kind old new place : Nat) : State :=
  (s.flag R.HV_STATUS 3).jlog s.now 97 0 0x0220 [(0, 1, kind), (1, 2, old), (3, 2, new), (5, 1, place)]

end Sys2Proof.Machine
end

