-- ==== Sys2Proof/Machine/Guard.lean ====
section
/-! DEFINITION. Guard pairs of the register blocks: which blocks and registers are Sealed, how a pair fails, and what any other write to a block does to its pending write (R314, R517, R518). -/

namespace Sys2Proof.Machine

/-- The station that serves a block (R512). -/
def blockStation (b : Nat) : Nat :=
  if 0x04 ≤ b ∧ b < 0x08 then 97
  else if b = 0x08 then 98
  else if 0x10 ≤ b ∧ b < 0x18 then 80 + (b - 0x10)
  else if b = 0x18 then 99
  else if b = 0x19 then 100
  else if b = 0x1a then 95
  else if b = 0x1c then 93
  else if b = 0x1d then 94
  else if b = 0x1e then 96
  else if b = 0x1f then 101
  else if b = 0x20 then 102
  else if b = 0x22 then 103
  else if 0x28 ≤ b ∧ b < 0x30 then 72 + (b - 0x28)
  else if 0x30 ≤ b ∧ b < 0x35 then 88 + (b - 0x30)
  else if 0x38 ≤ b ∧ b < 0x40 then 72 + (b - 0x38)
  else if 0x40 ≤ b ∧ b < 0x49 then 88 + (b - 0x40)
  else if 0x50 ≤ b ∧ b < 0x98 then b - 0x50
  else 104

/-- The GUARD_FAIL bit of a block: register offset and bit (R518). -/
def guardBit (b : Nat) : Option (Nat × Nat) :=
  if b = 1 then some (0x1c, 6)
  else if b = 2 then some (0x40, 8)
  else if b = 8 then some (0x160, 5)
  else if b = 4 ∨ (0x10 ≤ b ∧ b < 0x1a) ∨ b = 0x25 ∨ (0x38 ≤ b ∧ b < 0x49) then some (0x4, 0)
  else if b = 7 then some (0x104, 3)
  else if b = 0x1a then some (0x10, 0)
  else if b = 0x1e then some (0x200, 0)
  else if b = 0x22 then some (0x240, 8)
  else if b = 0x24 ∨ (0x28 ≤ b ∧ b < 0x35) then some (0x8, 0)
  else if 0x50 ≤ b ∧ b < 0x98 then some (0x204, 0)
  else none

/-- The block belongs to a Sealed unit at this offset, or the register is marked Sealed (R314, R336, R510, R511). -/
def State.regSealed (s : State) (b off : Nat) : Bool :=
  if 0x10 ≤ b ∧ b < 0x18 then s.baySealed (b - 0x10)
  else if b = 0x1c ∨ b = 0x1d then s.portSealed ((b - 0x1c) * 4 + off / 0x200)
  else if b = 0x1e then (if off < 0x200 then s.pcieSealed (off / 0x40) else decide (0x230 ≤ off ∧ off < 0x240))
  else if b = 0x1f then decide (off < 0x400) && s.canSealed (off / 0x40)
  else if b = 0x20 then
    (if off < 0x400 then s.kpSealed (off / 0x40) else decide (off < 0x480) && s.kpSealed (off % 0x40 / 4))
  else if b = 0x21 then decide (0x1c0 ≤ off ∧ off < 0x1e8)
  else if b = 0x24 then decide (off = 0x24)
  else if b = 0x25 then decide (0x60 ≤ off ∧ off < 0x6c) || decide (off = 0x7c)
  else false

/-- A guard pair fails (R518, R527): offset, requester and value of the failing or the discarded write. -/
def State.guardFail (s : State) (b cause off : Nat) (q : Requester) (v : W32) : State :=
  let s := match guardBit b with
    | some p => s.flag (b * 0x1000 + p.1) p.2
    | none => s
  s.jlogW (s.regSealed b (off % 0x800)) s.now (blockStation b) 0xff 0x0800
    [(0, 1, b), (1, 1, cause), (2, 2, off), (4, 1, q.station), (5, 1, q.unit), (8, 4, v.toNat)] []

/-- A register of guard-pair words at this offset (R516). -/
def gpAt (b off : Nat) : Bool :=
  match rowAt b off with
  | some row => row.gp != 0
  | none => false

/-- A write of value v at an offset from 0x800 with no write pending at the matching register (R14, R518 cause 4). Toward the complement word of a Sealed guard-pair register an Open one is ignored and sets no status (R314). -/
def State.loneWrite (s : State) (b off : Nat) (q : Requester) (v : W32) : State :=
  if s.regSealed b (off - 0x800) && !q.sealed && gpAt b ((off - 0x800) / 4 * 4) then s else s.guardFail b 4 off q v

/-- Block b holds no pending write. -/
def State.guardClear (s : State) (b : Nat) : State := { s with guard := assocDel s.guard b }

/-- The stamp at which the window of a pending write ends (R517). -/
def GuardPend.ends (p : GuardPend) : Stamp := p.arrival + BitVec.ofNat 64 ((3840 + p.rate - 1) / p.rate)

/-- The window of a pending write has ended. -/
def State.guardOver (s : State) (p : GuardPend) : Bool := decide (3840 ≤ (s.now - p.arrival).toNat * p.rate)

/-- A pending write whose window has ended is discarded (R518 cause 2). -/
def State.guardExpire (s : State) (b : Nat) : State :=
  match assoc? s.guard b with
  | none => s
  | some p => if s.guardOver p then (s.guardClear b).guardFail b 2 p.off p.who p.value else s

/-- A write other than the complement reaches block b: a pending write whose window has ended is discarded with cause 2, and one still pending with cause 3 (R517, R518). -/
def State.guardBreak (s : State) (b : Nat) : State :=
  let s := s.guardExpire b
  match assoc? s.guard b with
  | none => s
  | some p => (s.guardClear b).guardFail b 3 p.off p.who p.value

/-- A command that is a software write to block b: it breaks a pending pair there, and then has its own effect f (R517, R518). A command that is a completed guard pair makes two writes, and the first of them breaks the pair. -/
def State.blockWrite (s : State) (b : Nat) (f : State → State) : State := s.awake (fun s => f (s.guardBreak b))

end Sys2Proof.Machine
end

