-- ==== Sys2Proof/Machine/StateUnit.lean ====
section
/-! DEFINITION. The state unit: regions, settling, reads and writes of state lines, collisions, walks and the digest (chapter State Regions, Flip and Digest). -/

namespace Sys2Proof.Machine

/-! ### Walk entries, side store and touch lists (R67 to R69) -/

/-- The walk entry of a task and a frame. -/
def State.walkOf (s : State) (t : TaskId) (f : W32) : Option WalkEnt :=
  s.su.walks.find? (fun w => w.task == t && lo32 w.frame == f)

/-- Side entries of a line in ascending task frame, then task number. -/
def sideBefore (a b : SideEnt) : Bool := a.frame.toNat < b.frame.toNat || (a.frame == b.frame && a.task.val ≤ b.task.val)

/-- A side entry put into a list in that order. -/
def sideInsert (x : SideEnt) : List SideEnt → List SideEnt
  | [] => [x]
  | y :: r => if sideBefore y x then y :: sideInsert x r else x :: y :: r

/-- The side store has a free entry. -/
def State.sideRoom (s : State) : Bool := decide (s.su.side.length < 2 ^ s.fld R.SIDE_SIZE 0 5)

/-- Adds a side entry; SIDE_PEAK follows the entries in use (R67, R88). -/
def State.sideAdd (s : State) (x : SideEnt) : State :=
  let l := sideInsert x s.su.side
  { s with su := { s.su with side := l } }.peak R.SIDE_PEAK 0 21 l.length

/-- Keeps the side entries that satisfy a test. -/
def State.sideKeep (s : State) (p : SideEnt → Bool) : State := { s with su := { s.su with side := s.su.side.filter p } }

/-- The SIDE bit of a line follows its entries. -/
def State.sideBit (s : State) (line : Nat) : State :=
  s.setSline line { s.sline line with side := s.su.side.any (fun x => x.line == line) }

/-- The touch list in use on a core: 2c or 2c + 1 (R68). -/
def State.touchNo (s : State) (k : CoreId) : Nat := 2 * k.val + b2n (assocD s.su.touchSel k.val false)

/-- Replaces a touch list. -/
def State.setTouch (s : State) (n : Nat) (l : List TouchEnt) : State :=
  { s with su := { s.su with touch := if l.isEmpty then assocDel s.su.touch n else assocSet s.su.touch n l } }

/-- Marks the entry of a line as LOST in a touch list (R75). -/
def State.touchLost (s : State) (n line : Nat) : State :=
  s.setTouch n ((s.touch n).map (fun e => if e.line == line then { e with lost := true } else e))

/-! ### The digest (R82 to R85) -/

/-- Multiplication in GF(2^128) as SP 800-38D defines it: bit 0 of a block is its most significant bit here. -/
def gfMul (x : V128) (v z : V128) : Nat → V128
  | 0 => z
  | n + 1 =>
    let z := if bitAt x n then z ^^^ v else z
    let w := v >>> 1
    gfMul x (if bitAt v 0 then w ^^^ ((0xe1 : V128) <<< 120) else w) z n

/-- The block whose first byte is the most significant, from a number whose first byte is the least significant. -/
def revBlock (x : V128) : V128 := BitVec.ofNat 128 (beNat (toBytes x 16))

/-- GHASH of blocks under H (R83). -/
def ghash (h : V128) (y : V128) : List V128 → V128
  | [] => y
  | b :: r => ghash h (gfMul (y ^^^ b) h 0 128) r

/-- The digest key H (R82). -/
def State.digKey (s : State) : V128 := (s.rd R.DIG_KEY3 ++ s.rd R.DIG_KEY2 ++ s.rd R.DIG_KEY1 ++ s.rd R.DIG_KEY0 : V128)

/-- The contribution g(L) of a line, byte 0 in bits [7:0] (R83). -/
def State.contribution (s : State) (line : Nat) (d : Line) : V128 :=
  let x1 : V128 := BitVec.ofNat 128 ((line * 64) % 2 ^ 46)
  let blocks := [x1, d.extractLsb' 0 128, d.extractLsb' 128 128, d.extractLsb' 256 128, d.extractLsb' 384 128]
  revBlock (ghash (revBlock s.digKey) 0 (blocks.map revBlock))

/-- The running digest of a frame. -/
def State.digest (s : State) (f : W64) : V128 := assocD s.su.digests f.toNat 0

/-- XORs a contribution into the running digest of a frame, adding or removing it (R84, R85). -/
def State.digXor (s : State) (f : W64) (x : V128) : State :=
  { s with su := { s.su with digests := assocSet s.su.digests f.toNat (s.digest f ^^^ x) } }

/-- The digest of a frame is not yet final. -/
def State.digPending (s : State) (f : W64) : Bool := f == s.bcn.frame || s.su.digOpen.contains f

/-! ### Settling (R70) -/

/-- The pending part of settle(L) at frame N. A version whose DONE walk has not reached it gives its contribution as it commits, so that the digest does not depend on when the walk runs (R70, R84, R85). -/
def State.settlePend (s : State) (line : Nat) : State :=
  let m := s.sline line
  if !m.pend then s
  else
    let f := m.tag m.pslot
    match s.walkOf m.writer f with
    | some e =>
      match e.kind with
      | .abort => s.setSline line m.drop
      | .discard => s.setSline line m.drop
      | .commit c =>
        if c.toNat ≤ s.bcn.frame.toNat then s.setSline line (m.lateCommit (lo32 (c - 1)))
        else s.setSline line { m with held := true }
      | .carry => s.setSline line { m with held := true }
      | .done =>
        if f == lo32 s.bcn.frame then s
        else if m.digd || !s.digestLine line then s.setSline line m.commit
        else (s.digXor e.frame (s.contribution line (m.data m.pslot))).setSline line { m.commit with digd := true }
    | none => if f != lo32 s.bcn.frame then s.setSline line m.commit else s

/-- The side part of settle(L): one entry. -/
def State.settleSide (s : State) (line : Nat) (x : SideEnt) : State :=
  match s.walkOf x.task x.frame with
  | none => s
  | some e =>
    match e.kind with
    | .abort => s.sideKeep (· != x)
    | .discard => s.sideKeep (· != x)
    | .commit c =>
      if x.lost || decide (s.bcn.frame.toNat < c.toNat) then s
      else (s.setSline line ((s.sline line).lateSide x.data (lo32 (c - 1)))).sideKeep (· != x)
    | .carry => s
    | .done => s

/-- settle(L) of R70 at the current frame. -/
def State.settle (s : State) (line : Nat) : State :=
  let s := s.settlePend line
  if (s.sline line).side then
    ((s.su.side.filter (fun x => x.line == line)).foldl (fun s x => s.settleSide line x) s).sideBit line
  else s

/-! ### Reads and writes (R73 to R77) -/

/-- The side entry that holds a task's own version of a line in its frame f. -/
def State.ownSide (s : State) (t : TaskId) (f : W32) (line : Nat) : Option SideEnt :=
  s.su.side.find? (fun x => x.line == line && x.task == t && x.frame == f)

/-- The pending slot holds the version of task t and frame f. -/
def SLine.ownPend (m : SLine) (t : TaskId) (f : W32) : Bool := m.pend && m.writer == t && m.tag m.pslot == f

/-- Reads a line for a task and its frame, or for any other agent: the task's own version, else the committed version (R73). -/
def State.stRead (s : State) (t : Option (TaskId × W32)) (line : Nat) : Line × State :=
  let s := s.settle line
  let m := s.sline line
  match t with
  | none => (m.cdata, s)
  | some (t, f) =>
    if m.ownPend t f then (m.data m.pslot, s)
    else match s.ownSide t f line with
      | some x => (x.data, s)
      | none => (m.cdata, s)

/-- A task has a version of its own of a line in its frame. -/
def State.hasOwn (s : State) (t : TaskId) (f : W32) (line : Nat) : Bool :=
  (s.sline line).ownPend t f || (s.ownSide t f line).isSome

/-- A task that a store stops at once (R77). -/
structure StStop where
  task : TaskId
  frame : W64
  touch : Bool
  line : Nat
deriving DecidableEq, Repr

/-- A task has executed DONE for a frame: its walk entry says so, or its run-time record (R75). -/
def State.taskDone (s : State) (t : TaskId) (f : W32) : Bool :=
  (match s.walkOf t f with
   | some e => match e.kind with
     | .done => true
     | .commit _ => true
     | _ => false
   | none => false) || (s.rt t).done

/-- The touch list that a task's frame uses: the walk's, or that of the core it runs on. -/
def State.touchOfTask (s : State) (t : TaskId) (f : W32) : Option Nat :=
  match s.walkOf t f with
  | some e => some e.tlist
  | none => (s.rt t).run.map (fun r => s.touchNo r.1)

/-- Journals and counts a collision (R75, R87). -/
def State.collision (s : State) (win lose : TaskId) (line : Nat) (second done : Bool) : State :=
  let r := (s.regionOf line).getD 0
  ((s.bump R.CNT_COLL).flag R.ST_STATUS 0).jlogW (s.lineSealed line) s.now 98 0 0x0110
    [(0, 2, win.val), (2, 2, lose.val), (10, 1, r), (11, 1, b2n second + 2 * b2n done)] [(4, 6, line * 64)]

/-- The pending slot taken over by a task's first version (R74). -/
def State.takeSlot (s : State) (t : TaskId) (f : W64) (carried : Bool) (line : Nat) (d : Line) : State :=
  let m := s.sline line
  let p := if m.pend then m.pslot else !m.committed
  s.setSline line { (m.putSlot p d (lo32 f) false) with pend := true, pslot := p, held := carried, writer := t, digd := false }

/-- The version of frame f of a line in the side store that has lost no collision: a carried task's (R74, R75). -/
def State.sideRival (s : State) (f : W32) (line : Nat) : Option SideEnt :=
  s.su.side.find? (fun x => x.line == line && x.frame == f && !x.lost)

/-- The first write of a task that meets no version of its own frame (R74): the tasks it stops, and the state. -/
def State.placeFirst (s : State) (t : TaskId) (f : W64) (carried : Bool) (line : Nat) (d : Line) : List StStop × State :=
  let m := s.sline line
  if !m.pend then ([], s.takeSlot t f carried line d)
  else if !s.sideRoom then ([⟨t, f, false, line⟩], s)
  else if carried then
    ([], (s.sideAdd { line := line, data := d, task := t, frame := lo32 f, held := true, lost := false }).sideBit line)
  else
    let s := s.sideAdd { line := line, data := m.data m.pslot, task := m.writer, frame := m.tag m.pslot, held := true, lost := false }
    ([], (s.takeSlot t f carried line d).sideBit line)

/-- The first write of a task that meets a version x of its own frame in the side store (R75): x is flagged lost, or freed where its task has executed DONE, and the write is placed; a higher task number loses. -/
def State.meetSide (s : State) (t : TaskId) (f : W64) (carried : Bool) (line tl : Nat) (x : SideEnt) (d : Line) : List StStop × State :=
  let doneX := s.taskDone x.task x.frame
  if t.val < x.task.val then
    let s := match s.touchOfTask x.task x.frame with
      | some n => s.touchLost n line
      | none => s
    let s := s.collision t x.task line true doneX
    let s := if doneX then (s.sideKeep (· != x)).sideBit line
      else { s with su := { s.su with side := s.su.side.map (fun y => if y = x then { x with lost := true } else y) } }
    s.placeFirst t f carried line d
  else
    let s := (s.touchLost tl line).collision x.task t line false false
    if s.sideRoom then
      ([], (s.sideAdd { line := line, data := d, task := t, frame := lo32 f, held := carried, lost := true }).sideBit line)
    else ([⟨t, f, false, line⟩], s)

/-- The first write of a task to a line in its frame, after settling and after its touch entry (R74, R75). d is the committed version with the store applied. -/
def State.firstWrite (s : State) (t : TaskId) (f : W64) (carried : Bool) (line tl : Nat) (d : Line) : List StStop × State :=
  let m := s.sline line
  if m.pend && m.tag m.pslot == lo32 f then
    let w := m.writer
    let doneW := s.taskDone w (lo32 f)
    if t.val < w.val then
      let s := match s.touchOfTask w (lo32 f) with
        | some n => s.touchLost n line
        | none => s
      let s := s.collision t w line true doneW
      if doneW then
        let s := if m.digd && s.digPending f && s.digestLine line then s.digXor f (s.contribution line (m.data m.pslot)) else s
        ([], s.takeSlot t f carried line d)
      else if s.sideRoom then
        let s := s.sideAdd { line := line, data := m.data m.pslot, task := w, frame := lo32 f, held := m.held, lost := true }
        ([], (s.takeSlot t f carried line d).sideBit line)
      else ([⟨w, f, false, line⟩], s.takeSlot t f carried line d)
    else
      let s := (s.touchLost tl line).collision w t line false false
      if s.sideRoom then
        ([], (s.sideAdd { line := line, data := d, task := t, frame := lo32 f, held := carried, lost := true }).sideBit line)
      else ([⟨t, f, false, line⟩], s)
  else match s.sideRival (lo32 f) line with
    | some x => s.meetSide t f carried line tl x d
    | none => s.placeFirst t f carried line d

/-- A store of a task to a state line (R70, R73 to R77): the tasks it stops, and the state. tl is the touch list in use. -/
def State.stWrite (s : State) (t : TaskId) (f : W64) (carried : Bool) (tl line : Nat) (mask : BitVec 64) (data : Line) : List StStop × State :=
  let s := s.settle line
  let m := s.sline line
  if m.ownPend t (lo32 f) then
    ([], s.setSline line (m.putSlot m.pslot (mergeLine (m.data m.pslot) data mask) (m.tag m.pslot) (m.late m.pslot)))
  else match s.ownSide t (lo32 f) line with
    | some x =>
      ([], { s with su := { s.su with side := s.su.side.map (fun y => if y = x then { x with data := mergeLine x.data data mask } else y) } })
    | none =>
      if 2 ^ s.fld R.TOUCH_SIZE 0 5 ≤ (s.touch tl).length then ([⟨t, f, true, line⟩], s)
      else
        let s := s.setTouch tl (s.touch tl ++ [⟨line, false⟩])
        s.firstWrite t f carried line tl (mergeLine m.cdata data mask)

/-- A write to the window from an agent that is not a task does nothing (R60). -/
def State.foreignWrite (s : State) (addr : Nat) : State :=
  ((s.flag R.ST_STATUS 3).bump R.CNT_FOREIGN).jlogW (s.lineSealed (addr / 64)) s.now 98 0 0x0113 [] [(0, 6, addr)]

/-- A read of the window by an agent that is not a task: outside every region it returns 0 and sets UNMAPPED (R59, R73). -/
def State.agentRead (s : State) (line : Nat) : Line × State :=
  match s.regionOf line with
  | none => (0, s.flag R.ST_STATUS 6)
  | some _ => s.stRead none line

/-- The freeze, or a copy over the leading link, writes a line directly as the committed version (R80, R205). -/
def State.stCommitDirect (s : State) (line : Nat) (d : Line) (tag : W32) : State :=
  let s := s.settle line
  let m := s.sline line
  let p := !m.committed
  s.setSline line { ((m.putSlot p d tag false).invalid (!p)) with pend := false, held := false }

/-! ### Walks (R69, R85) -/

/-- A walk visits a line and settles it. A DONE walk adds the contribution of the task's version where that still stands pending without it, and sets DIGD; a version that has been committed gave its contribution then (R69, R85). -/
def State.walkLine (s : State) (e : WalkEnt) (x : TouchEnt) : State :=
  match e.kind with
  | .done =>
    let m := s.sline x.line
    if !x.lost && m.ownPend e.task (lo32 e.frame) && !m.digd && s.digestLine x.line then
      ((s.digXor e.frame (s.contribution x.line (m.data m.pslot))).setSline x.line { m with digd := true }).settle x.line
    else s.settle x.line
  | _ => s.settle x.line

/-- A walk has nothing left to wait for: a CARRY waits for its COMMIT or DISCARD, a COMMIT for its tick (R69). -/
def State.walkOver (s : State) (e : WalkEnt) : Bool :=
  match e.kind with
  | .carry => false
  | .commit m => decide (m.toNat ≤ s.bcn.frame.toNat)
  | _ => true

/-- The walk of an entry (R69): every touched line is visited; an entry with nothing to wait for retires, its side entries and its touch list are freed. -/
def State.walkRun (s : State) (e : WalkEnt) : State :=
  let s := (s.touch e.tlist).foldl (fun s x => s.walkLine e x) s
  if s.walkOver e then
    let mine (x : SideEnt) : Bool := x.task == e.task && x.frame == lo32 e.frame
    let lines := (s.su.side.filter mine).map (·.line)
    let s := s.sideKeep (fun x => !mine x)
    let s := lines.foldl (fun s l => s.sideBit l) s
    let s := s.setTouch e.tlist []
    { s with su := { s.su with walks := s.su.walks.filter (fun w => !(w.task == e.task && w.frame == e.frame)) } }
  else
    { s with su := { s.su with walks := s.su.walks.map (fun w => if w.task == e.task && w.frame == e.frame then { w with walked := true } else w) } }

/-- Puts a walk entry in the table, replacing the entry of the same task and frame. -/
def State.addWalk (s : State) (e : WalkEnt) : State :=
  { s with su := { s.su with walks := s.su.walks.filter (fun w => !(w.task == e.task && w.frame == e.frame)) ++ [e] } }

/-! ### The sweep (R72) -/

/-- Enabled regions in ascending window address: first line and number of lines. -/
def State.sweepRegions (s : State) : List (Nat × Nat) :=
  let l := ((List.range 16).filter s.regEn).map s.regLines
  sortBy (fun a b => decide (a.1 < b.1)) l

/-- The index of a line over all enabled regions in address order. -/
def lineIndex : List (Nat × Nat) → Nat → Nat → Option Nat
  | [], _, _ => none
  | (b, n) :: r, acc, line => if b ≤ line ∧ line < b + n then some (acc + (line - b)) else lineIndex r (acc + n) line

/-- The sweep of one tick: it settles the next 256 lines (R72). A line without an entry of its own has nothing to settle. -/
def State.sweep (s : State) : State :=
  let regs := s.sweepRegions
  let total := regs.foldl (fun a p => a + p.2) 0
  if total = 0 then s
  else
    let pos := s.su.sweepPos
    let due (l : Nat) : Bool := match lineIndex regs 0 l with
      | some i => (pos ≤ i && i < pos + 256) || (pos ≤ i + total && i + total < pos + 256)
      | none => false
    let s := ((s.su.lines.map (·.1)).filter due).foldl (fun s l => s.settle l) s
    let wrap := decide (total ≤ pos + 256)
    { s with su := { s.su with
        sweepPos := (pos + 256) % total
        sweepPass := if wrap then s.su.sweepPass + 1 else s.su.sweepPass } }

/-! ### Commands -/

/-- WALK (R69). A walk that no entry names does nothing. -/
def walkCmd (t : TaskId) (frame : W64) (s : State) : State :=
  match s.su.walks.find? (fun w => w.task == t && w.frame == frame) with
  | some e => s.walkRun e
  | none => s

/-- DBG_META_READ (R89): a Sealed line reads 0 from the Open world; a line outside every region has no metadata, and what is read is a free value. -/
def dbgMetaRead (q : Requester) (s : State) : State :=
  let line := (s.rd64 R.DBG_ADDR_LO R.DBG_ADDR_HI).toNat % 2 ^ 46 / 64
  let v := s.free 128
  let r := match s.regionOf line with
    | none => v
    | some _ => (if s.lineSealed line && !q.sealed then 0 else (s.sline line).meta, s)
  { r.2 with su := { r.2.su with dbgMeta := r.1 } }.flag R.ST_STATUS 7

/-- DBG_META_READ (R88, R89). -/
def execDbgMetaRead (q : Requester) (s : State) : Host.Outcome State Fault Refusal := .next (s.blockWrite 8 (dbgMetaRead q))

end Sys2Proof.Machine
end

