-- ==== Sys2Proof/Machine/Beacon.lean ====
section
/-! DEFINITION. The timebase corrections, the start of the beacon, alignment to BCN_IN and input staging (chapter Beacon, Frames and the Timebase). -/

namespace Sys2Proof.Machine

/-! ### The timebase -/

/-- A rate word clamped to ±200 ppm, and whether it was clamped (R27). -/
def clampRate (v : W32) : W32 × Bool :=
  let c := clampInt (-219902325) 219902325 v.toInt
  (BitVec.ofInt 32 c, c != v.toInt)

/-- A rate takes effect and is journaled RATE_SET (R27). -/
def State.rateApply (s : State) (r : W32) (clamped : Bool) : State :=
  { s with tb := { s.tb with rate := r, rateNext := none } }.jlog s.now 104 0 0x0033 [(0, 4, r.toNat), (4, 1, b2n clamped)]

/-- A completed TB_RATE pair (R27). -/
def tbRateWrite (v : W32) (s : State) : State :=
  let c := clampRate v
  let s := s.wr R.TB_RATE c.1
  let s := if c.2 then s.flag R.TB_STATUS 3 else s
  if s.bcn.ticked then { s with tb := { s.tb with rateNext := some c } } else s.rateApply c.1 c.2

/-- The timebase epoch applies (R28). -/
def State.taiApply (s : State) (v : W64) : State :=
  (({ s with tb := { s.tb with taiNext := none } }.tripPut 0 v.toNat).flag R.TB_STATUS 4).jlog s.now 104 0 0x0034 [(0, 8, v.toNat)]

/-- A completed TB_TAI_LO pair applies the staged high word with the new low word (R28). -/
def taiWrite (lo : W32) (s : State) : State :=
  let v := join32 (s.rd R.TB_TAI_HI) lo
  let s := s.wr R.TB_TAI_LO lo
  if s.bcn.ticked then { s with tb := { s.tb with taiNext := some v } } else s.taiApply v

/-- A completed BCN_EPOCH_LO pair (R30). -/
def epochWrite (lo : W32) (s : State) : State :=
  if s.runSet then s.flag R.BCN_STATUS 10
  else (s.wr R.BCN_EPOCH_LO lo).tripPut 1 (join32 (s.rd R.BCN_EPOCH_HI) lo).toNat

/-! ### The start of the beacon (R31) -/

/-- The first tick is frame n. -/
def State.firstTick (s : State) (n : W64) : State :=
  { s with bcn := { s.bcn with started := true, first := n, nextN := n }, su := { s.su with tag0 := lo32 (n - 1), lines := s.su.lines.map (fun p => (p.1, { p.2 with tagA := lo32 (n - 1) })) } }

/-- The smallest N from 0 for which T(N) lies at least 10,000 ns after a stamp. -/
def firstFrame (epoch : Stamp) (period : Nat) (t : Stamp) : Nat :=
  ((stampDiff t epoch + 10000 + period - 1) / period).toNat

/-- The beacon starts (R31): with ALIGN it waits for an edge instead. -/
def State.startBeacon (s : State) : State :=
  if s.bcn.started || s.period == 0 || s.flagAt R.BCN_CTL 1 then s
  else s.firstTick (BitVec.ofNat 64 (firstFrame s.epoch s.period s.now))

/-- The value a completed BCN_CTL pair stores: RUN stays set, IN_DIV is at most 12 (R31, R57). -/
def ctlValue (old v : W32) : W32 :=
  let div := min 12 (bitsAt v 3 4)
  putBits (putBits (BitVec.ofNat 32 (bitsAt v 0 8)) 3 4 div) 0 1 (b2n (bitAt v 0 || bitAt old 0))

/-- A completed BCN_CTL pair (R31): setting RUN starts the beacon, or on a twin opens the LISTEN window (R190); in boot failure the beacon never starts (R479). -/
def beaconRun (v : W32) (s : State) : State :=
  let was := s.runSet
  let s := s.wr R.BCN_CTL (ctlValue (s.rd R.BCN_CTL) v)
  if was || !bitAt v 0 || s.boot.step == 15 then s
  else if s.flagAt R.TW_CFG 0 then { s with tw := { s.tw with listenFrom := some s.now, listenPulse := false } }
  else s.startBeacon

/-! ### Alignment to BCN_IN (R34, R35) -/

/-- The device takes its tick phase over the leading link and ignores BCN_IN: it is a twin that does not hold the token (R187, R191). -/
def State.nonHolder (s : State) : Bool :=
  s.flagAt R.TW_CFG 0 && (match s.tw.role with
  | .standby => true
  | .joining => true
  | .diverged => true
  | .isolated => true
  | _ => false)

/-- The device holds the token (R187): a device with TW_CFG.EN at 0 always does. -/
def State.holder (s : State) : Bool :=
  !s.flagAt R.TW_CFG 0 || s.tw.role == .alone || s.tw.role == .active

/-- A message arrives in order: it is counted, and the silence of the link ends (R182). -/
def State.rx (s : State) : State := { s with tw := { s.tw with rxSeq := s.tw.rxSeq + 1, lastRx := s.now } }

/-- Messages reach a device of a pair while its link is up (R187). -/
def State.hears (s : State) : Bool := s.flagAt R.TW_CFG 0 && s.tw.linkUp

/-- 2^IN_DIV. -/
def State.inDiv (s : State) : Nat := 2 ^ s.fld R.BCN_CTL 3 4

/-- A frame whose tick expects an edge: its number is a multiple of 2^IN_DIV, and it exists (R31, R34). -/
def State.expects (s : State) (n : W64) : Bool := n.toNat % s.inDiv == 0 && decide (s.bcn.first.toNat ≤ n.toNat)

/-- The expected ticks that an edge can lie within P/2 of: the last that fired, as it fired, and the next. -/
def State.edgeTicks (s : State) : List (W64 × Stamp) :=
  ((if s.bcn.ticked then [(s.bcn.frame, s.bcn.tickStamp)] else []) ++ [(s.bcn.nextN, s.tickAt s.bcn.nextN)]).filter (fun p => s.expects p.1)

/-- M and e of R34 for an edge stamped t: the nearest expected tick, the later one when midway; none where every expected tick is more than P/2 away (R35). -/
def State.edgeErr (s : State) (t : Stamp) : Option (W64 × Int) :=
  let near (best : Option (W64 × Int)) (p : W64 × Stamp) : Option (W64 × Int) :=
    let e := stampDiff t p.2
    match best with
    | none => some (p.1, e)
    | some b => if e.natAbs ≤ b.2.natAbs then some (p.1, e) else best
  (s.edgeTicks.foldl near none).filter (fun b => decide (2 * b.2.natAbs ≤ s.period))

/-- Saturation at ±(2^31 - 1). -/
def sat31 (e : Int) : Int := clampInt (-(2 ^ 31 - 1)) (2 ^ 31 - 1) e

/-- Moves every tick that has not fired by an amount, and journals it (R34). -/
def State.epochMove (s : State) (adj e : Int) : State :=
  let ep := s.epoch + BitVec.ofInt 64 adj
  (if adj = 0 then s else s.tripPut 1 ep.toNat).jlog s.now 104 0 0x0030
    [(0, 4, (BitVec.ofInt 32 adj).toNat), (4, 4, (lo32 ep).toNat), (8, 4, (BitVec.ofInt 32 (sat31 e)).toNat)]

/-- The adjustment for e of an edge stamped t (R34), and whether it was clamped: within BCN_SLEW, never moving the next tick before t plus 250 ns, nor to a stamp that has passed.
DESIGN CHOICE (log entry 71): where the next tick already lies before t plus 250 ns no reduction places it there, and a negative adjustment is 0 and counts as clamped. -/
def State.edgeAdj (s : State) (t : Stamp) (e : Int) : Int × Bool :=
  let slew : Int := (s.rd R.BCN_SLEW).toNat
  let a := clampInt (-slew) slew e
  let room : Int := stampDiff (stampMax (t + 250) s.now) (s.tickAt s.bcn.nextN)
  if a < 0 ∧ a < room then (if room < 0 then room else 0, true) else (a, a != e)

/-- The adjustment for e of an edge stamped t, with BCN_IN_ERR, EPOCH_ADJ_CLAMP and its record (R34). -/
def State.edgeSteer (s : State) (t : Stamp) (e : Int) : State :=
  let a := s.edgeAdj t e
  let s := { s with bcn := { s.bcn with inErr := BitVec.ofInt 32 (sat31 e) } }
  let s := if a.2 then s.flag R.BCN_STATUS 6 else s
  s.epochMove a.1 e

/-- The edge of the running frame's tick, or of the next one, has arrived: no expected edge is missed in a row any more (R35). -/
def State.edgeSeen (s : State) (m : W64) : State :=
  { s with bcn := { s.bcn with
    edgeMiss := 0
    edgeGot := s.bcn.edgeGot || (s.bcn.ticked && m == s.bcn.frame)
    edgeNext := s.bcn.edgeNext || m == s.bcn.nextN } }

/-- An edge of the selected polarity within P/2 of the expected tick M (R34, R35).
DESIGN CHOICE (log entry 71): bit 0 of a TICK record's flags, BCN_IN aligned, is 1 from the first edge taken until BCN_IN_LOST; clearing ALIGN leaves it. -/
def State.edgeTaken (s : State) (m : W64) (e : Int) : State :=
  let s := { s with bcn := { s.bcn with aligned := true } }.edgeSeen m
  let s := if s.bcn.inLost then
      ({ s with bcn := { s.bcn with inLost := false } }.flag R.BCN_STATUS 5).jlog s.now 104 0 0x0032 [(0, 8, s.now.toNat)]
    else s
  s.edgeSteer s.now e

/-- BCN_IN_EDGE (R31, R34, R35).
DESIGN CHOICE (log entry 84): where ALIGN is cleared after RUN was set with ALIGN at 1 and before the first edge, no edge starts the beacon until ALIGN is set again. -/
def bcnInEdge (falling : Bool) (s : State) : State :=
  if falling != s.flagAt R.BCN_CTL 2 then s
  else
    let s := { s with bcn := { s.bcn with inLast := s.now } }
    if !s.flagAt R.BCN_CTL 1 || s.nonHolder || s.period == 0 then s
    else if !s.bcn.started then
      if s.runSet && s.boot.step != 15 && (s.tw.listenFrom.isNone || !s.flagAt R.TW_CFG 0) then
        ({ s with bcn := { s.bcn with aligned := true } }.tripPut 1 (s.now + BitVec.ofNat 64 (s.inDiv * s.period)).toNat).firstTick 0
      else s
    else match s.edgeErr s.now with
      | none => s
      | some x => s.edgeTaken x.1 x.2

/-- The stamp from which the edge of the running frame's tick can no longer lie within P/2 of it (R35). -/
def State.edgeEnd (s : State) : Stamp := s.bcn.tickStamp + BitVec.ofNat 64 (s.period / 2 + 1)

/-- The running frame's tick expects an edge whose arrival nobody has judged. -/
def State.edgeDue (s : State) : Bool :=
  s.flagAt R.BCN_CTL 1 && !s.nonHolder && s.bcn.ticked && s.expects s.bcn.frame && !s.bcn.edgeJudged

/-- The expected edge of the running frame's tick is judged: without it one more edge in a row is missed, and the third sets BCN_IN_LOST (R35). -/
def State.edgeJudge (s : State) : State :=
  if !s.edgeDue then s
  else
    let miss := if s.bcn.edgeGot then 0 else min 3 (s.bcn.edgeMiss + 1)
    let lost := decide (miss = 3) && !s.bcn.inLost
    let s := { s with bcn := { s.bcn with edgeJudged := true, edgeMiss := miss } }
    if lost then
      ({ s with bcn := { s.bcn with inLost := true, aligned := false } }.flag R.BCN_STATUS 4).jlog s.edgeEnd 104 0 0x0031
        [(0, 8, s.bcn.inLast.toNat)]
    else s

/-- BCN_IN_LOST (R35): the third expected edge in a row has not arrived within P/2 of its tick. -/
def bcnInLost (s : State) : State :=
  if s.edgeDue && !s.bcn.edgeGot && !s.bcn.inLost && s.bcn.edgeMiss == 2 then (s.advanceTo s.edgeEnd).edgeJudge else s

/-- BCN_OUT_FALL (R33). -/
def bcnOutFall (s : State) : State :=
  if s.bcn.out then
    let s := s.advanceTo s.bcn.outEnd
    { s with bcn := { s.bcn with out := false } }
  else s

/-! ### Input staging (R38, R488, R545) -/

/-- A post that no freeze takes: stamped before the frame that precedes the first tick (R488). -/
def State.tooOld (s : State) (p : Post) : Bool :=
  s.bcn.started && decide (s.frameIdx p.stamp < (s.bcn.first.toNat : Int) - 1)

/-- The stamp at which the freeze grace of the frame after a post's own closes. -/
def State.graceEnd (s : State) (t : Stamp) : Stamp :=
  s.tickOf (BitVec.ofInt 64 (s.frameIdx t + 1)) + (s.rd R.BCN_GRACE).setWidth 64

/-- The post reaches staging at or after the close of its grace (R38). -/
def State.isLate (s : State) (p : Post) : Bool := s.bcn.started && stampLe (s.graceEnd p.stamp) s.now

/-- A post reaches input staging (R38). -/
def State.stage (s : State) (p : Post) : State :=
  if s.tooOld p then s
  else
    let late := s.isLate p
    let s := if late then
        ((s.bump R.BCN_CNT_LATE).flag R.BCN_STATUS 3).jlog s.now 104 0 0x0020 [(0, 4, p.point), (4, 8, p.stamp.toNat)]
      else s
    { s with bcn := { s.bcn with staging := s.bcn.staging ++ [⟨{ p with late := late }, s.now⟩] } }

/-- A sample container: value in [31:8], quality in [7:0]. -/
def sampleOf (value : Int) (quality : Nat) : W32 := BitVec.ofInt 24 value ++ BitVec.ofNat 8 quality

/-- A unit of the device posts a sample to input staging (R545). -/
def State.postSample (s : State) (point : Nat) (v : W32) (stamp : Stamp) (station unit : Nat) : State :=
  s.stage ⟨point, v, stamp, station, unit, false⟩

/-- The oldest post of a bay's queue leaves it for input staging, where it is the post named (R39, R146); a bay that is down posts nothing (R507). -/
def State.bayPost (s : State) (b : BayId) (p : Post) : State :=
  let x := s.bay b
  if x.posts.head? = some p ∧ assocD s.clk.doms (72 + b.val) .down = .up then ((s.bump (R.CNT_POST b.val)).setBay b { x with posts := x.posts.drop 1 }).stage p else s

/-- SAMPLE_POST (R545): the posts of an Ant bay come from its post queue, oldest first (R39, R146). -/
def samplePost (p : Post) (s : State) : State :=
  if 80 ≤ p.station ∧ p.station < 88 then s.bayPost (bayOf (p.station - 80)) p else s.stage p

/-! ### Commands -/

/-- TB_RATE_WRITE (R27). -/
def execTbRateWrite (v : W32) (s : State) : Host.Outcome State Fault Refusal := .next (s.blockWrite 1 (tbRateWrite v))
/-- TAI_WRITE (R28). -/
def execTaiWrite (lo : W32) (s : State) : Host.Outcome State Fault Refusal := .next (s.blockWrite 1 (taiWrite lo))
/-- EPOCH_WRITE (R30). -/
def execEpochWrite (lo : W32) (s : State) : Host.Outcome State Fault Refusal := .next (s.blockWrite 2 (epochWrite lo))
/-- BEACON_RUN (R31). -/
def execBeaconRun (v : W32) (s : State) : Host.Outcome State Fault Refusal := .next (s.blockWrite 2 (beaconRun v))
/-- BCN_OUT_FALL (R33). -/
def execBcnOutFall (s : State) : Host.Outcome State Fault Refusal := .next (bcnOutFall s)
/-- BCN_IN_EDGE (R34). -/
def execBcnInEdge (falling : Bool) (s : State) : Host.Outcome State Fault Refusal := .next (bcnInEdge falling s)
/-- BCN_IN_LOST (R35). -/
def execBcnInLost (s : State) : Host.Outcome State Fault Refusal := .next (bcnInLost s)
/-- SAMPLE_POST (R545). -/
def execSamplePost (p : Post) (s : State) : Host.Outcome State Fault Refusal := .next (s.awake (samplePost p))

end Sys2Proof.Machine
end

