-- ==== Sys2Proof/Machine/Pins.lean ====
section
/-! DEFINITION. The field pins of a bay as their owners see them: engines, owners, the levels driven, safe states and DE (chapter Ant Engines and Field Pins). -/

namespace Sys2Proof.Machine

/-- A domain: tile t at t, bay b at 72 + b, channel c at 80 + c. -/
def State.dom (s : State) (d : Nat) : DomSt := assocD s.clk.doms d .down

/-- The rate in force, in units of 2^-40: TB_RATE, and on the crystal with HOLDOVER_EN the kept frequency of the lost reference (R26, R27). -/
def State.rateNow (s : State) : Int := s.tb.rate.toInt + (if s.tb.src = 2 ∧ s.flagAt R.TB_CTL 2 then s.tb.held.toInt else 0)

/-- A physical engine of a bay. -/
def State.eng (s : State) (b : BayId) (e : Nat) : Engine := assocD (s.bay b).eng e Engine.reset
/-- Replaces a physical engine. -/
def State.setEng (s : State) (b : BayId) (e : Nat) (x : Engine) : State :=
  s.setBay b { s.bay b with eng := assocSet (s.bay b).eng e x }
/-- A pin of a bay. -/
def State.pin (s : State) (b : BayId) (u : Nat) : Pin := assocD (s.bay b).pins u {}
/-- Replaces a pin. -/
def State.setPin (s : State) (b : BayId) (u : Nat) (x : Pin) : State :=
  s.setBay b { s.bay b with pins := assocSet (s.bay b).pins u x }
/-- PIN_CFG of a pin. -/
def State.pinCfg (s : State) (b : BayId) (u : Nat) : W32 := s.rd (R.PIN_CFG b.val u)

/-- The physical engine that serves a logical engine (R121, R148). -/
def State.engOf (s : State) (b : BayId) (l : Nat) : Option Nat :=
  (List.range 32).find? (fun e => (s.eng b e).logical == l)

/-- A logical engine owns a pin (R138). -/
def State.owns (s : State) (b : BayId) (l u : Nat) : Bool :=
  decide (u < 24) && bitsAt (s.pinCfg b u) 0 2 == 1 && bitsAt (s.pinCfg b u) 2 11 == l

/-- The pins a logical engine owns. -/
def State.ownedPins (s : State) (b : BayId) (l : Nat) : List Nat := (List.range 24).filter (s.owns b l)

/-! ### Levels and safe states (R138 to R141) -/

/-- The engine that owns a pin runs: it is neither halted nor retired, nor being loaded. -/
def State.ownerRuns (s : State) (b : BayId) (l : Nat) : Bool :=
  match s.engOf b l with
  | some e => (s.eng b e).st == .running || (s.eng b e).st == .waiting
  | none => false

/-- The timebase clock of this command: the stamp and the part of a ns, in units of 1/(3 · 2^40) ns. -/
def State.clockNow (s : State) : Stamp × Nat := (s.now, s.tb.frac)

/-- Timebase clocks, at the rate in force, since a clock. -/
def State.clocksSince (s : State) (t : Stamp × Nat) : Nat :=
  ((s.since t.1 * (3 * 2 ^ 40) + (s.tb.frac : Int) - t.2) / (2 * (2 ^ 40 + s.rateNow))).toNat


/-- Bits set in the low n bits of a word. -/
def onesIn (v : W32) (n : Nat) : Nat := (List.range n).foldl (fun c i => c + b2n (bitAt v i)) 0

/-- The level on the TX line of a UART at bit time i of a word: the start bit, the data bits from bit 0, the parity bit, then stop bits (R144, R145). -/
def uartLevel (frame data : W32) (i : Nat) : Bool :=
  let n := bitsAt frame 0 4
  if i = 0 then false
  else if i ≤ n then bitAt data (i - 1)
  else if i = n + 1 ∧ (bitsAt frame 4 2 = 1 ∨ bitsAt frame 4 2 = 2) then (onesIn data n % 2 == 1) != (bitsAt frame 4 2 == 2)
  else true

/-- The level a shift unit gives one of its output lines: 0 TX or MOSI, 2 CLK. A UART line idles high (PRESUMED), and a SYNC clock leaves its idle level in the second half of a bit time with CPHA 0 and in the first half with CPHA 1 (PRESUMED), log entry 75. -/
def State.suLine (s : State) (u : ShiftUnit) (line : Nat) : Option Bool :=
  let div := bitsAt u.div 0 24
  let at2 := 2 * s.clocksSince u.wordAt / div
  let word := u.tx.headD 0
  match bitsAt u.mode 0 2, line with
  | 1, 0 => some (!u.busy || uartLevel u.frame word (at2 / 2))
  | 2, 0 =>
    let n := bitsAt u.frame 0 6
    some (Config.syncLevel word n (if u.busy then min n (at2 / 2) else n))
  | 2, 2 =>
    let away := u.busy && decide (at2 / 2 < bitsAt u.frame 0 6) && ((at2 % 2 == 1) != bitAt u.mode 3)
    some (bitAt u.mode 2 != away)
  | _, _ => none

/-- The level that the owning engine's shift unit puts on a pin, where PINS names the pin as its TX, MOSI or CLK; it goes before PWR (DESIGN CHOICE, log entry 75). -/
def State.suPin (s : State) (b : BayId) (l u : Nat) : Option Bool :=
  match s.engOf b l with
  | none => none
  | some e =>
    let x := (s.eng b e).su
    if bitsAt x.pins 0 5 = u then s.suLine x 0 else if bitsAt x.pins 10 5 = u then s.suLine x 2 else none

/-- The pin is the TX pin of the CAN FD controller that owns it, and the controller is in use: between frames it drives the recessive level, high (R443). -/
def State.canTxPin (s : State) (b : BayId) (u : Nat) : Bool :=
  let c := bitsAt (s.pinCfg b u) 2 11
  decide (c < 16) && s.flagAt (R.CC_CFG c) 0 && s.fld (R.CC_CFG c) 8 8 == 24 * b.val + u

/-- What a pin's owner asks of its driver (R138, R139, R143, R145, R443). -/
def State.ownerAsk (s : State) (b : BayId) (u : Nat) : Option Bool :=
  let c := s.pinCfg b u
  let x := s.pin b u
  match bitsAt c 0 2 with
  | 0 => none
  | 1 => match s.suPin b (bitsAt c 2 11) u with
    | some v => some v
    | none => x.drive
  | 2 => x.drive
  | _ => if s.canTxPin b u then some true else none

/-- A pin holds its safe state (R141, R507). -/
def State.pinSafe (s : State) (b : BayId) (u : Nat) : Bool :=
  let c := s.pinCfg b u
  bitsAt c 0 2 == 0 || s.flagAt (R.BAY_CTL b.val) 0 || s.dom (72 + b.val) != .up ||
  (bitsAt c 0 2 == 1 && (!(s.pin b u).driven || !s.ownerRuns b (bitsAt c 2 11)))

/-- Judges whether a pin's safe state is in force; where it begins, the level driven at that moment is kept (R141). -/
def State.judgePin (s : State) (b : BayId) (u : Nat) : State :=
  let x := s.pin b u
  let now := s.pinSafe b u
  s.setPin b u { x with safe := now, hold := if now && !x.safe then s.ownerAsk b u else x.hold }

/-- Judges every pin of a bay. -/
def State.judgeBay (s : State) (b : BayId) : State := foldRange (fun u s => s.judgePin b u) 0 24 s

/-- The owner drives a pin, or releases it (R138). -/
def State.drivePin (s : State) (b : BayId) (u : Nat) (v : Option Bool) : State :=
  let x := s.pin b u
  (s.setPin b u { x with drive := v, driven := x.driven || v.isSome }).judgePin b u

/-! ### DE (R145) -/

/-- Replaces a shift unit. -/
def State.setSu (s : State) (b : BayId) (e : Nat) (u : ShiftUnit) : State := s.setEng b e { s.eng b e with su := u }

/-- DE is asserted or released (R145). -/
def State.suDe (s : State) (b : BayId) (e : Nat) (v : Bool) : State :=
  let u := (s.eng b e).su
  let s := s.setSu b e { u with de := v }
  if bitsAt u.pins 15 5 < 24 then s.drivePin b (bitsAt u.pins 15 5) (some v) else s

/-- DE is released once DE_TAIL bit times have passed after the last stop bit (R145). -/
def State.suTail (s : State) (b : BayId) (e : Nat) : State :=
  let u := (s.eng b e).su
  if u.deEnd.any (fun t => stampLe t s.now) then (s.setSu b e { u with deEnd := none }).suDe b e false else s

/-- Every DE of a bay whose tail has passed is released (R145). -/
def State.bayTails (s : State) (b : BayId) : State := (s.bay b).eng.foldl (fun s p => s.suTail b p.1) s

end Sys2Proof.Machine
end

