-- ==== Sys2Proof/Machine/Power.lean ====
section
/-! DEFINITION. Clock sources, performance levels, power domains and votes (chapter Clocks and Power). -/

namespace Sys2Proof.Machine

/-! ### Domains (R503 to R506) -/

/-- Sets a domain. -/
def State.setDom (s : State) (d : Nat) (x : DomSt) : State := { s with clk := { s.clk with doms := assocSet s.clk.doms d x } }

/-- A domain is up and ready. -/
def State.domReady (s : State) (d : Nat) : Bool := s.dom d == .up

/-- Kind and index of a domain as DOMAIN_STATE names them (R509). -/
def domName (d : Nat) : Nat × Nat := if d < 72 then (0, d) else if d < 80 then (1, d - 72) else (2, d - 80)

/-- A word of a bit vector of votes held in registers base, base + 4, ... -/
def State.voteBit (s : State) (base n : Nat) : Bool := s.flagAt (base + 4 * (n / 32)) (n % 32)

/-- Sets a bit of such a vector. -/
def State.setVoteBit (s : State) (base n : Nat) (v : Bool) : State := s.setFld (base + 4 * (n / 32)) (n % 32) 1 (b2n v)

/-- The votes a domain holds: hardware, Open, Sealed (R503). The always-on domain and the ring group are never withdrawn. -/
def State.votes (s : State) (d : Nat) : List Bool :=
  if d < 72 then
    [s.voteBit (R.PV_TILE_HW 0) d, s.voteBit (R.PV_TILE_OPEN 0) d, s.voteBit (R.PV_TILE_SEALED 0) d || s.voteBit (R.CV_TILE_SEAL 0) d]
  else if d < 80 then [false, s.flagAt R.PV_BAY (d - 72), s.flagAt R.PV_BAY (8 + (d - 72))]
  else if d < 93 then [s.flagAt R.PV_MEM_HW (d - 80), false, false]
  else [true, false, false]

/-- The engines of a bay have their clock: a clock vote of the bay is set (R333, R503, R510). -/
def State.bayClocked (s : State) (b : Nat) : Bool := s.flagAt R.CV_BAY b || s.flagAt R.CV_BAY (8 + b)

/-- A domain starts to wake: its ready delay counts from now (R506). -/
def State.wakeStart (s : State) (d : Nat) (vote : Fin 3) : State :=
  { s with clk := { s.clk with wakeAt := assocSet s.clk.wakeAt d s.now } }.setDom d (.waking vote)

/-- The stamp at which a waking domain is ready: WAKE_DLY of its kind after its wake began (R506). -/
def State.wakeEnd (s : State) (d : Nat) : Stamp :=
  assocD s.clk.wakeAt d 0 + BitVec.ofNat 64 (1000 * s.fld (R.WAKE_DLY (if d < 72 then 0 else if d < 80 then 1 else 2)) 0 16)

/-- A vote arrives for a domain: one that is down starts its wake, one that is dropping wakes after the drop (R504, R506). -/
def State.wake (s : State) (d : Nat) (vote : Fin 3) : State :=
  match s.dom d with
  | .down => s.wakeStart d vote
  | .dropping v => s.setDom d (.dropWake v vote)
  | _ => s

/-- The cores of a tile. -/
def tileCores (t : Nat) : List CoreId := [coreOf (2 * t), coreOf (2 * t + 1)]

/-- Quiescing a tile (R505): both cores' L2s, L1Ds and eviction buffers are cleaned and invalidated. -/
def State.quiesceTile (s : State) (t : Nat) : State :=
  (tileCores t).foldl (fun s k =>
    let c := s.cc k
    let s := (c.l2.filter (fun x => x.st == .m)).foldl (fun s x => s.homeWrite x.line fullMask x.data true x.poison) s
    let s := c.eb.foldl (fun s x => s.homeWrite x.line fullMask x.data true x.poison) s
    let s := (c.l2.map (·.line) ++ c.eb.map (·.line)).foldl (fun s l =>
      match s.dirFind l with
      | some e => if e.excl && e.owner == k then s.setDir l none else s
      | none => s) s
    (s.setCc k {}).setCore k { s.core k with run := .off }) s

/-- An engine is in service: it runs, waits or is being loaded. -/
def Engine.serves (x : Engine) : Bool := x.st == .running || x.st == .waiting || x.st == .loading

/-- An engine as its stop leaves it (R149, R505). -/
def Engine.stop (x : Engine) : Engine :=
  { x with st := .retired, haltCause := 3, haltPc := x.pc, slot := none, stalled := false, su := { x.su with busy := false, de := false, go := false } }

/-- Quiescing a bay (R505): every engine stops as a retirement does, without an emergency save; compares are cancelled and pins take their safe states, which begin with what each pin's owner drives then (R507). -/
def State.quiesceBay (s : State) (b : Nat) : State :=
  let s := s.bayTails (bayOf b)
  let x := s.bay (bayOf b)
  let s := s.setBay (bayOf b) { x with
    eng := x.eng.map (fun p => (p.1, if p.2.serves then p.2.stop else p.2))
    pins := x.pins.map (fun p => (p.1, { p.2 with hold := if p.2.safe then p.2.hold else s.ownerAsk (bayOf b) p.1, safe := true, cmp := none })) }
  (x.eng.filter (fun p => p.2.serves)).foldl (fun s p =>
    (s.flag (R.BAY_STATUS b) 1).jlogW (s.baySealed b) s.now (80 + b) p.2.logical 0x0300
      [(0, 1, b), (1, 1, p.1), (2, 1, p.2.logical), (3, 1, 3), (6, 4, (p.2.a.get 15).toNat)] [(4, 2, p.2.pc.toNat)]) s

/-- The last vote of a domain is withdrawn: it quiesces and drops (R505). -/
def State.dropDomain (s : State) (d : Nat) (vote : Fin 3) : State :=
  let s := if d < 72 then s.quiesceTile d else if d < 80 then s.quiesceBay (d - 72) else s
  s.setDom d (.dropping vote)

/-- A domain follows its votes after a vote changed (R503). A tile drops only once both its cores are idle (R505). -/
def State.follow (s : State) (d : Nat) (vote : Fin 3) : State :=
  if (s.votes d).any id then s.wake d vote
  else if s.dom d == .up || (match s.dom d with | .waking _ => true | _ => false) then
    if d < 72 && (tileCores d).any (fun k => (s.core k).run.busy || !(s.core k).sq.isEmpty) then s
    else s.dropDomain d vote
  else match s.dom d with
    | .dropWake v _ => s.setDom d (.dropping v)
    | _ => s

/-- Hive sets or withdraws its vote on a tile (R503). -/
def State.tileVote (s : State) (t : Nat) (v : Bool) : State := (s.setVoteBit (R.PV_TILE_HW 0) t v).follow t 0

/-- The core is in placement, or waking to join it. -/
def CStat.placed : CStat → Bool
  | .idle | .running | .carried | .excluded | .waking => true
  | _ => false

/-- Hive's vote on a tile falls once neither of its cores is in placement, wakes or holds a task (R503); a tile with no vote left drops once both cores are idle (R505). -/
def State.tileLeft (s : State) (t : Nat) : State :=
  if (tileCores t).any (fun k => (s.cstat k.val).placed || (s.core k).run.busy) then s else s.tileVote t false

/-- The device's Sealed vote on the tile of a core that is in the Sealed world (R334). -/
def State.sealTile (s : State) (k : CoreId) (v : Bool) : State :=
  let t := k.val / 2
  let other := coreOf (if k.val % 2 = 0 then k.val + 1 else k.val - 1)
  (s.setVoteBit (R.CV_TILE_SEAL 0) t (v || (s.core other).sealed)).follow t 2

/-- The domain is that of a Sealed bay, a Sealed subject (R332). -/
def State.domSealed (s : State) (d : Fin 95) : Bool := decide (72 ≤ d.val ∧ d.val < 80) && s.baySealed (d.val - 72)

/-- DOMAIN_DROP_DONE (R505). -/
def domainDropDone (d : Fin 95) (s : State) : State :=
  let log (s : State) (v : Fin 3) : State :=
    ((s.flag R.PWR_STATUS 3).jlogW (s.domSealed d) s.now 104 0 0x0702 [(0, 1, (domName d).1), (1, 1, (domName d).2), (2, 1, 0), (3, 1, v.val)] [])
  match s.dom d with
  | .dropping v => log (s.setDom d .down) v
  | .dropWake v w => log (s.wakeStart d w) v
  | _ => s

/-! ### Performance levels (R498 to R500) -/

/-- The level the requests ask for (R499); before boot step 10 the boot default P2 (R501). -/
def State.levelAsked (s : State) : Nat :=
  if !s.boot.applied then 2
  else max (s.fld R.PWR_PERF 0 3) (if s.flagAt R.PWR_LEVEL 7 || s.flagAt R.PWR_LEVEL 8 then 2 else 0)

/-- The post-divider changes: the level in force is now l (R500). -/
def State.levelSet (s : State) (l cause : Nat) : State :=
  let old := s.fld R.PWR_LEVEL 0 3
  ((s.setFld R.PWR_LEVEL 0 3 l).flag R.PWR_STATUS 1).jlog s.now 104 0 0x0700 [(0, 1, old), (1, 1, l), (2, 1, cause)]

/-- Whether a move to a faster level waits for the next tick. -/
def State.clkWait (s : State) (b : Bool) : State := { s with clk := { s.clk with perfWait := b } }

/-- The target of level l is sent to the external VDD_CORE regulator at PWR_VR.ADDR as a VOUT_COMMAND, up to three times; which attempt it acknowledges, if any, is a free value, and VR_FAULT records that it did not (R500, R535). -/
def State.sendTarget (s : State) (l : Nat) : Bool × State :=
  let r := s.free 2
  let cmd (ok : Bool) : VrCommand := ⟨BitVec.ofNat 7 (s.fld R.PWR_VR 16 7), BitVec.ofNat 10 (s.fld (R.PWR_VTGT l) 0 10), ok⟩
  let tries := if r.1 = 0 then List.replicate 3 (cmd false) else List.replicate (r.1.toNat - 1) (cmd false) ++ [cmd true]
  let s := { r.2 with clk := { r.2.clk with vrOut := r.2.clk.vrOut ++ tries } }
  if r.1 = 0 then (false, s.flag R.PWR_STATUS 5) else (true, s)

/-- The move to the level asked for (R500): to a slower level at once, to a faster one at the next tick. -/
def State.perfMove (s : State) : State :=
  let l := s.clk.asked
  if s.fld R.PWR_LEVEL 0 3 < l then (((s.setFld R.PWR_LEVEL 3 3 l).levelSet l s.clk.perfCause).sendTarget l).2.clkWait false
  else s.clkWait (decide (l < s.fld R.PWR_LEVEL 0 3))

/-- The requests may have changed (R499, R500): a new level asked for is moved to, or waits for the end of the move in progress. -/
def State.perfFollow (s : State) (cause : Nat) : State :=
  let l := s.levelAsked
  if l = s.clk.asked then s
  else
    let s := { s with clk := { s.clk with asked := l, perfCause := cause } }
    if s.flagAt R.PWR_LEVEL 6 then s else s.perfMove

/-- The wait before the post-divider of a faster level: (ΔV ÷ SLEW) + VSETTLE µs, what remains of a ns dropped (R500; DESIGN CHOICE, log entry 82). -/
def State.settleNs (s : State) (old new : Nat) : Nat :=
  (s.fld (R.PWR_VTGT new) 0 10 - s.fld (R.PWR_VTGT old) 0 10) * 1000 / s.fld R.PWR_VR 0 8 + 1000 * s.fld R.PWR_VR 8 8

/-- At a tick a waiting move to a faster level begins: the new target is sent (R500). A regulator that does not acknowledge has the move abandoned (R535). -/
def State.perfTick (s : State) : State :=
  if s.clk.perfWait then
    let r := (s.clkWait false).sendTarget s.clk.asked
    let s := r.2
    if r.1 then
      { (s.setFld R.PWR_LEVEL 3 3 s.clk.asked).setFld R.PWR_LEVEL 6 1 1 with
        clk := { s.clk with moveCause := s.clk.perfCause, moveEnd := s.now + BitVec.ofNat 64 (s.settleNs (s.fld R.PWR_LEVEL 0 3) s.clk.asked) } }
    else { s with clk := { s.clk with asked := s.fld R.PWR_LEVEL 0 3 } }
  else s

/-- PERF_REQUEST: a completed PWR_PERF pair (R499, R511). -/
def perfRequest (v : W32) (s : State) : State :=
  (s.wr R.PWR_PERF (BitVec.ofNat 32 (min 4 (bitsAt v 0 3)))).perfFollow 0

/-- VOLTAGE_SETTLE (R500): the wait ends, the post-divider changes, and a request made meanwhile takes effect. -/
def voltageSettle (s : State) : State :=
  if s.flagAt R.PWR_LEVEL 6 then
    let s := (s.advanceTo s.clk.moveEnd).setFld R.PWR_LEVEL 6 1 0
    (s.levelSet (s.fld R.PWR_LEVEL 3 3) s.clk.moveCause).perfMove
  else s

/-! ### Clock sources (R493 to R497) -/

/-- An Open write that a Sealed unit's vote refuses (R333); the unit is a Sealed subject (R332). kind: 0 bay, 1 network port, 2 PCI Express port, 3 CAN FD controller. -/
def State.denyVote (s : State) (kind unit : Nat) (clock : Bool) : State :=
  ((s.flag R.WD_STATUS 0).bump R.CNT_DENIED_VOTE).jlogW true s.now 104 0 0x0a01 [(0, 1, kind), (1, 1, unit), (2, 1, b2n clock)] []

/-- The input of a clock is running: a stopped reference stops what it feeds only where no PLL holds it. -/
def State.refUp (s : State) (n : Nat) : Bool := if n = 0 then s.tb.refA else if n = 1 then s.tb.refB else true

/-- A switch of the core (dom 0) or of the Ant (dom 1) clock starts (R495). Whether one of its clocks is stopped no command brings: it is a free value (log entry 49). -/
def State.switchStart (s : State) (dm : Nat) (src : Bool) : State :=
  let old := if dm = 0 then s.clk.srcCore else s.clk.srcAnt
  if old == src then s
  else
    let s := s.setFld R.CLK_LOCK (8 + dm) 1 1
    let f := s.free 1
    let s := f.2
    let s := if dm = 0 then { s with clk := { s.clk with swCore := some src, hungCore := f.1 != 0 } } else { s with clk := { s.clk with swAnt := some src, hungAnt := f.1 != 0 } }
    s.jlog s.now 104 0 0x0701 [(0, 1, dm), (1, 1, b2n old), (2, 1, b2n src), (3, 1, 0)]

/-- CLK_SRC_WRITE: a completed CLK_SRC pair (R495 to R497). An Open write that changes ANT while a bay is Sealed is ignored whole, and DENIED_VOTE names the lowest Sealed bay (DESIGN CHOICE, log entry 82). -/
def clkSrcWrite (v : W32) (q : Requester) (s : State) : State :=
  let old := s.rd R.CLK_SRC
  if s.flagAt R.CLK_LOCK 8 || s.flagAt R.CLK_LOCK 9 then s.flag R.CLK_STATUS 2
  else
    let antChange := bitAt v 1 != bitAt old 1
    let sealedBay := (List.range 8).find? s.baySealed
    match (if antChange && !q.sealed then sealedBay else none) with
    | some b => s.denyVote 0 b true
    | none =>
      let s := s.wr R.CLK_SRC (BitVec.ofNat 32 (bitsAt v 0 2))
      (s.switchStart 0 (bitAt v 0)).switchStart 1 (bitAt v 1)

/-- A clock of a multiplexer is stopped: it is stopped since the switch began, or the PLL that gives it is not in lock (R496). -/
def State.muxHung (s : State) (ant : Bool) : Bool := (if ant then s.clk.hungAnt else s.clk.hungCore) || !s.flagAt R.CLK_LOCK 1 || !s.flagAt R.CLK_LOCK (if ant then 5 else 0)

/-- CLK_SWITCH (R495): a multiplexer completes; one whose clock is stopped never does (R496). -/
def clkSwitch (ant : Bool) (s : State) : State :=
  let dm := b2n ant
  match (if ant then s.clk.swAnt else s.clk.swCore) with
  | none => s
  | some src =>
    if s.muxHung ant then s
    else
      let old := if ant then s.clk.srcAnt else s.clk.srcCore
      let s := if ant then { s with clk := { s.clk with srcAnt := src, swAnt := none } }
        else { s with clk := { s.clk with srcCore := src, swCore := none } }
      (((s.setFld R.CLK_LOCK (8 + dm) 1 0).flag R.CLK_STATUS 1).bump (R.clock_CNT_SWITCH)).jlog s.now 104 0 0x0701
        [(0, 1, dm), (1, 1, b2n old), (2, 1, b2n src), (3, 1, 1)]

/-- The PLLs that follow CLK_REF, with the place of their field (R492, R510). -/
def pllFields : List (Nat × Nat) := [(0, 0), (2, 2), (3, 4), (4, 6), (5, 8)]

/-- PLL i takes an input that is present, or runs on in holdover, which it enters once (R493, R510). -/
def State.pllTake (s : State) (i want : Nat) : State :=
  let up := s.refUp want
  let held := assoc? s.clk.pllIn i == some 3
  let s := { s with clk := { s.clk with pllIn := assocSet s.clk.pllIn i (if up then want else 3) } }
  if up then s.setFld R.CLK_LOCK i 1 1 else if held then s else s.flag R.CLK_STATUS 3

/-- PLL_REF_SELECT: a completed CLK_REF pair (R493, R510); a field of 3 is written as 0. A PLL whose field does not change keeps its input. -/
def pllRefSelect (v : W32) (s : State) : State :=
  let sane (p : Nat) : Nat := if bitsAt v p 2 = 3 then 0 else bitsAt v p 2
  let w := sane 0 + sane 2 * 4 + sane 4 * 16 + sane 6 * 64 + sane 8 * 256
  let moved := pllFields.filter (fun f => s.fld R.CLK_REF f.2 2 != sane f.2)
  moved.foldl (fun s f => s.pllTake f.1 (sane f.2)) (s.wr R.CLK_REF (BitVec.ofNat 32 w))

/-- The input selected for a PLL: its field of CLK_REF, or until step 10 the boot default (R493, R501). -/
def State.pllWant (s : State) (f : Nat × Nat) : Nat := if s.boot.applied then s.fld R.CLK_REF f.2 2 else s.clk.bootRef

/-! ### Reference loss and return (R26, R491, R493) -/

/-- A source that SRC_SEL allows, present and locked, ref A first (R26); until step 10 the boot default (R501). -/
def State.refChoice (s : State) : Option (Fin 3) :=
  let sel := s.fld R.TB_CTL 0 2
  if !s.boot.applied then
    (if s.clk.bootRef = 0 ∧ s.tb.refA then some 0 else if s.clk.bootRef = 1 ∧ s.tb.refB then some 1 else none)
  else if (sel = 0 ∨ 2 ≤ sel) ∧ s.tb.refA then some 0
  else if (sel = 1 ∨ 2 ≤ sel) ∧ s.tb.refB then some 1
  else none

/-- The frequency of the reference that the timebase leaves for the crystal, as measured over the last second: a free value (R26). -/
def State.measureRef (s : State) (src : Fin 3) : State :=
  if src = 2 ∧ s.tb.src ≠ 2 then
    let h := s.free 32
    { h.2 with tb := { h.2.tb with held := h.1 } }
  else s

/-- The timebase moves to a source and journals REF_CHANGE (R26, R54). -/
def State.refMove (s : State) (src : Fin 3) (cause : Nat) : State :=
  let s := s.measureRef src
  { s with tb := { s.tb with src := src, locked := true } }.jlog s.now 104 0 0x0035 [(0, 1, src.val), (1, 1, cause)]

/-- The timebase enters holdover on the crystal (R26). -/
def State.holdover (s : State) : State := (s.flag R.TB_STATUS 2).refMove 2 1

/-- The PLLs that use a lost reference move to holdover (R493). -/
def State.pllLoss (s : State) (n : Nat) : State :=
  s.clk.pllIn.foldl (fun s p => if p.2 = n then
    { s with clk := { s.clk with pllIn := assocSet s.clk.pllIn p.1 3 } }.flag R.CLK_STATUS 3 else s) s

/-- REF_LOSS (R26, R491): the source in use is lost to the other allowed reference, else to the crystal. -/
def refLoss (refB : Bool) (s : State) : State :=
  let s := if refB then { s with tb := { s.tb with refB := false } } else { s with tb := { s.tb with refA := false } }
  let s := s.flag R.TB_STATUS (b2n refB)
  let s := s.pllLoss (b2n refB)
  if s.tb.src.val != b2n refB then s
  else match s.refChoice with
    | some r => s.refMove r 1
    | none => s.holdover

/-- REF_STABLE from step 4 on (R491, R493): the PLLs that select the reference lock to it; the timebase returns to it at the next tick (R26). -/
def State.refBack (s : State) (refB : Bool) : State :=
  let s := if refB then { s with tb := { s.tb with refB := true } } else { s with tb := { s.tb with refA := true } }
  pllFields.foldl (fun s f => if s.pllWant f = b2n refB then s.pllTake f.1 (b2n refB) else s) s

/-- At a tick the timebase returns to an allowed reference (R26). -/
def State.refTick (s : State) : State :=
  match s.refChoice with
  | some r =>
    if s.tb.src = r then s
    else if s.tb.src = 2 ∨ s.fld R.TB_CTL 0 2 ≥ 2 then s.refMove r 2
    else s.refMove r 0
  | none => s

/-- A completed TB_CTL pair: SRC_SEL 3 is written as 2; a source no longer allowed is left at once (R26, R56).
DESIGN CHOICE (log entry 84): the spec does not say when the timebase leaves a source that a write of SRC_SEL takes away; here it does with the pair. -/
def State.tbCtlWrite (s : State) (v : W32) : State :=
  let sel := if bitsAt v 0 2 = 3 then 2 else bitsAt v 0 2
  let s := s.wr R.TB_CTL (BitVec.ofNat 32 (sel + bitIf (bitAt v 2) 2))
  let ok := s.tb.src = 2 ∨ sel = 2 ∨ s.tb.src.val = sel
  if ok then s
  else match s.refChoice with
    | some r => s.refMove r 0
    | none => (s.flag R.TB_STATUS 2).refMove 2 0

/-! ### Commands -/

/-- REF_LOSS (R26). -/
def execRefLoss (refB : Bool) (s : State) : Host.Outcome State Fault Refusal := .next (s.awake (refLoss refB))
/-- CLK_SRC_WRITE (R495). -/
def execClkSrcWrite (v : W32) (q : Requester) (s : State) : Host.Outcome State Fault Refusal := .next (s.blockWrite 0x24 (clkSrcWrite v q))
/-- CLK_SWITCH (R495). -/
def execClkSwitch (ant : Bool) (s : State) : Host.Outcome State Fault Refusal := .next (clkSwitch ant s)
/-- PLL_REF_SELECT (R493). -/
def execPllRefSelect (v : W32) (_q : Requester) (s : State) : Host.Outcome State Fault Refusal := .next (s.blockWrite 0x24 (pllRefSelect v))
/-- PERF_REQUEST (R499). -/
def execPerfRequest (v : W32) (s : State) : Host.Outcome State Fault Refusal := .next (s.blockWrite 0x25 (perfRequest v))
/-- VOLTAGE_SETTLE (R500). -/
def execVoltageSettle (s : State) : Host.Outcome State Fault Refusal := .next (voltageSettle s)
/-- DOMAIN_DROP_DONE (R505). -/
def execDomainDropDone (d : Fin 95) (s : State) : Host.Outcome State Fault Refusal := .next (domainDropDone d s)

end Sys2Proof.Machine
end

