-- ==== Sys2Proof/Machine/Hive.lean ====
section
/-! DEFINITION. Task descriptors, hops, dispatch, misses, stops and the removal of cores (chapter Hive: Dispatch and Placement; R42 to R50). -/

namespace Sys2Proof.Machine

/-! ### Descriptors and hops (R90, R92) -/

/-- A task descriptor. -/
def State.td (s : State) (t : TaskId) : BitVec 1024 := assocD s.hive.td t.val 0

/-- A field of a descriptor. -/
def State.tdN (s : State) (t : TaskId) (lo w : Nat) : Nat := bitsAt (s.td t) lo w

/-- Sets a field of a descriptor: a live field or one of Hive's bytes. -/
def State.setTdN (s : State) (t : TaskId) (lo w v : Nat) : State :=
  { s with hive := { s.hive with td := assocSet s.hive.td t.val (putBits (s.td t) lo w v) } }

/-- VALID. -/
def State.tdValid (s : State) (t : TaskId) : Bool := bitAt (s.td t) 0
/-- WORLD: the task is Sealed. -/
def State.taskSealed (s : State) (t : TaskId) : Bool := bitAt (s.td t) 1
/-- OVR: the task is carried at an overrun. -/
def State.taskCarry (s : State) (t : TaskId) : Bool := bitAt (s.td t) 2
/-- PLACE. -/
def State.taskPlace (s : State) (t : TaskId) : Nat := s.tdN t 26 2
/-- WIN_OFF. -/
def State.winOff (s : State) (t : TaskId) : Nat := s.tdN t 32 32
/-- WIN_DL. -/
def State.winDl (s : State) (t : TaskId) : Nat := s.tdN t 64 32

/-- The tasks whose descriptors are not all zero, in ascending number. -/
def State.tasks (s : State) : List TaskId := s.hive.td.map (fun p => taskOf p.1)

/-- A hop entry. -/
def State.hop (s : State) (i : Nat) : W32 := assocD s.hive.hops i 0

/-- The successors of a task, each once. -/
def State.succs (s : State) (t : TaskId) : List TaskId :=
  ((rangeFrom (s.tdN t 448 16) (s.tdN t 464 16)).filterMap (fun i =>
    if bitAt (s.hop i) 31 then some (taskOf (bitsAt (s.hop i) 0 13)) else none)).eraseDups

/-- The valid predecessors of a task. -/
def State.preds (s : State) (t : TaskId) : List TaskId := s.tasks.filter (fun p => s.tdValid p && (s.succs p).contains t)

/-- The predecessors bound to a task in the current frame: those due in it (R93). -/
def State.boundPreds (s : State) (t : TaskId) : List TaskId := (s.preds t).filter (fun p => (s.rt p).due)

/-- A task is due in frame n by its rate class and phase (R41). -/
def State.rateDue (s : State) (t : TaskId) (n : W64) : Bool := s.tdValid t && n.toNat % 2 ^ s.tdN t 4 4 == s.tdN t 8 12

/-- A task waits in the current frame: due, neither dispatched nor missed. -/
def State.waits (s : State) (t : TaskId) : Bool := (s.rt t).due && !(s.rt t).dispatched && !(s.rt t).missed

/-- A task is ready (R93). -/
def State.taskReady (s : State) (t : TaskId) : Bool :=
  s.waits t && !(s.rt t).prevCarried && stampLe (s.bcn.tickStamp + BitVec.ofNat 64 (s.winOff t)) s.now && (s.boundPreds t).all (fun p => (s.rt p).done)

/-- The stamp at which a ready task became ready. -/
def State.readyStamp (s : State) (t : TaskId) : Stamp :=
  (s.boundPreds t).foldl (fun m p => stampMax m (s.rt p).doneStamp) (s.bcn.tickStamp + BitVec.ofNat 64 (s.winOff t))

/-- The start of the guard of the running frame (R43). -/
def State.guardStart (s : State) : Stamp := s.tickAt s.bcn.nextN - BitVec.ofNat 64 s.guardNs

/-- The stamp lies before the guard. -/
def State.beforeGuard (s : State) : Bool := stampLt s.now s.guardStart

/-- The stamp has reached the next tick, which no command has brought yet (R45). -/
def State.tickDue (s : State) : Bool := s.bcn.started && stampLe (s.tickAt s.bcn.nextN) s.now

/-! ### The outcome list and FRAME_CLOSE counts (R50, R195) -/

/-- Adds an entry to the outcome list of a frame (R195). -/
def State.outcome (s : State) (f : W64) (kind n : Nat) (tf : W32) : State :=
  let e : W64 := BitVec.ofNat 64 (n + kind * 2 ^ 16 + tf.toNat * 2 ^ 32)
  let own := if s.tw.own.any (fun o => o.frame == f) then s.tw.own else s.tw.own ++ [{ frame := f }]
  { s with tw := { s.tw with own := own.map (fun o => if o.frame == f then { o with entries := o.entries ++ [e] } else o) } }

/-- Changes what FRAME_CLOSE of the running frame has counted. -/
def State.accSet (s : State) (f : FrameAcc → FrameAcc) : State := { s with bcn := { s.bcn with acc := f s.bcn.acc } }

/-- A miss counted. -/
def FrameAcc.addMiss (a : FrameAcc) : FrameAcc := { a with missed := true, noncmp := true, miss := a.miss + 1 }
/-- A stop or an abandonment counted. -/
def FrameAcc.addStop (a : FrameAcc) : FrameAcc := { a with abort := true, noncmp := true }

/-! ### Misses (R44, R94) -/

/-- One task missed, with its record. -/
def State.missOne (s : State) (stamp : Stamp) (cause : Nat) (t : TaskId) : State :=
  let s := s.setRt t { s.rt t with missed := true }
  let s := s.setTdN t 704 32 (s.tdN t 704 32 + 1)
  let s := ((s.bump R.BCN_CNT_MISS).flag R.BCN_STATUS 2).accSet FrameAcc.addMiss
  let f := lo32 s.bcn.frame
  (s.outcome s.bcn.frame 4 t.val f).jlogW (s.taskSealed t) stamp 104 0 0x0012 [(0, 2, t.val), (2, 1, cause), (8, 4, f.toNat)] []

/-- The waiting successors of the tasks of a list are missed with cause 1, and theirs after them (R94). -/
def missChain (stamp : Stamp) : Nat → List TaskId → State → State
  | 0, _, s => s
  | _, [], s => s
  | n + 1, t :: r, s =>
    let u := (s.succs t).filter s.waits
    missChain stamp n (r ++ u) (u.foldl (fun s x => s.missOne stamp 1 x) s)

/-- The successors of a task are missed (R94). -/
def State.missSuccs (s : State) (stamp : Stamp) (t : TaskId) : State := missChain stamp 8193 [t] s

/-- A task missed, and its successors. -/
def State.missTask (s : State) (stamp : Stamp) (cause : Nat) (t : TaskId) : State :=
  if s.waits t then (s.missOne stamp cause t).missSuccs stamp t else s

/-- MISSED (R44): at the start of the guard every waiting task is missed, those that wait on no waiting predecessor first; their successors follow. -/
def missed (s : State) : State :=
  if !s.bcn.ticked then s
  else
    let g := s.guardStart
    let s := s.advanceTo g
    let heads := s.tasks.filter (fun t => s.waits t && !(s.boundPreds t).any s.waits)
    heads.foldl (fun s t => s.missTask g (if (s.rt t).prevCarried then 2 else 0) t) s

/-- DEADLINE_LATE (R42). -/
def deadlineLate (t : TaskId) (s : State) : State :=
  let r := s.rt t
  match r.run with
  | some (k, f) =>
    if r.lateSeen || r.carried then s
    else
      let s := s.advanceTo r.deadline
      ((s.setRt t { r with lateSeen := true }).flag R.BCN_STATUS 1).jlogW (s.taskSealed t) r.deadline 104 0 0x0011
        [(0, 2, t.val), (2, 2, k.val), (8, 4, (lo32 f).toNat)] []
  | none => s

/-! ### The core's side of a stop (R233) -/

/-- The core runs at the user level of its task's world: what R46 and R301 call the task's user level. -/
def CoreSt.taskLevel (c : CoreSt) : Bool := !c.sup && c.sealed == c.taskSealed

/-- The core lets go of its task: it becomes idle once its store queue is empty, or stays halted. It leaves the Sealed world. -/
def CoreSt.release (c : CoreSt) (cycles : Nat) : CoreSt :=
  { c with
    cycles := cycles - c.goAt
    lastSealed := c.sealed
    evAt := if c.sealed then cycles else c.evAt
    evOcc := if c.sealed then [] else c.evOcc
    frzAt := none
    sealed := false
    run := if c.run == .halted then .halted else if c.sq.isEmpty then .idle else .stopping }

/-- Core k is excluded (R107, R118). -/
def State.excluded (s : State) (k : Nat) : Bool := s.flagAt (R.CORE_EXCL (k / 32)) (k % 32)

/-- Hive's view of a core without a task (R119). -/
def State.freedStat (s : State) (k : CoreId) : CStat :=
  match s.cstat k.val with
  | .halted => .halted
  | .retired => .retired
  | _ => if s.excluded k.val then .excluded else .idle

/-- Busy cycles added to a core's load of the running epoch (R119). -/
def State.loadAdd (s : State) (k : CoreId) (n : Nat) : State :=
  { s with hive := { s.hive with load := assocSet s.hive.load k.val (assocD s.hive.load k.val 0 + n) } }

/-- The core and Hive part from a task: the core becomes free, and the other touch list is taken into use (R98). -/
def State.freeCore (s : State) (k : CoreId) : State :=
  let c := s.core k
  let was := c.sealed
  let s := s.loadAdd k (s.coreCycles - c.goAt)
  let s := s.setCore k ((c.evSync s.coreCycles).release s.coreCycles)
  let s := s.setCstat k.val (s.freedStat k)
  let s := { s with su := { s.su with touchSel := assocSet s.su.touchSel k.val (!assocD s.su.touchSel k.val false) } }
  (if was then s.sealTile k false else s).tileLeft (k.val / 2)

/-- A version key names a pending copy of a task (R385). -/
def pendOf (t : TaskId) (key : Option StKey) : Bool := key.any (fun y => y.task == some t)

/-- Every pending copy of a task leaves the L1D and the L2 of its core, and is never written back after that (R386): a writeback on its way finds its entry without a version. -/
def State.svDrop (s : State) (k : CoreId) (t : TaskId) : State :=
  let c := s.cc k
  s.setCc k { c with
    l2 := c.l2.filter (fun x => !pendOf t x.key)
    eb := (c.eb.filter (fun e => e.sent || !pendOf t e.key)).map (fun e => if pendOf t e.key then { e with key := none } else e) }

/-- The task that the core runs is carried. -/
def State.carriedOn (s : State) (k : CoreId) : Bool := (s.rt (s.core k).task).carried

/-- The version key of a line's version that the core's task sees, as the home reports it: the pending version of the task where it has one, else the committed version (R67, R385). -/
def State.svKey (s : State) (k : CoreId) (line : Nat) : StKey :=
  let m := s.sline line
  { task := if s.hasOwn (s.core k).task (lo32 (s.core k).frame) line then some (s.core k).task else none,
    slot := m.committed, tick := m.tag m.committed + 1, filled := s.bcn.frame }

/-- A version of a state-window line goes into the L2 and the L1D, where they allocate and the eviction buffer has room (R361, R365, R384, R385). -/
def State.svFill (s : State) (k : CoreId) (line : Nat) (data : Line) : State :=
  if !(s.core k).cacheOn.2 || s.noRoom k line then s
  else
    let key := s.svKey k line
    (s.l2Fill k line (if key.task.isSome then .e else .s) data 0 (some key)).l1Maybe k line

/-- Bytes of a line written at the home into the version of the core's task in its frame (R74 to R77). -/
def State.windowHome (s : State) (k : CoreId) (line : Nat) (mask : BitVec 64) (data : Line) : List StStop × State :=
  let c := s.core k
  s.stWrite c.task c.frame (s.carriedOn k) (s.touchNo k) line mask data

/-- A pending line of the core's task that is on its way to the home is written there, and its entry freed (R365, R386). -/
def State.svLand (s : State) (k : CoreId) (line : Nat) : State :=
  match s.ebFind k line with
  | some e => if e.sent && pendOf (s.core k).task e.key then ((s.windowHome k line fullMask e.data).2).ebFree k line else s
  | none => s

/-- Bytes of a line of the state window written by the core's task in its frame (R74 to R77, R385): into its pending copy where the L2 holds one, which becomes dirty, else at the home, which places the version and whose answer fills the copy. The touch-list append is counted (R525). The answer names the tasks it stops. -/
def State.windowPut (s : State) (k : CoreId) (p : StPart) : List StStop × State :=
  let line := p.pa / 64
  let o := p.pa % 64
  let n := p.bytes.length
  let mask := maskOf o (o + n - 1)
  let data := linePut 0 o n (leNat p.bytes)
  let s := (s.svLand k line).recall k line
  match (s.l2Find k line).filter (fun x => pendOf (s.core k).task x.key) with
  | some x => ([], ((s.l2Set' k { x with st := .m, data := mergeLine x.data data mask }).l2Touch k line x.way).l1Maybe k line)
  | none =>
    let tl := s.touchNo k
    let r := s.windowHome k line mask data
    let more := (r.2.touch tl).length - (s.touch tl).length
    let d := r.2.stRead (some ((s.core k).task, lo32 (s.core k).frame)) line
    (r.1, (d.2.svFill k line d.1).count k 0x27 more)

/-- The dirty pending lines of the core's task are written back (R67, R386): the tasks they stop, and the state. -/
def State.svBack (s : State) (k : CoreId) : List StStop × State :=
  let t := (s.core k).task
  let l2 := ((s.cc k).l2.filter (fun x => x.st == .m && pendOf t x.key)).map (fun x => (x.line, x.data))
  let eb := ((s.cc k).eb.filter (fun e => pendOf t e.key)).map (fun e => (e.line, e.data))
  (l2 ++ eb).foldl (fun a x =>
    let r := a.2.windowHome k x.1 fullMask x.2
    (a.1 ++ r.1, r.2)) ([], s)

/-- The address lies in the state window (R412). -/
def inWindow (a : Nat) : Bool := decide (0x100000000000 ≤ a ∧ a < 0x110000000000)

/-- The committed stores to the state window that still wait in a core's queue are written to its task's pending version, and the dirty lines of that version go back to the home (R233, R386): the other tasks they stop, and the state. -/
def State.flushWindow (s : State) (k : CoreId) : List StStop × State :=
  let c := s.core k
  let mine := (c.sq.flatMap (·.parts)).filter (fun p => inWindow p.pa)
  let rest := c.sq.map (fun e => { e with parts := e.parts.filter (fun p => !inWindow p.pa) })
  let r := mine.foldl (fun a p =>
    let r := a.2.windowPut k p
    (a.1 ++ r.1, r.2)) ([], s.setCore k { c with sq := rest.filter (fun e => !e.parts.isEmpty) })
  let b := r.2.svBack k
  ((r.1 ++ b.1).filter (fun x => x.task != c.task), b.2)

/-- A running task is let go by its core with a walk entry of a kind; it was late where it ran up to its deadline or past it (R42). The answer names the tasks that its last stores stop. -/
def State.letGo (s : State) (t : TaskId) (kind : WalkKind) : List StStop × State :=
  match (s.rt t).run with
  | none => ([], s)
  | some (k, f) =>
    let s := if stampLe (s.rt t).deadline s.now then deadlineLate t s else s
    let r := s.flushWindow k
    let s := (r.2.svDrop k t).addWalk { task := t, frame := f, kind := kind, tlist := r.2.touchNo k, walked := false }
    (r.1, (s.setRt t { s.rt t with run := none, carried := false, stopPending := false }).freeCore k)

/-- A task is abandoned or stopped in the running frame (R77, R99, R100): before the guard its successors are missed at once, and in it at the start of the guard (R44, R94). cause none: its record has been journaled, and HV_STATUS.TASK_STOP does not set, which goes with a TASK_STOP record (DESIGN CHOICE, log entry 87). The answer names the tasks that its last stores stop. -/
def State.abandonOne (s : State) (t : TaskId) (cause : Option Nat) : List StStop × State :=
  match (s.rt t).run with
  | none => ([], s)
  | some (k, f) =>
    let r := s.letGo t .abort
    let s := r.2
    let s := match cause with
      | some c => (s.flag R.HV_STATUS 1).jlogW (s.taskSealed t) s.now 97 0 0x0201
          [(0, 2, t.val), (2, 2, k.val), (4, 1, c), (8, 4, (lo32 f).toNat)] []
      | none => s
    let s := (s.accSet FrameAcc.addStop).outcome s.bcn.frame 5 t.val (lo32 f)
    (r.1, if f == s.bcn.frame && s.beforeGuard then s.missSuccs s.now t else s)

/-- The stops that stores to the state window cause, each with its record, in order (R77): a stopped task is off its core, so at most 144 lists of stops follow one another. -/
def stopRun : Nat → List StStop → State → State
  | 0, _, s => s
  | _, [], s => s
  | n + 1, x :: r, s =>
    let s := s.flag R.ST_STATUS (if x.touch then 2 else 1)
    let s := s.jlogW (s.taskSealed x.task || s.lineSealed x.line) s.now 98 0 (if x.touch then 0x0112 else 0x0111)
      [(0, 2, x.task.val), (8, 4, (lo32 x.frame).toNat)] [(2, 6, x.line * 64)]
    let u := s.abandonOne x.task none
    stopRun n (r ++ u.1) u.2

/-- The stops that a store to the state window causes (R77). -/
def State.fullStops (s : State) (l : List StStop) : State := stopRun 16384 l s

/-- A running task is taken off its core (R46, R49, R77, R99, R100). -/
def State.takeOff (s : State) (t : TaskId) (kind : WalkKind) : State :=
  let r := s.letGo t kind
  r.2.fullStops r.1

/-- A task is abandoned or stopped in the running frame. -/
def State.abandon (s : State) (t : TaskId) (cause : Option Nat) : State :=
  let r := s.abandonOne t cause
  r.2.fullStops r.1

/-! ### DONE as Hive sees it (R98, R99, R46 to R48) -/

/-- Descriptor bytes at the DONE of a task (R90, R98). EST_RUN is the firmware's estimate: a free value. -/
def State.doneBytes (s : State) (t : TaskId) (k : CoreId) (f : W64) : State :=
  let cyc := min (2 ^ 32 - 1) (s.coreCycles - (s.core k).goAt)
  let e := s.free 32
  let s := e.2.setTdN t 512 32 (lo32 f).toNat
  let s := s.setTdN t 544 32 cyc
  let s := s.setTdN t 576 32 (max (s.tdN t 576 32) cyc)
  (s.setTdN t 608 16 k.val).setTdN t 640 32 e.1.toNat

/-- What the policy core gathers, changed. -/
def State.gatherSet (s : State) (f : Gather → Gather) : State := { s with hive := { s.hive with gather := f s.hive.gather } }

/-- The policy core gathers a DONE (R101): its cycles, and of an Open task the core's event counters (R103). -/
def State.gatherDone (s : State) (t : TaskId) (k : CoreId) : State :=
  let cyc := s.tdN t 544 32
  let s := if s.taskSealed t then s else s.evDraw k
  let evs := ((s.core k).evSync s.coreCycles).evcnt
  let isOpen := !s.taskSealed t
  s.gatherSet (fun g => { g with cycles := g.cycles ++ [(t, cyc)], events := if isOpen then g.events ++ [(k, evs)] else g.events })

/-- The core's DSP_DONE registers at a DONE (R234). -/
def CoreSt.doneRegs (c : CoreSt) (status : Byte) : CoreSt :=
  { c with doneTask := c.task, doneStatus := status, doneFrame := lo32 c.frame }

/-- DONE retires on a core whose store queue is empty (R98, R284). -/
def State.taskDoneOn (s : State) (k : CoreId) (status : Byte) : State :=
  let c := s.core k
  let t := c.task
  let r := s.rt t
  let s := s.setCore k ((c.doneRegs status).ev 0x04 1)
  if r.stopPending then s.takeOff t .abort
  else
    let s := (s.doneBytes t k c.frame).gatherDone t k
    if status != 0 then s.abandon t (some 0)
    else if r.carried then s.takeOff t (.commit s.bcn.nextN)
    else
      let s := s.takeOff t .done
      s.setRt t { s.rt t with done := true, doneStamp := s.now }

/-! ### Placement (R96, R106 to R110) -/

/-- Where a pin on a core now stands: the replacement it moved to, or none where it was released (R109). -/
def pinFollow (moves : List (CoreId × Option CoreId)) : Nat → CoreId → Option CoreId
  | 0, k => some k
  | n + 1, k =>
    match moves.find? (fun m => m.1 == k) with
    | some (_, some j) => pinFollow moves n j
    | some (_, none) => none
    | none => some k

/-- The core a pin names in the image, as moved since. -/
def State.pinNow (s : State) (k : CoreId) : Option CoreId := pinFollow s.hive.pinMoves 144 k

/-- A core left placement for good. -/
def CStat.gone : CStat → Bool
  | .halted => true
  | .retired => true
  | _ => false

/-- The core is in placement and may be given tasks. -/
def State.usable (s : State) (k : CoreId) : Bool :=
  (match s.cstat k.val with
   | .idle => true
   | .running => true
   | .carried => true
   | _ => false) && !s.excluded k.val

/-- Every core, in ascending order. -/
def allCores : List CoreId := (List.range 144).map coreOf

/-- The cores in placement. -/
def State.placed (s : State) : List CoreId := allCores.filter s.usable

/-- The members of core set c, as moved since (R109). -/
def State.csetCores (s : State) (c : Nat) : List CoreId :=
  (allCores.filter (fun k => s.flagAt (0x5080 + 0x14 * c + 4 * (k.val / 32)) (k.val % 32))).filterMap s.pinNow

/-- The cores a task may be assigned to (R96, R106, R107, R109).
DESIGN CHOICE (log entry 87): a task pinned to a core, or a core set whose cores are all cores, that the retirement book had out of placement before boot is placed as under PLACE 0, with no PIN_LOST and no move of the pin. -/
def State.pool (s : State) (t : TaskId) : List CoreId :=
  match s.taskPlace t with
  | 2 =>
    match s.pinNow (coreOf (s.tdN t 96 16)) with
    | some p => if (s.cstat p.val).gone then s.placed else if s.usable p then [p] else []
    | none => s.placed
  | 1 =>
    let all := s.csetCores (s.tdN t 28 4)
    let m := all.filter s.usable
    if !m.isEmpty || !(all.isEmpty || all.any (fun k => (s.cstat k.val).gone)) then m else s.placed
  | _ => s.placed

/-- Hive picks a core of a pool; the firmware's choice is a free value (R102). -/
def State.pick (s : State) (l : List CoreId) : Option CoreId × State :=
  match l with
  | [] => (none, s)
  | k :: _ =>
    let v := s.free 8
    (some (l.getD (v.1.toNat % l.length) k), v.2)

/-- A task's assigned core changes (R105). -/
def State.assign (s : State) (t : TaskId) (k : CoreId) : State :=
  if (s.rt t).assigned == k then s else (s.setRt t { s.rt t with assigned := k }).bump R.HV_CNT_MOVE

/-! ### Dispatch (R96, R97) -/

/-- The core is idle and its free touch list is not being walked (R68, R96). -/
def State.coreFree (s : State) (k : CoreId) : Bool :=
  s.cstat k.val == .idle && (s.core k).run == .idle && !s.su.walks.any (fun w => w.tlist == s.touchNo k)

/-- The PC's bits [63:48] are the sign extension of bit 47 (R235). -/
def canon (v : W64) : W64 := (v.truncate 48 : BitVec 48).signExtend 64

/-- The registers of a core at GO (R97, R218, R234, R237, R279, R319, R323, R340). -/
def CoreSt.go (c : CoreSt) (d : BitVec 1024) (t : TaskId) (f : W64) (cycles : Nat) : CoreSt :=
  let w := bitAt d 1
  let flush := bitAt d 3 || w != c.lastSealed
  let arg : W64 := BitVec.ofNat 64 (bitsAt d 256 64)
  let sp : W64 := BitVec.ofNat 64 (bitsAt d 192 64)
  let entry : W64 := BitVec.ofNat 64 (bitsAt d 128 64)
  let root : W64 := BitVec.ofNat 64 (bitsAt d 320 64)
  let asid : W16 := BitVec.ofNat 16 (bitsAt d 384 16)
  let own := { c.tr w with root := root, asid := asid }
  let other := { c.tr (!w) with root := (c.tr (!w)).homeRoot, asid := (c.tr (!w)).homeAsid }
  let c := (c.setTr w own).setTr (!w) other
  { c with
    x := ((Vector.replicate 32 0).set 1 arg).set 2 sp
    f := Vector.replicate 32 0
    v := Vector.replicate 32 0
    pc := canon entry
    run := .entering
    task := t
    frame := f
    taskSealed := w
    enclave := BitVec.ofNat 6 (bitsAt d 400 6)
    pflush := bitAt d 3
    asid := asid
    entry := entry
    sp := sp
    arg := arg
    s1root := root
    flushed := flush
    goAt := cycles
    cycles := 0
    sealed := w
    sup := false
    lastSealed := w
    bankO := { c.bankO with ml := 0, act := 0 }
    bankS := { c.bankS with ml := 0, act := 0 }
    fpstat := 0
    prg := Vector.replicate 4 0
    blkWait := false
    encCur := if w then BitVec.ofNat 6 (bitsAt d 400 6) else 0
    pred := if flush then {} else c.pred }

/-- Hive dispatches a task to a core (R97). -/
def State.dispatchTo (s : State) (t : TaskId) (k : CoreId) : State :=
  let f := s.bcn.frame
  let s := if s.taskSealed t then s.evDraw k else s
  let c := (s.core k).evSync s.coreCycles
  let c' := { c.go (s.td t) t f s.coreCycles with frameT := if s.nonHolder then none else some s.bcn.tickStamp }
  let c' := (c'.ev 0x03 1).ev 0x08 (b2n c'.flushed)
  let s := s.setCore k c'
  let s := s.setRt t { s.rt t with
    dispatched := true, run := some (k, f), carried := false, stopPending := false, lateSeen := false
    deadline := s.bcn.tickStamp + BitVec.ofNat 64 (s.winDl t) }
  let s := (s.setCstat k.val .running).bump R.HV_CNT_DISP
  let s := if (s.rt t).assigned == k then s else s.bump R.HV_CNT_STEAL
  let s := if s.taskSealed t then s.sealTile k true else s
  if s.flagAt R.HV_CTL 0 then
    s.jlogW (s.taskSealed t) s.now 97 0 0x0200
      [(0, 2, t.val), (2, 2, k.val), (4, 4, (s.now - s.bcn.tickStamp).toNat), (8, 4, (lo32 f).toNat)] []
  else s

/-- TASK_DISPATCH (R96, R97): to the assigned core. -/
def taskDispatch (t : TaskId) (s : State) : State :=
  let k := (s.rt t).assigned
  if s.taskReady t && s.beforeGuard && s.coreFree k && s.usable k && (s.pool t).contains k then s.dispatchTo t k else s

/-- DISPATCH_STEAL (R96): after PL_STEAL_NS a ready task goes to the lowest-numbered free core of its pool, unless it is pinned. -/
def dispatchSteal (t : TaskId) (s : State) : State :=
  let k := (s.rt t).assigned
  if s.taskReady t && s.beforeGuard && !s.coreFree k && stampLe (s.readyStamp t + BitVec.ofNat 64 (s.fld R.PL_STEAL_NS 0 24)) s.now &&
      !(s.taskPlace t == 2 && s.pool t == [k]) then
    match (sortBy (fun a b => decide (a.val < b.val)) (s.pool t)).find? s.coreFree with
    | some j => s.dispatchTo t j
    | none => s
  else s

/-! ### Removal of cores and reserve (R20, R100, R106, R109, R110) -/

/-- The reserve in the order of R20: cores of the tiles on V8 first, then the others, in ascending order. -/
def reserveOrder : List CoreId :=
  allCores.filter (fun k => (k.val / 2) % 9 == 8) ++ allCores.filter (fun k => (k.val / 2) % 9 != 8)

/-- The next core in reserve. -/
def State.nextReserve (s : State) : Option CoreId := reserveOrder.find? (fun k => s.cstat k.val == .reserve)

/-- A waking reserve core becomes ready: it takes its system registers and joins at the next tick (R484, R506). -/
def State.coreReady (s : State) (k : CoreId) : State :=
  if s.hive.replaces.any (fun x => x.spare == k && !x.ready) then
    { (s.loadSys k) with hive := { s.hive with replaces := s.hive.replaces.map (fun x => if x.spare == k then { x with ready := true } else x) } }
  else s

/-- The tasks pinned to a core lose their pin when no reserve core is left (R109). -/
def State.pinLost (s : State) (k : CoreId) : State :=
  let mine := s.tasks.filter (fun t => s.tdValid t && s.taskPlace t == 2 && s.pinNow (coreOf (s.tdN t 96 16)) == some k)
  let s := mine.foldl (fun s t => (s.flag R.HV_STATUS 4).jlogW (s.taskSealed t) s.now 97 0 0x0222 [(0, 2, t.val), (2, 2, k.val)] []) s
  { s with hive := { s.hive with pinMoves := s.hive.pinMoves ++ [(k, none)] } }

/-- Hive wakes the next reserve core in place of one that is removed (R110). -/
def State.drawReserve (s : State) (removed : CoreId) : State :=
  match s.nextReserve with
  | none => (s.flag R.HV_STATUS 6).pinLost removed
  | some k =>
    let s := s.setCstat k.val .waking
    let s := { s with hive := { s.hive with replaces := s.hive.replaces ++ [({ removed := removed, spare := k, ready := false } : Replace)] } }
    let s := s.tileVote (k.val / 2) true
    if s.domReady (k.val / 2) then s.coreReady k else s

/-- A core leaves placement for good, with its record; its tasks get new cores at the next tick (R106, R110). cause: 0 halted, 1 retired. -/
def State.removeCore (s : State) (k : CoreId) (cause : Nat) : State :=
  let s := s.setCstat k.val (if cause = 0 then .halted else .retired)
  ((s.flag R.HV_STATUS 2).jlog s.now 97 0 0x0221 [(0, 2, k.val), (2, 1, cause)]).tileLeft (k.val / 2)

/-- Lantern judges a core worn (R110): a reserve core retires at once, and one that was waking is replaced by the next; any other core waits for a tick.
DESIGN CHOICE (log entry 72): a reserve core that retires before it ever joined placement is journaled CORE_REMOVED with cause 1 and sets HV_STATUS bit 2, as a core of the placement does. -/
def State.coreWorn (s : State) (k : CoreId) : State :=
  match s.cstat k.val with
  | .reserve => s.removeCore k 1
  | .waking =>
    match s.hive.replaces.find? (fun x => x.spare == k) with
    | some x =>
      let s := s.removeCore k 1
      ({ s with hive := { s.hive with replaces := s.hive.replaces.filter (fun y => y.spare != k) } }).drawReserve x.removed
    | none => { s with hive := { s.hive with worn := s.hive.worn ++ [k] } }
  | .halted => s
  | .retired => s
  | _ => { s with hive := { s.hive with worn := s.hive.worn ++ [k] } }

/-- A reserve core was drawn in place of a core, or none was left for it. -/
def State.drawnFor (s : State) (k : CoreId) : Bool :=
  s.hive.replaces.any (fun x => x.removed == k) || s.hive.pinMoves.any (fun m => m.1 == k)

/-- A core halts under the level-15 rule: Hive removes it at once, stops its task and wakes a reserve core, unless one was drawn when it was judged worn (R17, R100, R110, R304). -/
def State.hiveHalt (s : State) (k : CoreId) : State :=
  let t := (s.core k).task
  let s := if (match (s.rt t).run with
      | some (j, _) => j == k
      | none => false) then s.abandon t (some 1) else s
  let s := s.removeCore k 0
  if s.drawnFor k then s else s.drawReserve k

/-! ### The policy core's plan (R101) -/

/-- PLAN_COMPLETE (R101): a plan due for the last epoch is complete; it waits for the tick that opens the next. -/
def planComplete (items : List PlanItem) (s : State) : State :=
  if s.hive.planDue then { s with hive := { s.hive with planReady := some items, planDue := false } } else s

/-! ### Commands -/

/-- DEADLINE_LATE (R42). -/
def execDeadlineLate (t : TaskId) (s : State) : Host.Outcome State Fault Refusal := .next (deadlineLate t s)
/-- MISSED (R44). -/
def execMissed (s : State) : Host.Outcome State Fault Refusal := .next (missed s)
/-- TASK_DISPATCH (R97). -/
def execTaskDispatch (t : TaskId) (s : State) : Host.Outcome State Fault Refusal := .next (taskDispatch t s)
/-- DISPATCH_STEAL (R96). -/
def execDispatchSteal (t : TaskId) (s : State) : Host.Outcome State Fault Refusal := .next (dispatchSteal t s)
/-- PLAN_COMPLETE (R101). -/
def execPlanComplete (items : List PlanItem) (s : State) : Host.Outcome State Fault Refusal := .next (planComplete items s)

end Sys2Proof.Machine
end

