-- ==== Sys2Proof/Machine/Freeze.lean ====
section
/-! DEFINITION. The input freeze and the final digest of a frame (R36 to R39, R80, R86, R193 to R196). -/

namespace Sys2Proof.Machine

/-! ### The choice of R39 -/

/-- Post a stands before post b as a candidate: the greater stamp, then the lower source, then the later arrival. b arrived after a. -/
def laterWins (a b : Staged) : Bool :=
  if a.post.stamp != b.post.stamp then stampLt a.post.stamp b.post.stamp
  else if a.post.station != b.post.station then decide (b.post.station < a.post.station)
  else if a.post.unit != b.post.unit then decide (b.post.unit < a.post.unit)
  else true

/-- The winning candidate of a point among posts in order of arrival. -/
def bestPost (best : Option Staged) : List Staged → Option Staged
  | [] => best
  | x :: r =>
    match best with
    | none => bestPost (some x) r
    | some b => bestPost (some (if laterWins b x then x else b)) r

/-- A post may enter the freeze of frame n: stamped in its interval, or late and in staging before the grace closed. -/
def State.candidate (s : State) (n : W64) (x : Staged) : Bool :=
  let t := s.tickOf n
  if x.post.late then stampLt x.arrival (t + (s.rd R.BCN_GRACE).setWidth 64)
  else stampLe s.bcn.prevTick x.post.stamp && stampLt x.post.stamp t

/-- The sample with bit 6 of its quality set or cleared. -/
def stale (v : W32) (b : Bool) : W32 := putBits v 6 1 (b2n b)

/-- The sample and the stamp of a point after the freeze, from those it holds (R39). -/
def pointNext (old : W32 × W64) (best : Option Staged) : W32 × W64 :=
  match best with
  | none => (stale old.1 true, old.2)
  | some x =>
    if x.post.late then
      if stampLt old.2 x.post.stamp then (stale x.post.sample true, x.post.stamp) else (stale old.1 true, old.2)
    else (stale x.post.sample false, x.post.stamp)

/-! ### The lines of the input image (R80) -/

/-- Window addresses of the sample and of the stamp of point i. -/
def State.sampleAddr (s : State) (i : Nat) : Nat := (s.regLines 0).1 * 64 + (s.rd R.IN_SAMPLE_OFF).toNat + 4 * i
/-- Window address of the stamp of point i. -/
def State.stampAddr (s : State) (i : Nat) : Nat := (s.regLines 0).1 * 64 + (s.rd R.IN_STAMP_OFF).toNat + 8 * i

/-- The number of input points. -/
def State.inPoints (s : State) : Nat := (s.rd R.IN_POINTS).toNat

/-- The line lies in one of the two arrays. -/
def State.inArrays (s : State) (line : Nat) : Bool :=
  decide (0 < s.inPoints) &&
  (decide (s.sampleAddr 0 / 64 ≤ line ∧ line ≤ (s.sampleAddr s.inPoints - 1) / 64) ||
   decide (s.stampAddr 0 / 64 ≤ line ∧ line ≤ (s.stampAddr s.inPoints - 1) / 64))

/-- A number of n bytes written at a window address into a set of lines; a line not in the set starts from its committed version. -/
def State.imgPut (s : State) (l : List (Nat × Line)) (addr n v : Nat) : List (Nat × Line) :=
  let line := addr / 64
  let d := (assoc? l line).getD ((s.sline line).cdata)
  assocSet l line (linePut d (addr % 64) n v)

/-- The lines of both arrays as the freeze of frame n writes them. -/
def State.freezeImage (s : State) (n : W64) : List (Nat × Line) :=
  let cand := s.bcn.staging.filter (s.candidate n)
  foldRange (fun i l =>
    let a := s.sampleAddr i
    let b := s.stampAddr i
    let old : W32 × W64 := (BitVec.ofNat 32 (lineNum (s.sline (a / 64)).cdata (a % 64) 4), BitVec.ofNat 64 (lineNum (s.sline (b / 64)).cdata (b % 64) 8))
    let x := pointNext old (bestPost none (cand.filter (fun p => p.post.point == i)))
    s.imgPut (s.imgPut l a 4 x.1.toNat) b 8 x.2.toNat) 0 s.inPoints []

/-- One line of region 0 written by the freeze of frame n, with its contribution to the digest (R80, R84, R85). -/
def State.freezeLine (s : State) (n : W64) (line : Nat) (d : Line) : State :=
  let s := s.stCommitDirect line d (lo32 (n - 1))
  if s.digestLine line then s.digXor n (s.contribution line d) else s

/-- The posts the freeze of frame n has used or discarded leave staging. -/
def State.unstage (s : State) (n : W64) : State :=
  { s with bcn := { s.bcn with staging := s.bcn.staging.filter (fun x => !(s.candidate n x) && !(stampLt x.post.stamp (s.tickOf n) && !x.post.late)) } }

/-- The freeze of the running frame is complete (R37, R163). -/
def State.freezeEnd (s : State) : State :=
  { s with bcn := { s.bcn with frozen := true }, sector := { s.sector with freezeDone := some s.now } }

/-! ### The two freezes (R193) -/

/-- Lines in messages of up to 64 neighbouring lines (R186, R193). -/
def mirrorMsgs (n : W64) (base : Nat) : List (Nat × Line) → Option (Nat × List Line) → List LinkMsg
  | [], none => []
  | [], some (a, ls) => [.mirror n (BitVec.ofNat 26 ((a - base) * 64)) ls]
  | (k, d) :: r, none => mirrorMsgs n base r (some (k, [d]))
  | (k, d) :: r, some (a, ls) =>
    if k = a + ls.length ∧ ls.length < 64 then mirrorMsgs n base r (some (a, ls ++ [d]))
    else LinkMsg.mirror n (BitVec.ofNat 26 ((a - base) * 64)) ls :: mirrorMsgs n base r (some (k, [d]))

/-- A mirrored line or a local one written on a non-holder. -/
def State.freezeLines (s : State) (n : W64) (l : List (Nat × Line)) : State := l.foldl (fun s p => s.freezeLine n p.1 p.2) s

/-- Adds a LOCAL_INPUT entry to the outcome list of a frame, once (R192, R194, R195). -/
def State.localInput (s : State) (f : W64) : State :=
  if s.tw.own.any (fun o => o.frame == f && o.entries.contains (BitVec.ofNat 64 (8 * 2 ^ 16))) then s else s.outcome f 8 0 0

/-- INPUT_FREEZE (R39): the freeze of the running frame at the close of its grace. -/
def inputFreeze (s : State) : State :=
  if !s.bcn.ticked || s.bcn.frozen || s.tw.mirFrame == s.bcn.frame && !s.tw.localLines.isEmpty then s
  else
    let n := s.bcn.frame
    let s := s.advanceTo (s.bcn.tickStamp + BitVec.ofNat 64 (s.rd R.BCN_GRACE).toNat)
    let img := s.freezeImage n
    let s := s.unstage n
    if s.nonHolder then
      let l := img.filter (fun p => !s.tw.mirLines.contains p.1)
      { s with tw := { s.tw with localLines := l } }
    else
      let s := s.freezeLines n img
      let s := if s.flagAt R.TW_CFG 0 then
          ((mirrorMsgs n (s.regLines 0).1 img none).foldl (fun s m => s.linkSend m) s).linkSend (.mirrorEnd n img.length)
        else s
      s.freezeEnd

/-- The stamp at which a mirrored freeze and FRAME.T of the running frame are due (R192, R194). -/
def State.mirDeadline (s : State) : Stamp := s.bcn.tickStamp + BitVec.ofNat 64 (s.fld R.TW_MIR_WAIT 0 24)

/-- Mirrored lines are written as they arrive before T(N) + TW_MIR_WAIT. -/
def State.mirrorTake (s : State) (frame : W64) (off : BitVec 26) (lines : List Line) : State :=
  if !s.nonHolder || frame != s.bcn.frame || s.tw.mirMiss || s.bcn.frozen ||
      stampLe s.mirDeadline s.now then s
  else
    let a := (s.regLines 0).1 + off.toNat / 64
    let l := (rangeFrom a lines.length).zip lines
    let s := s.freezeLines frame l
    { s with tw := { s.tw with
      mirLines := s.tw.mirLines ++ l.map (·.1)
      localLines := s.tw.localLines.filter (fun p => !(l.map (·.1)).contains p.1) } }

/-- MIRROR (R193): lines of the holder's input image. -/
def mirror (frame : W64) (off : BitVec 26) (lines : List Line) (s : State) : State :=
  if s.hears then s.rx.mirrorTake frame off lines else s

/-- The mirrored freeze is complete, where MIRROR_END is in time. -/
def State.mirrorFull (s : State) (frame : W64) : State :=
  if !s.nonHolder || frame != s.bcn.frame || s.tw.mirMiss || s.bcn.frozen ||
      stampLe s.mirDeadline s.now then s
  else { s.freezeEnd with tw := { s.tw with mirEnd := true } }

/-- MIRROR_END (R193, R194). -/
def mirrorEnd (frame : W64) (s : State) : State := if s.hears then s.rx.mirrorFull frame else s

/-- MIRROR_MISS (R194): the lines not yet mirrored are written from the local freeze. -/
def mirrorMiss (s : State) : State :=
  if !s.nonHolder || !s.bcn.ticked || s.bcn.frozen then s
  else
    let s := inputFreeze s
    let s := s.advanceTo s.mirDeadline
    let n := s.bcn.frame
    let l := s.tw.localLines
    let s := s.freezeLines n l
    let s := { s with tw := { s.tw with mirMiss := true, localLines := [] } }
    let s := ((s.flag R.TW_STATUS 5).bump R.TW_CNT_MISS).jlog s.now 95 0 0x0504 [(0, 4, (lo32 n).toNat), (4, 4, l.length)]
    (s.localInput n).freezeEnd

/-! ### The final digest (R86, R195, R196) -/

/-- This device's results for a frame. -/
def State.ownOf (s : State) (f : W64) : OwnCmp := (s.tw.own.find? (fun o => o.frame == f)).getD { frame := f }

/-- Replaces this device's results for a frame. -/
def State.setOwn (s : State) (o : OwnCmp) : State :=
  { s with tw := { s.tw with own := (s.tw.own.filter (fun x => !(x.frame == o.frame))) ++ [o] } }

/-- Values sorted upward as 64-bit numbers. -/
def sortW (l : List W64) : List W64 := sortBy (fun a b => decide (a.toNat < b.toNat)) l

/-- The 16 B blocks of a list of 8 B entries, padded with a zero entry (R195). -/
def odBlocks : List W64 → List V128
  | [] => []
  | [a] => [BitVec.ofNat 128 a.toNat]
  | a :: b :: r => BitVec.ofNat 128 (a.toNat + b.toNat * 2 ^ 64) :: odBlocks r

/-- The outcome digest of a frame, byte 0 in bits [7:0] (R195). -/
def State.outcomeDigest (s : State) (o : OwnCmp) : V128 :=
  revBlock (ghash (revBlock s.digKey) 0 ((odBlocks (sortW o.entries)).map revBlock)) ^^^ o.lateXor

/-- OD of a frame is final: its list is closed, and no COMMIT walk for the tick that closed it is left (R195). -/
def State.odFinal (s : State) (o : OwnCmp) : Bool :=
  o.closed && !s.su.walks.any (fun w => match w.kind with
    | .commit m => m == o.frame + 1
    | _ => false)

/-- Sends DIGEST of a frame, with its flags (R196). -/
def State.digestSend (s : State) (o : OwnCmp) : State :=
  let od := s.odFinal o
  let flags : Byte := BitVec.ofNat 8 (bitIf o.noncmp 0 + bitIf (o.late || o.dig.isNone) 1 + bitIf (!od) 2)
  (s.linkSend (.digest o.frame (o.dig.getD 0) (if od then s.outcomeDigest o else 0) flags)).setOwn { o with sent := true }

/-- DIGEST is sent once both digests of a frame are final (R196). -/
def State.digestTry (s : State) (f : W64) : State :=
  let o := s.ownOf f
  if s.flagAt R.TW_CFG 0 && s.tw.role != .isolated && !o.sent && o.dig.isSome && s.odFinal o then s.digestSend o else s

/-- The digest of an ended frame is latched (R86). -/
def State.digestLatch (s : State) (frame : W64) (d : V128) : State :=
  { s with su := { s.su with
    digFrame := frame, digVal := d, digOpen := s.su.digOpen.filter (fun f => f != frame)
    digests := assocDel s.su.digests frame.toNat } }

/-- The records of a final digest (R86, R87). -/
def State.digestLog (s : State) (f : W32) (lo hi : W64) : State :=
  (s.jlog s.now 98 0 0x0100 [(0, 4, f.toNat), (4, 8, lo.toNat)]).jlog s.now 98 0 0x0101 [(0, 4, f.toNat), (4, 8, hi.toNat)]

/-- The digest of a frame becomes final after T(N+2) - guard (R86). -/
def State.digestLateNow (s : State) (frame : W64) : Bool := stampLt (s.tickAt (frame + 2) - BitVec.ofNat 64 s.guardNs) s.now

/-- DIGEST_FINAL (R86): the digest of an ended frame is latched and journaled once its freeze and its DONE walks are complete. -/
def digestFinal (frame : W64) (s : State) : State :=
  if !s.su.digOpen.contains frame || s.su.walks.any (fun w => w.frame == frame && w.kind == .done) then s
  else
    let d := s.digest frame
    let s := (s.digestLatch frame d).digestLog (lo32 frame) (d.extractLsb' 0 64) (d.extractLsb' 64 64)
    let late := s.digestLateNow frame
    let s := if late then (s.flag R.ST_STATUS 4).jlog s.now 98 0 0x0102 [(0, 4, (lo32 frame).toNat)] else s
    (s.setOwn { s.ownOf frame with dig := some d, late := late }).digestTry frame

/-- DIGEST goes out for every frame whose OD has become final by a walk (R195, R196). -/
def State.digestsTry (s : State) : State :=
  (s.tw.own.map (·.frame)).foldl (fun s f => s.digestTry f) s

/-! ### Commands -/

/-- WALK (R69): the last COMMIT walk of a tick makes the outcome digest final (R195). -/
def execWalk (t : TaskId) (frame : W64) (s : State) : Host.Outcome State Fault Refusal := .next (walkCmd t frame s).digestsTry
/-- INPUT_FREEZE (R39). -/
def execInputFreeze (s : State) : Host.Outcome State Fault Refusal := .next (inputFreeze s)
/-- MIRROR (R193). -/
def execMirror (frame : W64) (off : BitVec 26) (lines : List Line) (s : State) : Host.Outcome State Fault Refusal := .next (mirror frame off lines s)
/-- MIRROR_END (R193). -/
def execMirrorEnd (frame : W64) (s : State) : Host.Outcome State Fault Refusal := .next (mirrorEnd frame s)
/-- MIRROR_MISS (R194). -/
def execMirrorMiss (s : State) : Host.Outcome State Fault Refusal := .next (mirrorMiss s)
/-- DIGEST_FINAL (R86). -/
def execDigestFinal (frame : W64) (s : State) : Host.Outcome State Fault Refusal := .next (digestFinal frame s)

end Sys2Proof.Machine
end

