-- ==== Sys2Proof/Machine/TwinBase.lean ====
section
/-! DEFINITION. Roles of a twin, its heartbeat and its outputs, and the tasks due in a frame (R41, R49, R186 to R189, R202 to R205). -/

namespace Sys2Proof.Machine

/-! ### Roles (R187, R202) -/

/-- The code of a role (R187). -/
def Role.code : Role → Fin 8
  | .listen => 0
  | .alone => 1
  | .active => 2
  | .standby => 3
  | .joining => 4
  | .diverged => 5
  | .isolated => 6

/-- The role of a code. -/
def roleOf (n : Nat) : Role :=
  match n with
  | 1 => .alone
  | 2 => .active
  | 3 => .standby
  | 4 => .joining
  | 5 => .diverged
  | 6 => .isolated
  | _ => .listen

/-- TW_CFG.EN: the device is one of a pair. -/
def State.twin (s : State) : Bool := s.flagAt R.TW_CFG 0

/-- K: silent frames for promotion (R200). -/
def State.twinK (s : State) : Nat := s.fld R.TW_CFG 1 4

/-- The holder's T(M) of the running frame as a heartbeat names it (R186): the holder's own; on a non-holder as fixed for FRAME.T, or until then its own plus TW_PAIR_OFF, as R192 has it without the holder's heartbeat (DESIGN CHOICE, log entry 76). -/
def State.holderTick (s : State) : Stamp :=
  if s.nonHolder then assocD s.tw.fixedT s.bcn.frame.toNat (s.bcn.tickStamp + s.tw.pairOff) else s.bcn.tickStamp

/-- The HEARTBEAT of the running frame (R186); before the first tick it names the frame before the first and T of it by R10 (DESIGN CHOICE, log entry 76). -/
def State.heartbeat (s : State) : Heartbeat where
  frame := if s.bcn.ticked then s.bcn.frame else s.bcn.nextN - 1
  tick := if s.bcn.ticked then s.holderTick else s.tickAt (s.bcn.nextN - 1)
  role := s.tw.role.code
  token := s.holder
  verified := s.tw.verified
  side := s.tw.sideB
  supplyWarn := s.sector.supplyLow
  resyncDue := s.tw.resyncDue
  gen := s.tw.g
  digest := s.cfgDigest.extractLsb' 0 64

/-- Sends the heartbeat: every device of a pair but one in LISTEN (R186). -/
def State.sendHeartbeat (s : State) : State :=
  if s.twin && s.tw.role != .listen then s.linkSend (.heartbeat s.heartbeat) else s

/-- Journals a step of a join (R204, R209). -/
def State.joinStep (s : State) (step abort : Nat) (t : W64) : State :=
  s.jlog s.now 95 0 0x0508 [(0, 1, step), (1, 1, abort), (4, 8, t.toNat)]

/-- A joiner sends JOIN_REQ (R204 step 1). -/
def State.joinAsk (s : State) : State :=
  (({ s with tw := { s.tw with join := { step := 1 } } }).linkSend (.joinReq s.cfgDigest)).joinStep 1 0 0

/-- No task of the running frame is due any more (R203). -/
def State.undue (s : State) : State :=
  { s with hive := { s.hive with rt := s.hive.rt.map (fun p => (p.1, { p.2 with due := p.2.due && (p.2.dispatched || p.2.missed) })) } }

/-- The token is lost: outputs are disabled (R188, R189). -/
def State.outputsOff (s : State) : State := { s with tw := { s.tw with outputs := false, outputsAt := none } }

/-- The token is gained at the tick in force: outputs are enabled 2,000 ns later (R189). -/
def State.outputsSoon (s : State) (t : Stamp) : State := { s with tw := { s.tw with outputsAt := some (t + 2000) } }

/-- VERIFIED in a new role (R202, R210): a device becomes STANDBY by its first match or as the verified pair's former holder, and ACTIVE beside a verified partner. -/
def verifiedIn : Role → Bool
  | .standby => true
  | .active => true
  | _ => false

/-- Journals HANDOVER (R209). -/
def State.handLog (s : State) (status : Nat) (h : W64) : State := s.jlog s.now 95 0 0x050a [(0, 1, status), (4, 8, h.toNat)]

/-- A change of role ends a handover in progress, which has then not taken place (R202, R207). -/
def State.handOff (s : State) : State :=
  match s.tw.handH with
  | none => s
  | some h =>
    let s := { s with tw := { s.tw with handH := none } }
    if s.tw.role == .active then (s.flag R.TW_STATUS 13).handLog 2 h else s

/-- A joiner that leaves the join other than by its first match says so to the holder (R186); causes 2 and 3 are DESIGN CHOICE (log entry 76). -/
def State.joinLeave (s : State) (new : Role) : State :=
  if s.tw.role == .joining && new == .isolated && s.tw.join.step != 0 then s.linkSend (.joinAbort 3) else s

/-- The role changes, with its record (R202, R209). -/
def State.setRole (s : State) (new : Role) (cause : Nat) : State :=
  let old := s.tw.role
  if old == .isolated then s
  else
    let s := (s.handOff).joinLeave new
    let s := { s with tw := { s.tw with role := new, verified := verifiedIn new } }
    let s := (s.flag R.TW_STATUS 1).jlog s.now 95 0 0x0500 [(0, 1, old.code.val), (1, 1, new.code.val), (2, 1, cause), (4, 4, s.tw.g.toNat)]
    let s := match new with
      | .joining => { s.undue with tw := { s.tw with resyncDue := false, host := {}, join := { askAt := some s.bcn.nextN } } }
      | .isolated => s.undue.outputsOff
      | .diverged => s.outputsOff
      | _ => s
    let s := s.sendHeartbeat
    if new == .joining && s.bcn.ticked then s.joinAsk else s

/-- A divergence or a failed join is counted; beyond DIV_LIMIT the device becomes ISOLATED (R202, R210). -/
def State.divAdd (s : State) : State :=
  let s := { s with tw := { s.tw with divCount := s.tw.divCount + 1 } }
  let r := s.tw.role
  if s.fld R.TW_CFG 6 4 < s.tw.divCount && (r == .standby || r == .joining || r == .diverged) then s.setRole .isolated 14 else s

/-- Journals RESYNC (R196, R198, R209). -/
def State.resyncLog (s : State) (f : W64) (cause : Nat) (od : V128) : State :=
  ((s.flag R.TW_STATUS 3).bump R.TW_CNT_RESYNC).jlog s.now 95 0 0x0502 [(0, 4, (lo32 f).toNat), (4, 1, cause), (8, 4, bitsAt od 0 32)]

/-! ### The tasks due in a frame (R41, R49, R203, R205) -/

/-- The device runs tasks in frame n (R187, R203, R205). -/
def State.runsTasks (s : State) (n : W64) : Bool :=
  !s.twin || (match s.tw.role with
    | .alone => true
    | .active => true
    | .standby => true
    | .diverged => true
    | .joining => s.tw.join.go && s.tw.join.unitSeen && s.tw.join.replayEnd &&
        (match s.tw.join.at_ with
         | some j => decide (j.toNat ≤ n.toNat)
         | none => false)
    | _ => false)

/-- The device evaluates its interlocks in frame n: a joiner from frame J on, once UNIT_STATE is applied (R204 step 8); every other device where it runs tasks. -/
def State.evaluates (s : State) (n : W64) : Bool :=
  s.runsTasks n || (s.twin && s.tw.role == .joining && s.tw.join.unitSeen &&
    (match s.tw.join.at_ with
     | some j => decide (j.toNat ≤ n.toNat)
     | none => false))

/-- A task's record at the start of a frame. -/
def TaskRt.newFrame (r : TaskRt) (due : Bool) : TaskRt :=
  { r with due := due, dispatched := false, done := false, missed := false, prevCarried := r.run.isSome && due }

/-- Hive marks the tasks due in frame n (R41, R203). -/
def State.markDue (s : State) (n : W64) : State :=
  let run := s.runsTasks n
  s.tasks.foldl (fun s t => s.setRt t ((s.rt t).newFrame (run && s.rateDue t n))) s

end Sys2Proof.Machine
end

