-- ==== Sys2Proof/Machine/Switch.lean ====
section
/-! DEFINITION. Live parameters and switch groups (R107, R108, R111 to R115, R169, R198, R403). -/

namespace Sys2Proof.Machine

/-! ### Slots (R111, R120) -/

/-- A slot. -/
def State.slot (s : State) (i : Nat) : SwSlot := s.hive.slots.getD i {}

/-- Replaces a slot. -/
def State.setSlot (s : State) (i : Nat) (x : SwSlot) : State := { s with hive := { s.hive with slots := s.hive.slots.set i x } }

/-- The open slot: the one the last SW_OPEN named, while its state is open. -/
def State.openSlot (s : State) : Option Nat := if (s.slot s.hive.lastOpen).st == 1 then some s.hive.lastOpen else none

/-- SW_OPEN (R111); on a non-holder the write is ignored (R198). -/
def swOpen (v : W32) (s : State) : State :=
  if !s.holder then s.flag R.TW_STATUS 11
  else
    let i := bitsAt v 0 3
    let s := s.wr R.SW_OPEN (v &&& 0xff0f)
    let s := s.setSlot i { st := 1, setTag := BitVec.ofNat 8 (bitsAt v 8 8), last := bitAt v 3 }
    { s with hive := { s.hive with lastOpen := i } }

/-- SW_ENT_VAL (R111): an entry for the open slot; a 1,025th is dropped. -/
def swEntVal (v : W32) (s : State) : State :=
  if !s.holder then s.flag R.TW_STATUS 11
  else match s.openSlot with
    | none => s
    | some i =>
      let x := s.slot i
      if x.entries.length < 1024 then s.setSlot i { x with entries := x.entries ++ [⟨s.rd R.SW_ENT_TGT, v⟩] }
      else s.flag R.SW_STATUS 2

/-! ### Targets (R112, R169, R403) -/

/-- The code of a target. -/
def swCode (e : SwEntry) : Nat := bitsAt e.tgt 28 4
/-- The bits below the code. -/
def swLow (e : SwEntry) : Nat := bitsAt e.tgt 0 28
/-- The task of a target 0x1 to 0x3. -/
def swTask (e : SwEntry) : TaskId := taskOf (bitsAt e.tgt 0 13)

/-- A place of HIVE1 that is live (R118): offset divided by 4. -/
def livePl (o : Nat) : Bool := decide (o ≤ 10) || decide (16 ≤ o ∧ o ≤ 20)

/-- The target is not refused as NOT_LIVE (R112).
DESIGN CHOICE (log entry 72): a target 0x4 or 0x9 that sets bits its layout requires to be 0 is BAD_VALUE, whatever its low bits name, and offsets 0x02C to 0x03C of HIVE1, where no register stands, are NOT_LIVE. -/
def State.tgtLive (s : State) (e : SwEntry) : Bool :=
  match (swCode e) with
  | 4 => decide (256 ≤ (swLow e)) || livePl (swLow e)
  | 9 => decide (2 ^ 23 ≤ (swLow e)) || (assoc? s.hive.params (swLow e)).isSome
  | c => decide (1 ≤ c ∧ c ≤ 9)

/-- A value in range for a live HIVE1 register (R104, R118). -/
def plOk (o : Nat) (v : W32) : Bool :=
  let n := v.toNat
  match o with
  | 0 => decide (16 ≤ n ∧ n ≤ 65535)
  | 5 => decide (1 ≤ n ∧ n ≤ 255)
  | 6 => decide (bitsAt v 0 7 ≤ 64 ∧ bitsAt v 8 5 ≤ 16 ∧ bitsAt v 7 1 = 0 ∧ n < 2 ^ 13)
  | 7 => decide (1 ≤ n ∧ n ≤ 1000)
  | 8 => decide (n ≤ 4)
  | 9 => decide (n ≤ 255)
  | 10 => decide (n < 2 ^ 24)
  | 20 => decide (n < 2 ^ 16)
  | o => decide (11 ≤ o) || decide (n < 2 ^ 16)

/-- A rule of the sector unit. -/
def State.srule (s : State) (i : Nat) : SRule := assocD s.sector.rules i { hdr := 0, terms := [] }

/-- The terms a rule uses: N + 1 (R165). -/
def SRule.used (r : SRule) : Nat := bitsAt r.hdr 1 3 + 1

/-- A threshold target and value are in range (R169). -/
def State.thrOk (s : State) (e : SwEntry) : Bool :=
  let i := bitsAt e.tgt 3 12
  let t := bitsAt e.tgt 0 3
  let r := s.srule i
  let k := bitsAt (r.terms.getD t (0, 0)).1 0 3
  decide ((swLow e) < 2 ^ 15) && decide (i < s.fld R.SI_RULES 0 13) && decide (t < r.used) &&
    (k == 1 || (k == 2 && decide (bitsAt e.val 0 5 ≤ 23)))

/-- A regulator target and value are in range (R402, R403). -/
def regulOk (e : SwEntry) : Bool :=
  let n := e.val.toNat
  decide ((swLow e) < 2 ^ 12) && decide (bitsAt e.tgt 0 8 ≤ 105) && bitsAt e.tgt 8 2 != 0 &&
    (match bitsAt e.tgt 10 2 with
     | 0 => decide (1 ≤ n ∧ n ≤ 1024)
     | 1 => decide (1 ≤ n ∧ n ≤ 255)
     | 2 => decide (n ≤ 1)
     | _ => false)

/-- The value that stands at the end of a group for a target, or the one in force. -/
def lastVal (l : List SwEntry) (tgt : W32) (old : Nat) : Nat :=
  match l.reverse.find? (fun e => e.tgt == tgt) with
  | some e => e.val.toNat
  | none => old

/-- The window that a group leaves a task meets R42.
DESIGN CHOICE (log entry 87): the task's other live fields are those in force at the arm, with the group's own entries; entries of groups already armed do not count. -/
def State.windowOk (s : State) (l : List SwEntry) (t : TaskId) : Bool :=
  let off := lastVal l (BitVec.ofNat 32 (0x20000000 + t.val)) (s.winOff t)
  let dl := lastVal l (BitVec.ofNat 32 (0x30000000 + t.val)) (s.winDl t)
  decide (off < dl ∧ dl + s.guardNs ≤ s.period)

/-- The entry is refused as BAD_VALUE (R113). l is the whole group. -/
def State.badValue (s : State) (l : List SwEntry) (e : SwEntry) : Bool :=
  let task := decide ((swLow e) < 2 ^ 13) && s.tdValid (swTask e)
  match (swCode e) with
  | 1 =>
    let k := bitsAt e.val 0 4
    !(task && decide (e.val.toNat < 2 ^ 16 ∧ k ≤ 12 ∧ bitsAt e.val 4 12 < 2 ^ k))
  | 2 => !(task && s.windowOk l (swTask e))
  | 3 => !(task && s.windowOk l (swTask e))
  | 4 => decide (256 ≤ (swLow e)) || !plOk (swLow e) e.val
  | 5 => decide (144 ≤ (swLow e))
  | 6 => !s.thrOk e
  | 7 => !regulOk e
  | 8 => decide (4 ≤ (swLow e)) || decide (2 ^ 24 ≤ e.val.toNat)
  | 9 => decide (2 ^ 23 ≤ (swLow e))
  | _ => true

/-! ### Exclusions (R107, R108) -/

/-- The exclusion words as one number: bit k excludes core k. -/
def State.exclWord (s : State) : Nat :=
  (List.range 5).foldl (fun n i => n + (s.rd (R.CORE_EXCL i)).toNat * 2 ^ (32 * i)) 0

/-- The exclusions after an entry. -/
def exclAfter (x : Nat) (e : SwEntry) : Nat :=
  let w : BitVec 160 := BitVec.ofNat 160 x
  if (swCode e) = 5 then (putBits w (swLow e) 1 (bitsAt e.val 0 1)).toNat
  else if (swCode e) = 4 ∧ 16 ≤ (swLow e) ∧ (swLow e) ≤ 20 then (putBits w (32 * ((swLow e) - 16)) 32 e.val.toNat).toNat
  else x

/-- The cores an entry excludes. -/
def exclBy (e : SwEntry) : List CoreId :=
  if (swCode e) = 5 then (if bitAt e.val 0 then [coreOf (swLow e)] else [])
  else if (swCode e) = 4 ∧ 16 ≤ (swLow e) ∧ (swLow e) ≤ 20 then
    allCores.filter (fun k => k.val / 32 == (swLow e) - 16 && bitAt e.val (k.val % 32))
  else []

/-- A core would still be in placement under exclusions x. -/
def State.staysPlaced (s : State) (x : Nat) (k : CoreId) : Bool :=
  !x.testBit k.val && (match s.cstat k.val with
    | .idle => true
    | .running => true
    | .carried => true
    | .excluded => true
    | _ => false)

/-- Excluding a core conflicts with a pin or empties a core set (R108). -/
def State.exclConflict (s : State) (x : Nat) (k : CoreId) : Bool :=
  x.testBit k.val &&
  (s.tasks.any (fun t => s.tdValid t && s.taskPlace t == 2 && s.pinNow (coreOf (s.tdN t 96 16)) == some k) ||
   (List.range 16).any (fun c => (s.csetCores c).contains k && !(s.csetCores c).any (s.staysPlaced x)))

/-- The exclusions that would hold once a group applies: those in force, those of the groups armed for the same or an earlier frame, and its own (R108).
DESIGN CHOICE (log entry 72): a group armed with apply frame 0 before the first tick counts under frame 0, and it is not tested again at the first tick. -/
def State.exclOnce (s : State) (slot : Nat) (frame : W64) (l : List SwEntry) : Nat :=
  let armed := ((List.range 8).filter (fun i => i != slot && (s.slot i).st == 2 && decide ((s.slot i).frame.toNat ≤ frame.toNat)))
  let order := sortBy (fun i j => decide ((s.slot i).frame.toNat < (s.slot j).frame.toNat)) armed
  let x := order.foldl (fun x i => (s.slot i).entries.foldl exclAfter x) s.exclWord
  l.foldl exclAfter x

/-! ### The checks of an arm (R113) -/

/-- The index of the first entry that fails a test. -/
def firstFail (bad : SwEntry → Bool) (l : List SwEntry) : Option Nat := l.findIdx? bad

/-- Entries already armed for a frame in the other slots (R113).
DESIGN CHOICE (log entry 72): a group armed with apply frame 0 before the first tick counts under frame 0, and it is not tested again at the first tick. -/
def State.armedFor (s : State) (slot : Nat) (frame : W64) : Nat :=
  ((List.range 8).filter (fun i => i != slot && (s.slot i).st == 2 && (s.slot i).frame == frame)).foldl
    (fun n i => n + (s.slot i).entries.length) 0

/-- The first check of R113 that fails: its code and the failing entry. -/
def State.armCheck (s : State) (slot : Nat) (frame : W64) : Option (Fin 8 × Nat) :=
  let l := (s.slot slot).entries
  let cap := s.fld R.SW_CAP 0 11
  let other := s.armedFor slot frame
  if cap < l.length then some (1, cap)
  else if cap < other + l.length then some (2, cap - other)
  else match firstFail (fun e => !s.tgtLive e) l with
    | some i => some (3, i)
    | none =>
      match firstFail (s.badValue l) l with
      | some i => some (4, i)
      | none =>
        let x := s.exclOnce slot frame l
        match firstFail (fun e => (exclBy e).any (s.exclConflict x)) l with
        | some i => some (5, i)
        | none => if s.bcn.ticked && decide (frame.toNat < s.bcn.frame.toNat + 2) then some (6, 0) else none

/-- A group is refused, with its record (R113). -/
def State.swRefuse (s : State) (i : Nat) (code : Fin 8) (idx : Nat) : State :=
  let x := s.slot i
  ((s.setSlot i { x with st := 4, code := code }).flag R.SW_STATUS 1).jlog s.now 97 0 0x0231
    [(0, 1, i), (1, 1, x.setTag.toNat), (2, 1, code.val), (4, 2, idx)]

/-- Arms the group of a slot for a frame, or refuses it; the answer says whether it was accepted. An apply frame of 0 is BCN_FRAME + 2, or stands for N0 + 2 before the first tick (R113, R114). -/
def State.swArm (s : State) (i : Nat) (f : W64) : Bool × State :=
  let frame := if f == 0 && s.bcn.ticked then s.bcn.frame + 2 else f
  let s := s.setSlot i { s.slot i with frame := frame }
  match s.armCheck i frame with
  | some (c, idx) => (false, s.swRefuse i c idx)
  | none => (true, s.setSlot i { s.slot i with st := 2, code := 0 })

/-- SW_ARM_LO (R111, R113, R198): ignored while no slot is open; the holder tells its partner of a group it accepts. -/
def swArmLo (v : W32) (s : State) : State :=
  if !s.holder then s.flag R.TW_STATUS 11
  else
    match s.openSlot with
    | none => s
    | some i =>
      let s := s.wr R.SW_ARM_LO v
      let a := s.swArm i (join32 (s.rd R.SW_ARM_HI) v)
      let x := a.2.slot i
      if a.1 && s.twin then a.2.linkSend (.swArm ⟨i % 8, Nat.mod_lt i (by decide)⟩ x.setTag x.last x.frame x.entries) else a.2

/-- Journals a cancel (R114). -/
def State.cancelLog (s : State) (i outcome : Nat) : State :=
  let x := s.slot i
  s.jlog s.now 97 0 0x0232 [(0, 1, i), (1, 1, x.setTag.toNat), (2, 1, outcome), (4, 8, x.frame.toNat)]

/-- The group of a slot is armed and its tick has not come. -/
def State.cancellable (s : State) (i : Nat) : Bool :=
  let x := s.slot i
  x.st == 2 && (!s.bcn.ticked || x.frame == 0 || stampLt s.now (s.tickAt x.frame))

/-- SW_CANCEL (R114, R198). -/
def swCancel (v : W32) (s : State) : State :=
  if !s.holder then s.flag R.TW_STATUS 11
  else
    let i := bitsAt v 0 3
    let s := s.wr R.SW_CANCEL (BitVec.ofNat 32 i)
    let x := s.slot i
    if x.st != 2 then s.cancelLog i 2
    else if s.cancellable i then
      let s := (s.setSlot i { x with st := 5 }).cancelLog i 0
      if s.twin then s.linkSend (.swCancel ⟨i % 8, Nat.mod_lt i (by decide)⟩ x.frame) else s
    else s.cancelLog i 1

/-- SW_ARM received (R198): the non-holder arms the same group; a refusal resynchronises it. -/
def swArmMsg (slot : Fin 8) (set : Byte) (last : Bool) (frame : W64) (entries : List SwEntry) (s : State) : State :=
  if !s.hears then s
  else if s.holder then s.rx
  else
    let s := s.rx.setSlot slot.val { st := 1, setTag := set, last := last, entries := entries.take 1024 }
    let a := s.swArm slot.val frame
    if a.1 then a.2
    else
      let s := a.2.resyncLog a.2.bcn.frame 3 0
      if s.tw.role == .standby then s.setRole .joining 6 else s

/-- SW_CANCEL received (R198). -/
def swCancelMsg (slot : Fin 8) (frame : W64) (s : State) : State :=
  if !s.hears then s
  else if s.holder || (s.slot slot.val).frame != frame || !s.cancellable slot.val then s.rx
  else (s.rx.setSlot slot.val { s.slot slot.val with st := 5 }).cancelLog slot.val 0

/-! ### Applying (R114, R115) -/

/-- A regulator of a station and class (R402): disabled where nothing set it. -/
def State.regulator (s : State) (st cls : Nat) : Regulator :=
  assocD s.ring.regl (st * 4 + cls) { rate := 0, burst := 0, en := false, tokens := 0, seen := 0 }

/-- A bucket filled to a stamp: RATE tokens per 1,024 ring cycles of 2/3 ns (R402). -/
def Regulator.fill (r : Regulator) (t : Stamp) : Regulator :=
  { r with tokens := min (r.burst * 2048) (r.tokens + r.rate * 3 * (t - r.seen).toNat), seen := t }

/-- A new setting of a regulator: the bucket keeps its tokens, capped at the new BURST (R403). -/
def State.setRegul (s : State) (st cls fld v : Nat) : State :=
  let r := (s.regulator st cls).fill s.now
  let r := match fld with
    | 0 => { r with rate := v }
    | 1 => { r with burst := v, tokens := min r.tokens (v * 2048) }
    | _ => { r with en := v % 2 == 1 }
  { s with ring := { s.ring with regl := assocSet s.ring.regl (st * 4 + cls) r } }

/-- Sets the threshold word of a term (R169). -/
def State.setThr (s : State) (rule term : Nat) (v : W32) : State :=
  let r := s.srule rule
  let t := r.terms.getD term (0, 0)
  { s with sector := { s.sector with rules := assocSet s.sector.rules rule { r with terms := r.terms.set term (t.1, v) } } }

/-- An entry applies (R112). -/
def State.swEntry (s : State) (e : SwEntry) : State :=
  match (swCode e) with
  | 1 => s.setTdN (swTask e) 4 16 (bitsAt e.val 0 16)
  | 2 => s.setTdN (swTask e) 32 32 e.val.toNat
  | 3 => s.setTdN (swTask e) 64 32 e.val.toNat
  | 4 => s.wr (0x5000 + 4 * bitsAt e.tgt 0 8) e.val
  | 5 => s.setFld (R.CORE_EXCL ((swLow e) / 32)) ((swLow e) % 32) 1 (bitsAt e.val 0 1)
  | 6 => s.setThr (bitsAt e.tgt 3 12) (bitsAt e.tgt 0 3) e.val
  | 7 => s.setRegul (bitsAt e.tgt 0 8) (bitsAt e.tgt 8 2) (bitsAt e.tgt 10 2) e.val.toNat
  | 8 => s.wr (R.POOL_RES (bitsAt e.tgt 0 2)) e.val
  | 9 => { s with hive := { s.hive with params := assocSet s.hive.params (swLow e) e.val } }
  | _ => s

/-- Cores follow the exclusions that have changed from x (R21, R108, R110). -/
def State.exclFollow (s : State) (x : Nat) : State :=
  let y := s.exclWord
  allCores.foldl (fun s k =>
    if y.testBit k.val == x.testBit k.val then s
    else if y.testBit k.val then
      match s.cstat k.val with
      | .idle => ((s.setCstat k.val .excluded).flag R.HV_STATUS 2).jlog s.now 97 0 0x0221 [(0, 2, k.val), (2, 1, 2)]
      | .running => (s.flag R.HV_STATUS 2).jlog s.now 97 0 0x0221 [(0, 2, k.val), (2, 1, 2)]
      | .carried => (s.flag R.HV_STATUS 2).jlog s.now 97 0 0x0221 [(0, 2, k.val), (2, 1, 2)]
      | _ => s
    else if s.cstat k.val == .excluded then s.setCstat k.val .idle
    else s) s

/-- A group applies at its tick, with its record and its outcome entry (R114, R195). -/
def State.swApply (s : State) (n : W64) (i : Nat) : State :=
  let x := s.slot i
  let old := s.exclWord
  let s := (x.entries.foldl (fun s e => s.swEntry e) s).exclFollow old
  let s := (s.setSlot i { x with st := 3 }).flag R.SW_STATUS 0
  let s := s.outcome n 7 (i + 256 * x.setTag.toNat) (lo32 n)
  s.jlog s.now 97 0 0x0230 [(0, 1, i), (1, 1, x.setTag.toNat), (2, 1, b2n x.last), (4, 2, x.entries.length)]

/-- The groups armed for frame n apply in ascending slot order; change sets open and close (R114, R115). -/
def State.swTick (s : State) (n : W64) : State :=
  let due := (List.range 8).filter (fun i => (s.slot i).st == 2 && (s.slot i).frame == n)
  let s' := due.foldl (fun s i => s.swApply n i) s
  let opened := (due.filter (fun i => !(s.slot i).last)).map (fun i => (s.slot i).setTag)
  let closed := (due.filter (fun i => (s.slot i).last)).map (fun i => (s.slot i).setTag)
  { s' with hive := { s'.hive with openSets := ((s'.hive.openSets ++ opened).eraseDups).filter (fun t => !closed.contains t) } }

/-- At the first tick, before the flip: a group armed with apply frame 0 gets N0 + 2, and one armed for a frame below N0 is refused as LATE (R114). -/
def State.swFirst (s : State) (n0 : W64) : State :=
  (List.range 8).foldl (fun s i =>
    let x := s.slot i
    if x.st != 2 then s
    else if x.frame == 0 then s.setSlot i { x with frame := n0 + 2 }
    else if x.frame.toNat < n0.toNat then s.swRefuse i 6 0
    else s) s

/-- A frame is MIXED while a change set is open (R115). -/
def State.mixed (s : State) : Bool := !s.hive.openSets.isEmpty

/-! ### Live values in force (R206) -/

/-- Live values of a task. -/
def State.liveTask (s : State) (t : TaskId) : List SwEntry :=
  [⟨BitVec.ofNat 32 (0x10000000 + t.val), BitVec.ofNat 32 (s.tdN t 4 16)⟩,
   ⟨BitVec.ofNat 32 (0x20000000 + t.val), BitVec.ofNat 32 (s.winOff t)⟩,
   ⟨BitVec.ofNat 32 (0x30000000 + t.val), BitVec.ofNat 32 (s.winDl t)⟩]

/-- Live thresholds of a rule: of its SAMPLE and DIGITAL terms. -/
def liveRule (i : Nat) (r : SRule) : List SwEntry :=
  (List.range r.used).filterMap (fun t =>
    let x := r.terms.getD t (0, 0)
    if bitsAt x.1 0 3 = 1 ∨ bitsAt x.1 0 3 = 2 then some ⟨BitVec.ofNat 32 (0x60000000 + i * 8 + t), x.2⟩ else none)

/-- Live settings of a regulator. -/
def liveRegul (k : Nat) (r : Regulator) : List SwEntry :=
  let a := 0x70000000 + k / 4 + (k % 4) * 256
  [⟨BitVec.ofNat 32 a, BitVec.ofNat 32 r.rate⟩, ⟨BitVec.ofNat 32 (a + 1024), BitVec.ofNat 32 r.burst⟩,
   ⟨BitVec.ofNat 32 (a + 2048), BitVec.ofNat 32 (b2n r.en)⟩]

/-- Every live value in force, as the entries that set it (R206). -/
def State.liveValues (s : State) : List SwEntry :=
  (s.tasks.filter s.tdValid).flatMap s.liveTask ++
  ((List.range 21).filter livePl).map (fun o => ⟨BitVec.ofNat 32 (0x40000000 + o), s.rd (0x5000 + 4 * o)⟩) ++
  s.sector.rules.flatMap (fun p => liveRule p.1 p.2) ++
  s.ring.regl.flatMap (fun p => liveRegul p.1 p.2) ++
  (List.range 4).map (fun p => ⟨BitVec.ofNat 32 (0x80000000 + p), s.rd (R.POOL_RES p)⟩) ++
  s.hive.params.map (fun p => ⟨BitVec.ofNat 32 (0x90000000 + p.1), p.2⟩)

/-! ### Commands -/

/-- SW_OPEN (R111). -/
def execSwOpen (v : W32) (s : State) : Host.Outcome State Fault Refusal := .next (s.blockWrite 7 (swOpen v))
/-- SW_ENT_VAL (R111). -/
def execSwEntVal (v : W32) (s : State) : Host.Outcome State Fault Refusal := .next (s.blockWrite 7 (swEntVal v))
/-- SW_ARM_LO (R113). -/
def execSwArmLo (v : W32) (s : State) : Host.Outcome State Fault Refusal := .next (s.blockWrite 7 (swArmLo v))
/-- SW_CANCEL (R114). -/
def execSwCancel (v : W32) (s : State) : Host.Outcome State Fault Refusal := .next (s.blockWrite 7 (swCancel v))
/-- SW_ARM (R198). -/
def execSwArm (slot : Fin 8) (set : Byte) (last : Bool) (frame : W64) (entries : List SwEntry) (s : State) : Host.Outcome State Fault Refusal :=
  .next (swArmMsg slot set last frame entries s)
/-- SW_CANCEL_MSG (R198). -/
def execSwCancelMsg (slot : Fin 8) (frame : W64) (s : State) : Host.Outcome State Fault Refusal := .next (swCancelMsg slot frame s)

end Sys2Proof.Machine
end

