-- ==== Sys2Proof/Machine/Twin.lean ====
section
/-! DEFINITION. The twin unit and the leading link: heartbeats, promotion, comparison, joins and handover (chapter Operating as a Twin). -/

namespace Sys2Proof.Machine

/-! ### The link (R181 to R185) -/

/-- LINK_STATE (R182, R209). -/
def State.linkState (s : State) (up : Bool) (cause : Nat) : State := s.jlog s.now 95 0 0x0507 [(0, 1, b2n up), (1, 1, cause)]

/-- The link is lost and retrains (R182, R184). -/
def State.linkLost (s : State) (cause : Nat) : State :=
  if s.tw.linkUp then
    ({ s with tw := { s.tw with linkUp := false, nakCount := 0, txq := [], txPos := s.tw.txSeq } }.flag R.TW_STATUS 7).linkState false cause
  else s

/-- ACK (R182): messages up to a sequence number need not be kept. -/
def ack (seq : W32) (s : State) : State :=
  if !s.hears then s
  else
    let s := s.rx
    { s with tw := { s.tw with sent := s.tw.sent.filter (fun x => decide (2 ^ 31 ≤ (seq - x.1).toNat)) } }

/-- The messages from a sequence number on. -/
def State.sentFrom (s : State) (seq : W32) : List (W32 × LinkMsg) := s.tw.sent.filter (fun x => decide ((x.1 - seq).toNat < 2 ^ 31))

/-- ACK_TIMER (R182): the receiver acknowledges what it has received in order. -/
def ackTimer (s : State) : State := if s.hears then s.linkSend (.ack (s.tw.rxSeq - 1)) else s

/-- A HANDOVER_ACK that is resent arrives one link delay from now: in time only before T(H-1) (R207). -/
def State.handLate (s : State) (l : List (W32 × LinkMsg)) : State :=
  match s.tw.handH with
  | some h =>
    if l.any (fun x => x.2 == .handoverAck h) && !stampLt (s.now + s.tw.linkDly.setWidth 64) (s.tickAt (h - 1)) then
      { s with tw := { s.tw with handAck := false } }
    else s
  | none => s

/-- NAK (R182): the sender resends from the named message; a message no longer held, or a third NAK of one message, loses the link. -/
def nak (seq : W32) (s : State) : State :=
  if !s.hears then s
  else
    let s := s.rx
    let n := if s.tw.nakSeq == seq && s.tw.nakCount != 0 then s.tw.nakCount + 1 else 1
    let s := { s with tw := { s.tw with nakSeq := seq, nakCount := n } }
    if 3 ≤ n || !s.tw.sent.any (fun x => x.1 == seq) then s.linkLost 1
    else { s.handLate (s.sentFrom seq) with tw := { (s.handLate (s.sentFrom seq)).tw with txPos := seq } }

/-- LINK_MESSAGE_ERROR (R182, R186): a NAK names the expected message; an unknown type loses the link. -/
def linkMessageError (unknown : Bool) (s : State) : State :=
  if !s.hears then s
  else if unknown then s.linkLost 1
  else s.linkSend (.nak s.tw.rxSeq)

/-- LINK_SILENCE (R182): no message for 100 us. -/
def linkSilence (s : State) : State := if s.hears then (s.advanceTo (s.tw.lastRx + 100000)).linkLost 2 else s

/-- Lanes that have not failed, in ascending order. -/
def State.healthyLanes (s : State) : List Nat := (List.range 9).filter (fun i => !bitAt s.tw.failed i)

/-- A mask of lanes. -/
def laneMask (l : List Nat) : BitVec 9 := l.foldl (fun m i => m ||| (1 <<< i)) 0

/-- LINK_LANE_FAIL (R184): the lane is marked failed and LANE_MAP is sent. -/
def linkLaneFail (lane : Fin 9) (s : State) : State :=
  if !s.twin || bitAt s.tw.failed lane.val then s
  else
    let m := s.tw.failed ||| (1 <<< lane.val)
    let s := ({ s with tw := { s.tw with failed := m } }.linkSend (.laneMap m))
    let s := { s with tw := { s.tw with mapSent := true } }
    if s.healthyLanes.length < 4 then s.linkLost 3 else s

/-- LANE_MAP received (R184): the two ends' failed lanes are joined, and this end answers with its own map. -/
def laneMap (failed : BitVec 9) (s : State) : State :=
  if !s.hears then s
  else
    let s := s.rx
    let m := s.tw.failed ||| failed
    let s := if s.tw.mapSent then s else s.linkSend (.laneMap m)
    let s := { s with tw := { s.tw with failed := m, mapRcvd := true, mapSent := true } }
    if s.healthyLanes.length < 4 then s.linkLost 3 else s

/-- Journals LANE_SWAP (R184, R209). -/
def State.laneLog (s : State) (lane rep : Nat) : State :=
  (s.flag R.TW_STATUS 6).jlog s.now 95 0 0x0506 [(0, 1, lane), (1, 1, rep), (2, 1, if s.tw.x4 then 4 else 8)]

/-- One failed lane in use is replaced, by the spare or by the move to the four lowest healthy lanes (R184). -/
def State.laneSwap (s : State) (lane : Nat) : State :=
  if !bitAt s.tw.inUse lane then s
  else
    let spare := (s.healthyLanes.find? (fun i => !bitAt s.tw.inUse i))
    let use := match (if s.tw.x4 then none else spare) with
      | some j => (laneMask [j] ||| s.tw.inUse) &&& ~~~(laneMask [lane])
      | none => laneMask (s.healthyLanes.take 4)
    let rep := match (if s.tw.x4 then none else spare) with
      | some j => j
      | none => 0xff
    { s with tw := { s.tw with inUse := use, x4 := s.tw.x4 || rep == 0xff } }.laneLog lane rep

/-- The first tick after the exchange of LANE_MAP (R184). -/
def State.laneTick (s : State) : State :=
  if s.tw.mapSent && s.tw.mapRcvd then
    let s := (List.range 9).foldl (fun s i => if bitAt s.tw.failed i then s.laneSwap i else s) s
    { s with tw := { s.tw with mapSent := false, mapRcvd := false } }
  else s

/-- The lanes in use after a retrain that found the lanes l, ascending: the eight in use and the spare as they were where all eight are found; else the lowest eight, or the lowest four (R184). -/
def State.retrainUse (s : State) (l : List Nat) : List Nat :=
  let now := (List.range 9).filter (fun i => bitAt s.tw.inUse i)
  if now.length = 8 && now.all (fun i => l.contains i) then now else l.take (if l.length < 8 then 4 else 8)

/-- LINK_RETRAIN (R184): a lost link looks for healthy lanes; with four or more it can come up on them, those not found have failed and stay so, and each of them that was in use is journaled with the lane that replaces it. With fewer nothing changes (DESIGN CHOICE, log entry 76: the spec does not say that a lane which a retrain misses has failed). -/
def linkRetrain (healthy : BitVec 9) (s : State) : State :=
  if !s.twin || s.tw.linkUp then s
  else
    let l := s.healthyLanes.filter (fun i => bitAt healthy i)
    if l.length < 4 then s
    else
      let use := s.retrainUse l
      let gone := (List.range 9).filter (fun i => bitAt s.tw.inUse i && !l.contains i)
      let come := use.filter (fun i => !bitAt s.tw.inUse i)
      let fell := !s.tw.x4 && decide (l.length < 8)
      let s := { s with tw := { s.tw with inUse := laneMask use, x4 := decide (l.length < 8), failed := ~~~(laneMask l) } }
      (gone.zip (List.range 9)).foldl (fun s p => s.laneLog p.1 (if fell then 0xff else listAt come p.2 0xff)) s

/-- What this device's Keeper sends at a bring-up: its key, its share for one draw and its signature over the share (R329). -/
def State.ownHello (s : State) (draw : Nat) : KeeperHello where
  key := s.slotRead s.boot.slotB 64 96
  share := Config.ecdhShare draw
  sig := Config.ecdsaSign (toBytes (Config.sha384 (Config.ecdhShare draw)) 48) (draw + 1)

/-- The partner's share verifies: its key has the hash of the image's KEYS section, and signs the share (R329, R483). -/
def State.helloValid (s : State) (h : KeeperHello) : Bool :=
  Config.sha384 h.key == s.boot.partnerKey && Config.ecdsaValid h.key (toBytes (Config.sha384 h.share) 48) h.sig

/-- LINK_UP (R185, R329): the delay is half the round trip; each Keeper sends its signed share, and the partner's must verify before the two agree a key by ECDH. A failed check keeps the link lost; so does a Keeper that stands in fault, which generates no share (R325; DEDUCED, log entry 45). -/
def linkUp (roundTrip : W32) (hello : KeeperHello) (s : State) : State :=
  if !s.twin || s.tw.linkUp || s.healthyLanes.length < 4 then s
  else if s.keeper.faulted then s.linkState false 3
  else
    let draw := s.freeCtr
    let s := ((s.free 384).2.free 384).2
    let s := { s with keeper := { s.keeper with hello := some (s.ownHello draw) } }
    if !s.helloValid hello then s.linkState false 3
    else ({ s with
      tw := { s.tw with
        linkUp := true, linkDly := BitVec.ofNat 24 (roundTrip.toNat / 2), lastRx := s.now, nakCount := 0, txFree := s.now, copyFree := s.now }
      keeper := { s.keeper with linkKey := some (Config.ecdhKey draw hello.share) } }).linkState true 0

/-- JOURNAL received (R55, R194): records are written unchanged to the partner ring. -/
def State.pjrnWrite (s : State) (r : JRec) : State :=
  let size := 2 ^ s.fld R.TW_PJRN_SIZE 0 5
  let i := s.tw.pjWptr
  let full := decide (size ≤ (i - s.rd R.TW_PJRN_RPTR).toNat)
  let s := s.naWriteIn ((s.rd64 R.TW_PJRN_BASE_LO R.TW_PJRN_BASE_HI).toNat + (i.toNat % size) * 32) 32 (recWord r)
  let s := if full then s.bump R.TW_PJRN_LOST else s
  { s with tw := { s.tw with pjWptr := i + 1 } }

/-- JOURNAL (R55). -/
def journalMsg (recs : List JRec) (s : State) : State :=
  if s.hears then (recs.take 16).foldl (fun s r => s.pjrnWrite r) s.rx else s

/-! ### Heartbeats (R186, R190 to R192, R199 to R202) -/

/-- HEARTBEAT_SEND (R186). -/
def heartbeatSend (s : State) : State :=
  if s.twin && s.bcn.ticked && s.tw.role != .listen then (s.advanceTo (s.bcn.tickStamp + 1000)).sendHeartbeat else s

/-- Fixes T(N) of a frame for FRAME.T, once (R192). -/
def State.fixT (s : State) (f t : W64) : State :=
  if s.tw.fixedT.any (fun p => p.1 == f.toNat) then s
  else { s with tw := { s.tw with fixedT := assocSet s.tw.fixedT f.toNat t } }

/-- HEARTBEAT_WAIT_EXPIRE (R192): without the holder's heartbeat, T(N) is the device's own plus TW_PAIR_OFF. -/
def heartbeatWaitExpire (s : State) : State :=
  if !s.nonHolder || !s.bcn.ticked || s.tw.fixedT.any (fun p => p.1 == s.bcn.frame.toNat) then s
  else
    let s := s.advanceTo s.mirDeadline
    (s.fixT s.bcn.frame (s.bcn.tickStamp + s.tw.pairOff)).localInput s.bcn.frame

/-- Journals DUAL_TOKEN (R201, R209). -/
def State.dualLog (s : State) (g : W32) (side lost : Bool) (path : Nat) : State :=
  (s.flag R.TW_STATUS 9).jlog s.now 95 0 0x0505 [(0, 4, g.toNat), (4, 1, b2n side), (5, 1, b2n lost), (6, 1, path)]

/-- A non-holder steers its beacon from a holder's heartbeat and fixes T(N) (R191, R192). -/
def State.hbSteer (s : State) (h : Heartbeat) : State :=
  let own := s.tickOf h.frame
  let e : Int := s.since own - s.tw.linkDly.toNat - 1000
  let s := { s with tw := { s.tw with g := h.gen, pairOff := h.tick - own } }
  let limit := own + BitVec.ofNat 64 (s.fld R.TW_MIR_WAIT 0 24)
  let s := if s.bcn.frame.toNat ≤ h.frame.toNat && stampLt s.now limit then s.fixT h.frame h.tick else s
  s.edgeSteer (own + BitVec.ofInt 64 e) e

/-- A holder heartbeat heard in LISTEN (R190). -/
def State.hbListen (s : State) (h : Heartbeat) : State :=
  let t := s.now - BitVec.ofNat 64 s.tw.linkDly.toNat - 1000
  let s := s.tripPut 1 (t - h.frame * BitVec.ofNat 64 s.period).toNat
  let s := { s with tw := { s.tw with g := h.gen, listenFrom := none, pairOff := h.tick - t } }
  (s.firstTick (h.frame + 2)).setRole .joining 1

/-- A non-holder whose configuration digest differs from the holder's becomes ISOLATED (R202). -/
def State.hbConfig (s : State) (h : Heartbeat) : State :=
  if h.digest != s.cfgDigest.extractLsb' 0 64 then s.setRole .isolated 15 else s

/-- The token lost to another holder is a divergence (R201, R202). -/
def State.dualLost (s : State) : State := (s.setRole .diverged 9).divAdd

/-- What a device of a pair does with a partner's heartbeat (R191, R200 to R202). -/
def State.hbTaken (s : State) (h : Heartbeat) : State :=
  let s := { s with tw := { s.tw with
    partnerRole := roleOf h.role.val, partnerVer := h.verified, partnerB := h.side, partnerWarn := h.supplyWarn
    heardLink := s.tw.heardLink || s.holder || h.token } }
  if s.tw.role == .listen then
    if h.token && s.tw.listenFrom.isSome && s.period != 0 then (s.hbListen h).hbConfig h else s
  else if s.holder then
    if h.token then
      let lost := decide (s.tw.g.toNat < h.gen.toNat) || (h.gen == s.tw.g && !h.side && s.tw.sideB)
      let s := s.dualLog h.gen h.side lost 0
      if lost then s.dualLost else s
    else if s.tw.role == .alone && h.role == 3 && h.verified then s.setRole .active 2
    else if s.tw.role == .active && h.role != 3 then s.setRole .alone 3
    else s
  else if h.token then (s.hbSteer h).hbConfig h
  else s

/-- HEARTBEAT (R191, R531): one that announces the device's own side is discarded. -/
def heartbeatMsg (h : Heartbeat) (s : State) : State :=
  if !s.hears then s
  else if h.side == s.tw.sideB then s.rx
  else s.rx.hbTaken h

/-- The start of a side's TWIN_HB slot after a tick, in ns (R199). -/
def hbSlot (sideB : Bool) : Nat := if sideB then 15000 else 5000

/-- TWIN_HB_DRIVE (R199). -/
def twinHbDrive (s : State) : State :=
  if s.twin && s.holder && s.bcn.ticked && !s.tw.hbDone then
    let s := s.advanceTo (s.bcn.tickStamp + BitVec.ofNat 64 (hbSlot s.tw.sideB))
    { s with tw := { s.tw with hbLow := true, hbDone := true } }
  else s

/-- TWIN_HB_RELEASE (R199). -/
def twinHbRelease (s : State) : State :=
  if s.tw.hbLow then
    let s := s.advanceTo (s.bcn.tickStamp + BitVec.ofNat 64 (hbSlot s.tw.sideB + 2000))
    { s with tw := { s.tw with hbLow := false } }
  else s

/-- A falling edge lies in a side's slot of the running frame (R199). -/
def State.inSlot (s : State) (fall : Stamp) (sideB : Bool) : Bool :=
  s.bcn.ticked && decide ((stampDiff fall (s.bcn.tickStamp + BitVec.ofNat 64 (hbSlot sideB))).natAbs ≤ 3000)

/-- TWIN_HB_PULSE (R199, R201): a low of width ns ends now. A pulse in the device's own slot is its own, and a pulse tells no G. -/
def twinHbPulse (width : W32) (s : State) : State :=
  let fall := s.now - width.setWidth 64
  if !s.twin || width.toNat < 1000 then s
  else if 4000 < width.toNat then s.flag R.TW_STATUS 8
  else if s.inSlot fall s.tw.sideB then s
  else
    let s := { s with tw := { s.tw with heardLine := true, listenPulse := s.tw.listenPulse || s.tw.listenFrom.isSome } }
    if s.tw.role == .listen || !s.holder then s
    else if s.inSlot fall (!s.tw.sideB) then
      let g := s.free 32
      let s := g.2.dualLog g.1 (!s.tw.sideB) s.tw.sideB 1
      if s.tw.sideB then s.dualLost else s
    else s

/-- LISTEN_WINDOW_END (R190, R489). -/
def listenWindowEnd (s : State) : State :=
  match s.tw.listenFrom with
  | none => s
  | some t =>
    if s.tw.role != .listen || s.tw.listenPulse then s
    else
      let n := if s.tw.sideB then 2 * s.twinK + 2 else s.twinK + 1
      let s := s.advanceTo (t + BitVec.ofNat 64 (n * s.period))
      let s := { s with tw := { s.tw with listenFrom := none, g := 1 } }
      s.startBeacon.setRole .alone 0

/-- OUTPUT_ENABLE (R189). -/
def outputEnable (s : State) : State :=
  match s.tw.outputsAt with
  | some t =>
    let s := s.advanceTo t
    { s with tw := { s.tw with outputs := s.holder, outputsAt := none } }
  | none => s

/-! ### Comparison (R196, R197) -/

/-- DIGEST received (R196). -/
def digestMsg (frame : W64) (dig od : V128) (flags : Byte) (s : State) : State :=
  if s.hears then
    let s := s.rx
    { s with tw := { s.tw with peer := s.tw.peer.filter (fun p => !(p.frame == frame)) ++ [{ frame := frame, dig := dig, od := od, flags := flags }] } }
  else s

/-- DIGEST_SEND_DEADLINE (R196): at T(N+2) - guard the digest of frame N is sent as it stands. -/
def digestSendDeadline (s : State) : State :=
  if !s.twin || s.tw.role == .isolated || !s.bcn.ticked || s.bcn.frame == s.bcn.first then s
  else
    let s := s.advanceTo s.guardStart
    let o := s.ownOf (s.bcn.frame - 1)
    if o.sent then s else s.digestSend o

/-- The device compares frame f at its tick (R196, R203, R204 step 9). -/
def State.compares (s : State) (f : W64) : Bool :=
  s.twin && (match s.tw.role with
    | .alone => true
    | .active => true
    | .standby => true
    | .joining => s.tw.join.go && (match s.tw.join.at_ with
        | some j => decide (j.toNat ≤ f.toNat)
        | none => false)
    | _ => false)

/-- A join fails at a step of R204: it starts again (R202). -/
def State.joinFailed (s : State) (step abort : Nat) : State :=
  let s := ((s.flag R.TW_STATUS 12).joinStep step abort (s.tw.join.at_.getD 0)).divAdd
  if s.tw.role == .joining then s.setRole .joining 11 else s

/-- The last frame compared and its own OD (R210). -/
def State.cmpDone (s : State) (f : W64) (od : V128) : State := { s with tw := { s.tw with cmpFrame := f, cmpOd := od } }

/-- The comparison of frame f at tick f + 2 (R196). -/
def State.compareFrame (s : State) (f : W64) : State :=
  let o := s.ownOf f
  let od := s.outcomeDigest o
  match s.tw.peer.find? (fun p => p.frame == f) with
  | none =>
    let s := ((s.flag R.TW_STATUS 4).bump R.TW_CNT_SKIP).jlog s.now 95 0 0x0503 [(0, 4, (lo32 f).toNat)]
    if s.holder then s else { s with tw := { s.tw with resyncDue := true } }
  | some p =>
    let late := o.late || o.dig.isNone || bitAt p.flags 1
    let cmp := !late && !o.noncmp && !bitAt p.flags 0
    let unavailable := !s.odFinal o || bitAt p.flags 2
    if unavailable || od != p.od then
      let s := (s.cmpDone f od).resyncLog f (b2n unavailable) od
      match s.tw.role with
      | .standby => s.setRole .joining 6
      | .joining => (s.linkSend (.joinAbort 2)).joinFailed 9 0
      | _ => s
    else if cmp && o.dig != some p.dig then
      let s := (((s.cmpDone f od).flag R.TW_STATUS 2).bump R.TW_CNT_DIV).jlog s.now 95 0 0x0501
        [(0, 4, (lo32 f).toNat), (4, 4, bitsAt (o.dig.getD 0) 0 32), (8, 4, bitsAt p.dig 0 32)]
      match s.tw.role with
      | .standby => (s.setRole .diverged 5).divAdd
      | .joining => (s.linkSend (.joinAbort 2)).joinFailed 9 0
      | _ => s
    else
      let s := s.cmpDone f od
      let s := if cmp then s.bump R.TW_CNT_CMP else s
      match s.tw.role with
      | .joining => (({ s with tw := { s.tw with join := { s.tw.join with step := 5 } } }).joinStep 9 0 (s.tw.join.at_.getD 0)).setRole .standby 10
      | .standby => { s with tw := { s.tw with verified := true } }
      | _ => s

/-- Comparison at tick n of frame n - 2, and the results no longer needed (R196). -/
def State.compareTick (s : State) (n : W64) : State :=
  let s := if s.bcn.first.toNat + 2 ≤ n.toNat && s.compares (n - 2) then s.compareFrame (n - 2) else s
  { s with tw := { s.tw with
    own := s.tw.own.filter (fun o => decide (n.toNat ≤ o.frame.toNat + 2))
    peer := s.tw.peer.filter (fun p => decide (n.toNat ≤ p.frame.toNat + 2))
    fixedT := s.tw.fixedT.filter (fun p => decide (n.toNat ≤ p.1 + 3) || s.tasks.any (fun t => (s.rt t).run.any (fun r => r.2.toNat == p.1))) } }

/-! ### Supply, handover and commands of software (R202, R207, R208, R210) -/

/-- SUPPLY received (R208). -/
def supplyMsg (warn : Bool) (s : State) : State :=
  if s.hears then
    let s := s.rx
    let s := { s with tw := { s.tw with partnerWarn := warn } }
    (if warn then s.flag R.TW_STATUS 10 else s).jlog s.now 95 0 0x0509 [(0, 1, b2n warn)]
  else s

/-- HANDOVER_REQUEST (R207): the holder starts a handover, or fails where the partner may not take the token. -/
def handoverRequest (s : State) : State :=
  if !s.twin || !s.holder || s.tw.handH.isSome then s
  else
    let h := s.bcn.frame + 2
    if s.tw.role == .active && s.tw.partnerRole == .standby && s.tw.partnerVer && !s.tw.partnerWarn then
      (({ s with tw := { s.tw with handH := some h, handAck := false } }).linkSend (.handover h)).handLog 0 h
    else (s.flag R.TW_STATUS 13).handLog 2 h

/-- HANDOVER received (R207): a STANDBY answers HANDOVER_ACK, which arrives one link delay later: in time only before T(H-1). -/
def handoverMsg (h : W64) (s : State) : State :=
  if !s.hears then s
  else
    let s := s.rx
    if s.tw.role == .standby then
      { s with tw := { s.tw with handH := some h, handAck := stampLt (s.now + s.tw.linkDly.setWidth 64) (s.tickAt (h - 1)) } }.linkSend (.handoverAck h)
    else s

/-- The non-holder's HANDOVER_ACK has been acknowledged by the holder in order: none waits or is kept for resending (R182). -/
def State.handHeard (s : State) (h : W64) : Bool :=
  s.tw.handAck && s.tw.linkUp && !s.tw.txq.contains (.handoverAck h) && !s.tw.sent.any (fun x => x.2 == .handoverAck h)

/-- HANDOVER_ACK received (R207): in time only before T(H-1). -/
def handoverAck (h : W64) (s : State) : State :=
  if !s.hears then s
  else
    let s := s.rx
    if s.holder && s.tw.handH == some h && stampLt s.now (s.tickAt (h - 1)) then
      { s with tw := { s.tw with handAck := true } }
    else s

/-- The handover at tick n (R207): setRole ends one whose device has left its role, so a holder here is ACTIVE and a non-holder STANDBY. Both devices keep their roles where HANDOVER_ACK was not in time. -/
def State.handTick (s : State) (n : W64) : State :=
  match s.tw.handH with
  | none => s
  | some h =>
    if s.holder then
      if n + 1 == h && !s.tw.handAck then
        ({ s with tw := { s.tw with handH := none } }.flag R.TW_STATUS 13).handLog 2 h
      else if n == h then
        (({ s with tw := { s.tw with handH := none } }).outputsOff.handLog 1 h).setRole .standby 8
      else s
    else if n == h then
      let took := s.handHeard h
      let s := { s with tw := { s.tw with handH := none } }
      if took then
        ({ s with tw := { s.tw with g := s.tw.g + 1 } }.outputsSoon s.bcn.tickStamp).setRole .active 8
      else s
    else s

/-- REJOIN (R202, R210). -/
def rejoin (s : State) : State := if s.tw.role == .diverged then s.setRole .joining 12 else s

/-- ISOLATE (R202, R210). -/
def isolate (s : State) : State := if s.tw.role == .diverged then s.setRole .isolated 13 else s

/-! ### Joining (R204 to R206) -/

/-- JOIN_REQ received by the holder (R204 steps 1 and 2): cause 0 says that the digests differ, 1 that another join is in progress. -/
def joinReq (dig : BitVec 384) (s : State) : State :=
  if !s.hears then s
  else if !s.holder then s.rx
  else
    let s := s.rx
    if dig != s.cfgDigest then s.linkSend (.joinRefuse 0)
    else if s.tw.host.active then s.linkSend (.joinRefuse 1)
    else
      let b := s.bcn.frame + 2
      (({ s with tw := { s.tw with host := { active := true, base := b } } }).linkSend (.joinAccept b)).joinStep 2 0 b

/-- The device is joining and has heard JOIN_ACCEPT. -/
def State.accepted (s : State) : Bool := s.hears && s.tw.role == .joining && decide (2 ≤ s.tw.join.step.val)

/-- A message of a join reaches the device: it counts as received (R182), and a joiner that has heard JOIN_ACCEPT takes it. -/
def State.joinTake (s : State) (f : State → State) : State :=
  if !s.hears then s else if s.accepted then f s.rx else s.rx

/-- Changes the joiner's record. -/
def State.joinSet (s : State) (f : JoinState → JoinState) : State := { s with tw := { s.tw with join := f s.tw.join } }

/-- JOIN_ACCEPT (R204). -/
def joinAccept (b : W64) (s : State) : State :=
  if !s.hears then s
  else if s.tw.role == .joining then
    (s.rx.joinSet (fun j => { j with step := 2, base := b, askAt := none })).joinStep 2 0 b
  else s.rx

/-- JOIN_REFUSE (R204 step 1). -/
def joinRefuse (cause : Byte) (s : State) : State :=
  if !s.hears then s
  else if s.tw.role == .joining then
    if cause == 0 then s.rx.setRole .isolated 15
    else s.rx.joinSet (fun j => { j with askAt := some (s.bcn.frame + 64) })
  else s.rx

/-- The data of a window line as it crosses the link: a line of a Sealed region under the link key (R329). -/
def State.linkCipher (s : State) (f : BitVec 512 → Nat → Line → Line) (line : Nat) (d : Line) : Line :=
  match s.keeper.linkKey with
  | some k => if s.lineSealed line then f k line d else d
  | none => d

/-- A line received by COPY or REPLAY for tick t is the committed version, unless a later one is held (R205). -/
def State.joinLine (s : State) (t : W64) (line : Nat) (d : Line) : State :=
  if decide ((assocD s.tw.join.ticks line 0).toNat ≤ t.toNat) then
    (s.stCommitDirect line (s.linkCipher xtsOpen line d) (lo32 (t - 1))).joinSet (fun j => { j with ticks := assocSet j.ticks line t })
  else s

/-- A line of the regions that a join copies: 1 to 15. -/
def State.joinRegion (s : State) (line : Nat) : Bool :=
  match s.regionOf line with
  | some r => r != 0
  | none => false

/-- The lines of a COPY or REPLAY message, applied. -/
def State.joinLines (s : State) (l : List CopyLine) : State :=
  l.foldl (fun s x => if s.joinRegion (x.addr.toNat / 64) then s.joinLine x.tick (x.addr.toNat / 64) x.data else s) s

/-- COPY (R205). -/
def copyMsg (lines : List CopyLine) (s : State) : State :=
  s.joinTake (fun s => (s.joinLines lines).joinSet (fun j => { j with lines := j.lines + lines.length }))

/-- COPY_END (R204 step 5). -/
def copyEnd (c : W64) (s : State) : State :=
  s.joinTake (fun s => (s.joinSet (fun j => { j with step := 3, endTick := c })).joinStep 5 0 c)

/-- The tasks of frame J are dispatched once JOIN_GO, UNIT_STATE and REPLAY_END for J have all arrived (R204 step 8). -/
def State.joinReady (s : State) : State :=
  let j := s.tw.join
  if s.runsTasks s.bcn.frame && j.step != 4 then
    ((s.joinSet (fun j => { j with step := 4 })).joinStep 8 0 (j.at_.getD 0)).markDue s.bcn.frame
  else s

/-- REPLAY (R205). -/
def replayMsg (m : W64) (lines : List CopyLine) (s : State) : State :=
  s.joinTake (fun s => s.joinLines (lines.map (fun x => { x with tick := m })))

/-- REPLAY_END (R204). -/
def replayEnd (m : W64) (s : State) : State :=
  s.joinTake (fun s => (s.joinSet (fun j => { j with replayEnd := j.replayEnd || j.at_ == some m })).joinReady)

/-- JOIN_AT (R204 step 6). -/
def joinAt (j : W64) (s : State) : State :=
  s.joinTake (fun s => (s.joinSet (fun x => { x with step := 3, at_ := some j, go := false, replayEnd := false })).joinStep 6 0 j)

/-- JOIN_GO (R204 step 7). -/
def joinGo (j : W64) (s : State) : State :=
  s.joinTake (fun s => (s.joinSet (fun x => { x with at_ := some j, go := true })).joinReady)

/-- JOIN_ABORT (R202, R204). -/
def joinAbort (cause : Byte) (s : State) : State :=
  if !s.hears then s
  else
    let s := s.rx
    if s.holder then { s with tw := { s.tw with host := {} } }
    else if s.tw.role == .joining then s.joinFailed 7 cause.toNat
    else s

/-- The holder's UNIT_STATE (R206). -/
def State.unitState (s : State) : UnitState where
  ruleResults := s.sector.results
  ruleLatches := s.sector.latches
  timerCounts := s.sector.timerSt
  channels := s.sector.chanSt
  queue := s.sector.queue
  holds := s.sector.holds
  slots := s.hive.slots
  openSets := s.hive.openSets
  live := s.liveValues

/-- The kW of the holds of a pool that count at this release (R175). -/
def State.poolPend (s : State) (p : Nat) : Nat :=
  s.sector.holds.foldl (fun acc h => if h.pool.val = p then acc + h.kw else acc) 0

/-- The POOL_PEND registers follow the holds (R175, R206). -/
def State.pendRegs (s : State) : State :=
  foldRange (fun p s => s.wr (R.POOL_PEND p) (BitVec.ofNat 32 (s.poolPend p % 2 ^ 24))) 0 4 s

/-- The holder's unit state takes the place of the joiner's own (R206). -/
def State.unitApply (s : State) (u : UnitState) : State :=
  let old := s.exclWord
  let s := { s with
    sector := { s.sector with
      results := u.ruleResults, latches := u.ruleLatches, timerSt := u.timerCounts
      chanSt := u.channels, queue := u.queue, holds := u.holds }
    hive := { s.hive with slots := u.slots, openSets := u.openSets } }
  let s := s.pendRegs
  let s := (u.live.foldl (fun s e => s.swEntry e) s).exclFollow old
  (s.joinSet (fun j => { j with unitSeen := true })).joinReady

/-- UNIT_STATE received (R206). -/
def unitStateMsg (u : UnitState) (s : State) : State := s.joinTake (fun s => s.unitApply u)

/-- Lines in REPLAY messages of up to 64. -/
def replayMsgs (m : W64) (l : List CopyLine) : Nat → List LinkMsg
  | 0 => []
  | n + 1 => if l.isEmpty then [] else LinkMsg.replay m (l.take 64) :: replayMsgs m (l.drop 64) n

/-- A line with its committed version at tick t. -/
def State.copyLine (s : State) (t : W64) (line : Nat) : CopyLine :=
  { addr := BitVec.ofNat 46 (line * 64), tick := t, data := s.linkCipher xtsSeal line (s.sline line).cdata }

/-- The enabled regions 1 to 15 in ascending window address: first line and number of lines. -/
def State.joinRegions (s : State) : List (Nat × Nat) :=
  sortBy (fun a b => decide (a.1 < b.1)) ((((List.range 16).filter (fun r => r != 0 && s.regEn r))).map s.regLines)

/-- The lines from place i on, n of them, over regions in order. -/
def linesFrom : List (Nat × Nat) → Nat → Nat → List Nat
  | [], _, _ => []
  | (a, k) :: r, i, n =>
    if k ≤ i then linesFrom r (i - k) n
    else
      let m := min n (k - i)
      rangeFrom (a + i) m ++ linesFrom r 0 (n - m)

/-- All the lines that a join copies. -/
def State.joinTotal (s : State) : Nat := s.joinRegions.foldl (fun n r => n + r.2) 0

/-- Changes the record of the join that the holder serves. -/
def State.hostSet (s : State) (f : HostJoin → HostJoin) : State := { s with tw := { s.tw with host := f s.tw.host } }

/-- The decision at tick J (R204 step 7): the answer says whether the join proceeds. -/
def State.hostDecide (s : State) (n : W64) : State :=
  let h := s.tw.host
  if h.at_ != some n then s
  else if s.tasks.any (fun t => (s.rt t).carried && (s.rt t).run.isSome) then
    if 64 ≤ h.tries then ((s.hostSet (fun _ => {})).linkSend (.joinAbort 1)).joinStep 7 1 n
    else ((s.hostSet (fun h => { h with at_ := some (n + 2), tries := h.tries + 1 })).linkSend (.joinAt (n + 2))).joinStep 6 0 (n + 2)
  else ((s.linkSend (.joinGo n)).linkSend (.unitState s.unitState)).joinStep 7 0 n

/-- What a holder that serves a join does at tick n, after the flip and the release. changed: the lines of regions 1 to 15 whose committed version changed at the tick (R204). -/
def State.hostTick (s : State) (n : W64) (changed : List Nat) : State :=
  let h := s.tw.host
  if !h.active then s
  else if !s.holder then s.hostSet (fun _ => {})
  else if n.toNat < h.base.toNat then s
  else
    let s := if (match h.endTick with
        | some c => c + 1 == n
        | none => false) && h.at_.isNone then
        ((s.hostSet (fun h => { h with at_ := some (n + 1) })).linkSend (.joinAt (n + 1))).joinStep 6 0 (n + 1)
      else s
    let s := s.hostDecide n
    if !s.tw.host.active then s
    else
      let l := changed.map (s.copyLine n)
      let s := (replayMsgs n l (l.length / 64 + 1)).foldl (fun s m => s.linkSend m) s
      let s := s.linkSend (.replayEnd n l.length)
      if s.tw.host.at_ == some n then s.hostSet (fun _ => {}) else s

/-! ### The lanes (R181 to R184, R205) -/

/-- The time of so many bytes on the lanes in ns, rounded up: 31.03 GB/s on eight lanes, 15.52 GB/s on four (R181, R184). -/
def State.laneTime (s : State) (bytes : Nat) : Nat :=
  let r := if s.tw.x4 then 1552 else 3103
  (bytes * 100 + r - 1) / r

/-- The later of two stamps. -/
def stampLater (a b : Stamp) : Stamp := if stampLt a b then b else a

/-- A message takes the lanes; class 3 waits besides for its share under TW_COPY_BW, in units of 100 MB/s, rounded up so that the share is never exceeded (R183). -/
def State.onLanes (s : State) (m : LinkMsg) : State :=
  let start := if m.cls = 3 then stampLater s.tw.txFree s.tw.copyFree else s.tw.txFree
  let bw := max 1 (s.fld R.TW_COPY_BW 0 16)
  { s with tw := { s.tw with
    txFree := start + BitVec.ofNat 64 (s.laneTime (msgBytes m))
    copyFree := if m.cls = 3 then start + BitVec.ofNat 64 ((msgBytes m * 10 + bw - 1) / bw) else s.tw.copyFree } }

/-- A message leaves for the first time: it takes the next sequence number and is kept for resending (R182). -/
def State.leave (s : State) (m : LinkMsg) : State :=
  let s := s.onLanes m
  { s with tw := { s.tw with
    sent := (keepSent 262144 ((s.tw.txSeq, m) :: s.tw.sent.reverse)).reverse
    txSeq := s.tw.txSeq + 1, txPos := s.tw.txSeq + 1 } }

/-- A record still waiting for the lanes. -/
def LinkMsg.isJournal : LinkMsg → Bool
  | .journal _ => true
  | _ => false

/-- A message takes its place behind those being resent, or else leaves (R182). -/
def State.leaveNext (s : State) (m : LinkMsg) : State :=
  if s.tw.txPos = s.tw.txSeq then s.leave m
  else { s with tw := { s.tw with
    sent := (keepSent 262144 ((s.tw.txSeq, m) :: s.tw.sent.reverse)).reverse, txSeq := s.tw.txSeq + 1 } }

/-- Every journal record held for the link leaves before any other message (R55). -/
def State.flushLink (s : State) : State :=
  let l := s.tw.txq.filter LinkMsg.isJournal
  l.foldl State.leaveNext { s with tw := { s.tw with txq := s.tw.txq.filter (fun m => !m.isJournal) } }

/-- A waiting message may leave now: class 3 within its share of the link, and REPLAY_END after the REPLAY lines of its tick (R183, R204 step 3). -/
def State.mayLeave (s : State) : LinkMsg → Bool
  | .replayEnd t _ => !s.tw.txq.any (fun x => match x with
      | .replay u _ => u == t
      | _ => false)
  | m => m.cls < 3 || stampLe s.tw.copyFree s.now

/-- The place of the waiting message that leaves next: the oldest of the lowest class (R183). -/
def State.nextMsg (s : State) : Option Nat :=
  (List.range 4).findSome? (fun c => s.tw.txq.findIdx? (fun m => m.cls == c && s.mayLeave m))

/-- From base tick B the holder reads the next lines of the regions and sends them in COPY, each with the version committed at the tick in force, and COPY_END after the last (R204 steps 4 and 5). -/
def State.copyOne (s : State) : Option State :=
  let h := s.tw.host
  if h.active && s.holder && h.endTick.isNone && s.bcn.ticked && decide (h.base.toNat ≤ s.bcn.frame.toNat) &&
      stampLe s.tw.copyFree s.now && s.tw.txq.all (fun m => m.cls < 3) then
    let n := s.bcn.frame
    let lines := linesFrom s.joinRegions h.copied 64
    let s := lines.foldl (fun s l => s.settle l) s
    let s := if lines.isEmpty then s else s.leave (.copy (lines.map (s.copyLine n)))
    let s := s.hostSet (fun h => { h with copied := h.copied + lines.length })
    some (if s.joinTotal ≤ s.tw.host.copied then
      ((s.hostSet (fun h => { h with endTick := some n })).linkSend (.copyEnd n)).joinStep 5 0 n
    else s)
  else none

/-- One message takes the lanes, where they are free: one that is resent before any other (R182), then the waiting ones. -/
def State.linkOne (s : State) : Option State :=
  if stampLt s.now s.tw.txFree then none
  else if s.tw.txPos != s.tw.txSeq then
    match s.tw.sent.find? (fun x => x.1 == s.tw.txPos) with
    | some x => some { s.onLanes x.2 with tw := { (s.onLanes x.2).tw with txPos := s.tw.txPos + 1 } }
    | none => some { s with tw := { s.tw with txPos := s.tw.txSeq } }
  else
    match s.nextMsg with
    | some i =>
      match s.tw.txq[i]? with
      | some m => some (State.leave { s with tw := { s.tw with txq := s.tw.txq.eraseIdx i } } m)
      | none => none
    | none => s.copyOne

/-- Messages take the lanes until none may leave at the present stamp. -/
def State.linkRun : Nat → State → State
  | 0, s => s
  | n + 1, s =>
    match s.linkOne with
    | some u => u.linkRun n
    | none => { s with tw := { s.tw with txFree := stampLater s.tw.txFree s.now } }

/-- The leading link carries what its time since the last call allows (R181 to R184). -/
def State.linkDrain (s : State) : State :=
  if s.tw.linkUp then s.linkRun (s.tw.txq.length + s.tw.sent.length + 4 + (s.now - s.tw.txFree).toNat / 100) else s

/-! ### The twin at a tick (R197, R200, R202, R207) -/

/-- Silence of the frame that ends at tick n, on both paths (R200); no frame ends at the first tick. -/
def State.judge (s : State) (n : W64) : State :=
  let add := if n == s.bcn.first then 0 else 1
  { s with tw := { s.tw with
    silentLink := if s.tw.heardLink then 0 else min 15 (s.tw.silentLink + add)
    silentLine := if s.tw.heardLine then 0 else min 15 (s.tw.silentLine + add)
    heardLink := false, heardLine := false, hbDone := false } }

/-- Promotion, loss of the holder and the other role changes of a tick (R197, R200, R202); again: a holder was heard after RESYNC_DUE was set. -/
def State.roleTick (s : State) (again : Bool) (was : Role) : State :=
  let k := s.twinK
  let both := decide (k ≤ s.tw.silentLink ∧ k ≤ s.tw.silentLine)
  match s.tw.role with
  | .active => if k ≤ s.tw.silentLink then s.setRole .alone 3 else s
  | .standby =>
    if both then
      (({ s with tw := { s.tw with g := s.tw.g + 1, resyncDue := false } }).outputsSoon s.bcn.tickStamp).setRole .alone 4
    else if again then
      (s.resyncLog s.bcn.frame 2 s.tw.cmpOd).setRole .joining 7
    else s
  | .joining => if both then s.setRole .isolated 3 else s
  | .diverged =>
    if both && s.flagAt R.TW_CFG 10 then
      (({ s with tw := { s.tw with g := s.tw.g + 1, resyncDue := false } }).outputsSoon s.bcn.tickStamp).setRole .alone 4
    else if !s.flagAt R.TW_CFG 5 && was == .diverged then s.setRole .joining 12
    else s
  | _ => s

/-- The twin unit at tick n, after the flip (R196, R200, R202, R207). -/
def State.twinTick (s : State) (n : W64) : State :=
  if !s.twin then s
  else
    let again := s.tw.resyncDue && s.tw.heardLink
    let was := s.tw.role
    let s := s.judge n
    let s := s.compareTick n
    let s := s.handTick n
    let s := s.roleTick again was
    let s := s.laneTick
    let s := if s.tw.role == .joining then s.joinReady else s
    match s.tw.join.askAt with
    | some f => if s.tw.role == .joining && f.toNat ≤ n.toNat then s.joinAsk else s
    | none => s

/-! ### Commands -/

/-- HEARTBEAT_SEND (R186). -/
def execHeartbeatSend (s : State) : Host.Outcome State Fault Refusal := .next (heartbeatSend s)
/-- HEARTBEAT (R191). -/
def execHeartbeat (h : Heartbeat) (s : State) : Host.Outcome State Fault Refusal := .next (heartbeatMsg h s)
/-- TWIN_HB_DRIVE (R199). -/
def execTwinHbDrive (s : State) : Host.Outcome State Fault Refusal := .next (twinHbDrive s)
/-- TWIN_HB_PULSE (R199). -/
def execTwinHbPulse (width : W32) (s : State) : Host.Outcome State Fault Refusal := .next (twinHbPulse width s)
/-- TWIN_HB_RELEASE (R199). -/
def execTwinHbRelease (s : State) : Host.Outcome State Fault Refusal := .next (twinHbRelease s)
/-- LISTEN_WINDOW_END (R190). -/
def execListenWindowEnd (s : State) : Host.Outcome State Fault Refusal := .next (listenWindowEnd s)
/-- OUTPUT_ENABLE (R189). -/
def execOutputEnable (s : State) : Host.Outcome State Fault Refusal := .next (outputEnable s)
/-- HEARTBEAT_WAIT_EXPIRE (R192). -/
def execHeartbeatWaitExpire (s : State) : Host.Outcome State Fault Refusal := .next (heartbeatWaitExpire s)
/-- DIGEST (R196). -/
def execDigest (frame : W64) (dig od : V128) (flags : Byte) (s : State) : Host.Outcome State Fault Refusal := .next (digestMsg frame dig od flags s)
/-- DIGEST_SEND_DEADLINE (R196). -/
def execDigestSendDeadline (s : State) : Host.Outcome State Fault Refusal := .next (digestSendDeadline s)
/-- SUPPLY (R208). -/
def execSupply (warn : Bool) (s : State) : Host.Outcome State Fault Refusal := .next (supplyMsg warn s)
/-- HANDOVER_REQUEST (R207). -/
def execHandoverRequest (s : State) : Host.Outcome State Fault Refusal := .next (s.blockWrite 0x1a handoverRequest)
/-- HANDOVER (R207). -/
def execHandover (h : W64) (s : State) : Host.Outcome State Fault Refusal := .next (handoverMsg h s)
/-- HANDOVER_ACK (R207). -/
def execHandoverAck (h : W64) (s : State) : Host.Outcome State Fault Refusal := .next (handoverAck h s)
/-- REJOIN (R202). -/
def execRejoin (s : State) : Host.Outcome State Fault Refusal := .next (s.blockWrite 0x1a rejoin)
/-- ISOLATE (R202). -/
def execIsolate (s : State) : Host.Outcome State Fault Refusal := .next (s.blockWrite 0x1a isolate)
/-- LINK_LANE_FAIL (R184). -/
def execLinkLaneFail (lane : Fin 9) (s : State) : Host.Outcome State Fault Refusal := .next (linkLaneFail lane s)
/-- LANE_MAP (R184). -/
def execLaneMap (failed : BitVec 9) (s : State) : Host.Outcome State Fault Refusal := .next (laneMap failed s)
/-- ACK (R182). -/
def execAck (seq : W32) (s : State) : Host.Outcome State Fault Refusal := .next (ack seq s)
/-- ACK_TIMER (R182). -/
def execAckTimer (s : State) : Host.Outcome State Fault Refusal := .next (ackTimer s)
/-- NAK (R182). -/
def execNak (seq : W32) (s : State) : Host.Outcome State Fault Refusal := .next (nak seq s)
/-- LINK_SILENCE (R182). -/
def execLinkSilence (s : State) : Host.Outcome State Fault Refusal := .next (linkSilence s)
/-- LINK_MESSAGE_ERROR (R182). -/
def execLinkMessageError (unknown : Bool) (s : State) : Host.Outcome State Fault Refusal := .next (linkMessageError unknown s)
/-- LINK_RETRAIN (R184). -/
def execLinkRetrain (healthy : BitVec 9) (s : State) : Host.Outcome State Fault Refusal := .next (linkRetrain healthy s)
/-- LINK_UP (R185). -/
def execLinkUp (roundTrip : W32) (hello : KeeperHello) (s : State) : Host.Outcome State Fault Refusal := .next (linkUp roundTrip hello s)
/-- JOURNAL (R55). -/
def execJournal (recs : List JRec) (s : State) : Host.Outcome State Fault Refusal := .next (journalMsg recs s)
/-- JOIN_REQ (R204). -/
def execJoinReq (dig : BitVec 384) (s : State) : Host.Outcome State Fault Refusal := .next (joinReq dig s)
/-- JOIN_ACCEPT (R204). -/
def execJoinAccept (b : W64) (s : State) : Host.Outcome State Fault Refusal := .next (joinAccept b s)
/-- JOIN_REFUSE (R204). -/
def execJoinRefuse (cause : Byte) (s : State) : Host.Outcome State Fault Refusal := .next (joinRefuse cause s)
/-- COPY (R205). -/
def execCopy (lines : List CopyLine) (s : State) : Host.Outcome State Fault Refusal := .next (copyMsg lines s)
/-- COPY_END (R204). -/
def execCopyEnd (c : W64) (s : State) : Host.Outcome State Fault Refusal := .next (copyEnd c s)
/-- REPLAY (R205). -/
def execReplay (m : W64) (lines : List CopyLine) (s : State) : Host.Outcome State Fault Refusal := .next (replayMsg m lines s)
/-- REPLAY_END (R204). -/
def execReplayEnd (m : W64) (s : State) : Host.Outcome State Fault Refusal := .next (replayEnd m s)
/-- JOIN_AT (R204). -/
def execJoinAt (j : W64) (s : State) : Host.Outcome State Fault Refusal := .next (joinAt j s)
/-- JOIN_GO (R204). -/
def execJoinGo (j : W64) (s : State) : Host.Outcome State Fault Refusal := .next (joinGo j s)
/-- UNIT_STATE (R206). -/
def execUnitState (u : UnitState) (s : State) : Host.Outcome State Fault Refusal := .next (unitStateMsg u s)
/-- JOIN_ABORT (R202). -/
def execJoinAbort (cause : Byte) (s : State) : Host.Outcome State Fault Refusal := .next (joinAbort cause s)

end Sys2Proof.Machine
end

