-- ==== Sys2Proof/Machine/Clock.lean ====
section
/-! DEFINITION. The passing of one clock of the timebase, which is what a step does on an empty queue (R9, R25, R27). -/

namespace Sys2Proof.Machine

/-- Core clock cycles in 2/3 ns, in units of 1/60 cycle. -/
def State.subPerClock (s : State) : Nat := s.coreRate * 2 / 3

/-- One clock of 2/3 ns passes (DESIGN CHOICE, log entry 3): the timebase counts it where it runs, and so do the core clocks. -/
def State.clockPass (s : State) : State :=
  let unit : Nat := 3 * 2 ^ 40
  let f : Nat := s.tb.frac + ((2 * (2 ^ 40 + s.rateNow)).toNat)
  { s with
    tb := { s.tb with now := s.tb.now + BitVec.ofNat 64 (f / unit), frac := f % unit }
    coreSub := s.coreSub + s.subPerClock }

end Sys2Proof.Machine
end

