-- ==== Sys2Proof/Machine/Sector.lean ====
section
/-! DEFINITION. The sector interlock unit: evaluation of timers, rules and permits, the release of output entries and the start permits (chapter Grid Sense, Sector Interlocks and Start Permits). -/

namespace Sys2Proof.Machine

/-! ### Evaluation (R163 to R168) -/

/-- The sample container of input point i in the committed input image. -/
def State.imageWord (s : State) (i : Nat) : W32 :=
  let a := s.sampleAddr i
  BitVec.ofNat 32 (lineNum (s.sline (a / 64)).cdata (a % 64) 4)

/-- The signed value field of a sample container (R280). -/
def sampleValue (v : W32) : Int := signed 24 (bitsAt v 8 24)

/-- The comparison of a SAMPLE term (R166). -/
def compareTerm (cmp : Nat) (a b : Int) : Bool :=
  match cmp with
  | 0 => decide (a < b)
  | 1 => decide (a ≤ b)
  | 2 => decide (b < a)
  | 3 => decide (b ≤ a)
  | 4 => decide (a = b)
  | _ => decide (a ≠ b)

/-- The result of a rule: from the current evaluation below the rule being evaluated, from the previous one otherwise (R167). -/
def State.ruleResult (s : State) (i : Nat) : Bool := assocD s.sector.results i false

/-- The term result of a timer; one that is not enabled reads false (R168). -/
def State.timerOut (s : State) (i : Nat) : Bool :=
  bitAt (assocD s.sector.timers i 0) 29 && (assocD s.sector.timerSt i (0, false)).2

/-- A sample is invalid for a term (R166). -/
def sampleBad (ctl v : W32) : Bool := !bitAt v 7 || (bitAt v 6 && bitAt ctl 7)

/-- The result of a term, after NEG or FAILV (R166). -/
def State.termValue (s : State) (ctl thr : W32) : Bool :=
  let o := bitsAt ctl 9 23
  let neg (b : Bool) : Bool := b != bitAt ctl 6
  match bitsAt ctl 0 3 with
  | 1 =>
    let v := s.imageWord o
    if sampleBad ctl v then bitAt ctl 8
    else neg (compareTerm (bitsAt ctl 3 3) (sampleValue v) (signed 24 (bitsAt thr 0 24)))
  | 2 =>
    let v := s.imageWord o
    if sampleBad ctl v then bitAt ctl 8 else neg (bitAt v (8 + bitsAt thr 0 5))
  | 3 => neg (s.ruleResult o)
  | 4 => neg (s.timerOut o)
  | _ => neg (bitAt thr 0)

/-- The combined result of a rule's terms, inverted where INV says so (R165). -/
def State.ruleCombine (s : State) (r : SRule) : Bool :=
  let ts := (r.terms.take r.used).map (fun t => s.termValue t.1 t.2)
  let v := match bitsAt r.hdr 4 2 with
    | 0 => ts.all id
    | 1 => ts.any id
    | _ => decide (bitsAt r.hdr 6 4 ≤ countIf id ts)
  v != bitAt r.hdr 10

/-- A flag of a sparse set of true flags. -/
def setTrue (l : List (Nat × Bool)) (i : Nat) (b : Bool) : List (Nat × Bool) := if b then assocSet l i true else assocDel l i

/-- The evaluation of rule i (R167); a disabled rule reads false (R165). -/
def State.ruleEval (s : State) (i : Nat) (r : SRule) : State :=
  if !bitAt r.hdr 0 then { s with sector := { s.sector with results := assocDel s.sector.results i } }
  else
    let v := s.ruleCombine r
    let l := assocD s.sector.latches i false
    let l := if bitAt r.hdr 11 then (if !v then true else l && !s.ruleResult (bitsAt r.hdr 12 12)) else false
    { s with sector := { s.sector with
        results := setTrue s.sector.results i (v && !l), latches := setTrue s.sector.latches i l } }

/-- A timer's count and term result after an update (R168). -/
def timerNext (cfg : W32) (input : Bool) (count : Nat) : Nat × Bool :=
  let preset := bitsAt cfg 13 16
  if bitAt cfg 12 then
    if input then (preset, true) else if 0 < count then (count - 1, true) else (0, false)
  else
    let c := if input then min (count + 1) preset else 0
    (c, c == preset)

/-- The enabled timers, in ascending index. -/
def State.timersOn (s : State) : List (Nat × W32) := s.sector.timers.filter (fun t => bitAt t.2 29)

/-- The first n enabled timers are updated from the previous results (R163, R168). -/
def State.timersUpdate (s : State) (n : Nat) : State :=
  let st := (s.timersOn.take n).foldl (fun (acc : List (Nat × (Nat × Bool))) t =>
    assocSet acc t.1 (timerNext t.2 (s.ruleResult (bitsAt t.2 0 12)) (assocD acc t.1 (0, false)).1)) s.sector.timerSt
  { s with sector := { s.sector with timerSt := st } }

/-- SI_RULES. -/
def State.siRules (s : State) : Nat := s.fld R.SI_RULES 0 13

/-- Evaluates the rules of index below n that the image describes, in ascending index; every other rule is disabled and false. -/
def State.rulesEval (s : State) (n : Nat) : State :=
  (s.sector.rules.filter (fun p => decide (p.1 < n ∧ p.1 < s.siRules))).foldl (fun s p => s.ruleEval p.1 p.2) s

/-- The channels that have a permit rule (R170), in ascending order. -/
def State.ruled (s : State) : List (Nat × SChan) := s.sector.chans.filter (fun p => !bitAt p.2.permit 12)

/-- The evaluation up to a number of steps after the timers: the rules, then the channel permits (R163, R164). -/
def State.evaluate (s : State) (steps : Nat) : State :=
  let s := (s.timersUpdate s.timersOn.length).rulesEval steps
  let ps := (s.ruled.take (steps - s.siRules)).map (fun p => (p.1, s.ruleResult (bitsAt p.2.permit 0 12)))
  { s with sector := { s.sector with permits := ps.filter (·.2) } }

/-- INTERLOCK_EVALUATION (R163): the evaluation for the next tick's release, complete before that tick. A joiner evaluates from frame J on, once UNIT_STATE is applied (R204 step 8). -/
def interlockEvaluation (s : State) : State :=
  match s.sector.freezeDone with
  | none => s
  | some t =>
    if !s.bcn.ticked || s.sector.evaluated == some s.bcn.frame || !s.evaluates s.bcn.frame ||
        stampLe (s.tickAt s.bcn.nextN) s.now then s
    else
      let s := s.evaluate (s.siRules + s.ruled.length)
      let s := { s with sector := { s.sector with evaluated := some s.bcn.frame } }
      s.wr R.SI_EVAL_NS (lo32 (s.now - t))

/-- Before the release of tick n: an evaluation that is not complete is stopped, at a step the rules leave to its timing; it never began where the freeze was not complete before T(n) (R164). -/
def State.evalStop (s : State) (n : W64) : State :=
  if s.sector.evaluated == some (n - 1) then s
  else
    let s := { s with sector := { s.sector with permits := [] } }
    if n == s.bcn.first || !s.evaluates (n - 1) then s
    else
      let count := s.ruled.length
      let late (s : State) (last denied : Nat) : State :=
        (s.flag R.SI_STATUS 2).jlog (s.tickAt n) 100 0 0x0412 [(0, 2, last), (2, 2, denied)]
      match s.sector.freezeDone.filter (fun t => stampLt t (s.tickAt n)) with
      | none => late s 0xffff count
      | some t =>
        let f := s.free 16
        let timers := s.timersOn.length
        let k := f.1.toNat % max 1 (timers + s.siRules + count)
        let s := f.2
        let s := if k < timers then s.timersUpdate k else s.evaluate (k - timers)
        let s := s.wr R.SI_EVAL_NS (lo32 (s.tickAt n - t))
        let done := min (k - timers) s.siRules
        late s (if done = 0 then 0xffff else done - 1) (count - (k - timers - s.siRules))

/-! ### Channels (R170 to R173) -/

/-- The unit state of a channel. -/
def State.chan (s : State) (c : Nat) : ChanState := assocD s.sector.chanSt c {}

/-- Replaces the unit state of a channel. -/
def State.setChan (s : State) (c : Nat) (x : ChanState) : State :=
  { s with sector := { s.sector with chanSt := if x = {} then assocDel s.sector.chanSt c else assocSet s.sector.chanSt c x } }

/-- The window address of the output entry of channel c (R81). -/
def State.entryAddr (s : State) (c : Nat) : Nat := (s.regLines 1).1 * 64 + (s.rd R.OUT_ENTRY_OFF).toNat + 8 * c

/-- The committed output entry of channel c, word 0 in bits [31:0]. -/
def State.entryOf (s : State) (c : Nat) : W64 × State :=
  let a := s.entryAddr c
  let r := s.stRead none (a / 64)
  (BitVec.ofNat 64 (lineNum r.1 (a % 64) 8), r.2)

/-- The entry with the safe value and flags 0; word 1 as written (R170). -/
def safeEntry (ch : SChan) (e : W64) : W64 := join32 (hi32 e) (BitVec.ofNat 32 (bitsAt ch.safe 0 24 * 256))

/-- The permit of a channel at this release (R170). -/
def State.permitOf (s : State) (c : Nat) (ch : SChan) : Bool :=
  !s.flagAt R.SI_CTL 0 && (bitAt ch.permit 12 || assocD s.sector.permits c false)

/-- DENY and PERMIT_RESTORED of a channel (R172). -/
def State.denyTrack (s : State) (n : W64) (c : Nat) (ch : SChan) (permit : Bool) (w0 : W32) : State :=
  let x := s.chan c
  if permit then
    let s := s.setChan c { x with permit := true, denyRun := false, denyCount := 0, denyWord := 0 }
    if x.denyRun then s.jlog s.now 100 0 0x0411 [(0, 2, c), (2, 4, x.denyCount)] else s
  else
    let s := s.setChan c { x with permit := false, denyRun := true, denyCount := x.denyCount + 1, denyWord := w0 }
    if x.denyRun && x.denyWord == w0 then s
    else ((s.flag R.SI_STATUS 1).bump R.CNT_DENY).jlog s.now 100 0 0x0410
      [(0, 2, c), (2, 2, bitsAt ch.permit 0 12), (4, 4, w0.toNat), (8, 4, (lo32 n).toNat)]

/-- A queued request leaves the queue (R173, R176). -/
def State.unqueue (s : State) (c : Nat) : State :=
  let s := s.setChan c { s.chan c with queued := false, waited := 0, joinTick := 0, reqKw := 0, reqTag := 0 }
  { s with sector := { s.sector with queue := s.sector.queue.filter (· != c) } }

/-- START_CANCEL of a queued request (R173). -/
def State.startCancel (s : State) (c cause : Nat) : State :=
  let x := s.chan c
  if x.queued then
    (s.unqueue c).jlog s.now 100 0 0x0423 [(0, 2, c), (2, 1, cause), (4, 2, x.reqKw.toNat), (6, 2, x.reqTag.toNat)]
  else s

/-- A_p of R174. -/
def State.poolAvail (s : State) (n : W64) (p : Nat) : Int :=
  let pt := s.rd (R.POOL_PT p)
  let warn := s.flagAt R.SUPPLY_PT 31 && sampleValue (s.imageWord (s.fld R.SUPPLY_PT 0 23)) == 1
  let h := s.imageWord (bitsAt pt 0 23)
  if n == s.bcn.first || warn || !bitAt pt 31 || !bitAt h 7 then 0
  else sampleValue h - s.fld (R.POOL_RES p) 0 24 - s.poolPend p

/-- A request joins the queue (R173, R174). -/
def State.startJoin (s : State) (n : W64) (c : Nat) (ch : SChan) (e : W64) : State :=
  let kw := if bitsAt e 48 16 = 0 then bitsAt ch.start 0 16 else bitsAt e 48 16
  let tag := bitsAt e 32 16
  let pool := bitsAt ch.permit 14 2
  let s := s.setChan c { s.chan c with queued := true, waited := 0, joinTick := n, reqKw := BitVec.ofNat 16 kw, reqTag := BitVec.ofNat 16 tag }
  ({ s with sector := { s.sector with queue := s.sector.queue ++ [c] } }).jlog s.now 100 0 0x0420
    [(0, 2, c), (2, 1, pool), (4, 2, kw), (6, 2, tag), (8, 4, (BitVec.ofInt 32 (s.poolAvail n pool)).toNat)]

/-- A channel's release: the committed and the released entry, whether the value was substituted or held back, and whether hold is set. -/
structure RelRow where
  chan : Nat
  ch : SChan
  committed : W64
  released : W64
  forced : Bool
  hold : Bool
deriving DecidableEq, Repr

/-- A channel with START_EN whose entry asks for a start while it is stopped: rows 5 to 7 of R173. -/
def State.startAsk (s : State) (n : W64) (c : Nat) (ch : SChan) (e : W64) : RelRow × State :=
  let x := s.chan c
  let s := if x.queued && x.reqTag.toNat != bitsAt e 32 16 then s.startCancel c 2 else s
  let s := if x.timedOut || (s.chan c).queued then s else s.startJoin n c ch e
  (⟨c, ch, e, safeEntry ch e, true, false⟩, s)

/-- The rows of R173 for a start channel. -/
def State.startRow (s : State) (n : W64) (c : Nat) (ch : SChan) (e : W64) (permit : Bool) : RelRow × State :=
  let x := s.chan c
  let x := if x.timedOut && (!bitAt e 0 || x.timedTag.toNat != bitsAt e 32 16) then { x with timedOut := false, timedTag := 0 } else x
  let s := s.setChan c x
  let stop (s : State) : State := s.setChan c { s.chan c with running := false }
  if !permit then (⟨c, ch, e, safeEntry ch e, true, bitAt e 1⟩, (stop s).startCancel c 1)
  else if bitAt e 1 then (⟨c, ch, e, x.lastReleased.getD (safeEntry ch e), false, true⟩, s)
  else if !bitAt e 0 then (⟨c, ch, e, e, false, false⟩, (stop s).startCancel c 0)
  else if x.running then (⟨c, ch, e, e, false, false⟩, s)
  else s.startAsk n c ch e

/-- The release of one channel before the grant walk (R170 to R173). -/
def State.relChannel (s : State) (n : W64) (c : Nat) (ch : SChan) : RelRow × State :=
  let e := s.entryOf c
  let s := e.2
  let permit := s.permitOf c ch
  let s := s.denyTrack n c ch permit (lo32 e.1)
  if bitAt ch.permit 13 then s.startRow n c ch e.1 permit
  else (⟨c, ch, e.1, if permit then e.1 else safeEntry ch e.1, !permit, bitAt e.1 1⟩, s)

/-! ### Start permits (R174 to R176) -/

/-- POOL_AVAIL, POOL_PEND and the waits at the start of a release (R174 to R176). -/
def State.poolsOpen (s : State) (n : W64) : State :=
  let s := { s with sector := { s.sector with holds := s.sector.holds.filter (fun h => decide (n.toNat < h.endTick.toNat)) } }
  let s := foldRange (fun p s => s.wr (R.POOL_AVAIL p) (BitVec.ofNat 32 (BitVec.ofInt 24 (s.poolAvail n p)).toNat)) 0 4 s
  s.sector.queue.foldl (fun s c => s.setChan c { s.chan c with waited := (s.chan c).waited + 1 }) s

/-- The words of a channel. -/
def State.chanCfg (s : State) (c : Nat) : SChan := assocD s.sector.chans c ⟨0, 0, 0, 0, 0⟩

/-- Queue order: priority, 7 first, then the release of joining, then the channel (R174). -/
def State.queueBefore (s : State) (a b : Nat) : Bool :=
  let pa := bitsAt (s.chanCfg a).permit 16 3
  let pb := bitsAt (s.chanCfg b).permit 16 3
  let ja := (s.chan a).joinTick.toNat
  let jb := (s.chan b).joinTick.toNat
  decide (pb < pa ∨ (pa = pb ∧ (ja < jb ∨ (ja = jb ∧ a < b))))

/-- A grant of a queued request at tick n (R174, R175). -/
def State.startGrant (s : State) (n : W64) (c : Nat) : State :=
  let x := s.chan c
  let ch := s.chanCfg c
  let pool := bitsAt ch.permit 14 2
  let s := s.unqueue c
  let s := s.setChan c { s.chan c with running := true }
  let s := { s with sector := { s.sector with holds := s.sector.holds ++
    [({ pool := ⟨pool % 4, Nat.mod_lt _ (by decide)⟩, kw := x.reqKw.toNat, endTick := n + BitVec.ofNat 64 (bitsAt ch.hold 0 16) } : PoolHold)] } }
  ((s.flag R.SI_STATUS 3).bump R.CNT_GRANT).jlog s.now 100 0 0x0421
    [(0, 2, c), (2, 1, pool), (4, 2, x.reqKw.toNat), (6, 2, x.reqTag.toNat), (8, 4, x.waited)]

/-- The walk over queued channels in queue order: av is A_p by pool, blocked the pools whose walk has stopped; the answer names the channels granted. -/
def State.grantWalk (s : State) (n : W64) (av : List (Nat × Int)) (blocked granted : List Nat) : List Nat → List Nat × State
  | [] => (granted, s)
  | c :: r =>
    let p := bitsAt (s.chanCfg c).permit 14 2
    let a := assocD av p 0
    let kw := (s.chan c).reqKw.toNat
    if blocked.contains p then s.grantWalk n av blocked granted r
    else if (kw : Int) ≤ a then (s.startGrant n c).grantWalk n (assocSet av p (a - kw)) blocked (c :: granted) r
    else s.grantWalk n av (p :: blocked) granted r

/-- A request still queued when its wait reaches TIMEOUT (R176). -/
def State.startTimeout (s : State) (c : Nat) : State :=
  let x := s.chan c
  let ch := s.chanCfg c
  if !x.queued || decide (x.waited < bitsAt ch.start 16 16) then s
  else
    let s := s.unqueue c
    let s := s.setChan c { s.chan c with timedOut := true, timedTag := x.reqTag }
    ((s.flag R.SI_STATUS 4).bump R.CNT_TIMEOUT).jlog s.now 100 0 0x0422
      [(0, 2, c), (2, 1, bitsAt ch.permit 14 2), (4, 2, x.reqKw.toNat), (6, 2, x.reqTag.toNat), (8, 4, x.waited)]

/-- The grant walk and the timeouts of the release of tick n; the answer names the channels granted. At the release of the first tick no start is granted (R174). -/
def State.startWalk (s : State) (n : W64) : List Nat × State :=
  let av := (List.range 4).map (fun p => (p, s.poolAvail n p))
  let r := if n == s.bcn.first then ([], s) else s.grantWalk n av [] [] (sortBy s.queueBefore s.sector.queue)
  let s := r.2
  let s := (sortBy s.queueBefore s.sector.queue).foldl (fun s c => s.startTimeout c) s
  let s := s.pendRegs
  (r.1, s.wr R.QUEUE_DEPTH (BitVec.ofNat 32 s.sector.queue.length))

/-- The end of one channel's release: the entry released, its feedback post (R171, R173). -/
def State.relEnd (s : State) (n : W64) (granted : List Nat) (r : RelRow) : State :=
  let g := granted.contains r.chan && !r.hold
  let e := if g then r.committed else r.released
  let forced := r.forced && !g
  let s := { s with sector := { s.sector with released := assocSet s.sector.released r.chan (lo32 e, hi32 e) } }
  let s := if bitAt r.ch.permit 13 then s.setChan r.chan { s.chan r.chan with lastReleased := some e } else s
  if bitAt r.ch.fb 31 then
    s.postSample (bitsAt r.ch.fb 0 23) (putBits (lo32 e) 0 8 (0x86 + bitIf forced 3)) (s.tickAt n) 100 r.chan
  else s

/-- The rows of every channel, in ascending order. -/
def State.relRows (s : State) (n : W64) : List (Nat × SChan) → List RelRow × State
  | [] => ([], s)
  | (c, ch) :: r =>
    let x := s.relChannel n c ch
    let y := x.2.relRows n r
    (x.1 :: y.1, y.2)

/-- The output release of tick n through the sector interlock unit (R170 to R176). -/
def State.sectorRelease (s : State) (n : W64) : State :=
  let s := (s.evalStop n).poolsOpen n
  let rows := s.relRows n s.sector.chans
  let w := rows.2.startWalk n
  rows.1.foldl (fun s r => s.relEnd n w.1 r) w.2

/-! ### Supply warning (R177, R208) -/

/-- Posts the supply-warning point (R177). -/
def State.supplyPost (s : State) (v : Nat) (t : Stamp) : State :=
  if s.flagAt R.SUPPLY_PT 31 then s.postSample (s.fld R.SUPPLY_PT 0 23) (sampleOf v 0x87) t 100 2048 else s

/-- Every counted fall of the supply warning as SECTOR and POWER act on it, at the stamp of the falling edge: records held for the link leave first, then the record and the post, the level, and the twin (R55, R177). -/
def State.supplyFall (s : State) (t : Stamp) : State :=
  let s := s.flushLink
  let s := { s with sector := { s.sector with supplyLow := true, supplyAt := t, supplyRise := none, supplyBack := false } }
  let s := (s.flag R.SI_STATUS 5).jlog t 100 0 0x0430 [(0, 1, s.fld R.PWR_LEVEL 0 3)]
  let s := s.supplyPost 1 t
  let s := (s.setFld R.PWR_LEVEL 7 1 1).perfFollow 1
  let s := if s.flagAt R.TW_CFG 0 then s.linkSend (.supply true t) else s
  if s.flagAt R.TW_CFG 11 && s.holder then handoverRequest s else s

/-- As time passes SUPPLY_WARN_N rises again, not before the low that was counted has lasted 200 ns; when is a free value, since no row brings the rise (R530; log entry 31). -/
def State.supplyIdle (s : State) : State :=
  if !s.sector.supplyLow || s.sector.supplyRise.isSome || stampLt s.now (s.sector.supplyAt + 200) then s
  else
    let f := s.free 1
    { f.2 with sector := { f.2.sector with supplyRise := if f.1 = 0 then none else some s.now } }

/-- The end of the last low that was counted: as the rise was seen, or else the latest stamp that 10,000,000 ns high by now allow, which is not before the low had lasted 200 ns (R530). -/
def State.supplyHigh (s : State) : Stamp :=
  match s.sector.supplyRise with
  | some t => t
  | none => stampMax (s.sector.supplyAt + 200) (s.now - 10000000)

/-- SUPPLY_CLEAR (R177): SUPPLY_WARN_N has been high for 10,000,000 ns since the end of the last low that was counted (R530); the level is asked back at the next tick. -/
def supplyClear (s : State) : State :=
  if !s.sector.supplyLow then s
  else
    let s := s.advanceTo (s.supplyHigh + 10000000)
    let s := { s with sector := { s.sector with supplyLow := false, supplyRise := none, supplyBack := true } }
    let back := max (s.fld R.PWR_PERF 0 3) (if s.flagAt R.PWR_LEVEL 8 then 2 else 0)
    let s := (s.supplyPost 0 s.now).flag R.SI_STATUS 6
    let s := s.jlog s.now 100 0 0x0431 [(0, 1, back)]
    if s.flagAt R.TW_CFG 0 then s.linkSend (.supply false s.now) else s

/-- At the tick after SUPPLY_CLEAR the supply request is withdrawn (R177). -/
def State.supplyTick (s : State) : State :=
  if s.sector.supplyBack then
    ({ s with sector := { s.sector with supplyBack := false } }.setFld R.PWR_LEVEL 7 1 0).perfFollow 3
  else s

/-! ### Commands -/

/-- INTERLOCK_EVALUATION (R163). -/
def execInterlockEvaluation (s : State) : Host.Outcome State Fault Refusal := .next (interlockEvaluation s)
/-- SUPPLY_CLEAR (R177). -/
def execSupplyClear (s : State) : Host.Outcome State Fault Refusal := .next (s.awake supplyClear)

end Sys2Proof.Machine
end

