-- ==== Sys2Proof/Machine/AntPins.lean ====
section
/-! DEFINITION. The field pins of the Ant bays: owners, drivers, safe states, captures, compares and shift units; halts, retirement and spare takeover of engines (chapter Ant Engines and Field Pins). -/

namespace Sys2Proof.Machine

/-! ### Safe states and drivers (R139 to R141) -/

/-- What a pin's driver asks for: its safe state or its owner's level (R141). -/
def State.pinAsk (s : State) (b : BayId) (u : Nat) : Option Bool :=
  let x := s.pin b u
  if s.pinSafe b u then
    match bitsAt (s.pinCfg b u) 15 2 with
    | 0 => none
    | 1 => some false
    | 2 => some true
    | _ => if x.safe then x.hold else s.ownerAsk b u
  else s.ownerAsk b u

/-- The level a pin's driver puts on the pad, after INV: none when the driver is off, as it is while the bank's rail lies outside its range (R138, R140, R536); the TX pin of a CAN FD controller is driven push-pull (R443). -/
def State.pinDriver (s : State) (b : BayId) (u : Nat) : Option Bool :=
  if !s.tw.outputs || !s.bankOk b u then none
  else match s.pinAsk b u with
    | none => none
    | some v =>
      let p := v != bitAt (s.pinCfg b u) 24
      match (if s.canTxPin b u then 1 else bitsAt (s.pinCfg b u) 13 2) with
      | 1 => some p
      | 2 => if p then none else some false
      | _ => none

/-- The level of a pin after INV, as PRD and PIN_STATE give it; 0 while the bank's rail lies outside its range (R128, R151, R536). -/
def State.pinLevel (s : State) (b : BayId) (u : Nat) : Bool :=
  s.bankOk b u && ((s.pinDriver b u).getD (s.pin b u).pad) != bitAt (s.pinCfg b u) 24

/-- The level a toggle gives: the other one than is driven; on a released pin the rules state none, and it is a free value (R128, R143).
DESIGN CHOICE (log entry 88): on a pin that a spare just started has not driven yet, the other one than its predecessor drove last. -/
def State.toggled (s : State) (b : BayId) (u : Nat) : Bool × State :=
  match (s.pin b u).drive with
  | some v => (!v, s)
  | none => ((s.free 1).1 == 1, (s.free 1).2)

/-! ### Events (R131) -/

/-- An event is raised on an engine that runs; one already pending stays single, and keeps the stamp of its first raising (DESIGN CHOICE, log entry 74). -/
def State.raiseEv (s : State) (b : BayId) (e n : Nat) (t : Stamp) : State :=
  let x := s.eng b e
  if (x.st == .running || x.st == .waiting) && (assoc? x.pend n).isNone then
    s.setEng b e { x with pend := assocSet x.pend n t }
  else s

/-- An event is raised on the engine that serves a logical engine. -/
def State.raiseLog (s : State) (b : BayId) (l n : Nat) (t : Stamp) : State :=
  match s.engOf b l with
  | some e => s.raiseEv b e n t
  | none => s

/-- An event is raised on the engine that owns a pin. -/
def State.raiseOwner (s : State) (b : BayId) (u n : Nat) (t : Stamp) : State :=
  if bitsAt (s.pinCfg b u) 0 2 = 1 then s.raiseLog b (bitsAt (s.pinCfg b u) 2 11) n t else s

/-- The source unit of a record about a pin: the logical engine that owns it, or 0xFF (R150). -/
def State.pinUnit (s : State) (b : BayId) (u : Nat) : Nat :=
  if bitsAt (s.pinCfg b u) 0 2 = 1 then bitsAt (s.pinCfg b u) 2 11 % 256 else 0xff

/-! ### Captures (R142) -/

/-- An accepted edge stamped t enters the capture FIFO where CAP_EDGE selects its kind; one that finds the FIFO full is dropped. -/
def State.capTake (s : State) (b : BayId) (u : Nat) (t : Stamp) (rising : Bool) : State :=
  let x := s.pin b u
  if !bitAt (s.pinCfg b u) (if rising then 22 else 23) then s
  else if 4 ≤ x.cap.length then
    ((s.flag (R.BAY_STATUS b.val) 4).bump (R.CNT_CAP_OVF b.val)).jlogW (s.baySealed b.val) s.now (80 + b.val) (s.pinUnit b u) 0x0310
      [(0, 1, b.val), (1, 1, u), (4, 8, t.toNat)] []
  else (s.setPin b u { x with cap := x.cap ++ [(t, rising)] }).raiseOwner b u 4 t

/-- FILT of a pin. -/
def State.pinFilt (s : State) (b : BayId) (u : Nat) : Nat := bitsAt (s.pinCfg b u) 19 3

/-- A level that has lasted 2^(FILT+4) timebase clocks is accepted, under the stamp of the edge that began it (R142). -/
def State.pinSettle (s : State) (b : BayId) (u : Nat) : State :=
  let x := s.pin b u
  match x.glitch with
  | none => s
  | some t =>
    if 2 ^ (s.pinFilt b u + 4) ≤ s.clocksSince t then
      (s.setPin b u { x with flt := !x.flt, glitch := none }).capTake b u t.1 ((!x.flt) != bitAt (s.pinCfg b u) 24)
    else s

/-- The level at a pin changes: without the filter the edge is accepted at once; with it a level that differs from the accepted one must last, and a return before that rejects the pulse (R142). -/
def State.pinEdge (s : State) (b : BayId) (u : Nat) (rising : Bool) : State :=
  let pad := rising != bitAt (s.pinCfg b u) 24
  let x := { s.pin b u with pad := pad }
  if s.pinFilt b u = 0 then (s.setPin b u { x with flt := pad, glitch := none }).capTake b u s.now rising
  else s.setPin b u { x with glitch := if pad == x.flt then none else some (x.glitch.getD s.clockNow) }

/-- CAPTURE_EDGE (R142): the level at the pin changes. -/
def captureEdge (b : BayId) (u : PinId) (rising : Bool) (s : State) : State :=
  if s.dom (72 + b.val) != .up then s else (s.pinSettle b u.val).pinEdge b u.val rising

/-! ### Shift units (R144, R145) -/

/-- The bay pins a PINS word names: TX or MOSI, RX or MISO, CLK, DE. -/
def unitPins (v : W32) : List Nat := [bitsAt v 0 5, bitsAt v 5 5, bitsAt v 10 5, bitsAt v 15 5].filter (· != 31)

/-- A shift unit that is on drives its TX or MOSI pin, and in SYNC mode its CLK pin, for its engine (R141, R145). -/
def State.suDriven (s : State) (b : BayId) (e : Nat) : State :=
  let u := (s.eng b e).su
  let pins := match bitsAt u.mode 0 2 with
    | 1 => [bitsAt u.pins 0 5]
    | 2 => [bitsAt u.pins 0 5, bitsAt u.pins 10 5]
    | _ => []
  (pins.filter (fun p => decide (p < 24))).foldl (fun s p => (s.setPin b p { s.pin b p with driven := true }).judgePin b p) s

/-- A transmission begins where a word waits and nothing holds it (R143 to R145).
DESIGN CHOICE (log entry 88): DE counts as asserted, and blocks reception, while a UART sends with no DE pin named in PINS. -/
def State.suStart (s : State) (b : BayId) (e : Nat) : State :=
  let u := (s.eng b e).su
  let mode := bitsAt u.mode 0 2
  if u.busy || u.tx.isEmpty || (mode != 1 && mode != 2) || (bitAt u.mode 4 && !u.go) then s
  else
    let s := s.setSu b e { u with busy := true, wordAt := s.clockNow, sampled := false, deEnd := none }
    if mode = 1 then s.suDe b e true else s

/-- The shift unit's pins are released and its transmission ends (R137). -/
def State.suRelease (s : State) (b : BayId) (e : Nat) : State :=
  let u := (s.eng b e).su
  let s := (unitPins u.pins).foldl (fun s p => if p < 24 then s.setPin b p { s.pin b p with drive := none } else s) s
  s.setSu b e { u with busy := false, de := false, go := false, deEnd := none, pins := 0xfffff }

/-- The data bits of a word as the shift unit's FRAME gives them (R144). -/
def suData (u : ShiftUnit) (v : W32) : W32 :=
  let n := if bitsAt u.mode 0 2 = 1 then bitsAt u.frame 0 4 else bitsAt u.frame 0 6
  BitVec.ofNat 32 (v.toNat % 2 ^ (min n 32))

/-- A received word is stored; one that finds the FIFO full is dropped (R145). -/
def State.suStore (s : State) (b : BayId) (e : Nat) (data : W32) (parity framing : Bool) : State :=
  let u := (s.eng b e).su
  if 16 ≤ u.rx.length then s.setSu b e { u with overrun := true }
  else (s.setSu b e { u with rx := u.rx ++ [(suData u data, (parity, framing))] }).raiseEv b e 6 s.now

/-- SU_RX (R145): a UART does not receive while DE is asserted; in SYNC mode the word is the one sampled on MISO while a word is clocked out, one for each. -/
def suRx (b : BayId) (e : EngId) (data : W32) (parity framing : Bool) (s : State) : State :=
  let s := s.suTail b e.val
  let x := s.eng b e.val
  let u := x.su
  if x.st != .running && x.st != .waiting then s
  else match bitsAt u.mode 0 2 with
    | 1 => if u.de then s else s.suStore b e.val data parity framing
    | 2 => if !u.busy || u.sampled then s else (s.setSu b e.val { u with sampled := true }).suStore b e.val data false false
    | _ => s

/-- The word sampled on MISO is stored at the end of a SYNC word; where no SU_RX gave it, it is a free value (R145). -/
def State.suSample (s : State) (b : BayId) (e : Nat) : State :=
  let u := (s.eng b e).su
  if bitsAt u.mode 0 2 = 2 ∧ !u.sampled then (s.free 32).2.suStore b e (s.free 32).1 false false else s

/-- SHIFT_UNIT_WORD_END (R145): a word that is not the last has been sent, and the next begins. -/
def shiftUnitWordEnd (b : BayId) (e : EngId) (s : State) : State :=
  let u := (s.eng b e.val).su
  if u.busy && decide (2 ≤ u.tx.length) then
    let s := s.suSample b e.val
    let u := (s.eng b e.val).su
    s.setSu b e.val { u with tx := u.tx.drop 1, wordAt := s.clockNow, sampled := false }
  else s

/-- The burst ends: DE is released DE_TAIL bit times later (R145). -/
def State.burstEnd (s : State) (b : BayId) (e : Nat) : State :=
  let u := (s.eng b e).su
  let n := bitsAt u.tail 0 4
  let s := s.setSu b e { u with tx := [], busy := false, go := false }
  if bitsAt u.mode 0 2 != 1 then s
  else if n = 0 then s.suDe b e false
  else
    let t := s.now + BitVec.ofNat 64 (n * bitsAt u.div 0 24 * 2 / 3)
    s.setSu b e { (s.eng b e).su with deEnd := some t }

/-- SU_TX (R131, R145): the last word has left the pin, and the burst ends. -/
def suTx (b : BayId) (e : EngId) (s : State) : State :=
  let u := (s.eng b e.val).su
  if u.busy && u.tx.length == 1 then ((s.suSample b e.val).burstEnd b e.val).raiseEv b e.val 7 s.now else s

/-- What time alone brings about in a bay: levels that the glitch filters accept, and DE released after its tail (R142, R145). -/
def State.bayDue (s : State) (b : BayId) : State :=
  ((s.bay b).pins.foldl (fun s p => s.pinSettle b p.1) s).bayTails b

/-- What time alone brings about in every bay. -/
def State.antDue (s : State) : State := s.bays.foldl (fun s p => s.bayDue (bayOf p.1)) s

/-- SU_IDLE (R131). -/
def suIdle (b : BayId) (e : EngId) (s : State) : State :=
  let u := (s.eng b e.val).su
  if bitsAt u.mode 0 2 = 1 && bitsAt u.idle 0 8 != 0 then s.raiseEv b e.val 8 s.now else s

/-- ENGINE_TIMER (R128, R131). -/
def engineTimer (b : BayId) (e : EngId) (s : State) : State :=
  if (s.eng b e.val).timer != 0 then s.raiseEv b e.val 9 s.now else s

/-! ### Compares (R143) -/

/-- What an action of a compare does to a pin: 0 low, 1 high, 2 toggle, 3 start shift unit. -/
def State.compareDrive (s : State) (b : BayId) (u : Nat) (act : Fin 4) : State :=
  match act with
  | 0 => s.drivePin b u (some false)
  | 1 => s.drivePin b u (some true)
  | 2 => (s.toggled b u).2.drivePin b u (some (s.toggled b u).1)
  | 3 =>
    match s.engOf b (bitsAt (s.pinCfg b u) 2 11) with
    | some e => (s.setSu b e { (s.eng b e).su with go := true }).suStart b e
    | none => s

/-- The action of a compare on a pin, in the timebase clock of this command; CMP is raised on the pin's owner. -/
def State.compareDo (s : State) (b : BayId) (u : Nat) (act : Fin 4) : State :=
  let s := s.compareDrive b u act
  (s.setPin b u { s.pin b u with cmpAt := some (s.clockNow, act) }).raiseOwner b u 5 s.now

/-- PWR drives a pin; a compare action of the same timebase clock is applied after it and stands (R143). -/
def State.pwrPin (s : State) (b : BayId) (u : Nat) (v : Option Bool) : State :=
  let s := s.drivePin b u v
  match (s.pin b u).cmpAt with
  | some (t, act) => if t = s.clockNow ∧ act ≠ 3 then s.compareDrive b u act else s
  | none => s

/-- COMPARE_ACTION (R143): the timebase reaches the target of the pending compare. -/
def compareAction (b : BayId) (u : PinId) (s : State) : State :=
  let x := s.pin b u.val
  match x.cmp with
  | none => s
  | some (t, act) =>
    let s := s.advanceTo t
    (s.setPin b u.val { x with cmp := none }).compareDo b u.val act

/-! ### Halt, retirement and takeover (R136, R137, R148, R149) -/

/-- The STATUS word of an engine (R126). -/
def Engine.status (x : Engine) : Nat := x.level.toNat + 16 * x.event.toNat + 256 * x.cause.toNat + bitIf x.ds 12

/-- Writes words into bay SRAM from an offset. -/
def State.bayWords (s : State) (b : BayId) (off : Nat) (ws : List Nat) : State :=
  let x := s.bay b
  s.setBay b { x with sram := cellWrite 0 x.sram off (ws.flatMap (leBytes 4)) }

/-- The emergency save area of a physical engine (R136). -/
def State.emergencySave (s : State) (b : BayId) (e : Nat) (cause pc event : Nat) : State :=
  let x := s.eng b e
  s.bayWords b (0xf000 + 128 * e) ([pc, x.status, cause + 256 * event, (lo32 s.now).toNat, (hi32 s.now).toNat] ++
    (x.a.toList.drop 1).map (·.toNat) ++ List.replicate 12 0)

/-- An engine leaves service (R137, R149): its pins take their safe states, its compares are cancelled, its shift-unit pins are released, ENG_HALT is journaled, and its logical engine waits for a spare. -/
def State.engLeave (s : State) (b : BayId) (e : Nat) (cause pc : Nat) : State :=
  let s := s.suTail b e
  let x := s.eng b e
  let s := s.setEng b e { x with st := if cause = 3 then .retired else .halted, haltCause := BitVec.ofNat 3 cause, haltPc := BitVec.ofNat 32 pc, slot := none, stalled := false }
  let s := s.judgeBay b
  let s := (s.ownedPins b x.logical).foldl (fun s u => s.setPin b u { s.pin b u with cmp := none }) s
  let s := s.suRelease b e
  let s := (s.flag (R.BAY_STATUS b.val) 1).jlogW (s.baySealed b.val) s.now (80 + b.val) x.logical 0x0300
    [(0, 1, b.val), (1, 1, e), (2, 1, x.logical), (3, 1, cause), (6, 4, (x.a.get 15).toNat)] [(4, 2, pc)]
  { s with hive := { s.hive with antSpare := s.hive.antSpare ++ [(b.val, x.logical)] } }

/-- An engine halts (R136, R137); Lantern writes the halt into the book (R464). -/
def State.engHalt (s : State) (b : BayId) (e : Nat) (cause pc event : Nat) : State :=
  ((s.emergencySave b e cause pc event).engLeave b e cause pc).bookAdd 8 e b.val 0

/-- An engine is retired at a tick (R149). -/
def State.engRetire (s : State) (b : BayId) (e : Nat) : State :=
  let x := s.eng b e
  if x.st == .running || x.st == .waiting || x.st == .loading then s.engLeave b e 3 x.pc.toNat
  else if x.st == .spare then s.setEng b e { x with st := .retired, haltCause := 3 }
  else s

/-- At a tick Hive maps a logical engine to the lowest-numbered spare of its bay (R110, R148, R149). -/
def State.takeover (s : State) (b : BayId) (l : Nat) : State :=
  match (List.range 32).find? (fun e => decide (28 ≤ e) && (s.eng b e).st == .spare && (s.eng b e).logical == 31) with
  | none => s.flag (R.BAY_STATUS b.val) 3
  | some e =>
    let old := (s.engOf b l).getD 31
    let s := match s.engOf b l with
      | some o => s.setEng b o { s.eng b o with logical := 31 }
      | none => s
    let s := s.setEng b e { Engine.reset with st := .loading, logical := l, takeover := true }
    let s := (s.ownedPins b l).foldl (fun s u => s.setPin b u { s.pin b u with driven := false }) s
    (s.flag (R.BAY_STATUS b.val) 2).spareIn 3 old e b.val

/-- Retirements and takeovers of a tick (R148, R149). -/
def State.antTick (s : State) : State :=
  let s := s.hive.antWorn.foldl (fun s p => s.engRetire (bayOf p.1) p.2) s
  let l := s.hive.antSpare
  let s := { s with hive := { s.hive with antWorn := [], antSpare := [] } }
  l.foldl (fun s p => s.takeover (bayOf p.1) p.2) s

/-- The local SRAM image of a logical engine, read from berth ANT_IMG line by line. -/
def State.antImage (s : State) (pa : Nat) (sram : List Host.Cell) (i : Nat) : Nat → List Host.Cell × State
  | 0 => (sram, s)
  | n + 1 =>
    let r := s.naReadLine (pa / 64 + i)
    r.2.antImage pa (cellWrite 0 sram (64 * i) (toBytes r.1.1 64)) (i + 1) n

/-- An engine starts at local 0x0000 and ENG_START is journaled (R148, R478). -/
def State.engStart (s : State) (b : BayId) (e : Nat) (takeover : Bool) : State :=
  let x := s.eng b e
  (s.setEng b e { x with st := .running, pc := 0, level := 0, takeover := takeover }).jlog s.now (80 + b.val) x.logical 0x0301
    [(0, 1, b.val), (1, 1, e), (2, 1, x.logical), (3, 1, b2n takeover)]

/-- SPARE_LOAD_DONE (R148). -/
def spareLoadDone (b : BayId) (e : EngId) (s : State) : State :=
  let x := s.eng b e.val
  if x.st != .loading then s
  else
    let r := s.antImage (s.fld (R.ANT_IMG b.val) 0 21 * 2 ^ 21 + 16384 * x.logical) [] 0 256
    (r.2.setEng b e.val { r.2.eng b e.val with sram := r.1 }).engStart b e.val true

/-! ### The output release (R139, R147) -/

/-- Pins owned by the output release follow the released entries. Before the first release such a pin is in no safe state by R141, and its driver stays off (DESIGN CHOICE, log entry 74). -/
def State.pinsRelease (s : State) (b : BayId) : State :=
  foldRange (fun u s =>
    let c := s.pinCfg b u
    if bitsAt c 0 2 = 2 then
      match assoc? s.sector.released (bitsAt c 2 11) with
      | some w => s.drivePin b u (some (bitsAt w.1 8 24 != 0))
      | none => s
    else s) 0 24 s

/-- The channels delivered to a logical engine, ascending; which ones the image binds is an uninterpreted function (R147). -/
def outChannels (b l n : Nat) : List Nat :=
  sortBy (fun x y => decide (x < y)) ((List.range n).map (fun i => Config.outChannel b l i % 2048))

/-- The entries of a logical engine's channels go into bay SRAM, and OUT is raised. -/
def State.engOut (s : State) (b : BayId) (l : Nat) (t : Stamp) : State :=
  let c := s.rd (R.ENG_OUT b.val l)
  let n := bitsAt c 16 12
  if n = 0 then s
  else
    let ws := (outChannels b.val l n).flatMap (fun ch =>
      let w := assocD s.sector.released ch (0, 0)
      [w.1.toNat, w.2.toNat])
    (s.bayWords b (bitsAt c 0 16) ws).raiseLog b l 3 t

/-- The release reaches a bay (R139, R147). -/
def State.bayRelease (s : State) (b : BayId) (t : Stamp) : State :=
  if s.dom (72 + b.val) != .up then s
  else foldRange (fun l s => s.engOut b l t) 0 28 (s.pinsRelease b)

/-- TICK events of a bay (R131). -/
def State.bayTick (s : State) (b : BayId) (t : Stamp) : State :=
  if s.dom (72 + b.val) != .up then s
  else foldRange (fun e s => s.raiseEv b e 2 t) 0 32 s

/-! ### Registers of a bay -/

/-- BAY_SAFE_ALL: a completed BAY_CTL pair (R141, R151). -/
def baySafeAll (b : BayId) (v : W32) (s : State) : State := ((s.bayTails b).wr (R.BAY_CTL b.val) (v &&& 1)).judgeBay b

/-- The word MEM_ADDR names: local SRAM of an engine, bay SRAM, or 0 (R151).
DESIGN CHOICE (log entry 88): past the 16 KiB of local SRAM the word is 0. -/
def State.memWord (s : State) (b : BayId) : W32 :=
  let a := s.rd (R.MEM_ADDR b.val)
  let o := bitsAt a 2 14 * 4
  let src := bitsAt a 16 6
  if src < 32 then (if o < 0x4000 then BitVec.ofNat 32 (leNat (cellRead 0 (s.eng b src).sram o 4)) else 0)
  else if src = 32 then BitVec.ofNat 32 (leNat (cellRead 0 (s.bay b).sram o 4)) else 0

/-- MEM_DATA_READ (R151): a read of a Sealed bay from the Open world returns 0 and has no effect. -/
def memDataRead (b : BayId) (q : Requester) (s : State) : State :=
  if s.baySealed b.val && !q.sealed then { s with readVal := 0 }
  else
    let v := s.memWord b
    { s.setFld (R.MEM_ADDR b.val) 0 16 (s.fld (R.MEM_ADDR b.val) 0 16 + 4) with readVal := v }

/-! ### Commands -/

/-- CAPTURE_EDGE (R142). -/
def execCaptureEdge (b : BayId) (u : PinId) (rising : Bool) (s : State) : Host.Outcome State Fault Refusal := .next (captureEdge b u rising s)
/-- COMPARE_ACTION (R143). -/
def execCompareAction (b : BayId) (u : PinId) (s : State) : Host.Outcome State Fault Refusal := .next (compareAction b u s)
/-- SU_RX (R145). -/
def execSuRx (b : BayId) (e : EngId) (data : W32) (parity framing : Bool) (s : State) : Host.Outcome State Fault Refusal :=
  .next (suRx b e data parity framing s)
/-- SU_TX (R145). -/
def execSuTx (b : BayId) (e : EngId) (s : State) : Host.Outcome State Fault Refusal := .next (suTx b e s)
/-- SU_IDLE (R131). -/
def execSuIdle (b : BayId) (e : EngId) (s : State) : Host.Outcome State Fault Refusal := .next (suIdle b e s)
/-- SHIFT_UNIT_WORD_END (R145). -/
def execShiftUnitWordEnd (b : BayId) (e : EngId) (s : State) : Host.Outcome State Fault Refusal := .next (shiftUnitWordEnd b e s)
/-- ENGINE_TIMER (R131). -/
def execEngineTimer (b : BayId) (e : EngId) (s : State) : Host.Outcome State Fault Refusal := .next (engineTimer b e s)
/-- SPARE_LOAD_DONE (R148). -/
def execSpareLoadDone (b : BayId) (e : EngId) (s : State) : Host.Outcome State Fault Refusal := .next (spareLoadDone b e s)
/-- BAY_SAFE_ALL (R141). -/
def execBaySafeAll (b : BayId) (v : W32) (s : State) : Host.Outcome State Fault Refusal := .next (s.blockWrite (0x10 + b.val) (baySafeAll b v))
/-- MEM_DATA_READ (R151). -/
def execMemDataRead (b : BayId) (q : Requester) (s : State) : Host.Outcome State Fault Refusal := .next (s.awake (memDataRead b q))

end Sys2Proof.Machine
end

