-- ==== Sys2Proof/Machine/Ant.lean ====
section
/-! DEFINITION. The Ant instructions, their faults and their events (chapter Ant Engines and Field Pins). -/

namespace Sys2Proof.Machine

/-! ### Registers and memory of an engine -/

/-- Register An; A0 reads as 0. -/
def Engine.reg (x : Engine) (n : AReg) : W32 := if n = 0 then 0 else x.a.get n.toFin

/-- Writes register An; A0 ignores writes. -/
def Engine.setReg (x : Engine) (n : AReg) (v : W32) : Engine := if n = 0 then x else { x with a := x.a.set n.toFin v }

/-- A register of an engine of the state. -/
def State.areg (s : State) (b : BayId) (e : EngId) (n : AReg) : W32 := (s.eng b e.val).reg n

/-- Writes a register of an engine of the state. -/
def State.setAreg (s : State) (b : BayId) (e : EngId) (n : AReg) (v : W32) : State :=
  s.setEng b e.val ((s.eng b e.val).setReg n v)

/-- Writes a pair: bits [31:0] to Ad, [63:32] to Ad+1 (R128). -/
def State.setPair (s : State) (b : BayId) (e : EngId) (d : AReg) (v : W64) : State :=
  (s.setAreg b e d (lo32 v)).setAreg b e (d + 1) (hi32 v)

/-- The value of a pair. -/
def State.pairOf (s : State) (b : BayId) (e : EngId) (d : AReg) : W64 := join32 (s.areg b e (d + 1)) (s.areg b e d)

/-- Word i of local SRAM. -/
def Engine.word (x : Engine) (a : Nat) : Nat := leNat (cellRead 0 x.sram a 4)

/-! ### Event entry, halts and faults (R132 to R137) -/

/-- The stack check of R136: A15 is word-aligned, and the frame from a lies in the engine's stack window. -/
def State.stackOk (s : State) (b : BayId) (e : EngId) (a : Int) : Bool :=
  let x := s.eng b e.val
  let c := s.rd (R.ENG_CFG b.val x.logical)
  (x.reg 15).toNat % 4 == 0 && decide ((4 * bitsAt c 0 13 : Int) ≤ a ∧ a + 32 ≤ 4 * bitsAt c 13 13)

/-- The 32 B frame of an event entry (R133). -/
def frameBytes (x : Engine) (pc status : Nat) (t : Stamp) : List Byte :=
  ([pc, status] ++ ([1, 2, 3, 4, 14] : List AReg).map (fun n => (x.reg n).toNat) ++ [(lo32 t).toNat]).flatMap (leBytes 4)

/-- A fault is recorded (R135): its cause and whether it arose in a delay slot, the status bit, the count and the journal.
DESIGN CHOICE (log entry 88): for a fault in a delay slot the record's PC is that of the slot's instruction. -/
def State.faultNote (s : State) (b : BayId) (e : EngId) (cause : Nat) : State :=
  let x := s.eng b e.val
  let s := s.setEng b e.val { x with cause := BitVec.ofNat 4 cause, ds := x.slot.isSome }
  ((s.flag (R.BAY_STATUS b.val) 7).bump (R.CNT_FAULT b.val)).jlogW (s.baySealed b.val) s.now (80 + b.val) x.logical 0x0302
    [(0, 1, b.val), (1, 1, x.logical), (2, 1, cause)] [(4, 2, x.pc.toNat)]

/-- The stack check fails (R136): a misaligned stack pointer is an ALIGN fault (R135), and the engine halts in either case. -/
def State.stackFail (s : State) (b : BayId) (e : EngId) (pc n : Nat) : State :=
  (if (s.areg b e 15).toNat % 4 = 0 then s else s.faultNote b e 3).engHalt b e.val 1 pc n

/-- Entry to the handler of event n (R133): the frame is pushed below A15; a failed stack check halts the engine (R136). -/
def State.antEnter (s : State) (b : BayId) (e : EngId) (n prio : Nat) (t : Stamp) (pc status : Nat) : State :=
  let x := s.eng b e.val
  let sp : Int := (x.reg 15).toNat
  if !s.stackOk b e (sp - 32) then s.stackFail b e pc n
  else
    let x := { x with sram := cellWrite 0 x.sram (sp - 32).toNat (frameBytes x pc status t) }
    let x := x.setReg 15 (x.reg 15 - 32)
    s.setEng b e.val { x with
      level := BitVec.ofNat 4 prio, event := BitVec.ofNat 4 n, pc := BitVec.ofNat 32 (x.word (0x40 + 4 * n))
      slot := none, st := .running, stalled := false, pend := assocDel x.pend n }

/-- A fault (R135): it is journaled, and taken as event 1 at priority 8; at LEVEL 8 the engine halts (R136). The instruction has changed nothing; one in a delay slot stacks its branch (R130). -/
def State.antFault (s : State) (b : BayId) (e : EngId) (cause : Nat) : State :=
  let x := s.eng b e.val
  let ret := match x.slot with
    | some sl => sl.branchPc
    | none => x.pc
  let old := x.status
  let s := s.faultNote b e cause
  let s := s.setEng b e.val { s.eng b e.val with slot := none }
  if x.level = 8 then s.engHalt b e.val 2 ret.toNat 1
  else s.antEnter b e 1 8 s.now ret.toNat old

/-- The pending enabled event of the highest priority above a level; at equal priority the lower number (R132). -/
def Engine.takeable (x : Engine) (level : Nat) : Option (Nat × Nat × Stamp) :=
  x.pend.foldl (fun (best : Option (Nat × Nat × Stamp)) p =>
    let c := assocD x.evcfg p.1 (0, false)
    if !c.2 || decide (c.1 ≤ level) then best
    else match best with
      | none => some (p.1, c.1, p.2)
      | some (n, pr, t) => if pr < c.1 then some (p.1, c.1, p.2) else some (n, pr, t)) none

/-- ANT_EVENT_ENTRY (R132, R133): never between a branch and its slot. -/
def antEventEntry (b : BayId) (e : EngId) (s : State) : State :=
  let s := s.bayDue b
  let x := s.eng b e.val
  if (x.st != .running && x.st != .waiting) || x.slot.isSome || !s.bayClocked b.val then s
  else match x.takeable x.level.toNat with
    | none => s
    | some (n, p, t) => s.antEnter b e n p t x.pc.toNat x.status

/-! ### One instruction (R129, R130, R135) -/

/-- What an instruction does: a fault with its cause, a new state before the PC moves, a branch, or a state whose PC is already as it leaves it. -/
inductive AntRes where
  | fault (cause : Nat)
  | next (s : State)
  | branch (s : State) (target : W32) (annul : Bool)
  | stay (s : State)

/-- The PC of an engine. -/
def State.apc (s : State) (b : BayId) (e : EngId) : W32 := (s.eng b e.val).pc

/-- The PC moves past an instruction: to the branch target after a delay slot (R129). -/
def State.antNext (s : State) (b : BayId) (e : EngId) : State :=
  let x := s.eng b e.val
  match x.slot with
  | some sl => s.setEng b e.val { x with pc := sl.target, slot := none, stalled := false }
  | none => s.setEng b e.val { x with pc := x.pc + 4, stalled := false }

/-- A branch or jump: the slot at PC + 4 comes next (R129). -/
def State.antBranch (s : State) (b : BayId) (e : EngId) (target : W32) (annul : Bool) : State :=
  let x := s.eng b e.val
  s.setEng b e.val { x with pc := x.pc + 4, slot := some ⟨x.pc, target, annul⟩ }

/-- Executes one instruction on a running engine. ctl: it is a branch, jump, EVRET or EVWAIT, which faults in a slot (R130). An annulled slot has no effect (R129).
DESIGN CHOICE (log entry 88): a fetch whose PC is both misaligned and outside local SRAM gives ALIGN. -/
def State.antRun (s : State) (b : BayId) (e : EngId) (ctl : Bool) (body : State → AntRes) : State :=
  let s := s.bayDue b
  let x := s.eng b e.val
  if x.st != .running || !s.bayClocked b.val then s
  else if (match x.slot with
      | some sl => sl.annul
      | none => false) then s.antNext b e
  else if x.pc.toNat % 4 != 0 then s.antFault b e 3
  else if 0x4000 ≤ x.pc.toNat then s.antFault b e 2
  else if ctl && x.slot.isSome then s.antFault b e 5
  else match body s with
    | .fault c => s.antFault b e c
    | .next s' => s'.antNext b e
    | .branch s' t a => s'.antBranch b e t a
    | .stay s' => s'

/-- An instruction whose one effect is Ad = v. -/
def State.antAlu (s : State) (b : BayId) (e : EngId) (d : AReg) (v : State → W32) : State :=
  s.antRun b e false (fun s => .next (s.setAreg b e d (v s)))

/-- A format A operation on Aa and Ab. -/
def State.antOp (s : State) (b : BayId) (e : EngId) (d ra rb : AReg) (f : W32 → W32 → W32) : State :=
  s.antAlu b e d (fun s => f (s.areg b e ra) (s.areg b e rb))

/-- A format B operation on Aa and an immediate. -/
def State.antImm (s : State) (b : BayId) (e : EngId) (d ra : AReg) (imm : W32) (f : W32 → W32 → W32) : State :=
  s.antAlu b e d (fun s => f (s.areg b e ra) imm)

/-- 1 or 0 as a word. -/
def w32of (c : Bool) : W32 := if c then 1 else 0

/-- The CRC fold of CRCB (R128). -/
def crcFold (poly : BitVec 16) : Nat → BitVec 16 → BitVec 16
  | 0, c => c
  | n + 1, c => crcFold poly n (if bitAt c 0 then (c >>> 1) ^^^ poly else c >>> 1)

/-- CRCB of Aa[15:0] and Ab[7:0]. -/
def crcb16 (poly : BitVec 16) (x y : W32) : W32 :=
  (crcFold poly 8 ((x.truncate 16) ^^^ ((y.truncate 8).zeroExtend 16))).zeroExtend 32

/-- The high word of a signed product. -/
def mulHigh (x y : W32) : W32 := BitVec.ofInt 32 ((x.toInt * y.toInt) / 2 ^ 32)

/-! ### Loads and stores (R124, R128) -/

/-- The fault of an access of n bytes at an address, if any (R124, R135). Where several apply, ADDR goes before ALIGN and ALIGN before STORE_RO (DEDUCED, log entry 32). -/
def accessFault (a : Nat) (n : Nat) (store : Bool) : Option Nat :=
  if !(decide (a < 0x4000) || decide (0x10000 ≤ a ∧ a < 0x20000)) then some 2
  else if a % n != 0 then some 3
  else if store && decide (0x1f000 ≤ a) then some 6
  else none

/-- The n bytes at an engine address. -/
def State.antRead (s : State) (b : BayId) (e : EngId) (a n : Nat) : Nat :=
  if a < 0x4000 then leNat (cellRead 0 (s.eng b e.val).sram a n) else leNat (cellRead 0 (s.bay b).sram (a - 0x10000) n)

/-- Writes n bytes at an engine address; a byte of bay SRAM that a higher logical engine wrote in the same clock stands (R125; the timebase clock decides, log entry 88). -/
def State.antWrite (s : State) (b : BayId) (e : EngId) (a n v : Nat) : State :=
  if a < 0x4000 then
    let x := s.eng b e.val
    s.setEng b e.val { x with sram := cellWrite 0 x.sram a (leBytes n v) }
  else
    let x := s.bay b
    let l := (s.eng b e.val).logical
    let was := if x.wrAt = s.clockNow then x.wrBy else []
    let mine := (indexed (leBytes n v)).filter (fun p => !was.any (fun q => q.1 == a - 0x10000 + p.1 && decide (l < q.2)))
    s.setBay b { x with
      sram := mine.foldl (fun m p => cellWrite 0 m (a - 0x10000 + p.1) [p.2]) x.sram
      wrAt := s.clockNow
      wrBy := mine.map (fun p => (a - 0x10000 + p.1, l)) ++ was }

/-- The address of a format B access: Aa + imm18 sign-extended. -/
def State.antAddr (s : State) (b : BayId) (e : EngId) (ra : AReg) (imm : BitVec 18) : Nat :=
  (s.areg b e ra + imm.signExtend 32).toNat

/-- A load of n bytes, sign-extended or not. -/
def State.antLoad (s : State) (b : BayId) (e : EngId) (d ra : AReg) (imm : BitVec 18) (n : Nat) (sign : Bool) : State :=
  s.antRun b e false (fun s =>
    let a := s.antAddr b e ra imm
    match accessFault a n false with
    | some c => .fault c
    | none =>
      let v := s.antRead b e a n
      .next (s.setAreg b e d (BitVec.ofInt 32 (if sign then signed (8 * n) v else v))))

/-- A store of the low n bytes of Ad. -/
def State.antStore (s : State) (b : BayId) (e : EngId) (d ra : AReg) (imm : BitVec 18) (n : Nat) : State :=
  s.antRun b e false (fun s =>
    let a := s.antAddr b e ra imm
    match accessFault a n true with
    | some c => .fault c
    | none => .next (s.antWrite b e a n ((s.areg b e d).toNat % 2 ^ (8 * n))))

/-! ### Branches (R129) -/

/-- A conditional branch on Aa and Ab. -/
def State.antCond (s : State) (b : BayId) (e : EngId) (n : Bool) (ra rb : AReg) (off : BitVec 17) (c : W32 → W32 → Bool) : State :=
  s.antRun b e true (fun s =>
    let pc := s.apc b e
    if c (s.areg b e ra) (s.areg b e rb) then .branch s (pc + (off.signExtend 32 <<< 2)) false
    else .branch s (pc + 8) n)

/-- An unconditional jump, linking in A14 or not. -/
def State.antJump (s : State) (b : BayId) (e : EngId) (n link : Bool) (target : State → W32) : State :=
  s.antRun b e true (fun s =>
    let t := target s
    let s' := if link then s.setAreg b e 14 (s.apc b e + 8) else s
    .branch s' t n)

/-! ### Pins, shift unit, posts -/

/-- The engine owns bay pin u. -/
def State.engOwns (s : State) (b : BayId) (e : EngId) (u : Nat) : Bool := s.owns b (s.eng b e.val).logical u

/-- An instruction on an owned pin; PIN_DENIED otherwise (R138). -/
def State.antPin (s : State) (b : BayId) (e : EngId) (u : Byte) (body : State → AntRes) : State :=
  s.antRun b e false (fun s => if s.engOwns b e u.toNat then body s else .fault 4)

/-- PRD (R128). -/
def antPrd (b : BayId) (e : EngId) (d : AReg) (u : Byte) (s : State) : State :=
  s.antPin b e u (fun s => .next (s.setAreg b e d (w32of (s.pinLevel b u.toNat))))

/-- PWR (R128). -/
def antPwr (b : BayId) (e : EngId) (ra : AReg) (u : Byte) (imm : BitVec 10) (s : State) : State :=
  s.antPin b e u (fun s =>
    let p := u.toNat
    if bitAt imm 2 then .next (s.pwrPin b p none)
    else match bitsAt imm 0 2 with
      | 0 => .next (s.pwrPin b p (some (bitAt (s.areg b e ra) 0)))
      | 1 => .next (s.pwrPin b p (some true))
      | 2 => .next (s.pwrPin b p (some false))
      | _ => .next ((s.toggled b p).2.pwrPin b p (some (s.toggled b p).1)))

/-- CAPR (R128, R142). Where Aa is also a register of pair d, the flag word is written last and stands (DESIGN CHOICE, log entry 74). -/
def antCapr (b : BayId) (e : EngId) (d ra : AReg) (u : Byte) (s : State) : State :=
  s.antRun b e false (fun s =>
    if bitAt d 0 then .fault 1
    else if !s.engOwns b e u.toNat then .fault 4
    else
      let x := s.pin b u.toNat
      match x.cap with
      | [] => .next (s.setAreg b e ra 2)
      | (t, r) :: rest => .next (((s.setPin b u.toNat { x with cap := rest }).setPair b e d t).setAreg b e ra (w32of r)))

/-- CMPW (R128, R143): a target already reached acts at once. -/
def antCmpw (b : BayId) (e : EngId) (d : AReg) (u : Byte) (act : BitVec 2) (s : State) : State :=
  s.antRun b e false (fun s =>
    if bitAt d 0 then .fault 1
    else if !s.engOwns b e u.toNat then .fault 4
    else
      let t := s.pairOf b e d
      let x := s.pin b u.toNat
      if stampLe t s.now then
        let s := ((s.setPin b u.toNat { x with cmp := none }).flag (R.BAY_STATUS b.val) 5).jlogW (s.baySealed b.val) s.now
          (80 + b.val) (s.pinUnit b u.toNat) 0x0311 [(0, 1, b.val), (1, 1, u.toNat), (4, 8, t.toNat)] []
        .next (s.compareDo b u.toNat act.toFin)
      else .next (s.setPin b u.toNat { x with cmp := some (t, act.toFin) }))

/-- CMPW with imm10[2] set (R128): the pending compare is cancelled. -/
def antCmpwCancel (b : BayId) (e : EngId) (u : Byte) (s : State) : State :=
  s.antPin b e u (fun s => .next (s.setPin b u.toNat { s.pin b u.toNat with cmp := none }))

/-- A shift unit with register n written (R144); indexes 6 and 7 name none. -/
def suPut (u : ShiftUnit) (n : Nat) (v : W32) : ShiftUnit :=
  match n with
  | 0 => { u with mode := v }
  | 1 => { u with div := v }
  | 2 => { u with frame := v }
  | 3 => { u with pins := v }
  | 4 => { u with idle := v }
  | 5 => { u with tail := v }
  | _ => u

/-- SUW (R128, R144). -/
def antSuw (b : BayId) (e : EngId) (ra : AReg) (n : BitVec 3) (s : State) : State :=
  s.antRun b e false (fun s =>
    let v := s.areg b e ra
    let u := suPut (s.eng b e.val).su n.toNat v
    if (unitPins u.pins).any (fun p => !s.engOwns b e p) then .fault 4
    else .next (((s.setSu b e.val u).suDriven b e.val).suStart b e.val))

/-- SUTX (R128): it waits while the FIFO of 16 words is full.
DESIGN CHOICE (log entry 88): the word being shifted out takes one of the 16 places. -/
def antSutx (b : BayId) (e : EngId) (ra : AReg) (s : State) : State :=
  s.antRun b e false (fun s =>
    let x := s.eng b e.val
    if 16 ≤ x.su.tx.length then .stay (s.setEng b e.val { x with stalled := true })
    else .next ((s.setSu b e.val { x.su with tx := x.su.tx ++ [x.reg ra] }).suStart b e.val))

/-- SURX (R128, R145): the overrun flag is returned once; the data read from an empty FIFO is a free value. Where Aa is also Ad, the flag word is written last and stands (DESIGN CHOICE, log entry 74). -/
def antSurx (b : BayId) (e : EngId) (d ra : AReg) (s : State) : State :=
  s.antRun b e false (fun s =>
    let u := (s.eng b e.val).su
    let s' := s.setSu b e.val { u with rx := u.rx.drop 1, overrun := false }
    match u.rx with
    | [] =>
      let f := s'.free 32
      .next ((f.2.setAreg b e d f.1).setAreg b e ra (BitVec.ofNat 32 (bitIf u.overrun 2 + bitIf true 31)))
    | (w, (p, fr)) :: _ => .next ((s'.setAreg b e d w).setAreg b e ra (BitVec.ofNat 32 (bitIf p 0 + bitIf fr 1 + bitIf u.overrun 2))))

/-- The input point of a post channel of a logical engine (R146, R483). -/
def State.postPoint (s : State) (b : BayId) (l ch : Nat) : Option Nat :=
  (s.sector.inputMap.find? (fun p => p.2.1 == 1 && p.2.2 == b.val * 2 ^ 16 + l * 2 ^ 11 + ch)).map (·.1)

/-- POST (R128, R135, R146): it waits while the queue of 64 is full. -/
def antPost (b : BayId) (e : EngId) (d ra : AReg) (ch : BitVec 10) (s : State) : State :=
  s.antRun b e false (fun s =>
    let x := s.eng b e.val
    if bitAt d 0 then .fault 1
    else match s.postPoint b x.logical ch.toNat with
      | none => .fault 7
      | some pt =>
        let y := s.bay b
        if 64 ≤ y.posts.length then
          let s := if x.stalled then s else (s.flag (R.BAY_STATUS b.val) 6).bump (R.CNT_STALL b.val)
          .stay (s.setEng b e.val { x with stalled := true })
        else
          let t := if d = 0 then s.now else s.pairOf b e d
          .next (s.setBay b { y with posts := y.posts ++ [⟨pt, x.reg ra &&& 0xffffffb7, t, 80 + b.val, x.logical, false⟩] }))

/-! ### Events and system -/

/-- EVRET (R134): chain to a pending event above the stacked LEVEL, or restore the frame.
The stack is checked before the stacked STATUS is read, so also before a chain, which pops nothing; a failed check halts, and the save area then holds the PC of the EVRET itself and 0 as the event being entered (DESIGN CHOICE, log entry 74). -/
def antEvret (b : BayId) (e : EngId) (s : State) : State :=
  s.antRun b e true (fun s =>
    let x := s.eng b e.val
    let sp := (x.reg 15).toNat
    if !s.stackOk b e sp then .stay (s.stackFail b e x.pc.toNat 0)
    else
      let st : W32 := BitVec.ofNat 32 (x.word (sp + 4))
      match x.takeable (bitsAt st 0 4) with
      | some (n, p, _) =>
        .stay (s.setEng b e.val { x with
          level := BitVec.ofNat 4 p, event := BitVec.ofNat 4 n, pc := BitVec.ofNat 32 (x.word (0x40 + 4 * n)), pend := assocDel x.pend n })
      | none =>
        let w (n : AReg) (o : Nat) (y : Engine) : Engine := y.setReg n (BitVec.ofNat 32 (x.word (sp + o)))
        let y := w 14 24 (w 4 20 (w 3 16 (w 2 12 (w 1 8 x))))
        .stay (s.setEng b e.val { y.setReg 15 (x.reg 15 + 32) with
          pc := BitVec.ofNat 32 (x.word sp), level := BitVec.ofNat 4 (bitsAt st 0 4), event := BitVec.ofNat 4 (bitsAt st 4 4)
          cause := BitVec.ofNat 4 (bitsAt st 8 4), ds := bitAt st 12 }))

/-- EVWAIT (R128, R132): the engine sleeps; the event taken stacks the next instruction. -/
def antEvwait (b : BayId) (e : EngId) (s : State) : State :=
  s.antRun b e true (fun s =>
    let x := s.eng b e.val
    .stay (s.setEng b e.val { x with st := .waiting, pc := x.pc + 4 }))

/-- EVCFG (R132): events 2 to 10 only. -/
def antEvcfg (b : BayId) (e : EngId) (ev : BitVec 4) (prio : BitVec 3) (en : Bool) (s : State) : State :=
  s.antRun b e false (fun s =>
    let x := s.eng b e.val
    if 2 ≤ ev.toNat ∧ ev.toNat ≤ 10 then .next (s.setEng b e.val { x with evcfg := assocSet x.evcfg ev.toNat (prio.toNat, en) })
    else .next s)

/-- EVPEND (R128): the owned pins whose capture FIFO is not empty. -/
def antEvpend (b : BayId) (e : EngId) (d : AReg) (s : State) : State :=
  s.antAlu b e d (fun s =>
    BitVec.ofNat 32 ((s.ownedPins b (s.eng b e.val).logical).foldl (fun acc u => acc + bitIf (!(s.pin b u).cap.isEmpty) u) 0))

/-- TMR (R128). -/
def antTmr (b : BayId) (e : EngId) (ra : AReg) (s : State) : State :=
  s.antRun b e false (fun s => .next (s.setEng b e.val { s.eng b e.val with timer := s.areg b e ra }))

/-- DOOR (R128, R131).
DESIGN CHOICE (log entry 88): one that names the engine itself raises its own DOOR event. -/
def antDoor (b : BayId) (e : EngId) (n : BitVec 5) (s : State) : State :=
  s.antRun b e false (fun s => .next (s.raiseLog b n.toNat 10 s.now))

/-- TSR (R128). -/
def antTsr (b : BayId) (e : EngId) (d : AReg) (s : State) : State :=
  s.antRun b e false (fun s => if bitAt d 0 then .fault 1 else .next (s.setPair b e d s.now))

/-- SYS u = 0 (R128). -/
def antSysIdV (b : BayId) (e : EngId) (d : AReg) (s : State) : State :=
  s.antAlu b e d (fun s =>
    let x := s.eng b e.val
    BitVec.ofNat 32 (x.logical + 256 * b.val + bitIf x.takeover 16))

/-! ### Commands -/

/-- ANT_EVENT_ENTRY (R133). -/
def execAntEventEntry (b : BayId) (e : EngId) (s : State) : Host.Outcome State Fault Refusal := .next (antEventEntry b e s)
/-- NOP (R128). -/
def execNop (b : BayId) (e : EngId) (s : State) : Host.Outcome State Fault Refusal := .next (s.antRun b e false (fun s => .next s))
/-- Ant ADD (R128). -/
def execAntAdd (b : BayId) (e : EngId) (d ra rb : AReg) (s : State) : Host.Outcome State Fault Refusal := .next (s.antOp b e d ra rb (· + ·))
/-- Ant SUB (R128). -/
def execAntSub (b : BayId) (e : EngId) (d ra rb : AReg) (s : State) : Host.Outcome State Fault Refusal := .next (s.antOp b e d ra rb (· - ·))
/-- Ant AND (R128). -/
def execAntAnd (b : BayId) (e : EngId) (d ra rb : AReg) (s : State) : Host.Outcome State Fault Refusal := .next (s.antOp b e d ra rb (· &&& ·))
/-- Ant OR (R128). -/
def execAntOr (b : BayId) (e : EngId) (d ra rb : AReg) (s : State) : Host.Outcome State Fault Refusal := .next (s.antOp b e d ra rb (· ||| ·))
/-- Ant XOR (R128). -/
def execAntXor (b : BayId) (e : EngId) (d ra rb : AReg) (s : State) : Host.Outcome State Fault Refusal := .next (s.antOp b e d ra rb (· ^^^ ·))
/-- SHL (R128). -/
def execShl (b : BayId) (e : EngId) (d ra rb : AReg) (s : State) : Host.Outcome State Fault Refusal :=
  .next (s.antOp b e d ra rb (fun x y => x <<< bitsAt y 0 5))
/-- SHR (R128). -/
def execShr (b : BayId) (e : EngId) (d ra rb : AReg) (s : State) : Host.Outcome State Fault Refusal :=
  .next (s.antOp b e d ra rb (fun x y => x >>> bitsAt y 0 5))
/-- SAR (R128). -/
def execSar (b : BayId) (e : EngId) (d ra rb : AReg) (s : State) : Host.Outcome State Fault Refusal :=
  .next (s.antOp b e d ra rb (fun x y => x.sshiftRight (bitsAt y 0 5)))
/-- Ant SLT (R128). -/
def execAntSlt (b : BayId) (e : EngId) (d ra rb : AReg) (s : State) : Host.Outcome State Fault Refusal :=
  .next (s.antOp b e d ra rb (fun x y => w32of (decide (x.toInt < y.toInt))))
/-- Ant SLTU (R128). -/
def execAntSltu (b : BayId) (e : EngId) (d ra rb : AReg) (s : State) : Host.Outcome State Fault Refusal :=
  .next (s.antOp b e d ra rb (fun x y => w32of (decide (x.toNat < y.toNat))))
/-- Ant MUL (R128). -/
def execAntMul (b : BayId) (e : EngId) (d ra rb : AReg) (s : State) : Host.Outcome State Fault Refusal := .next (s.antOp b e d ra rb (· * ·))
/-- Ant MULH (R128). -/
def execAntMulh (b : BayId) (e : EngId) (d ra rb : AReg) (s : State) : Host.Outcome State Fault Refusal := .next (s.antOp b e d ra rb mulHigh)
/-- CRCB (R128). -/
def execCrcb (b : BayId) (e : EngId) (d ra rb : AReg) (s : State) : Host.Outcome State Fault Refusal :=
  .next (s.antAlu b e d (fun s => crcb16 ((s.rd (R.CRC_POLY b.val)).truncate 16) (s.areg b e ra) (s.areg b e rb)))
/-- Ant ADDI (R128). -/
def execAntAddi (b : BayId) (e : EngId) (d ra : AReg) (imm : BitVec 18) (s : State) : Host.Outcome State Fault Refusal :=
  .next (s.antImm b e d ra (imm.signExtend 32) (· + ·))
/-- Ant ANDI (R128). -/
def execAntAndi (b : BayId) (e : EngId) (d ra : AReg) (imm : BitVec 18) (s : State) : Host.Outcome State Fault Refusal :=
  .next (s.antImm b e d ra (imm.zeroExtend 32) (· &&& ·))
/-- Ant ORI (R128). -/
def execAntOri (b : BayId) (e : EngId) (d ra : AReg) (imm : BitVec 18) (s : State) : Host.Outcome State Fault Refusal :=
  .next (s.antImm b e d ra (imm.zeroExtend 32) (· ||| ·))
/-- Ant XORI (R128). -/
def execAntXori (b : BayId) (e : EngId) (d ra : AReg) (imm : BitVec 18) (s : State) : Host.Outcome State Fault Refusal :=
  .next (s.antImm b e d ra (imm.zeroExtend 32) (· ^^^ ·))
/-- SHLI (R128). -/
def execShli (b : BayId) (e : EngId) (d ra : AReg) (sh : BitVec 5) (s : State) : Host.Outcome State Fault Refusal :=
  .next (s.antAlu b e d (fun s => s.areg b e ra <<< sh.toNat))
/-- SHRI (R128). -/
def execShri (b : BayId) (e : EngId) (d ra : AReg) (sh : BitVec 5) (s : State) : Host.Outcome State Fault Refusal :=
  .next (s.antAlu b e d (fun s => s.areg b e ra >>> sh.toNat))
/-- SARI (R128). -/
def execSari (b : BayId) (e : EngId) (d ra : AReg) (sh : BitVec 5) (s : State) : Host.Outcome State Fault Refusal :=
  .next (s.antAlu b e d (fun s => (s.areg b e ra).sshiftRight sh.toNat))
/-- Ant LUI (R128). -/
def execAntLui (b : BayId) (e : EngId) (d : AReg) (imm : BitVec 18) (s : State) : Host.Outcome State Fault Refusal :=
  .next (s.antAlu b e d (fun _ => imm.zeroExtend 32 <<< 14))
/-- Ant SLTI (R128). -/
def execAntSlti (b : BayId) (e : EngId) (d ra : AReg) (imm : BitVec 18) (s : State) : Host.Outcome State Fault Refusal :=
  .next (s.antImm b e d ra (imm.signExtend 32) (fun x y => w32of (decide (x.toInt < y.toInt))))
/-- LDW (R128). -/
def execLdw (b : BayId) (e : EngId) (d ra : AReg) (imm : BitVec 18) (s : State) : Host.Outcome State Fault Refusal := .next (s.antLoad b e d ra imm 4 false)
/-- LDH (R128). -/
def execLdh (b : BayId) (e : EngId) (d ra : AReg) (imm : BitVec 18) (s : State) : Host.Outcome State Fault Refusal := .next (s.antLoad b e d ra imm 2 true)
/-- LDHU (R128). -/
def execLdhu (b : BayId) (e : EngId) (d ra : AReg) (imm : BitVec 18) (s : State) : Host.Outcome State Fault Refusal := .next (s.antLoad b e d ra imm 2 false)
/-- LDB (R128). -/
def execLdb (b : BayId) (e : EngId) (d ra : AReg) (imm : BitVec 18) (s : State) : Host.Outcome State Fault Refusal := .next (s.antLoad b e d ra imm 1 true)
/-- LDBU (R128). -/
def execLdbu (b : BayId) (e : EngId) (d ra : AReg) (imm : BitVec 18) (s : State) : Host.Outcome State Fault Refusal := .next (s.antLoad b e d ra imm 1 false)
/-- STW (R128). -/
def execStw (b : BayId) (e : EngId) (d ra : AReg) (imm : BitVec 18) (s : State) : Host.Outcome State Fault Refusal := .next (s.antStore b e d ra imm 4)
/-- STH (R128). -/
def execSth (b : BayId) (e : EngId) (d ra : AReg) (imm : BitVec 18) (s : State) : Host.Outcome State Fault Refusal := .next (s.antStore b e d ra imm 2)
/-- STB (R128). -/
def execStb (b : BayId) (e : EngId) (d ra : AReg) (imm : BitVec 18) (s : State) : Host.Outcome State Fault Refusal := .next (s.antStore b e d ra imm 1)
/-- PRD (R128). -/
def execPrd (b : BayId) (e : EngId) (d : AReg) (u : Byte) (s : State) : Host.Outcome State Fault Refusal := .next (antPrd b e d u s)
/-- PWR (R128). -/
def execPwr (b : BayId) (e : EngId) (ra : AReg) (u : Byte) (imm : BitVec 10) (s : State) : Host.Outcome State Fault Refusal := .next (antPwr b e ra u imm s)
/-- CAPR (R142). -/
def execCapr (b : BayId) (e : EngId) (d ra : AReg) (u : Byte) (s : State) : Host.Outcome State Fault Refusal := .next (antCapr b e d ra u s)
/-- CMPW (R143). -/
def execCmpw (b : BayId) (e : EngId) (d : AReg) (u : Byte) (act : BitVec 2) (s : State) : Host.Outcome State Fault Refusal := .next (antCmpw b e d u act s)
/-- CMPW_CANCEL (R128). -/
def execCmpwCancel (b : BayId) (e : EngId) (u : Byte) (s : State) : Host.Outcome State Fault Refusal := .next (antCmpwCancel b e u s)
/-- SUW (R144). -/
def execSuw (b : BayId) (e : EngId) (ra : AReg) (n : BitVec 3) (s : State) : Host.Outcome State Fault Refusal := .next (antSuw b e ra n s)
/-- SUTX (R128). -/
def execSutx (b : BayId) (e : EngId) (ra : AReg) (s : State) : Host.Outcome State Fault Refusal := .next (antSutx b e ra s)
/-- SURX (R128). -/
def execSurx (b : BayId) (e : EngId) (d ra : AReg) (s : State) : Host.Outcome State Fault Refusal := .next (antSurx b e d ra s)
/-- POST (R146). -/
def execPost (b : BayId) (e : EngId) (d ra : AReg) (ch : BitVec 10) (s : State) : Host.Outcome State Fault Refusal := .next (antPost b e d ra ch s)
/-- Ant BEQ (R129). -/
def execAntBeq (b : BayId) (e : EngId) (n : Bool) (ra rb : AReg) (off : BitVec 17) (s : State) : Host.Outcome State Fault Refusal :=
  .next (s.antCond b e n ra rb off (fun x y => x == y))
/-- Ant BNE (R129). -/
def execAntBne (b : BayId) (e : EngId) (n : Bool) (ra rb : AReg) (off : BitVec 17) (s : State) : Host.Outcome State Fault Refusal :=
  .next (s.antCond b e n ra rb off (fun x y => x != y))
/-- Ant BLT (R129). -/
def execAntBlt (b : BayId) (e : EngId) (n : Bool) (ra rb : AReg) (off : BitVec 17) (s : State) : Host.Outcome State Fault Refusal :=
  .next (s.antCond b e n ra rb off (fun x y => decide (x.toInt < y.toInt)))
/-- Ant BGE (R129). -/
def execAntBge (b : BayId) (e : EngId) (n : Bool) (ra rb : AReg) (off : BitVec 17) (s : State) : Host.Outcome State Fault Refusal :=
  .next (s.antCond b e n ra rb off (fun x y => decide (y.toInt ≤ x.toInt)))
/-- Ant BLTU (R129). -/
def execAntBltu (b : BayId) (e : EngId) (n : Bool) (ra rb : AReg) (off : BitVec 17) (s : State) : Host.Outcome State Fault Refusal :=
  .next (s.antCond b e n ra rb off (fun x y => decide (x.toNat < y.toNat)))
/-- Ant BGEU (R129). -/
def execAntBgeu (b : BayId) (e : EngId) (n : Bool) (ra rb : AReg) (off : BitVec 17) (s : State) : Host.Outcome State Fault Refusal :=
  .next (s.antCond b e n ra rb off (fun x y => decide (y.toNat ≤ x.toNat)))
/-- JR (R129). -/
def execJr (b : BayId) (e : EngId) (n : Bool) (ra : AReg) (s : State) : Host.Outcome State Fault Refusal :=
  .next (s.antJump b e n false (fun s => s.areg b e ra))
/-- Ant JALR (R129). -/
def execAntJalr (b : BayId) (e : EngId) (n : Bool) (ra : AReg) (s : State) : Host.Outcome State Fault Refusal :=
  .next (s.antJump b e n true (fun s => s.areg b e ra))
/-- Ant J (R129). -/
def execAntJ (b : BayId) (e : EngId) (n : Bool) (off : BitVec 25) (s : State) : Host.Outcome State Fault Refusal :=
  .next (s.antJump b e n false (fun s => s.apc b e + (off.signExtend 32 <<< 2)))
/-- Ant JAL (R129). -/
def execAntJal (b : BayId) (e : EngId) (n : Bool) (off : BitVec 25) (s : State) : Host.Outcome State Fault Refusal :=
  .next (s.antJump b e n true (fun s => s.apc b e + (off.signExtend 32 <<< 2)))
/-- TSR (R128). -/
def execTsr (b : BayId) (e : EngId) (d : AReg) (s : State) : Host.Outcome State Fault Refusal := .next (antTsr b e d s)
/-- FRM (R128). -/
def execFrm (b : BayId) (e : EngId) (d : AReg) (s : State) : Host.Outcome State Fault Refusal :=
  .next (s.antAlu b e d (fun s => lo32 s.bcn.frame))
/-- EVRET (R134). -/
def execEvret (b : BayId) (e : EngId) (s : State) : Host.Outcome State Fault Refusal := .next (antEvret b e s)
/-- EVWAIT (R132). -/
def execEvwait (b : BayId) (e : EngId) (s : State) : Host.Outcome State Fault Refusal := .next (antEvwait b e s)
/-- EVCFG (R132). -/
def execEvcfg (b : BayId) (e : EngId) (ev : BitVec 4) (prio : BitVec 3) (en : Bool) (s : State) : Host.Outcome State Fault Refusal :=
  .next (antEvcfg b e ev prio en s)
/-- EVPEND (R128). -/
def execEvpend (b : BayId) (e : EngId) (d : AReg) (s : State) : Host.Outcome State Fault Refusal := .next (antEvpend b e d s)
/-- TMR (R128). -/
def execTmr (b : BayId) (e : EngId) (ra : AReg) (s : State) : Host.Outcome State Fault Refusal := .next (antTmr b e ra s)
/-- DOOR (R131). -/
def execDoor (b : BayId) (e : EngId) (n : BitVec 5) (s : State) : Host.Outcome State Fault Refusal := .next (antDoor b e n s)
/-- SYS u = 0 (R128). -/
def execAntSysId (b : BayId) (e : EngId) (d : AReg) (s : State) : Host.Outcome State Fault Refusal := .next (antSysIdV b e d s)
/-- SYS u = 1 (R126). -/
def execAntSysStatus (b : BayId) (e : EngId) (d : AReg) (s : State) : Host.Outcome State Fault Refusal :=
  .next (s.antAlu b e d (fun s => BitVec.ofNat 32 (s.eng b e.val).status))
/-- ANT_ILLEGAL_OPCODE (R128). -/
def execAntIllegalOpcode (b : BayId) (e : EngId) (s : State) : Host.Outcome State Fault Refusal :=
  .next (s.antRun b e false (fun _ => .fault 1))

end Sys2Proof.Machine
end

