-- ==== Sys2Proof/Machine/Deny.lean ====
section
/-! DEFINITION. Where an address lies, and the requests of units that are not cores that a sealed range refuses or that reach no berth (R310, R315, R335, R412, R413). -/

namespace Sys2Proof.Machine

/-- Where a device-physical or world-physical address lies (R339, R412). -/
def rangeOf (a : Nat) : Range :=
  if a < 0x100000000000 then .dram
  else if a < 0x110000000000 then .window
  else if 0x200000000000 ≤ a ∧ a < 0x300000000000 then .pcie
  else if 0x3e0000000000 ≤ a ∧ a < 0x3e0001000000 then .control
  else .nothing

/-- A request of a PCI Express agent (1), Lantern (2) or the debug port (3) reaches an unplaced berth or nothing. -/
def State.unplaced (s : State) (addr who : Nat) (write : Bool) : State :=
  ((s.flag R.BT_STATUS 3).bump R.CNT_UNPLACED).jlog s.now 104 0 0x0d05 [(0, 6, addr), (6, 1, who), (7, 1, b2n write)]

/-- Who an agent is, for SEALED_DENY and UNPLACED. -/
inductive Agent where
  | port | pcie | lantern | debug | keeper
deriving DecidableEq, Repr

/-- The requester field of R335 and R431. -/
def Agent.num : Agent → Nat
  | .pcie => 1
  | .lantern => 2
  | .debug => 3
  | _ => 0

/-- A sealed range refuses an agent (R310, R315): an Open one always, a Sealed one unless the range belongs to enclave 0; Keeper reaches every range. -/
def State.sealRefuses (s : State) (q : Agent) (w : Bool) (pa : Nat) : Bool :=
  match s.sealedAt pa with
  | none => false
  | some r => if q = .keeper then false else !w || bitsAt r.cfg 16 6 != 0

/-- A refused request to a sealed range (R315, R335). -/
def State.sealDeny (s : State) (q : Agent) (pa : Nat) (write : Bool) : State :=
  ((s.flag R.WD_STATUS 1).bump R.CNT_SEALED_DENY).jlog s.now 104 0 0x0a02
    [(0, 6, pa), (6, 1, q.num), (7, 1, b2n write)]

/-- A request to a berth that is not placed, or to no range, which is recorded for a PCI Express agent, Lantern and the debug port (R413). -/
def State.noPlace (s : State) (q : Agent) (pa : Nat) : Bool :=
  q != .keeper && q != .port &&
    (match rangeOf pa with
     | .dram => (s.sealedAt pa).isNone && (s.placeOf pa).isNone
     | .nothing => true
     | _ => false)

/-- What a request is recorded with, once, at its first address that is refused, unplaced or a write to the state window (R60, R315, R413).
l: its device-physical addresses, one in each granule it touches. -/
def State.requestNotes (s : State) (q : Agent) (w write : Bool) (l : List Nat) : State :=
  let s := match l.find? (fun pa => rangeOf pa == .dram && s.sealRefuses q w pa) with
    | some pa => s.sealDeny q pa write
    | none => s
  let s := match l.find? (s.noPlace q) with
    | some pa => s.unplaced pa q.num write
    | none => s
  match l.find? (fun pa => write && rangeOf pa == .window && !(s.lineSealed (pa / 64) && !w)) with
  | some pa => s.foreignWrite pa
  | none => s

end Sys2Proof.Machine
end

