-- ==== Sys2Proof/Machine/Homes.lean ====
section
/-! DEFINITION. The messages between private caches, home slices and memory, locking, range operations, rehoming and L3 errors (chapter Caches and Coherence). -/

namespace Sys2Proof.Machine

/-! ### L3 errors (R387, R389) -/

/-- The physical way that serves a logical way of a slice. -/
def State.physWay (s : State) (t : TileId) (w : Nat) : Nat :=
  if s.flagAt (R.L3_WAYMAP t.val) 4 && s.fld (R.L3_WAYMAP t.val) 0 4 == w then 16 else w

/-- A record of a slice about a line: set and address are masked where the line lies in a sealed range (R389). -/
def State.l3Log (s : State) (t : TileId) (line type : Nat) (plain masked : List (Nat × Nat × Nat)) : State :=
  s.jlogW (s.sealedAt (line * 64)).isSome s.now t.val 2 type plain masked

/-- A corrected error in an L3 line (R387). -/
def State.l3Corrected (s : State) (x : L3Line) (tag : Bool) : State :=
  let t := x.home
  let p := s.physWay t x.way
  let s := (s.bumpSat (R.L3_CE t.val p) 0 16).flag (R.L3_STATUS t.val) 1
  let n := s.fld (R.L3_CE t.val p) 0 16
  let s := s.l3Log t x.line 0x0b00 [(0, 1, p), (3, 1, b2n tag), (10, 2, n)] [(1, 2, x.line % 2048), (4, 6, x.line * 64)]
  if n = 16 then
    let s := ((s.flag (R.L3_STATUS t.val) 3).jlog s.now t.val 2 0x0b02 [(0, 1, p), (1, 1, t.val)]).judgeWorn 2 p t.val 0
    { s with hive := { s.hive with waySpare := s.hive.waySpare ++ [(t.val, x.way)] } }
  else s

/-- An uncorrectable error in an L3 line, counted and journaled (R387, R389). -/
def State.l3UeLog (s : State) (x : L3Line) : State :=
  let t := x.home
  let s := (s.bump (R.tile_CNT_UE t.val)).flag (R.L3_STATUS t.val) 2
  s.l3Log t x.line 0x0b01 [(0, 1, s.physWay t x.way), (3, 1, b2n x.dirty)] [(1, 2, x.line % 2048), (4, 6, x.line * 64)]

/-- An uncorrectable error in an L3 line: a clean line is discarded and read again, a dirty one is poisoned (R387). -/
def State.l3Uncorrectable (s : State) (x : L3Line) : State :=
  let s := s.l3UeLog x
  if x.dirty then s.l3Map x.line (fun y => { y with poison := 3 }) else s.l3Drop x.line

/-- What the SECDED of the L3 finds as the home looks a line up (R387). -/
def State.l3Check (s : State) (line : Nat) (e : L3Ecc) : State :=
  match s.l3Find line with
  | none => s
  | some x =>
    match e with
    | .clean => s
    | .corrected tag => s.l3Corrected x tag
    | .uncorrectable => s.l3Uncorrectable x

/-- The errors that lookups found by themselves are counted and journaled, oldest first (R387, `State.l3Look`). -/
def State.l3Seen (s : State) : State :=
  s.cache.l3seen.foldl (fun s e =>
    match e.2 with
    | .clean => s
    | .corrected tag => s.l3Corrected e.1 tag
    | .uncorrectable => s.l3UeLog e.1) { s with cache := { s.cache with l3seen := [] } }

/-- At a tick Hive replaces a worn way by the spare way, or takes it out of service where the spare is in use (R110, R387). -/
def State.l3WaySpare (s : State) (p : Nat × Nat) : State :=
  let t := tileOf p.1
  let w := p.2
  let mine := s.cache.l3.filter (fun x => x.home == t && x.way == w)
  let s := mine.foldl (fun s x => ((s.agentOrder x.line).cohCmo x.line true true true).2) s
  if s.flagAt (R.L3_WAYMAP t.val) 4 then
    let s := { s with cache := { s.cache with deadWays := assocSet s.cache.deadWays t.val (w :: assocD s.cache.deadWays t.val []) } }
    s.setFld (R.L3_LOCK t.val) w 1 0
  else
    (s.wr (R.L3_WAYMAP t.val) (BitVec.ofNat 32 (w + 16))).spareIn 1 w 16 t.val

/-- The oldest L3 way whose replacement waits for a tick: one at a tick (R104). -/
def State.l3Tick (s : State) : State :=
  match s.hive.waySpare with
  | [] => s
  | p :: r => { s with hive := { s.hive with waySpare := r } }.l3WaySpare p

/-- SNP_RET (R377). -/
def snpRet (line : LineAddr) (ans : SnpAns) (s : State) : State :=
  match s.txnFind line.toNat with
  | none => s.protoErr line.toNat
  | some x =>
    if x.rings = 0 then s
    else
      let x := match ans with
        | .dirty d p => { x with dirty := some (d, p.toNat), ownerSent := x.ownerSent || x.kind == .rdS, rings := x.rings - 1 }
        | .sent => { x with ownerSent := true, rings := x.rings - 1 }
        | _ => { x with rings := x.rings - 1 }
      if x.rings = 0 then (s.snoopsBack x).homeNext else s.setTxn x.line (some x)

/-- MEM_DATA (R361, R377, R426): the line allocates in the L3 on the fill of a read. poison is the SUB of the data's poison, 0 for none: 1 found by this read, 2 the poison code, which the line then holds in DRAM and keeps in the L3. -/
def memData (line : LineAddr) (data : Line) (poison : Fin 3) (s : State) : State :=
  let l := line.toNat
  match s.txnFind l with
  | none => s.protoErr l
  | some x =>
    match x.st with
    | .mem =>
      (s.memArrive x data poison.val).homeNext
    | .snpm => (s.l3Alloc l data false (if poison = 0 then 0 else 2)).txnSet { x with heldMem := some (data, poison.val) } .snp
    | _ => s

/-- WB (R377): the writeback reaches the home, so its entry has been sent (R365). A pending line of the state window is written to its task's version, and is stale once the task has left it (R386).
DESIGN CHOICE (log entry 38): a poisoned writeback is kept with SUB 9. -/
def wbMsg (k : CoreId) (line : LineAddr) (data : Line) (poison : Bool) (s : State) : State :=
  let l := line.toNat
  let s := s.ebSend k l
  let stale (s : State) (h : TileId) : State := (s.bump (R.CNT_WB_STALE h.val)).sendCoh (.wbStale k l)
  if windowLine ≤ l then
    (if (s.ebFind k l).any (fun e => pendOf (s.core k).task e.key) then
      let r := s.windowHome k l fullMask data
      (r.2.sendCoh (.wbAck k l)).fullStops r.1
    else stale s (s.homeOf l))
  else match s.txnFind l with
  | some x =>
    match x.st with
    | .mem => stale s x.home
    | .ack => stale s x.home
    | _ => s.setTxn l (some { x with heldWb := x.heldWb ++ [k] })
  | none =>
    match s.dirFind l with
    | some e =>
      if e.excl && e.owner == k then
        (((s.homeWrite l fullMask data true (if poison then 9 else 0)).setDir l none).sendCoh (.wbAck k l)).homeNext
      else stale s e.home
    | none => stale s (s.homeOf l)

/-- REVAL (R385): the request is counted (R525); the home settles the line and answers SAME or the new version. -/
def reval (k : CoreId) (line : LineAddr) (slot : Bool) (tick : W32) (s : State) : State :=
  let l := line.toNat
  let s := (s.settle l).count k 0x26 1
  let m := s.sline l
  if m.committed == slot && m.tag m.committed + 1 == tick then s.sendCoh (.same k l) else s.sendCoh (.version k l m.cdata m.committed (m.tag m.committed + 1))

/-! ### The L2's side (R365, R373, R374, R376) -/

/-- The new version of a state line on its way to a core (R385). -/
def CohMsg.versionFor (k : CoreId) (line : Nat) (m : CohMsg) : Bool :=
  match m with
  | .version j l _ _ _ => j == k && l == line
  | _ => false

/-- The version of a state line that its home has sent goes into the L2 with its key (R385). -/
def State.versionIn (s : State) (k : CoreId) (l : Nat) (data : Line) : State :=
  match s.cache.out.find? (CohMsg.versionFor k l) with
  | some (.version _ _ _ slot tick) =>
    if s.noRoom k l then s
    else
      let own := (s.svKey k l).task
      let key : StKey := { task := own, slot := slot, tick := tick, filled := s.bcn.frame }
      (((s.mshrDrop k l).l2Fill k l (if own.isSome then .e else .s) data 0 (some key))).outDrop (CohMsg.versionFor k l)
  | _ => s

/-- DATA (R374): the requester takes the line with its grant and sends DONE; with the eviction buffer full the message waits (R365). Of a state-window line it is the home's version (R385). -/
def dataMsg (k : CoreId) (line : LineAddr) (data : SentLine) (grant : Grant) (s : State) : State :=
  let l := line.toNat
  if windowLine ≤ l then s.versionIn k l data.line
  else if (s.mshrFind k l).isNone || s.noRoom k l then s
  else (s.dataIn k l data.line grant data.sub.toNat).sendCoh (.done k l)

/-- GRANT (R363): the line is filled with zeros. -/
def grantMsg (k : CoreId) (line : LineAddr) (s : State) : State :=
  let l := line.toNat
  if (s.mshrFind k l).any (·.zero) && !s.noRoom k l then (s.grantIn k l).sendCoh (.done k l) else s

/-- SAME (R385): a committed state copy stays current in this frame. -/
def sameMsg (k : CoreId) (line : LineAddr) (s : State) : State :=
  match s.l2Find k line.toNat with
  | some x =>
    match x.key with
    | some y => if y.task.isNone then s.l2Set' k { x with key := some { y with filled := s.bcn.frame } } else s
    | none => s
  | none => s

/-- NACK (R376): the retry waits for its backoff; a core counts it (R525). -/
def nackMsg (q : CohReq) (line : LineAddr) (s : State) : State :=
  match s.reqFind q line.toNat with
  | none => s
  | some m =>
    let s := s.reqSet q line.toNat (some { m with nacks := m.nacks + 1, waiting := true, fallback := false, due := s.now + BitVec.ofNat 64 (nackDelay (m.nacks + 1)) })
    match q with
    | .core k _ => s.count k 0x18 1
    | _ => s

/-- A request that a core may not send again yet: another FALLBACK request of it is outstanding (R376). -/
def State.fallbackOut (s : State) (q : CohReq) (line : Nat) : Bool :=
  match q with
  | .core k _ => (s.cc k).mshr.any (fun x => x.fallback && x.line != line)
  | _ => false

/-- NACK_RETRY (R376), once the backoff has passed: after the 16th NACK a core's request carries FALLBACK; while another FALLBACK request of the core is outstanding it waits. A unit without caches has no reserved entry in a waiting queue, and its request carries none (DESIGN CHOICE, log entry 90). -/
def nackRetry (q : CohReq) (line : LineAddr) (s : State) : State :=
  match s.reqFind q line.toNat with
  | none => s
  | some m =>
    if !m.waiting || s.fallbackOut q m.line then s
    else
      let s := s.advanceTo m.due
      match q with
      | .core k _ =>
        let fb := decide (16 ≤ m.nacks)
        ((s.reqSet q m.line (some { m with waiting := false, fallback := fb })).count k 0x19 (b2n fb)).sendCoh (.request q m.kind m.line fb)
      | _ => (s.reqSet q m.line (some { m with waiting := false })).sendCoh (.request q m.kind m.line false)

/-- WB_ACK and WB_STALE (R365): the eviction-buffer entry is freed. -/
def wbFreed (k : CoreId) (line : LineAddr) (s : State) : State :=
  match s.ebFind k line.toNat with
  | some e => if e.sent then s.ebFree k line.toNat else s
  | none => s

/-- DONE at the home (R374, R377). -/
def doneMessage (k : CoreId) (line : LineAddr) (s : State) : State := s.doneIn k line.toNat

/-! ### Requests as commands -/

/-- A berth that a range operation never touches: state backing, side stores and touch lists (R63, R67, R68, R381). -/
def State.hardBerth (s : State) (b : Nat) : Bool :=
  let within (first n : Nat) : Bool := decide (first ≤ b ∧ b < first + n)
  (List.range 16).any (fun r => s.regEn r &&
    within (s.fld (R.REG_BACK r) 0 21) (2 * s.fld (R.REG_SIZE r) 0 16 + (s.fld (R.REG_SIZE r) 0 16 + 3) / 4)) ||
  within (s.fld R.SIDE_BERTH 0 21) ((2 ^ s.fld R.SIDE_SIZE 0 5 * 128 + 2 ^ 21 - 1) / 2 ^ 21) ||
  within (s.fld R.TOUCH_BERTH 0 21) ((288 * 2 ^ s.fld R.TOUCH_SIZE 0 5 * 8 + 2 ^ 21 - 1) / 2 ^ 21)

/-- A cache operation never touches a berth: state backing and its kin, or one of a sealed range for an Open request (R381). -/
def State.rangeBars (s : State) (isSealed : Bool) (b : Nat) : Bool := s.hardBerth b || (!isSealed && (s.sealedAt (b * 2 ^ 21)).isSome)

/-- A request for a state-window line at its home (R59, R60, R73, R385): a core takes its task's version or the committed one, and its write goes to its task's version; any other unit reads the committed version and writes nothing. A line that is busy with a rehoming NACKs it (R369). -/
def State.windowAsk (s : State) (x : Txn) : State :=
  if s.lineBusy x.line then s.homeDefer x
  else
    match x.who, x.kind with
    | _, .cmo => s.txnReply x (0, 0)
    | .core k _, .wrNa =>
      let r := s.windowHome k x.line (maskOf x.first.val x.last.val) x.data
      (r.2.txnReply x (0, 0)).fullStops r.1
    | .core k _, kind =>
      let r := s.stRead (some ((s.core k).task, lo32 (s.core k).frame)) x.line
      let m := r.2.sline x.line
      if kind == .rdNa then r.2.txnReply x (r.1, 0) else r.2.sendCoh (.version k x.line r.1 m.committed (m.tag m.committed + 1))
    | _, .wrNa => (s.foreignWrite (x.line * 64 + x.first.val)).txnReply x (0, 0)
    | _, _ =>
      let r := s.agentRead x.line
      r.2.txnReply x (r.1, 0)

/-- A request at its home: outstanding at its requester, with the L3 looked up where the line can take it (R372, R376, R387). A line without a home starts nothing (R368). -/
def State.ask (s : State) (x : Txn) (ecc : L3Ecc) : State :=
  if !homed x.line then s
  else
    let s := s.reqOpen x.who x.line x.kind x.fallback (x.zero && x.kind == .rdX)
    if windowLine ≤ x.line then s.windowAsk x
    else (if s.lineBlocked x.line then s else s.l3Check x.line ecc).homeAdmit x

/-- A core as a requester in its world. -/
def State.coreAsk (s : State) (k : CoreId) : CohReq := .core k (s.core k).sealed

/-- RD_S at its home (R372, R387). -/
def rdSMsg (k : CoreId) (line : LineAddr) (fallback fetch : Bool) (ecc : L3Ecc) (s : State) : State :=
  s.ask { s.txnOf line.toNat .rdS (s.coreAsk k) with flag := fetch, fallback := fallback } ecc

/-- RD_X at its home (R363, R372). -/
def rdXMsg (k : CoreId) (line : LineAddr) (fallback : Bool) (x : XAsk) (s : State) : State :=
  s.ask { s.txnOf line.toNat .rdX (s.coreAsk k) with zero := x.zero, fallback := fallback } x.ecc

/-- The unit that a request comes from, where it is no core, and its world (R315, R413). -/
def askAgent : CohReq → Option (Agent × Bool)
  | .core _ _ => none
  | .pcie _ w => some (.pcie, w)
  | .lantern => some (.lantern, false)
  | .keeper => some (.keeper, true)
  | .debug => some (.debug, false)

/-- A request of a unit without caches that a sealed range refuses, or whose line is not placed, is recorded and gets zeros, or is dropped (R315, R413): the state then, and none where the request goes on. -/
def State.refuseAsk (s : State) (q : CohReq) (line : Nat) (write : Bool) : Option State :=
  match askAgent q with
  | none => none
  | some (a, w) =>
    let pa := line * 64
    if rangeOf pa = .nothing ∨ (rangeOf pa = .dram ∧ (s.sealRefuses a w pa ∨ (s.placeOf pa).isNone)) then
      some ((s.requestNotes a w write [pa]).sendCoh (.reply q line 0 0))
    else none

/-- RD_NA at its home (R315, R372, R413). -/
def rdNaMsg (q : CohAsk) (line : LineAddr) (s : State) : State :=
  (s.refuseAsk q.who line.toNat false).getD (s.ask { s.txnOf line.toNat .rdNa q.who with fallback := q.fallback } q.ecc)

/-- WR_NA at its home (R315, R372, R413): KEEP spares the requester's copy.
DESIGN CHOICE (log entry 38): a line that a poisoned payload marks is kept with SUB 9 (R405). -/
def wrNaMsg (q : CohAsk) (line : LineAddr) (first last : Fin 64) (data : Line) (keep : Bool) (s : State) : State :=
  (s.refuseAsk q.who line.toNat true).getD
    (s.ask { s.txnOf line.toNat .wrNa q.who with
      first := first, last := last, data := data, zero := keep, fallback := q.fallback, poison := if q.poison then 9 else 0 } q.ecc)

/-- CMO at its home (R372, R381): op 1 CLEAN, 2 INV, 3 CLINV; 0 is no request. One line of a berth that a range operation never touches is answered at once. -/
def cmoMsg (k : CoreId) (line : LineAddr) (x : CmoAsk) (s : State) : State :=
  if x.op = 0 then s
  else
    let t : Txn := { s.txnOf line.toNat .cmo (s.coreAsk k) with first := ⟨x.op.val, by omega⟩, fallback := x.fallback }
    if line.toNat < windowLine && s.rangeBars (s.core k).sealed (line.toNat / 32768) then s.txnReply t (0, 0) else s.ask t x.ecc

/-! ### Locking (R380) -/

/-- L3_LOCK: a completed pair (R380, R391). -/
def l3Lock (t : TileId) (v : W32) (s : State) : State :=
  if 12 < countIf (fun i => bitAt v i) (List.range 16) then s.flag (R.L3_STATUS t.val) 4
  else s.wr (R.L3_LOCK t.val) (BitVec.ofNat 32 (bitsAt v 0 16))

/-- The line of LF_ADDR. -/
def State.lfLine (s : State) (t : TileId) : Nat := (s.fld (R.LF_ADDR_HI t.val) 0 14 * 2 ^ 32 + (s.rd (R.LF_ADDR_LO t.val)).toNat) / 64

/-- LOCK_FILL: an LF_CTL.GO pair (R380). -/
def lockFill (t : TileId) (way : BitVec 4) (s : State) : State :=
  let s := s.wr (R.LF_CTL t.val) (BitVec.ofNat 32 (way.toNat * 2))
  let line := s.lfLine t
  if !homed line || s.homeOf line != t || !s.flagAt (R.HOME_PIN (s.classOf line)) 0 || !s.flagAt (R.L3_LOCK t.val) way.toNat ||
      (assocD s.cache.deadWays t.val []).contains way.toNat then s.flag (R.L3_STATUS t.val) 4
  else { s with cache := { s.cache with lockFill := s.cache.lockFill ++ [({ tile := t, line := line, way := way.toNat } : LockFill)] } }

/-- LF_DONE (R380): the line is in its way; what was there is cleaned and invalidated. Each is a transaction of its own at its home, so the lock-fill does not end while another holds one of the lines (R375, R378). -/
def lfDone (t : TileId) (s : State) : State :=
  match s.cache.lockFill.find? (fun f => f.tile == t) with
  | none => s
  | some f =>
    let olds := (s.cache.l3.filter (fun x => x.home == t && x.way == f.way && x.line % 2048 == f.line % 2048 && x.line != f.line)).map (·.line)
    if (f.line :: olds).any s.lineBusy then s
    else
      let s := { s with cache := { s.cache with lockFill := s.cache.lockFill.erase f } }
      let s := olds.foldl (fun s l => (s.cohCmo l true true true).2) s
      let r := s.memoryRead f.line
      let dirty := match s.l3Find f.line with
        | some x => x.dirty
        | none => false
      (s.l3PutWay t f.line f.way r.1 dirty r.2).flag (R.L3_STATUS t.val) 5

/-! ### Range operations (R381, R382) -/

/-- GO of RNG_CTL (R382); the range registers are one set for the device (R391). -/
def rangeGo (op : Fin 4) (t : TileId) (force : Bool) (q : Requester) (s : State) : State :=
  let s := s.wr (R.RNG_CTL 0) (BitVec.ofNat 32 (op.val * 2 + bitIf force 3))
  if s.cache.range.isSome then s.flag (R.L3_STATUS t.val) 7
  else
    let a := s.fld (R.RNG_BASE_HI 0) 0 14 * 2 ^ 32 + (s.rd (R.RNG_BASE_LO 0)).toNat
    let b := s.fld (R.RNG_END_HI 0) 0 14 * 2 ^ 32 + (s.rd (R.RNG_END_LO 0)).toNat
    { s with cache := { s.cache with range := some ⟨t, op, force, q.sealed, a / 64, b / 64, a / 64, 0, 0⟩ } }

/-- A range operation skips a berth. -/
def State.rangeSkips (s : State) (r : RangeOp) (b : Nat) : Bool := s.rangeBars r.sealed b

/-- The lines a range operation handles: those of each berth it does not skip. -/
def State.rangeLines (s : State) (r : RangeOp) : Nat :=
  (rangeFrom (r.base / 32768) ((r.stop + 32767) / 32768 - r.base / 32768)).foldl (fun acc b =>
    if s.rangeSkips r b then acc else acc + (min r.stop ((b + 1) * 32768) - max r.base (b * 32768))) 0

/-- The lines held anywhere, or that a transaction is open on, that a range operation reaches, ascending (R375, R382). -/
def State.rangeHeld (s : State) (r : RangeOp) : List Nat :=
  let l := s.cache.txns.map (·.line) ++ s.cache.l3.map (·.line) ++ s.cache.cores.flatMap (fun c => c.2.l2.map (·.line) ++ c.2.eb.map (·.line))
  sortBy (fun a b => decide (a < b)) ((l.filter (fun x => decide (r.base ≤ x ∧ x < r.stop ∧ x < windowLine) && !s.rangeSkips r (x / 32768))).eraseDups)

/-- RNG_END (R381, R382): each line is a transaction of its own at its home, so the operation does not end while another holds one of them (R375). -/
def rngEnd (t : TileId) (s : State) : State :=
  match s.cache.range with
  | none => s
  | some r =>
    if r.tile != t || (s.rangeHeld r).any s.lineBusy then s
    else
      let clean := r.op.val == 1 || r.op.val == 3
      let inv := r.op.val == 2 || r.op.val == 3
      let x := (s.rangeHeld r).foldl (fun (acc : Nat × State) l =>
        let c := acc.2.cohCmo l clean inv r.force
        (acc.1 + b2n c.1, c.2)) (0, s)
      let n := s.rangeLines r
      let s := { x.2 with cache := { x.2.cache with range := none } }
      (s.flag (R.L3_STATUS t.val) 6).jlog s.now t.val 2 0x0b10 [(0, 1, r.op.val), (1, 1, b2n r.force), (2, 4, n), (6, 4, x.1)]

/-! ### Rehoming (R369) -/

/-- At a tick class c takes a new home set; its old home slices drain (R102, R104, R369). -/
def State.rehome (s : State) (cls first size : Nat) : State :=
  let old := s.homeSet cls
  let s := { s with hive := { s.hive with homes := assocSet s.hive.homes cls (first, size) } }
  if old = (first, size) then s
  else { s with cache := { s.cache with drains := s.cache.drains ++ [({ cls := cls, first := old.1, size := old.2, lines := 0 } : Drain)] } }

/-- RH_DRAIN (R369): every directory entry of the class is recalled and every L3 line written back and dropped; the drain does not finish while a transaction is open on a line of the class (R378). Which old slice finishes last is a free value. -/
def rhDrain (cls : Fin 64) (s : State) : State :=
  match s.cache.drains.find? (fun d => d.cls == cls.val) with
  | none => s
  | some d =>
    if s.cache.txns.any (fun x => s.classOf x.line == cls.val) then s
    else
      let ls := s.drainLines cls.val
      let s := ls.foldl (fun s l => s.drainLine l) s
      let s := { s with cache := { s.cache with drains := s.cache.drains.erase d } }
      let f := s.free 8
      let t := (d.first + f.1.toNat % 2 ^ d.size) % 72
      let s := f.2.jlog f.2.now t 2 0x0b11 [(0, 1, cls.val), (1, 4, d.lines + ls.length)]
      s.cache.queue.foldl (fun s _ => s.homeNext) s

/-! ### Commands -/

/-- RD_S (R372). -/
def execRdS (k : CoreId) (line : LineAddr) (fallback fetch : Bool) (ecc : L3Ecc) (s : State) : Host.Outcome State Fault Refusal :=
  .next (s.awake (rdSMsg k line fallback fetch ecc))
/-- RD_X (R372). -/
def execRdX (k : CoreId) (line : LineAddr) (fallback : Bool) (x : XAsk) (s : State) : Host.Outcome State Fault Refusal :=
  .next (s.awake (rdXMsg k line fallback x))
/-- RD_NA (R372). -/
def execRdNa (q : CohAsk) (line : LineAddr) (s : State) : Host.Outcome State Fault Refusal := .next (s.awake (rdNaMsg q line))
/-- WR_NA (R372). -/
def execWrNa (q : CohAsk) (line : LineAddr) (first last : Fin 64) (data : Line) (keep : Bool) (s : State) : Host.Outcome State Fault Refusal :=
  .next (s.awake (wrNaMsg q line first last data keep))
/-- WB (R377). -/
def execWb (k : CoreId) (line : LineAddr) (data : Line) (poison : Bool) (s : State) : Host.Outcome State Fault Refusal := .next (s.awake (wbMsg k line data poison))
/-- CMO (R372). -/
def execCmo (k : CoreId) (line : LineAddr) (x : CmoAsk) (s : State) : Host.Outcome State Fault Refusal := .next (s.awake (cmoMsg k line x))
/-- REVAL (R385). -/
def execReval (k : CoreId) (line : LineAddr) (slot : Bool) (tick : W32) (s : State) : Host.Outcome State Fault Refusal := .next (s.awake (reval k line slot tick))
/-- SNP_S (R373). -/
def execSnpS (k : CoreId) (line : LineAddr) (s : State) : Host.Outcome State Fault Refusal := .next (s.snoopMsg k line.toNat .rdS)
/-- SNP_X (R373). -/
def execSnpX (k : CoreId) (line : LineAddr) (s : State) : Host.Outcome State Fault Refusal := .next (s.snoopMsg k line.toNat .rdX)
/-- SNP_CLN (R373). -/
def execSnpCln (k : CoreId) (line : LineAddr) (s : State) : Host.Outcome State Fault Refusal := .next (s.snoopMsg k line.toNat .rdNa)
/-- SNP_RET (R377). -/
def execSnpRet (line : LineAddr) (ans : SnpAns) (s : State) : Host.Outcome State Fault Refusal := .next (s.awake (snpRet line ans))
/-- DATA (R374). -/
def execData (k : CoreId) (line : LineAddr) (data : SentLine) (grant : Grant) (s : State) : Host.Outcome State Fault Refusal :=
  .next (dataMsg k line data grant s)
/-- GRANT (R363). -/
def execGrant (k : CoreId) (line : LineAddr) (s : State) : Host.Outcome State Fault Refusal := .next (grantMsg k line s)
/-- SAME (R385). -/
def execSame (k : CoreId) (line : LineAddr) (s : State) : Host.Outcome State Fault Refusal := .next (s.awake (sameMsg k line))
/-- MEM_DATA (R377). -/
def execMemData (line : LineAddr) (data : Line) (poison : Fin 3) (s : State) : Host.Outcome State Fault Refusal := .next (s.awake (memData line data poison))
/-- NACK (R376). -/
def execNack (q : CohReq) (line : LineAddr) (s : State) : Host.Outcome State Fault Refusal := .next (nackMsg q line s)
/-- NACK_RETRY (R376). -/
def execNackRetry (q : CohReq) (line : LineAddr) (s : State) : Host.Outcome State Fault Refusal := .next (nackRetry q line s)
/-- DONE_MESSAGE (R374). -/
def execDoneMessage (k : CoreId) (line : LineAddr) (s : State) : Host.Outcome State Fault Refusal := .next (s.awake (doneMessage k line))
/-- WB_ACK (R365). -/
def execWbAck (k : CoreId) (line : LineAddr) (s : State) : Host.Outcome State Fault Refusal := .next (wbFreed k line s)
/-- WB_STALE (R365). -/
def execWbStale (k : CoreId) (line : LineAddr) (s : State) : Host.Outcome State Fault Refusal := .next (wbFreed k line s)
/-- RH_DRAIN (R369). -/
def execRhDrain (cls : Fin 64) (s : State) : Host.Outcome State Fault Refusal := .next (rhDrain cls s)
/-- L3_LOCK (R380). -/
def execL3Lock (t : TileId) (v : W32) (_q : Requester) (s : State) : Host.Outcome State Fault Refusal := .next (s.blockWrite (0x50 + t.val) (l3Lock t v))
/-- LOCK_FILL (R380). -/
def execLockFill (t : TileId) (way : BitVec 4) (_q : Requester) (s : State) : Host.Outcome State Fault Refusal := .next (s.blockWrite (0x50 + t.val) (lockFill t way))
/-- LF_DONE (R380). -/
def execLfDone (t : TileId) (s : State) : Host.Outcome State Fault Refusal := .next (lfDone t s)
/-- RANGE_CLEAN (R381). -/
def execRangeClean (t : TileId) (force : Bool) (q : Requester) (s : State) : Host.Outcome State Fault Refusal := .next (s.blockWrite (0x50 + t.val) (rangeGo 1 t force q))
/-- RANGE_INV (R381). -/
def execRangeInv (t : TileId) (force : Bool) (q : Requester) (s : State) : Host.Outcome State Fault Refusal := .next (s.blockWrite (0x50 + t.val) (rangeGo 2 t force q))
/-- RANGE_CLINV (R381). -/
def execRangeClinv (t : TileId) (force : Bool) (q : Requester) (s : State) : Host.Outcome State Fault Refusal := .next (s.blockWrite (0x50 + t.val) (rangeGo 3 t force q))
/-- RNG_END (R382). -/
def execRngEnd (t : TileId) (s : State) : Host.Outcome State Fault Refusal := .next (rngEnd t s)

end Sys2Proof.Machine
end

