-- ==== Sys2Proof/Machine/Ring.lean ====
section
/-! DEFINITION. The ring fabric: slots at stations, lanes, probes and traces (chapter The Ring Fabric). -/

namespace Sys2Proof.Machine

/-- A ring of the fabric. -/
def State.rg (s : State) (r : Nat) : RingSt := assocD s.ring.rings r {}
/-- Replaces a ring. -/
def State.setRg (s : State) (r : Nat) (x : RingSt) : State := { s with ring := { s.ring with rings := assocSet s.ring.rings r x } }

/-! ### Stations and routes (R392, R393, R397) -/

/-- The number of positions of a ring: 11 on an H ring, 10 on a V ring. -/
def ringLen (r : Nat) : Nat := if r < 8 then 11 else 10

/-- The station at a position of a ring (R393). -/
def stationAt (r p : Nat) : Nat :=
  if r < 8 then (if p = 0 then 72 + r else if p = 10 then 80 + r else 9 * r + (p - 1))
  else (if p = 0 then 80 + r else if p = 9 then 89 + r else 9 * (p - 1) + (r - 8))

/-- The position of a station on a ring, if it sits there. -/
def posOn (r st : Nat) : Option Nat := (List.range (ringLen r)).find? (fun p => stationAt r p == st)

/-- The ring of a kind (V rather than H) that holds a station. -/
def ringFor (v : Bool) (st : Nat) : Option Nat :=
  (if v then rangeFrom 8 9 else List.range 8).find? (fun r => (posOn r st).isSome)

/-- The kind of the ring of a leg: FIRST on legs 0 and 2, the other on leg 1. -/
def legKind (p : Packet) (leg : Nat) : Bool := if leg = 1 then !p.first else p.first

/-- The ring of the leg after the current one: VIA for leg 1 of three, else the ring that holds DST (R397). -/
def nextRing (p : Packet) : Option Nat :=
  let k := legKind p (p.leg.val + 1)
  if p.leg.val = 0 && p.via.val != 15 then some (if k then 8 + p.via.val else p.via.val) else ringFor k p.dst.val

/-- The leg after the current one exists. -/
def hasNextLeg (p : Packet) : Bool := decide (p.leg.val < (if p.via.val = 15 then 1 else 2))

/-- The header of a packet without HPAR (R395). -/
def headerBase (p : Packet) : Nat :=
  p.dst.val + p.src.val * 2 ^ 8 + bitIf p.first 16 + p.dirs.toNat * 2 ^ 17 + p.via.val * 2 ^ 20 + p.leg.val * 2 ^ 24 +
  p.cls.val * 2 ^ 26 + bitIf p.sealed 28 + p.type.val * 2 ^ 29 + p.laps.val * 2 ^ 34 + bitIf p.prio 38 + bitIf p.trace 39 +
  p.tag.toNat * 2 ^ 40 + p.addr.toNat * 2 ^ 52 + p.task.toNat * 2 ^ 92 + bitIf p.fallback 105 + bitIf p.keep 106 +
  bitIf p.zero 107 + p.firstB.val * 2 ^ 108 + p.lastB.val * 2 ^ 114

/-- The parity of the low n bits of a number. -/
def parityOf (x : Nat) : Nat → Bool
  | 0 => false
  | n + 1 => parityOf x n != x.testBit n

/-- A packet's header as 128 bits (R395). -/
def headerOf (p : Packet) : Nat :=
  let h := headerBase p
  h + ((List.range 8).foldl (fun acc i => acc + bitIf (parityOf (h >>> (16 * i)) 16) i) 0) * 2 ^ 120

/-! ### Probes and traces (R407, R409) -/

/-- A packet matches the filter of probe k of a ring block; a Sealed packet never does (R407). -/
def State.probeMatch (s : State) (r k : Nat) (p : Packet) : Bool :=
  let c := s.rd (R.PRB_CFG r k)
  let m := s.rd (R.PRB_MATCH r k)
  let same (a v mask : Nat) : Bool := (a ^^^ v) &&& mask == 0
  !p.sealed && (bitAt c 12 || bitsAt c 7 5 == p.type.val) && (bitAt c 15 || bitsAt c 13 2 == p.cls.val) &&
  same p.src.val (bitsAt m 0 8) (bitsAt m 8 8) && same p.dst.val (bitsAt m 16 8) (bitsAt m 24 8)

/-- A trace entry is written unless the buffer has stopped (R409). -/
def State.traceWrite (s : State) (r k pos : Nat) (lane : Nat) (dir : Bool) (p : Packet) : State :=
  let n := s.fld (R.TRC_WPTR r) 0 9
  if 256 ≤ n then s
  else
    let x := s.rg r
    let e := headerOf p + s.now.toNat * 2 ^ 128 + k * 2 ^ 192 + pos * 2 ^ 200 + lane * 2 ^ 208 + b2n dir * 2 ^ 216
    let s := s.setRg r { x with trace := x.trace.take n ++ List.replicate (n - x.trace.length) 0 ++ [BitVec.ofNat 256 e] ++ x.trace.drop (n + 1) }
    let s := s.setFld (R.TRC_WPTR r) 0 9 (n + 1)
    if n + 1 = 256 then s.flag (R.RG_STATUS r) 7 else s

/-- One probe sees a packet leave a position (R407). -/
def State.probeSee (s : State) (r k pos : Nat) (lane : Nat) (dir : Bool) (p : Packet) : Packet × State :=
  let c := s.rd (R.PRB_CFG r k)
  if bitsAt c 0 2 = 0 || bitsAt c 2 4 != pos || bitAt c 6 != dir then (p, s)
  else if bitsAt c 0 2 = 1 then (p, s.bump (R.PRB_CNT r k))
  else if !s.probeMatch r k p then (p, s)
  else
    let s := s.bump (R.PRB_CNT r k)
    if bitsAt c 0 2 = 3 then ({ p with trace := true }, s.traceWrite r k pos lane dir p) else (p, s)

/-! ### Errors of a slot (R404, R405) -/

/-- A direction of a ring. -/
def RingSt.dir (x : RingSt) (d : Bool) : RingDir := if d then x.dir1 else x.dir0
/-- Replaces a direction. -/
def RingSt.setDir (x : RingSt) (d : Bool) (y : RingDir) : RingSt := if d then { x with dir1 := y } else { x with dir0 := y }

/-- A lane fails: the change is made at the next tick. -/
def State.laneFail (s : State) (r : Nat) (dir : Bool) (lane : Nat) : State :=
  let g := s.rg r
  let d := g.dir dir
  if 3 ≤ lane || bitAt d.failed lane then s
  else s.setRg r (g.setDir dir { d with failing := putBits d.failing lane 1 1 })

/-- A slot with a header parity error is dropped (R404); a lane with more errors in a beacon than RG_LANE_LIM fails (R406). -/
def State.hparDrop (s : State) (x : RingPass) : State :=
  let r := x.ring.val
  let g := s.rg r
  let d := g.dir x.dir
  let n := assocD d.errs x.lane.val 0 + 1
  let s := s.setRg r (g.setDir x.dir { d with errs := assocSet d.errs x.lane.val n })
  let s := ((s.bump (R.CNT_HPAR r)).flag (R.RG_STATUS r) 1).jlog s.now (stationAt r x.pos.val) 0 0x0c00
    [(0, 1, r), (1, 1, b2n x.dir), (2, 1, x.lane.val), (3, 1, x.pos.val)]
  if s.fld (R.RG_LANE_LIM r) 0 16 < n then s.laneFail r x.dir x.lane.val else s

/-- The ring block whose stations include a station: a tile's and an end's of an H ring, or that of its V ring (R392, R411). -/
def blockOf (st : Nat) : Nat := if st < 72 then st / 9 else if st < 80 then st - 72 else if st < 88 then st - 80 else if st < 97 then st - 80 else st - 89

/-- A payload error found at the destination: 1 corrected, 2 poisoned (R405). -/
def State.payErr (s : State) (x : RingPass) : State :=
  let r := blockOf x.pkt.dst.val
  if x.pay.val = 0 then s
  else
    let ue := x.pay.val = 2
    let s := if ue then (s.bump (R.CNT_PAY_UE r)).flag (R.RG_STATUS r) 3 else (s.bump (R.CNT_PAY_CE r)).flag (R.RG_STATUS r) 2
    s.jlogW (s.sealedAt (x.pkt.addr.toNat * 64)).isSome s.now x.pkt.dst.val 0 0x0c01
      [(0, 1, b2n ue), (1, 1, x.pkt.src.val)] [(4, 6, x.pkt.addr.toNat * 64)]

/-! ### Lanes (R406) -/

/-- One failed lane of a direction at the tick: the spare takes its place, or the direction loses it. -/
def State.ringSwap (s : State) (r : Nat) (dir : Bool) (lane : Nat) : State :=
  let g := s.rg r
  let d := g.dir dir
  let used := bitAt d.inUse lane
  let failed := putBits d.failed lane 1 1
  let inUse := putBits d.inUse lane 1 0
  let spare := (List.range 3).find? (fun i => !bitAt failed i && !bitAt inUse i && !bitAt d.failing i)
  let inUse' := match spare with
    | some i => if used then putBits inUse i 1 1 else inUse
    | none => inUse
  let down := inUse' = 0
  let s := s.setRg r (g.setDir dir { d with failed := failed, failing := putBits d.failing lane 1 0, inUse := inUse', down := down })
  let s := if used then
      (s.flag (R.RG_STATUS r) 4).jlog s.now (if r < 8 then 72 + r else 80 + r) 0 0x0c02
        [(0, 1, r), (1, 1, b2n dir), (2, 1, lane), (3, 1, spare.getD 0xff), (4, 1, countIf (fun i => bitAt inUse' i) (List.range 3))]
    else s
  if down ∧ !d.down then
    (s.flag (R.RG_STATUS r) 5).jlog s.now (if r < 8 then 72 + r else 80 + r) 0 0x0c03 [(0, 1, r), (1, 1, b2n dir)]
  else s

/-- A ring at a tick: failed lanes change and parity errors count anew. -/
def State.ringTick1 (s : State) (r : Nat) : State :=
  let one (s : State) (dir : Bool) : State :=
    let d := (s.rg r).dir dir
    let s := ((List.range 3).filter (fun l => bitAt d.failing l)).foldl (fun s l => s.ringSwap r dir l) s
    let d := (s.rg r).dir dir
    if d.errs.isEmpty then s else s.setRg r ((s.rg r).setDir dir { d with errs := [] })
  one (one s false) true

/-- The fabric at a tick (R406); the answer says that both directions of some ring are down, which Lantern takes as a failed device (R463). -/
def State.ringTick (s : State) : Bool × State :=
  let s := (List.range 17).foldl (fun s r => s.ringTick1 r) s
  ((List.range 17).any (fun r => (s.rg r).dir0.down && (s.rg r).dir1.down), s)

/-- The 14 bits of RG_LANES (R411). -/
def RingSt.lanes (x : RingSt) : Nat :=
  x.dir0.inUse.toNat + 8 * x.dir1.inUse.toNat + 64 * x.dir0.failed.toNat + 512 * x.dir1.failed.toNat + bitIf x.dir0.down 12 + bitIf x.dir1.down 13

/-- LANE_TEST: an RG_LANE_TEST.GO pair (R406, R411). -/
def laneTest (ring : Fin 17) (v : W32) (s : State) : State :=
  let s := s.wr (R.RG_LANE_TEST ring.val) (v &&& 7)
  if bitAt v 3 then s.laneFail ring.val (bitAt v 2) (bitsAt v 0 2) else s

/-- TRACE_RESTART: a write of 0 to TRC_WPTR; the next match is written as entry 0 (R409). -/
def traceRestart (ring : Fin 17) (s : State) : State := s.wr (R.TRC_WPTR ring.val) 0

/-! ### Timeouts (R404) -/

/-- 2^20 ring cycles of 2/3 ns have passed since a stamp (R404). -/
def State.ringLate (s : State) (since : Stamp) : Bool := decide (2 ^ 21 ≤ 3 * (s.now - since).toNat)

/-- RING_TIMEOUT is journaled by the station that gives up; the TAG of the transaction is a free value (R404, R410). -/
def State.timeoutLog (s : State) (home : Bool) (st line : Nat) : State :=
  let f := s.free 12
  (f.2.flag (R.RG_STATUS (blockOf st)) 6).jlogW (s.sealedAt (line * 64)).isSome s.now st 0 0x0c04
    [(0, 1, b2n home), (1, 1, st), (2, 2, f.1.toNat)] [(4, 6, line * 64)]

/-- RING_HOME_TIMEOUT (R404): a line that has been transient for 2^20 ring cycles is written to the L3 with the dirty data held, and returns to I. -/
def ringHomeTimeout (line : LineAddr) (s : State) : State :=
  let l := line.toNat
  match s.txnFind l with
  | none => s
  | some x =>
    if !s.ringLate x.since then s else
    let s := match x.dirty with
      | some d => s.homeWrite l fullMask d.1 true d.2
      | none => s
    let s := ((s.wbStales x).setTxn l none).setDir l none
    ((s.unpark l).timeoutLog true x.home.val l).homeNext

/-! ### Commands -/

/-- RING_HOME_TIMEOUT (R404). -/
def execRingHomeTimeout (line : LineAddr) (s : State) : Host.Outcome State Fault Refusal := .next (ringHomeTimeout line s)
/-- RING_LANE_FAIL (R406). -/
def execRingLaneFail (ring : Fin 17) (dir : Bool) (lane : Fin 3) (s : State) : Host.Outcome State Fault Refusal :=
  .next (s.awake (fun s => s.laneFail ring.val dir lane.val))
/-- LANE_TEST (R406). -/
def execLaneTest (ring : Fin 17) (v : W32) (s : State) : Host.Outcome State Fault Refusal := .next (s.blockWrite (0x38 + ring.val) (laneTest ring v))
/-- TRACE_RESTART (R409). -/
def execTraceRestart (ring : Fin 17) (s : State) : Host.Outcome State Fault Refusal := .next (s.blockWrite (0x38 + ring.val) (traceRestart ring))

end Sys2Proof.Machine
end

