-- ==== Sys2Proof/Machine/Memc.lean ====
section
/-! DEFINITION. The memory controllers, patrol, hard errors, migration and the berth table (chapter Memory, Berths and Error Handling). -/

namespace Sys2Proof.Machine

/-! ### Places and addresses (R415, R418, R429) -/

/-- Row bits of a module configuration (R415). -/
def rowBits (cfg : W32) : Nat := if bitAt cfg 2 then 17 else 16

/-- A channel line decoded as DEC_RESULT lays it out (R415, R433). -/
def decodeChan (cfg : W32) (cl : Nat) : W32 :=
  let a := cl * 64
  let f (lo w : Nat) : Nat := (a / 2 ^ lo) % 2 ^ w
  let rb := rowBits cfg
  let rank := if bitAt cfg 1 then f (19 + rb) 1 else 0
  let dimm := if bitAt cfg 0 then f (19 + rb + b2n (bitAt cfg 1)) 1 else 0
  BitVec.ofNat 32 (f 6 1 + f 16 3 * 2 + f 14 2 * 16 + rank * 64 + dimm * 128 + f 19 rb * 256 + f 7 7 * 2 ^ 25)

/-- The bank index of a decoded line (R415). -/
def bankOf (dec : W32) : Nat :=
  bitsAt dec 7 1 * 128 + bitsAt dec 6 1 * 64 + bitsAt dec 0 1 * 32 + bitsAt dec 1 3 * 4 + bitsAt dec 4 2

/-- PLACES of a channel (R432). -/
def State.placesOf (s : State) (ch : Nat) : Nat := s.fld (R.MC_CFG ch) 3 18

/-- Places of a channel that valid berths use, in ascending order. -/
def State.validPlaces (s : State) (ch : Nat) : List Nat :=
  sortBy (fun a b => decide (a < b)) ((s.mem.bt.filter (fun p => bitAt p.2 27 && bitsAt p.2 0 4 == ch)).map (fun p => bitsAt p.2 4 17))

/-- A place is bad (R424). -/
def State.placeBad (s : State) (ch off : Nat) : Bool := s.mem.bad.contains (ch, off)

/-- Places of a channel that are not free: valid, bad, or the target of a copy, in ascending order. -/
def State.usedPlaces (s : State) (ch : Nat) : List Nat :=
  sortBy (fun a b => decide (a < b))
    (s.validPlaces ch ++ (s.mem.bad.filter (fun p => p.1 == ch)).map (·.2) ++
      (s.mem.copies.filter (fun p => p.2.dstCh == ch)).map (fun p => p.2.dstOff))

/-- The lowest number from a up that a rising list does not hold. -/
def firstGap (a : Nat) : List Nat → Nat
  | [] => a
  | x :: r => if x < a then firstGap a r else if x = a then firstGap (a + 1) r else a

/-- The lowest free place of a channel (R418, R422). -/
def State.freePlace (s : State) (ch : Nat) : Option Nat :=
  let g := firstGap 0 (s.usedPlaces ch)
  if g < s.placesOf ch then some g else none

/-- A place is free (R419). -/
def State.placeFree (s : State) (ch off : Nat) : Bool :=
  decide (off < s.placesOf ch) && !(s.usedPlaces ch).contains off

/-- The station of a channel: tiles 72 to 79 for MEMC0 to MEMC7, 88 to 92 for MEMC8 to MEMC12 (R392). -/
def memStation (ch : Nat) : Nat := if ch < 8 then 72 + ch else 80 + ch

/-! ### The log (R429) and journal records of reads (R431) -/

/-- Where a read comes from: a demand, the patrol or a copy. -/
inductive ReadSrc where
  | demand | patrol | copy
deriving DecidableEq, Repr

/-- Bits 0 and 1 of an entry's flags. -/
def ReadSrc.bits : ReadSrc → Nat
  | .demand => 0
  | .patrol => 1
  | .copy => 2

/-- The channel line lies in a sealed range. -/
def State.chanSealed (s : State) (ch cl : Nat) : Bool := (s.berthAt ch cl).isSome && (s.sealedAt (s.addrOf ch cl)).isSome

/-- Writes an entry into MEMC.LOG under the pointer rules of R55. -/
def State.memLog (s : State) (ch cl kind flags dev20 : Nat) (rewrite : Stamp) : State :=
  let pa := s.addrOf ch cl
  let dec := decodeChan (s.rd (R.MC_CFG ch)) cl
  let sealedBit := b2n (s.chanSealed ch cl)
  let ent := s.now.toNat + pa * 2 ^ 64 + kind * 2 ^ 112 + (flags + 8 * sealedBit) * 2 ^ 120 + dec.toNat * 2 ^ 128 +
    dev20 * 2 ^ 160 + bankOf dec * 2 ^ 168 + rewrite.toNat * 2 ^ 192
  let w := s.rd (R.LOG_WPTR ch)
  let full := decide (64 ≤ (w - s.rd (R.LOG_RPTR ch)).toNat)
  let m := s.memc ch
  let s := s.setMemc ch { m with log := assocSet m.log (w.toNat % 64) (BitVec.ofNat 256 ent) }
  let s := s.wr (R.LOG_WPTR ch) (w + 1)
  if full then (s.bump (R.LOG_LOST ch)).flag (R.MC_STATUS ch) 5 else s

/-- Journals a record about a line: the address and what locates it are masked for a sealed range (R332, R431). -/
def State.memRec (s : State) (ch cl type : Nat) (plain masked : List (Nat × Nat × Nat)) : State :=
  let pa := s.addrOf ch cl
  s.jlogW (s.chanSealed ch cl) s.now (memStation ch) 0 type ((0, 1, ch) :: plain) ((4, 6, pa) :: masked)

/-- Bank index of a channel line. -/
def State.bankAt (s : State) (ch cl : Nat) : Nat := bankOf (decodeChan (s.rd (R.MC_CFG ch)) cl)

/-- Adds 1 to a saturating 16-bit bank count. -/
def bankAdd (l : List (Nat × Nat)) (b : Nat) : List (Nat × Nat) := assocSet l b (min 65535 (assocD l b 0 + 1))

/-- A line is classed hard (R427): logged, journaled, counted, and its owned berth waits to be moved (R424). -/
def State.classHard (s : State) (ch cl : Nat) (src : ReadSrc) (e : HardEnt) : State :=
  let m := s.memc ch
  let b := s.bankAt ch cl
  let m := { m with
    hard := m.hard.map (fun x => if x.line == cl then { x with hard := true } else x)
    bankHard := bankAdd m.bankHard b }
  let s := (((s.setMemc ch m).flag (R.MC_STATUS ch) 3).bump (R.CNT_HARD ch)).memLog ch cl 3 src.bits (e.device + 16 * e.codeword) e.stamp
  let mins := min 65535 ((s.now - e.stamp).toNat / 60000000000)
  let s := s.memRec ch cl 0x0d02 [] [(1, 1, b), (2, 2, assocD m.bankHard b 0), (10, 2, mins)]
  match s.berthAt ch cl with
  | some x =>
    if bitAt (s.btEntry x) 30 && !s.mem.hardPlaces.contains x then
      { s with mem := { s.mem with hardPlaces := s.mem.hardPlaces ++ [x] } }
    else s
  | none => s

/-- A corrected read queues the corrective write of the line through the merge buffer (R427). -/
def State.corrWrite (s : State) (ch cl device codeword : Nat) : State :=
  let r := s.readChan ch cl
  let s := s.chanWrite ch cl fullMask r.1 r.2 false
  let m := s.memc ch
  let tag (e : MergeEnt) : MergeEnt := if e.line == cl then { e with corr := some (device, codeword) } else e
  s.setMemc ch { m with merge := m.merge.map tag, input := m.input.map tag }

/-- One corrected symbol (R427, R429). -/
def State.corrSymbol (s : State) (ch cl : Nat) (src : ReadSrc) (device codeword : Nat) : State :=
  let hit := (s.memc ch).hard.find? (fun e => e.line == cl && e.live s.now)
  let again := hit.any (·.hard)
  let flags := src.bits + bitIf again 2
  let b := s.bankAt ch cl
  let m := s.memc ch
  let s := ((s.setMemc ch { m with bankCe := bankAdd m.bankCe b }).flag (R.MC_STATUS ch) 1).bump (R.CNT_CE ch)
  let s := s.memLog ch cl 1 flags (device + 16 * codeword) 0
  let s := s.memRec ch cl 0x0d00 [(1, 1, flags)] [(2, 1, device + 16 * codeword), (3, 1, b)]
  match hit with
  | some e => if e.hard then s else s.classHard ch cl src e
  | none => s

/-- At most one symbol of each codeword, in order (R423). -/
def perCodeword (l : List (Fin 10 × Fin 8)) : List (Fin 10 × Fin 8) :=
  l.foldl (fun acc x => if acc.any (fun y => y.2 == x.2) then acc else acc ++ [x]) []

/-- A corrected read (R423, R427): each codeword's symbol is logged, and one corrective write of the line is queued; a miscorrected line is written back as the decoder gave it.
DESIGN CHOICE (log entry 86): a read corrected in several codewords counts and logs one correction for each, and its hard-table symbol is the first. -/
def State.corrected (s : State) (ch cl : Nat) (src : ReadSrc) (device : Fin 10) (codeword : Fin 8) (more : List (Fin 10 × Fin 8)) (wrong : Option Line) : State :=
  let s := match wrong with
    | some d => s.dramPut ch cl fullMask d
    | none => s
  let s := (perCodeword ((device, codeword) :: more)).foldl (fun s x => s.corrSymbol ch cl src x.1.val x.2.val) s
  s.corrWrite ch cl device.val codeword.val

/-- An uncorrectable read, or a read of the poison code (R426, R429). -/
def State.unreadable (s : State) (ch cl : Nat) (src : ReadSrc) (code : Bool) : State :=
  let b := s.bankAt ch cl
  let s := (s.flag (R.MC_STATUS ch) 2).bump (R.memc_CNT_UE ch)
  let s := s.memLog ch cl (if code then 4 else 2) src.bits 255 0
  s.memRec ch cl 0x0d01 [(1, 1, src.bits + bitIf code 3)] [(3, 1, b)]

/-- The poisoned lines that controllers have read for requests, and for the drains of narrow writes, are logged (R425, R426, R429), and the errors that lookups found in the L3 (R387). -/
def State.memNotes (s : State) : State :=
  let s := s.l3Seen
  let l := s.mem.seen
  l.foldl (fun s p => s.unreadable p.1 p.2 .demand true) { s with mem := { s.mem with seen := [] } }

/-- A read of a line by a controller: its ECC is decoded, and the data and the SUB of its poison, 0 for none, are those of R425 and R426. -/
def State.eccRead (s : State) (ch cl : Nat) (src : ReadSrc) (e : EccOutcome) : (Line × Nat) × State :=
  if s.dramPoison ch cl then (((s.readChan ch cl).1, 2), s.unreadable ch cl src true)
  else match e with
    | .clean => (((s.readChan ch cl).1, if (s.readChan ch cl).2 then 2 else 0), s)
    | .corrected d w m x =>
      let s := s.corrected ch cl src d w m x
      (((s.readChan ch cl).1, if (s.readChan ch cl).2 then 2 else 0), s)
    | .uncorrectable =>
      let s := s.performWrite ch cl fullMask (s.dramLine ch cl) true none
      let s := s.setPoison ch cl true
      (((s.readChan ch cl).1, 1), s.unreadable ch cl src false)

/-- The modules of a channel are out of self-refresh: its memory channel domain is up (R505, R507). -/
def State.chanUp (s : State) (ch : Nat) : Bool := s.domReady (80 + ch)

/-- MEM_RD (R425): the controller reads the line, decodes its ECC and returns MEM_DATA, decrypted in a sealed range (R316). A channel that is down gives no data and no error (R507). -/
def memRd (c : Fin 13) (line : BitVec 32) (e : EccOutcome) (s : State) : State :=
  if !s.chanUp c.val then s
  else
    let r := s.eccRead c.val line.toNat .demand e
    let pa := r.2.addrOf c.val line.toNat
    r.2.memNotes.sendCoh (.memData (pa / 64) (if (r.2.berthAt c.val line.toNat).isSome then r.2.cipher xtsOpen pa r.1.1 else r.1.1) r.1.2)

/-- MEM_WR (R425, R426): performed, or merged in the merge buffer; encrypted in a sealed range (R316). A channel that is down takes none (R507). -/
def memWr (c : Fin 13) (line : BitVec 32) (first last : Fin 64) (data : Line) (poison : Bool) (s : State) : State :=
  let ch := c.val
  let cl := line.toNat
  let mask := maskOf first.val last.val
  if !s.chanUp ch then s
  else match s.berthAt ch cl with
    | some _ => (s.sealChan (s.addrOf ch cl) ch cl mask data poison).memNotes
    | none => (s.chanWrite ch cl mask data poison (mask == fullMask)).memNotes

/-- MERGE_DRAIN (R425): the oldest entry drains. -/
def mergeDrain (c : Fin 13) (s : State) : State := (s.drainOne c.val).memNotes

/-! ### Patrol and initialisation (R428, R481) -/

/-- The place and line a patrol reads next: the first valid place at or after its position. -/
def State.patrolNext (s : State) (ch : Nat) : Option (Nat × Nat) :=
  let m := s.memc ch
  match (s.validPlaces ch).find? (fun o => decide (m.patrolOff ≤ o)) with
  | some o => some (o, if o = m.patrolOff then m.patrolLine else 0)
  | none => none

/-- The pass ends: the next read begins at the first valid place. -/
def State.patrolEnd (s : State) (ch : Nat) : State :=
  let m := s.memc ch
  ((s.setMemc ch { m with patrolOff := 0, patrolLine := 0 }).bump (R.PATROL_PASSES ch)).flag (R.MC_STATUS ch) 4

/-- The time from one patrol read to the next, which spreads a pass evenly over HOURS hours (R428); what remains of a ns is dropped (DESIGN CHOICE, log entry 80). -/
def State.patrolGap (s : State) (ch : Nat) : Nat := max 1 (s.fld (R.PATROL_CTL ch) 1 8) * 3600000000000 / (32768 * (s.validPlaces ch).length)

/-- PATROL_READ (R428): when its turn has come, Weevil reads the next line; the pass ends after the last line of the last valid place. -/
def patrolRead (c : Fin 13) (e : EccOutcome) (s : State) : State :=
  let ch := c.val
  if s.boot.step != 14 || !s.flagAt (R.PATROL_CTL ch) 0 || (assoc? s.boot.initPass ch).isSome then s
  else
    match s.patrolNext ch with
    | none => if (s.validPlaces ch).isEmpty then s else s.patrolEnd ch
    | some (o, l) =>
      let s := s.advanceTo ((s.memc ch).patrolAt + BitVec.ofNat 64 (s.patrolGap ch))
      let s := (s.eccRead ch (o * 32768 + l) .patrol e).2
      let m := s.memc ch
      let s := s.setMemc ch { m with
        patrolAt := s.now
        patrolOff := if l + 1 < 32768 then o else o + 1
        patrolLine := if l + 1 < 32768 then l + 1 else 0 }
      if (s.patrolNext ch).isNone then s.patrolEnd ch else s

/-- A place that the initialisation pass skips: its berth was zero-filled at step 11, it is a copy target, or it is bad (R424, R481). -/
def State.initSkip (s : State) (ch off : Nat) : Bool :=
  s.placeBad ch off || s.mem.copies.any (fun p => p.2.dstCh == ch && p.2.dstOff == off) ||
  s.mem.bt.any (fun p => bitAt p.2 27 && bitAt p.2 29 && bitsAt p.2 0 4 == ch && bitsAt p.2 4 17 == off)

/-- The first place from off up that the pass covers, of n places left. -/
def State.initPlace (s : State) (ch : Nat) : Nat → Nat → Option Nat
  | _, 0 => none
  | off, n + 1 => if s.initSkip ch off then s.initPlace ch (off + 1) n else some off

/-- INITIALISATION_PASS (R481): zero data into the next line of the pass, at 2 GB/s: 64 B every 32 ns. -/
def initialisationPass (c : Fin 13) (s : State) : State :=
  let ch := c.val
  match assoc? s.boot.initPass ch with
  | none => s
  | some pos =>
    let done (s : State) : State := { s with boot := { s.boot with initPass := assocDel s.boot.initPass ch } }
    match s.initPlace ch (pos / 32768) (s.placesOf ch - pos / 32768) with
    | none => done s
    | some o =>
      let cl := if o = pos / 32768 then pos else o * 32768
      let s := s.advanceTo ((s.memc ch).patrolAt + 32)
      let s := (s.setMemc ch { s.memc ch with patrolAt := s.now }).arrayWrite ch cl fullMask 0 false
      let s := { s with boot := { s.boot with initPass := assocSet s.boot.initPass ch (cl + 1) } }
      if (s.initPlace ch ((cl + 1) / 32768) (s.placesOf ch - (cl + 1) / 32768)).isNone then done s else s

/-! ### Migration (R419 to R422) -/

/-- Cause numbers of BERTH_COPY (R431). -/
def MigCause.num : MigCause → Nat
  | .placement => 0
  | .sparing => 1
  | .retirement => 2
  | .placeRetire => 3

/-- A free copy slot. -/
def State.copySlot (s : State) : Option Nat := (List.range 16).find? (fun i => (assoc? s.mem.copies i).isNone)

/-- A copy of a berth starts (R419): MIG is 1, and BERTH_COPY is journaled. -/
def State.copyStart (s : State) (b ch off : Nat) (cause : MigCause) : State :=
  match s.copySlot with
  | none => s
  | some i =>
    let e := s.btEntry b
    let c : Copy := { berth := b, srcCh := bitsAt e 0 4, srcOff := bitsAt e 4 17, dstCh := ch, dstOff := off,
                      ptr := 0, readSent := false, unacked := [], heldWr := [], cause := cause }
    ((s.setCopy i c).setBt b (putBits e 28 1 1)).jlog s.now 104 0 0x0d03
      [(0, 4, b), (4, 1, c.srcCh), (5, 1, ch), (6, 3, off), (9, 1, cause.num)]

/-- A copy is complete and every forwarded write is acknowledged (R421). -/
def Copy.ready (c : Copy) : Bool := decide (32768 ≤ c.ptr) && c.unacked.isEmpty && c.heldWr.isEmpty

/-- Drops a copy slot. -/
def State.dropCopy (s : State) (i : Nat) : State := { s with mem := { s.mem with copies := assocDel s.mem.copies i } }

/-- PL_MIG_BW in tenths of a byte per ns: its unit is 100 MB/s (R104, R118). -/
def State.migBw (s : State) : Nat := s.fld R.PL_MIG_BW 0 16

/-- What the copied lines still draw (R104). -/
def State.migLeft (s : State) : Nat := s.mem.migDebt - s.migBw * (s.now - s.mem.migSeen).toNat

/-- A copied line waits until the lines before it have drawn no more than PL_MIG_BW, and then draws its own 64 B read and 64 B write (R104, R419; that both count is a DESIGN CHOICE, log entry 78). -/
def State.migPace (s : State) : State :=
  let s := s.advanceTo (s.mem.migSeen + BitVec.ofNat 64 ((s.mem.migDebt + s.migBw - 1) / s.migBw))
  { s with mem := { s.mem with migDebt := s.migLeft + 1280, migSeen := s.now } }

/-- MIGRATION_COPY_LINE (R419, R420): within PL_MIG_BW the source reads line p and sends it to the target; an uncorrectable line carries the poison code. -/
def migrationCopyLine (slot : Fin 16) (e : EccOutcome) (s : State) : State :=
  match assoc? s.mem.copies slot.val with
  | none => s
  | some c =>
    if c.readSent || decide (32768 ≤ c.ptr) then s
    else
      let s := s.migPace
      let r := s.eccRead c.srcCh (c.srcOff * 32768 + c.ptr) .copy e
      let s := r.2.arrayWrite c.dstCh (c.dstOff * 32768 + c.ptr) fullMask r.1.1 (r.1.2 != 0)
      match assoc? s.mem.copies slot.val with
      | none => s
      | some c => s.setCopy slot.val { c with readSent := true }

/-- The oldest write held for a line is performed at the source and forwarded (R420). -/
def State.releaseHeld (s : State) (i l : Nat) : State :=
  match assoc? s.mem.copies i with
  | none => s
  | some c =>
    match c.heldWr.find? (fun e => e.line % 32768 == l) with
    | none => s
    | some e => (s.setCopy i { c with heldWr := c.heldWr.erase e }).performWrite c.srcCh e.line e.mask e.data e.poison e.corr

/-- COPY_WRITE_ACK (R420): the target has performed a copied or a forwarded write of a line. -/
def copyWriteAck (slot : Fin 16) (line : BitVec 15) (s : State) : State :=
  let l := line.toNat
  match assoc? s.mem.copies slot.val with
  | none => s
  | some c =>
    if l = c.ptr ∧ c.readSent then
      let s := s.setCopy slot.val { c with ptr := c.ptr + 1, readSent := false }
      let s := if c.ptr + 1 = 32768 then (s.flag R.BT_STATUS 1).bump R.CNT_COPY else s
      s.releaseHeld slot.val l
    else if c.unacked.contains l then
      (s.setCopy slot.val { c with unacked := c.unacked.erase l }).releaseHeld slot.val l
    else s

/-- Drains the merge entries of a place to both places (R421 step 2). -/
def State.drainPlace (s : State) (c : Copy) : State :=
  let m := s.memc c.srcCh
  let mine (e : MergeEnt) : Bool := e.line / 32768 == c.srcOff
  let waiting := match m.input with
    | some e => [e]
    | none => []
  let l := (m.merge ++ waiting).filter mine
  let s := s.setMemc c.srcCh { m with merge := m.merge.filter (fun e => !mine e), input := m.input.filter (fun e => !mine e) }
  l.foldl (fun s e =>
    ((s.arrayWrite c.srcCh e.line e.mask e.data e.poison).corrDone c.srcCh e.line e.corr).arrayWrite c.dstCh
      (c.dstOff * 32768 + e.line % 32768) e.mask e.data e.poison) s

/-- A source place whose berth has moved away becomes bad, and the book records it (R424, R465). -/
def State.markBad (s : State) (ch off b : Nat) : State :=
  let s := { s with mem := { s.mem with bad := s.mem.bad ++ [(ch, off)], hardPlaces := s.mem.hardPlaces.filter (· != b) } }
  ((s.flag R.BT_STATUS 2).jlog s.now 104 0 0x0d04 [(0, 1, ch), (1, 3, off), (4, 4, b)]).judgeWorn 4 0 ch off

/-- The cause that BERTH_SWITCH gives (R116): a place retirement counts as a retirement. -/
def MigCause.switchNum : MigCause → Nat
  | .placement => 0
  | .sparing => 1
  | .retirement => 2
  | .placeRetire => 2

/-- Hive switches a berth to its target place (R421); a source place that is hard becomes bad, whatever the move was for (R424). -/
def State.berthSwitch (s : State) (i : Nat) : State :=
  match assoc? s.mem.copies i with
  | none => s
  | some c =>
    let s := (s.drainPlace c).dropCopy i
    let e := putBits (putBits (putBits (s.btEntry c.berth) 0 4 c.dstCh) 4 17 c.dstOff) 28 1 0
    let s := s.setBt c.berth e
    let s := ((((s.flag R.BT_STATUS 0).bump R.berth_CNT_SWITCH).flag R.HV_STATUS 7).bump R.HV_CNT_MIG).jlog s.now 97 0 0x0212
      [(0, 4, c.berth), (4, 1, c.srcCh), (5, 1, c.dstCh), (6, 1, c.cause.switchNum)]
    if c.cause = .placeRetire ∨ s.mem.hardPlaces.contains c.berth then s.markBad c.srcCh c.srcOff c.berth else s

/-- Hive abandons a copy whose target channel is judged worn (R421): the source performs the writes that it held for the copy. -/
def State.copyAbandon (s : State) (i : Nat) : State :=
  match assoc? s.mem.copies i with
  | none => s
  | some c =>
    let s := (s.dropCopy i).setBt c.berth (putBits (s.btEntry c.berth) 28 1 0)
    c.heldWr.foldl (fun s e => s.performWrite c.srcCh e.line e.mask e.data e.poison e.corr) s

/-! ### Commands -/

/-- MEM_RD (R425). -/
def execMemRd (c : Fin 13) (line : BitVec 32) (e : EccOutcome) (s : State) : Host.Outcome State Fault Refusal := .next (s.awake (memRd c line e))
/-- MEM_WR (R425). -/
def execMemWr (c : Fin 13) (line : BitVec 32) (first last : Fin 64) (data : Line) (poison : Bool) (s : State) : Host.Outcome State Fault Refusal :=
  .next (s.awake (memWr c line first last data poison))
/-- MERGE_DRAIN (R425). -/
def execMergeDrain (c : Fin 13) (s : State) : Host.Outcome State Fault Refusal := .next (mergeDrain c s)
/-- PATROL_READ (R428). -/
def execPatrolRead (c : Fin 13) (e : EccOutcome) (s : State) : Host.Outcome State Fault Refusal := .next (patrolRead c e s)
/-- INITIALISATION_PASS (R481). -/
def execInitialisationPass (c : Fin 13) (s : State) : Host.Outcome State Fault Refusal := .next (initialisationPass c s)
/-- MIGRATION_COPY_LINE (R420). -/
def execMigrationCopyLine (slot : Fin 16) (e : EccOutcome) (s : State) : Host.Outcome State Fault Refusal := .next (migrationCopyLine slot e s)
/-- COPY_WRITE_ACK (R420). -/
def execCopyWriteAck (slot : Fin 16) (line : BitVec 15) (s : State) : Host.Outcome State Fault Refusal := .next (copyWriteAck slot line s)

end Sys2Proof.Machine
end

