-- ==== Sys2Proof/Machine/Agents.lean ====
section
/-! DEFINITION. Accesses of agents that are not cores: stage 2 for world-physical addresses, sealed ranges, unplaced berths and the state window (R59, R60, R310, R315, R339, R346, R388, R413). -/

namespace Sys2Proof.Machine

/-- Eight bytes of DRAM as the home holds them. -/
def State.peek64 (s : State) (pa : Nat) : W64 := BitVec.ofNat 64 (lineNum (s.memoryRead (pa / 64)).1 (pa % 64) 8)

/-- The stage-2 table of a world: base and number of entries (R347). -/
def State.s2Table (s : State) (w : Bool) : W64 × Nat := if w then s.boot.s2Sealed else s.boot.s2Open

/-- The stage-2 entry of a granule, where the table has one and V is 1 (R346). -/
def State.s2Entry (s : State) (w : Bool) (g : Nat) : Option W64 :=
  let t := s.s2Table w
  if t.2 ≤ g then none
  else
    let e := s.peek64 (t.1.toNat + 8 * g)
    if bitAt e 0 then some e else none

/-- A world-physical address translated for an agent (R339, R447): none where its granule is not mapped, or it lies in no range. -/
def State.agentXlate (s : State) (w : Bool) (wpa : Nat) : Option Nat :=
  match rangeOf wpa with
  | .dram => (s.s2Entry w (wpa / 2 ^ 21)).map (fun e => bitsAt e 21 25 * 2 ^ 21 + wpa % 2 ^ 21)
  | .nothing => none
  | _ => some wpa

/-- A translation for a write also needs WR (R346, R348). -/
def State.agentXlateW (s : State) (w : Bool) (wpa : Nat) : Option Nat :=
  match rangeOf wpa with
  | .dram => (s.s2Entry w (wpa / 2 ^ 21)).bind (fun e => if bitAt e 1 then some (bitsAt e 21 25 * 2 ^ 21 + wpa % 2 ^ 21) else none)
  | .nothing => none
  | _ => some wpa

/-- A line read by an agent at a device-physical address: zeros where it is refused, unplaced or nothing (R59, R315, R413). -/
def State.agentLine (s : State) (q : Agent) (w : Bool) (pa : Nat) : Line × State :=
  match rangeOf pa with
  | .dram =>
    if s.sealRefuses q w pa || (s.placeOf pa).isNone then (0, s)
    else
      let r := s.naReadLine (pa / 64)
      (r.1.1, r.2.memNotes)
  | .window => if s.lineSealed (pa / 64) && !w then (0, s) else s.agentRead (pa / 64)
  | _ => (0, s)

/-- Bytes of a line written by an agent at a device-physical address: dropped where refused, unplaced or nothing; a write to the state window does nothing (R60, R315, R413). -/
def State.agentWrite (s : State) (q : Agent) (w : Bool) (pa : Nat) (bs : List Byte) : State :=
  match rangeOf pa with
  | .dram =>
    if s.sealRefuses q w pa || (s.placeOf pa).isNone then s else (s.naWriteIn pa bs.length (leNat bs)).memNotes
  | _ => s

/-- Bytes of a line. -/
def lineBytes (l : Line) (o n : Nat) : List Byte := toBytes (BitVec.ofNat (8 * n) (lineNum l o n)) n

/-- n bytes read at a device-physical address, in pieces that lie in one line each, of at most fuel lines. -/
def State.agentReads (s : State) (q : Agent) (w : Bool) (pa n : Nat) : Nat → List Byte × State
  | 0 => ([], s)
  | k + 1 =>
    if n = 0 then ([], s)
    else
      let m := min n (64 - pa % 64)
      let r := s.agentLine q w pa
      let rest := r.2.agentReads q w (pa + m) (n - m) k
      (lineBytes r.1 (pa % 64) m ++ rest.1, rest.2)

/-- Bytes written at a device-physical address, line by line. -/
def State.agentWrites (s : State) (q : Agent) (w : Bool) (pa : Nat) (bs : List Byte) : Nat → State
  | 0 => s
  | k + 1 =>
    match bs with
    | [] => s
    | _ =>
      let m := min bs.length (64 - pa % 64)
      (s.agentWrite q w pa (bs.take m)).agentWrites q w (pa + m) (bs.drop m) k

/-- The lines that n bytes can touch. -/
def lineFuel (n : Nat) : Nat := n / 64 + 2

/-- A translation for a read or for a write. -/
def State.agentAddr (s : State) (w write : Bool) (wpa : Nat) : Option Nat := if write then s.agentXlateW w wpa else s.agentXlate w wpa

/-- The first address of a buffer in each granule that it touches. -/
def granules (wpa n : Nat) : List Nat :=
  (rangeFrom (wpa / 2 ^ 21) ((wpa + n - 1) / 2 ^ 21 - wpa / 2 ^ 21 + 1)).map (fun g => max wpa (g * 2 ^ 21))

/-- Every byte of a buffer translates (R437, R447). -/
def State.mapped (s : State) (w write : Bool) (wpa n : Nat) : Bool :=
  (granules wpa n).all (fun a => (s.agentAddr w write a).isSome)

/-- The records of a request for a buffer. -/
def State.bufNotes (s : State) (q : Agent) (w write : Bool) (wpa n : Nat) : State :=
  s.requestNotes q w write ((granules wpa n).filterMap (s.agentAddr w write))

/-- n bytes read at a world-physical address that translates, granule by granule. -/
def State.wpaReads (s : State) (q : Agent) (w : Bool) (wpa n : Nat) : Nat → List Byte × State
  | 0 => ([], s)
  | k + 1 =>
    if n = 0 then ([], s)
    else
      let m := min n (2 ^ 21 - wpa % 2 ^ 21)
      match s.agentXlate w wpa with
      | none => (List.replicate n 0, s)
      | some pa =>
        let r := s.agentReads q w pa m (lineFuel m)
        let rest := r.2.wpaReads q w (wpa + m) (n - m) k
        (r.1 ++ rest.1, rest.2)

/-- Bytes written at a world-physical address that translates, granule by granule. -/
def State.wpaWrites (s : State) (q : Agent) (w : Bool) (wpa : Nat) (bs : List Byte) : Nat → State
  | 0 => s
  | k + 1 =>
    match bs with
    | [] => s
    | _ =>
      let m := min bs.length (2 ^ 21 - wpa % 2 ^ 21)
      match s.agentXlateW w wpa with
      | none => s
      | some pa => (s.agentWrites q w pa (bs.take m) (lineFuel m)).wpaWrites q w (wpa + m) (bs.drop m) k

/-- A buffer read at a world-physical address: none where it does not translate. -/
def State.bufRead (s : State) (q : Agent) (w : Bool) (wpa n : Nat) : Option (List Byte × State) :=
  if n = 0 then some ([], s)
  else if s.mapped w false wpa n then some ((s.bufNotes q w false wpa n).wpaReads q w wpa n (n / 2 ^ 21 + 2)) else none

/-- A buffer written at a world-physical address: none where it does not translate. -/
def State.bufWrite (s : State) (q : Agent) (w : Bool) (wpa : Nat) (bs : List Byte) : Option State :=
  if bs.isEmpty then some s
  else if s.mapped w true wpa bs.length then some ((s.bufNotes q w true wpa bs.length).wpaWrites q w wpa bs (bs.length / 2 ^ 21 + 2)) else none

end Sys2Proof.Machine
end

