-- ==== Sys2Proof/Machine/Net.lean ====
section
/-! DEFINITION. Network ports: descriptor rings, release frames, queues, gates, stamps and match entries (R434 to R441, R450). -/

namespace Sys2Proof.Machine

/-! ### Ports and rings -/

/-- A network port. -/
def State.port (s : State) (p : Nat) : NetPort := assocD s.ports.net p {}

/-- Replaces a network port. -/
def State.setPort (s : State) (p : Nat) (x : NetPort) : State := { s with ports := { s.ports with net := assocSet s.ports.net p x } }

/-- The station of a port: 93 for ports 0 to 3, 94 for ports 4 to 7 (R545). -/
def netStation (p : Nat) : Nat := 93 + p / 4

/-- A port unit is powered and clocked: an Open or a Sealed vote of each kind is set (R503); network ports at 0, PCI Express halves at 8, CAN FD controllers at 16. -/
def State.unitUp (s : State) (n : Nat) : Bool :=
  (s.flagAt R.PV_UNIT_OPEN n || s.flagAt R.PV_UNIT_SEALED n) && (s.flagAt R.CV_UNIT_OPEN n || s.flagAt R.CV_UNIT_SEALED n)

/-- PORT_CFG.MODE; a port whose votes are withdrawn is off (R503). -/
def State.portMode (s : State) (p : Nat) : Nat := if s.unitUp p then s.fld (R.PORT_CFG (p / 4) (p % 4)) 0 2 else 0

/-- Entries of a ring whose RING_CTL is given (R450). -/
def ringSize (ctl : W32) : Nat := 2 ^ (max 4 (min 12 (bitsAt ctl 0 4)))

/-- RING_CTL of ring q of a port. -/
def netCtl (p q : Nat) : Nat := R.net_RING_CTL (p / 4) (p % 4) q

/-- World-physical address of entry i of ring q of a port (R437). -/
def State.netEntry (s : State) (p q i : Nat) : Nat :=
  (s.rd64 (R.net_RING_LO (p / 4) (p % 4) q) (R.net_RING_LO (p / 4) (p % 4) q + 4)).toNat / 32 * 32 + i * 32

/-- Entries between two indexes of a ring. -/
def ringGap (size head tail : Nat) : Nat := (tail + size - head % size) % size

/-- TAIL of ring q. -/
def State.netTail (s : State) (p q : Nat) : Nat := s.fld (R.net_RING_TAIL (p / 4) (p % 4) q) 0 12 % ringSize (s.rd (netCtl p q))

/-- HEAD of ring q. -/
def State.netHead (s : State) (p q : Nat) : Nat := s.fld (netCtl p q) 16 12 % ringSize (s.rd (netCtl p q))

/-- The number a descriptor's bytes from o hold. -/
def descNum (d : List Byte) (o n : Nat) : Nat := leNat ((d.drop o).take n)

/-- HEAD moves over the entries completed, of at most fuel. -/
def headOver (size : Nat) (done : List Nat) (head : Nat) : Nat → Nat × List Nat
  | 0 => (head, done)
  | k + 1 => if done.contains head then headOver size (done.erase head) ((head + 1) % size) k else (head, done)

/-- A transmit entry completes: its flags, its stamp where one was asked for, and HEAD (R437, R444). -/
def State.txComplete (s : State) (p i : Nat) (flags : Nat) (stamp : Option Stamp) : State :=
  let a := s.netEntry p 0 i
  let w := s.portSealed p
  let s := match s.bufRead .port w (a + 11) 1 with
    | some r => (r.2.bufWrite .port w (a + 11) [BitVec.ofNat 8 (leNat r.1 ||| flags)]).getD r.2
    | none => s
  let s := match stamp with
    | some t => (s.bufWrite .port w (a + 16) (toBytes t 8)).getD s
    | none => s
  let x := s.port p
  let size := ringSize (s.rd (netCtl p 0))
  let h := headOver size (i :: x.doneTx) (s.netHead p 0) size
  ((s.setPort p { x with doneTx := h.2 }).setFld (netCtl p 0) 16 12 h.1).flag (R.PORT_STATUS (p / 4) (p % 4)) 6

/-- The queue of a class (R439). -/
def NetPort.queue (x : NetPort) (c : Nat) : List NetFrame := assocD x.queues c []

/-- A frame enters its queue. -/
def NetPort.enq (x : NetPort) (c : Nat) (f : NetFrame) : NetPort := { x with queues := assocSet x.queues c (x.queue c ++ [f]) }

/-- NET_TX_DESCRIPTOR (R437, R439): the port takes its next transmit descriptor; a full queue makes the ring wait. -/
def netTxDescriptor (p : Fin 8) (s : State) : State :=
  let x := s.port p.val
  let size := ringSize (s.rd (netCtl p.val 0))
  let w := s.portSealed p.val
  let i := x.taken % size
  if s.portMode p.val = 0 ∨ ringGap size i (s.netTail p.val 0) = 0 then s
  else
    match s.bufRead .port w (s.netEntry p.val 0 i) 32 with
    | none => s
    | some (d, s) =>
      let len := descNum d 8 2
      let cls := descNum d 10 1 % 8
      let take (s : State) : State := s.setPort p.val { s.port p.val with taken := (i + 1) % size }
      if len < 60 ∨ 9212 < len then (take s).txComplete p.val i 8 none
      else
        match s.bufRead .port w (descNum d 0 8) len with
        | none => (take s).txComplete p.val i 16 none
        | some (bs, s) =>
          if 64 ≤ ((s.port p.val).queue cls).length then s
          else
            let f : NetFrame := { bytes := bs, entry := some i, stamp := descNum d 11 1 % 2 == 1, tag := BitVec.ofNat 32 (descNum d 12 4) }
            take (s.setPort p.val ((s.port p.val).enq cls f))

/-! ### Gates (R440) -/

/-- GCL_CTL of a port. -/
def State.gclCtl (s : State) (p : Nat) : W32 := s.rd (R.GCL_CTL (p / 4) (p % 4))

/-- Gates and interval of list entry i. -/
def NetPort.gclEntry (x : NetPort) (i : Nat) : Nat × Nat :=
  let e := assocD x.gcl i 0
  (bitsAt e 0 8, bitsAt e 8 24)

/-- Gate changes from an entry on: the ns until each takes effect, and its gates. -/
def NetPort.gclFrom (x : NetPort) (t : Int) : Nat → Nat → List (Int × Nat)
  | _, 0 => []
  | i, n + 1 => (t, (x.gclEntry i).1) :: x.gclFrom (t + (x.gclEntry i).2) (i + 1) n

/-- The ns until the tick at which the list restarts next. -/
def State.gclRestart (s : State) (div : Nat) : Option Int :=
  if s.bcn.started then
    let m := 2 ^ div
    some (stampDiff (s.tickAt (BitVec.ofNat 64 ((s.bcn.nextN.toNat + m - 1) / m * m))) s.now)
  else none

/-- Gate changes to come on a port, by the ns until each: the rest of the list, then the list from its next restart. -/
def State.gclAhead (s : State) (p : Nat) : List (Int × Nat) :=
  let c := s.gclCtl p
  let x := s.port p
  let len := bitsAt c 5 9
  let rest := x.gclFrom (stampDiff x.gclAt s.now + (x.gclEntry x.gclIdx).2) (x.gclIdx + 1) (len - (x.gclIdx + 1))
  match s.gclRestart (bitsAt c 1 4) with
  | some t => rest ++ x.gclFrom t 0 len
  | none => rest

/-- The gate of a class is open. -/
def State.gateOpen (s : State) (p c : Nat) : Bool :=
  !bitAt (s.gclCtl p) 0 || ((s.port p).gclEntry (s.port p).gclIdx).1.testBit c

/-- The ns until the gate of a class closes next. -/
def State.gateCloses (s : State) (p c : Nat) : Option Int :=
  if bitAt (s.gclCtl p) 0 then ((s.gclAhead p).find? (fun e => !e.2.testBit c)).map (·.1) else none

/-- Fiftieths of a ns that a bit takes on the wire (R434). -/
def bitTime (mode : Nat) : Nat := if mode = 1 then 50 else if mode = 2 then 5 else 2

/-- The time a frame takes with preamble, FCS and gap, in fiftieths of a ns (R441, Example). -/
def wireTime (mode len : Nat) : Nat := (8 + len + 4 + 12) * 8 * bitTime mode

/-- A frame of a class may start now: it ends before its gate closes (R440). -/
def State.gateFits (s : State) (p c len : Nat) : Bool :=
  match s.gateCloses p c with
  | none => true
  | some t => decide ((wireTime (s.portMode p) len : Int) < t * 50)

/-- The classes from 7 down. -/
def classesDown : List Nat := [7, 6, 5, 4, 3, 2, 1, 0]

/-- The class whose head frame goes first (R439, R440). -/
def State.txClass (s : State) (p : Nat) : Option (Nat × NetFrame) :=
  classesDown.findSome? (fun c =>
    match (s.port p).queue c with
    | [] => none
    | f :: _ => if s.gateOpen p c && s.gateFits p c f.bytes.length then some (c, f) else none)

/-- A stamp enters the stamp FIFO, or is lost (R436). -/
def State.txStamp (s : State) (p : Nat) (tag : W32) (t : Stamp) : State :=
  let x := s.port p
  if x.txs.length < 64 then
    (s.setPort p { x with txs := x.txs ++ [(tag.truncate 16, t)] }).flag (R.PORT_STATUS (p / 4) (p % 4)) 3
  else s.flag (R.PORT_STATUS (p / 4) (p % 4)) 4

/-- List entries whose interval has ended by now give way to the next, of at most fuel (R440). -/
def State.gclCatch (s : State) (p : Nat) : Nat → State
  | 0 => s
  | n + 1 =>
    let c := s.gclCtl p
    let x := s.port p
    let t := x.gclAt + BitVec.ofNat 64 (x.gclEntry x.gclIdx).2
    if bitAt c 0 && decide (x.gclIdx + 1 < bitsAt c 5 9) && !stampLt s.now t then
      (s.setPort p { x with gclIdx := x.gclIdx + 1, gclAt := t }).gclCatch p n
    else s

/-- FRAME_TRANSMIT (R435, R436, R439, R440): the frame is stamped at the first bit of its destination address, after the preamble. -/
def frameTransmit (p : Fin 8) (s : State) : State :=
  let s := s.gclCatch p.val 256
  let x := s.port p.val
  if x.sending.isSome || s.portMode p.val == 0 || !s.flagAt (R.PORT_STATE (p.val / 4) (p.val % 4)) 0 then s
  else match s.txClass p.val with
    | none => s
    | some (c, f) =>
      let t := s.now + BitVec.ofNat 64 (64 * bitTime (s.portMode p.val) / 50 + s.fld (R.PORT_DLY (p.val / 4) (p.val % 4)) 0 16)
      let s := s.setPort p.val { x with
        queues := assocSet x.queues c ((x.queue c).drop 1), sending := some (f, t), out := f.bytes :: x.out }
      if f.stamp then s.txStamp p.val f.tag t else s

/-- NET_FRAME_END (R437, R439): the frame has been sent and its descriptor completes. -/
def netFrameEnd (p : Fin 8) (s : State) : State :=
  let x := s.port p.val
  match x.sending with
  | none => s
  | some (f, t) =>
    let s := (s.setPort p.val { x with sending := none }).bump (R.CNT_TX (p.val / 4) (p.val % 4))
    match f.entry with
    | some i => s.txComplete p.val i 0 (if f.stamp then some t else none)
    | none => s

/-- GCL_ENTRY (R440): the next list entry takes effect at the end of the one in force; the last one stays. -/
def gclEntry (p : Fin 8) (s : State) : State :=
  let c := s.gclCtl p.val
  let x := s.port p.val
  if bitAt c 0 && decide (x.gclIdx + 1 < bitsAt c 5 9) then
    let t := x.gclAt + BitVec.ofNat 64 (x.gclEntry x.gclIdx).2
    (s.advanceTo t).setPort p.val { x with gclIdx := x.gclIdx + 1, gclAt := t }
  else s

/-- At tick N the lists whose period begins restart (R440). -/
def State.gclTick (s : State) (n : W64) : State :=
  (List.range 8).foldl (fun s p =>
    if bitAt (s.gclCtl p) 0 && n.toNat % 2 ^ bitsAt (s.gclCtl p) 1 4 == 0 then
      s.setPort p { s.port p with gclIdx := 0, gclAt := s.tickAt n }
    else s) s

/-! ### Release frames (R438, R439) -/

/-- Bytes of region 1 as committed, from an offset (R81). -/
def State.region1 (s : State) (off n : Nat) : Nat → List Byte × State
  | 0 => ([], s)
  | k + 1 =>
    if n = 0 then ([], s)
    else
      let a := (s.regLines 1).1 * 64 + off
      let m := min n (64 - a % 64)
      let r := s.stRead none (a / 64)
      let rest := r.2.region1 (off + m) (n - m) k
      (lineBytes r.1 (a % 64) m ++ rest.1, rest.2)

/-- A release slot of a port at the release of a tick (R438, R439). -/
def State.netSlot (s : State) (p base i : Nat) : State :=
  let off := base + 2048 * i
  let h := s.region1 off 8 2
  let hdr := leNat h.1
  let len := hdr % 65536
  let cls := hdr / 2 ^ 16 % 8
  let tag := BitVec.ofNat 32 (hdr / 2 ^ 32)
  let s := h.2
  let x := s.port p
  if len < 60 ∨ 2040 < len then s
  else if !(hdr.testBit 19) && assoc? x.relTags i == some tag then s
  else if 64 ≤ (x.queue cls).length then
    (s.flag (R.PORT_STATUS (p / 4) (p % 4)) 2).jlogW (s.portSealed p) s.now (netStation p) p 0x0e01
      [(0, 1, p), (1, 1, i), (2, 1, cls), (4, 4, tag.toNat)] []
  else
    let r := s.region1 (off + 8) len (lineFuel len)
    let x := (r.2.port p).enq cls { bytes := r.1, entry := none, stamp := false, tag := tag }
    r.2.setPort p { x with relTags := assocSet x.relTags i tag }

/-- The release of a tick on every port; a device without the token sends none (R188, R438). -/
def State.netRelease (s : State) : State :=
  if s.holder then
    (List.range 8).foldl (fun s p =>
      let r := s.rd (R.REL_OFF (p / 4) (p % 4))
      if s.portMode p = 0 then s
      else foldRange (fun i s => s.netSlot p (bitsAt r 0 24) i) 0 (bitsAt r 24 8) s) s
  else s

/-! ### Reception (R434, R435, R441) -/

/-- A container taken from a frame: quality bits 6 and 3 are forced to 0 (R441). -/
def forceContainer (v : Nat) : W32 := BitVec.ofNat 32 v &&& 0xffffffb7

/-- A frame matches an entry (R441). -/
def NetMatch.hit (m : NetMatch) (bs : List Byte) : Bool :=
  let body := bs.drop 14
  let o := bitsAt m.type 16 11
  bitAt m.type 31 && beNat ((bs.drop 12).take 2) == bitsAt m.type 0 16 && decide (o + 4 ≤ body.length) &&
  ((BitVec.ofNat 32 (beNat ((body.drop o).take 4)) ^^^ m.val) &&& m.mask) == 0

/-- A received frame posts once for each entry it matches (R441). -/
def State.netMatches (s : State) (p : Nat) (bs : List Byte) (t : Stamp) : State :=
  (List.range 32).foldl (fun s i =>
    let m := assocD (s.port p).mtab i {}
    let e := bitsAt m.ext 0 11
    let body := bs.drop 14
    if m.hit bs && decide (e + 4 ≤ body.length) then
      s.postSample (bitsAt m.out 0 23) (forceContainer (beNat ((body.drop e).take 4))) t (netStation p) p
    else s) s

/-- A received frame goes to the receive ring (R437); with no entry handed over it is lost.
DESIGN CHOICE (log entry 41): a frame with an FCS error, which is dropped, completes its entry with FLAGS bit 1 and moves no data. -/
def State.netToRing (s : State) (p : Nat) (bs : List Byte) (fcsOk : Bool) (t : Stamp) : State :=
  let size := ringSize (s.rd (netCtl p 1))
  let h := s.netHead p 1
  let w := s.portSealed p
  let a := s.netEntry p 1 h
  if ringGap size h (s.netTail p 1) = 0 then s
  else match s.bufRead .port w a 32 with
    | none => s
    | some (d, s) =>
      let room := descNum d 8 2
      let buf := descNum d 0 8
      let moved := if fcsOk then s.bufWrite .port w buf (bs.take room) else some s
      let flags := if fcsOk then (if moved.isNone then 16 else 0) + (if room < bs.length then 4 else 0) else 2
      let s := moved.getD s
      let s := (s.bufWrite .port w (a + 8) (leBytes 2 bs.length)).getD s
      let s := (s.bufWrite .port w (a + 11) [BitVec.ofNat 8 flags]).getD s
      let s := (s.bufWrite .port w (a + 16) (toBytes t 8)).getD s
      (s.setFld (netCtl p 1) 16 12 ((h + 1) % size)).flag (R.PORT_STATUS (p / 4) (p % 4)) 5

/-- A PAUSE frame: MAC control with opcode 1 (R434). -/
def isPause (bs : List Byte) : Bool := beNat ((bs.drop 12).take 2) == 0x8808 && beNat ((bs.drop 14).take 2) == 1

/-- NET_RX_FRAME (R434, R435, R437, R441). -/
def netRxFrame (p : Fin 8) (bytes : List Byte) (fcsOk : Bool) (s : State) : State :=
  let t := s.now + BitVec.ofNat 64 (s.fld (R.PORT_DLY (p.val / 4) (p.val % 4)) 16 16)
  if s.portMode p.val = 0 then s
  else if isPause bytes || decide (bytes.length < 60) || decide (9212 < bytes.length) then s.bump (R.CNT_RX_DROP (p.val / 4) (p.val % 4))
  else if !fcsOk then (s.bump (R.CNT_RX_DROP (p.val / 4) (p.val % 4))).netToRing p.val bytes false t
  else ((s.bump (R.CNT_RX (p.val / 4) (p.val % 4))).netMatches p.val bytes t).netToRing p.val bytes true t

/-! ### Links, stamps and tails -/

/-- NET_LINK (R434, R449): a port's link comes up or goes down; that of a port that is off does not come up. -/
def netLink (p : Fin 8) (up : Bool) (s : State) : State :=
  if up && s.portMode p.val == 0 then s else
  let b := p.val / 4
  let i := p.val % 4
  let cfg := s.rd (R.PORT_CFG b i)
  (((s.setFld (R.PORT_STATE b i) 0 1 (b2n up)).flag (R.PORT_STATUS b i) (if up then 0 else 1))).jlogW (s.portSealed p.val) s.now
    (netStation p.val) p.val 0x0e00 [(0, 1, p.val), (1, 1, b2n up), (2, 1, bitsAt cfg 0 2), (3, 1, bitsAt cfg 2 2)] []

/-- TXS_TAG_POP (R450): a read of TXS_TAG pops the oldest stamp; an Open read of a Sealed port returns 0 and pops nothing (R314). -/
def txsTagPop (p : Fin 8) (q : Requester) (s : State) : State :=
  let x := s.port p.val
  if s.portSealed p.val && !q.sealed then { s with readVal := 0 }
  else match x.txs with
    | [] => { s with readVal := 0 }
    | (tag, t) :: r =>
      { s.setPort p.val { x with txs := r, txsLatch := t } with readVal := BitVec.ofNat 32 (tag.toNat + 2 ^ 31) }

/-- The register block of a port's or a controller's rings (R512). -/
def ringBlock (u : RingUnit) : Nat :=
  match u with
  | .net p => 0x1c + p.val / 4
  | .can _ => 0x1f

/-- RING_TAIL_WRITE (R437, R444): entries are handed to the port or the controller. -/
def ringTailWrite (u : RingUnit) (q : Fin 2) (v : W32) (s : State) : State :=
  match u with
  | .net p => s.wr (R.net_RING_TAIL (p.val / 4) (p.val % 4) q.val) (BitVec.ofNat 32 (bitsAt v 0 12))
  | .can c => s.wr (R.can_RING_TAIL c.val q.val) (BitVec.ofNat 32 (bitsAt v 0 12))

/-! ### Commands -/

/-- RING_TAIL_WRITE (R437). -/
def execRingTailWrite (u : RingUnit) (q : Fin 2) (v : W32) (s : State) : Host.Outcome State Fault Refusal := .next (s.blockWrite (ringBlock u) (ringTailWrite u q v))
/-- NET_TX_DESCRIPTOR (R437). -/
def execNetTxDescriptor (p : Fin 8) (s : State) : Host.Outcome State Fault Refusal := .next (netTxDescriptor p s)
/-- FRAME_TRANSMIT (R440). -/
def execFrameTransmit (p : Fin 8) (s : State) : Host.Outcome State Fault Refusal := .next (frameTransmit p s)
/-- NET_FRAME_END (R439). -/
def execNetFrameEnd (p : Fin 8) (s : State) : Host.Outcome State Fault Refusal := .next (netFrameEnd p s)
/-- NET_RX_FRAME (R441). -/
def execNetRxFrame (p : Fin 8) (bytes : List Byte) (fcsOk : Bool) (s : State) : Host.Outcome State Fault Refusal :=
  .next (netRxFrame p bytes fcsOk s)
/-- GCL_ENTRY (R440). -/
def execGclEntry (p : Fin 8) (s : State) : Host.Outcome State Fault Refusal := .next (gclEntry p s)
/-- NET_LINK (R434). -/
def execNetLink (p : Fin 8) (up : Bool) (s : State) : Host.Outcome State Fault Refusal := .next (s.awake (netLink p up))
/-- TXS_TAG_POP (R450). -/
def execTxsTagPop (p : Fin 8) (q : Requester) (s : State) : Host.Outcome State Fault Refusal := .next (txsTagPop p q s)

end Sys2Proof.Machine
end

