-- ==== Sys2Proof/Machine/Ports.lean ====
section
/-! DEFINITION. CAN FD controllers and PCI Express halves (R442 to R452). -/

namespace Sys2Proof.Machine

/-! ### CAN FD: state (R442, R443, R451) -/

/-- A CAN FD controller. -/
def State.canc (s : State) (c : Nat) : CanCtl := assocD s.ports.can c {}

/-- Replaces a CAN FD controller. -/
def State.setCanc (s : State) (c : Nat) (x : CanCtl) : State := { s with ports := { s.ports with can := assocSet s.ports.can c x } }

/-- The protocol state of a controller: 0 error active, 1 passive, 2 bus-off (ISO 11898-1). -/
def CanCtl.prot (x : CanCtl) : Fin 3 := if x.busOff then 2 else if 127 < x.txErr ∨ 127 < x.rxErr then 1 else 0

/-- CC_STATE: without the token, and until boot has given it, a controller that is not bus-off is in bus monitoring mode (R443, R451). -/
def State.ccState (s : State) (c : Nat) : W32 :=
  let x := s.canc c
  let st := if x.busOff then 2 else if s.holder && s.boot.locked then x.prot.val else 3
  BitVec.ofNat 32 (st + min 255 x.txErr * 4 + min 255 x.rxErr * 1024)

/-- Journals CAN_STATE. -/
def State.canLog (s : State) (c st : Nat) : State :=
  let x := s.canc c
  s.jlogW (s.canSealed c) s.now 101 c 0x0e10 [(0, 1, c), (1, 1, st), (2, 1, min 255 x.txErr), (3, 1, min 255 x.rxErr)] []

/-- A change of protocol state is flagged and journaled (R442, R451). -/
def State.canFollow (s : State) (c : Nat) : State :=
  let x := s.canc c
  if x.prot = x.last then s
  else
    let s := s.setCanc c { x with last := x.prot }
    let s := if x.prot = 2 then s.flag (R.CC_STATUS c) 0 else if x.prot = 1 then s.flag (R.CC_STATUS c) 1 else s
    s.canLog c x.prot.val

/-- CC_CFG.EN, of a controller that is powered and clocked (R503). -/
def State.canOn (s : State) (c : Nat) : Bool := s.flagAt (R.CC_CFG c) 0 && s.unitUp (16 + c)

/-! ### CAN FD: records and rings (R444) -/

/-- World-physical address of record i of ring q. -/
def State.canEntry (s : State) (c q i : Nat) : Nat :=
  (s.rd64 (R.can_RING_LO c q) (R.can_RING_LO c q + 4)).toNat / 16 * 16 + i * 80

/-- HEAD, TAIL and size of ring q. -/
def State.canRing (s : State) (c q : Nat) : Nat × Nat × Nat :=
  let ctl := s.rd (R.can_RING_CTL c q)
  let size := ringSize ctl
  (bitsAt ctl 16 12 % size, s.fld (R.can_RING_TAIL c q) 0 12 % size, size)

/-- Records of the transmit ring handed over and not yet completed, in ring order. -/
def State.canRingRecs (s : State) (c : Nat) : List Nat :=
  let r := s.canRing c 0
  ((rangeFrom 0 (ringGap r.2.2 r.1 r.2.1)).map (fun i => (r.1 + i) % r.2.2)).filter (fun i => !(s.canc c).doneTx.contains i)

/-- A frame offered: its identifier, whether it comes from a release slot, its slot or ring index, and its record. -/
structure CanOffer where
  ident : Nat
  isSlot : Bool
  index : Nat
  bytes : List Byte
deriving DecidableEq, Repr

/-- The identifier of a record. -/
def recIdent (b : List Byte) : Nat := leNat (b.take 4) % 2 ^ 29

/-- The frames pending on a controller: release slots in slot order, then ring records in ring order. -/
def State.canOffers (s : State) (c : Nat) : List CanOffer × State :=
  let slots := (s.canc c).pend.map (fun p => (⟨recIdent p.bytes, true, p.slot, p.bytes⟩ : CanOffer))
  (s.canRingRecs c).foldl (fun (acc : List CanOffer × State) i =>
    match acc.2.bufRead .port (s.canSealed c) (s.canEntry c 0 i) 80 with
    | some (b, s') => (acc.1 ++ [⟨recIdent b, false, i, b⟩], s')
    | none => acc) (slots, s)

/-- The first offer with the lowest identifier. -/
def lowestOffer : List CanOffer → Option CanOffer
  | [] => none
  | x :: r =>
    match lowestOffer r with
    | none => some x
    | some y => if y.ident < x.ident then some y else some x

/-- A transmit record completes: its flags, its stamp and HEAD (R444). -/
def State.canComplete (s : State) (c i : Nat) (flags : Nat) (stamp : Option Stamp) : State :=
  let a := s.canEntry c 0 i
  let w := s.canSealed c
  let s := match s.bufRead .port w (a + 5) 1 with
    | some r => (r.2.bufWrite .port w (a + 5) [BitVec.ofNat 8 (leNat r.1 ||| flags)]).getD r.2
    | none => s
  let s := match stamp with
    | some t => (s.bufWrite .port w (a + 8) (toBytes t 8)).getD s
    | none => s
  let x := s.canc c
  let r := s.canRing c 0
  let h := headOver r.2.2 (i :: x.doneTx) r.1 r.2.2
  ((s.setCanc c { x with doneTx := h.2 }).setFld (R.can_RING_CTL c 0) 16 12 h.1).flag (R.CC_STATUS c) 4

/-- The bay and the bay pin of a controller's TX or RX pin, at bit lo of CC_CFG (R443, R451). -/
def State.canBayPin (s : State) (c lo : Nat) : BayId × Nat :=
  let p := s.fld (R.CC_CFG c) lo 8
  (bayOf (p / 24), p % 24)

/-- The controller's TX pin is driven: it holds the token, and neither the bay, its safe states nor the bank's rail cut it off (R138, R140, R141, R443, R536). -/
def State.canTxOn (s : State) (c : Nat) : Bool :=
  let p := s.canBayPin c 8
  (s.pinDriver p.1 p.2).isSome && !s.pinSafe p.1 p.2

/-- The controller reads its RX pin: its bay is powered and the bank's rail lies in its range (R443, R507, R536). -/
def State.canRxOn (s : State) (c : Nat) : Bool :=
  let p := s.canBayPin c 16
  s.dom (72 + p.1.val) == .up && s.bankOk p.1 p.2

/-- CAN_TRANSMIT (R442 to R444): the lowest identifier pending is offered; ok is whether the frame was sent without error, which it is not where a pin of the controller is cut off, since the bits sent are then not read back. Without the token nothing is sent and a ring record completes as not sent. -/
def canTransmit (c : Fin 16) (ok : Bool) (s : State) : State :=
  let k := c.val
  if !s.canOn k then s
  else if !s.holder then
    match s.canRingRecs k with
    | [] => s
    | i :: _ => s.canComplete k i 4 none
  else if (s.canc k).busOff then s
  else
    let o := s.canOffers k
    match lowestOffer o.1 with
    | none => s
    | some f =>
      let s := o.2
      let x := s.canc k
      if !(ok && s.canTxOn k && s.canRxOn k) then
        let e := x.txErr + 8
        (s.setCanc k { x with txErr := e, busOff := decide (255 < e), recovering := false }).canFollow k
      else
        let s := s.setCanc k { x with
          txErr := x.txErr - 1
          out := f.bytes :: x.out
          pend := if f.isSlot then x.pend.filter (fun p => p.slot != f.index) else x.pend
          relTags := if f.isSlot then assocSet x.relTags f.index (BitVec.ofNat 16 (leNat ((f.bytes.drop 6).take 2))) else x.relTags }
        let s := s.canFollow k
        if f.isSlot then s else s.canComplete k f.index 0 (some s.now)

/-- The release slots of a controller at the release of a tick (R438, R444); a frame still pending from its slot is replaced. -/
def State.canSlot (s : State) (c base i : Nat) : State :=
  let r := s.region1 (base + 80 * i) 80 4
  let s := r.2
  let x := s.canc c
  let fl := (r.1.getD 5 0).toNat
  let tag := BitVec.ofNat 16 (leNat ((r.1.drop 6).take 2))
  if !fl.testBit 7 || (!fl.testBit 0 && assoc? x.relTags i == some tag) then s
  else
    let rest := x.pend.filter (fun p => p.slot != i)
    s.setCanc c { x with pend := insBy (fun a b => decide (a.slot < b.slot)) { slot := i, bytes := r.1 } rest }

/-- The release of a tick on every controller; one without the token sends nothing (R188, R443). -/
def State.canRelease (s : State) : State :=
  if s.holder then
    (List.range 16).foldl (fun s c =>
      let r := s.rd (R.CC_REL c)
      if !s.canOn c then s else foldRange (fun i s => s.canSlot c (bitsAt r 0 24) i) 0 (min 16 (bitsAt r 24 5)) s) s
  else s

/-- Data bytes of a DLC (ISO 11898-1). -/
def dlcBytes (fdf : Bool) (d : Nat) : Nat :=
  if d ≤ 8 then d else if !fdf then 8 else [12, 16, 20, 24, 32, 48, 64].getD (d - 9) 64

/-- A received frame posts its matches (R441, R444). -/
def State.canMatches (s : State) (c : Nat) (f : CanFrame) (t : Stamp) : State :=
  let n := min (dlcBytes f.fdf f.dlc.val) f.data.length
  s.ports.canMatch.foldl (fun s p =>
    let m := p.2
    let o := bitsAt m.out 23 6
    let hit := bitAt m.id 31 && bitsAt m.ctrl 0 4 == c && bitAt m.id 29 == f.ide &&
      ((f.ident ^^^ (m.id.truncate 29)) &&& (m.mask.truncate 29)) == 0 && decide (o + 4 ≤ n)
    if hit then
      let b := (f.data.drop o).take 4
      s.postSample (bitsAt m.out 0 23) (forceContainer (if bitAt m.id 30 then beNat b else leNat b)) t 101 c
    else s) s

/-- The record of a received frame (R444). -/
def canRecord (f : CanFrame) (t : Stamp) : List Byte :=
  let w := f.ident.toNat + bitIf f.ide 29 + bitIf f.fdf 30 + bitIf f.brs 31
  leBytes 4 w ++ [BitVec.ofNat 8 f.dlc.val, BitVec.ofNat 8 (bitIf f.esi 1)] ++ toBytes f.tag 2 ++ toBytes t 8 ++
    (f.data ++ List.replicate 64 0).take 64

/-- The receive error count after a frame received without error (ISO 11898-1, log entry 42). -/
def recDown (n : Nat) : Nat := if 127 < n then 127 else n - 1

/-- The receive error count after a frame: error 0 none, 1 one that the receiver found, 2 one after whose error flag it read a dominant bit first (ISO 11898-1, log entry 42).
The count stays within the 8 bits of CC_STATE.REC (R451). -/
def recAfter (error n : Nat) : Nat := if error = 0 then recDown n else min 255 (n + (if error = 1 then 1 else 9))

/-- CAN_FRAME_RECEIVE (R442, R444): a controller whose RX pin is cut off sees no frame, and one with an error is counted and goes no further. -/
def canFrameReceive (c : Fin 16) (f : CanFrame) (s : State) : State :=
  let k := c.val
  if !s.canOn k || (s.canc k).busOff || !s.canRxOn k then s
  else
    let t := s.now
    let s := (s.setCanc k { s.canc k with rxErr := recAfter f.error.val (s.canc k).rxErr }).canFollow k
    if f.error.val != 0 then s else
    let s := s.canMatches k f t
    let r := s.canRing k 1
    if ringGap r.2.2 r.1 r.2.1 = 0 then s.flag (R.CC_STATUS k) 5
    else
      let s := (s.bufWrite .port (s.canSealed k) (s.canEntry k 1 r.1) (canRecord f t)).getD s
      (s.setFld (R.can_RING_CTL k 1) 16 12 ((r.1 + 1) % r.2.2)).flag (R.CC_STATUS k) 3

/-- CAN_RECOVER (R442): ignored outside bus-off and with AUTO_REC at 1. -/
def canRecover (c : Fin 16) (s : State) : State :=
  let x := s.canc c.val
  if x.busOff && !s.flagAt (R.CC_CFG c.val) 1 then s.setCanc c.val { x with recovering := true } else s

/-- BUS_OFF_RECOVERY (R442): the controller returns to error active with both counts at 0. -/
def busOffRecovery (c : Fin 16) (s : State) : State :=
  let x := s.canc c.val
  if x.busOff && (x.recovering || s.flagAt (R.CC_CFG c.val) 1) then
    ((s.setCanc c.val { x with busOff := false, recovering := false, txErr := 0, rxErr := 0, last := 0 }).flag
      (R.CC_STATUS c.val) 2).canLog c.val 0
  else s

/-! ### PCI Express (R445 to R448) -/

/-- A message leaves a half. -/
def State.pcieSend (s : State) (m : PcieMsg) : State := { s with ports := { s.ports with pcieOut := m :: s.ports.pcieOut } }

/-- A request refused with Unsupported Request is flagged and counted (R447, R448). -/
def State.pcieRefuse (s : State) (h : Nat) : State := (s.flag (R.PH_STATUS h) 2).bump (R.CNT_UR h)

/-- A refused request, journaled (R447, R449). -/
def State.pcieUr (s : State) (h : Nat) (write : Bool) (rid : W16) (addr : W64) : State :=
  (s.pcieRefuse h).jlogW (s.pcieSealed h) s.now 96 h 0x0e21 [(0, 1, h), (1, 1, b2n write), (2, 2, rid.toNat)] [(4, 8, addr.toNat)]

/-- A 4 B write of MSI_DOOR by a half: its vector is set, or it is dropped for the other world (R448). It is a write to the block (R517). -/
def State.msi (s : State) (h : Nat) (v : Nat) : State :=
  let s := s.guardBreak 0x1e
  if s.pcieSealed h == decide (128 ≤ v) then
    let s := s.flag (R.MSI_PEND (v / 32)) (v % 32)
    if v < 128 then s.flag R.PCIE_STATUS 1 else s
  else s.pcieRefuse h

/-- The address is an alias of MSI_DOOR (R11, R447). -/
def isMsiDoor (a : Nat) : Bool := decide (a / 2 ^ 16 = 0x3e0000000000 / 2 ^ 16 + 0x1e) && decide (a % 4096 / 4 = 0x240 / 4)

/-- A request of n bytes at a that names MSI_DOOR alone (R447): one that goes on past it addresses control space elsewhere. -/
def doorOnly (a n : Nat) : Bool := isMsiDoor a && decide (a % 4 + n ≤ 4)

/-- A write of MSI_DOOR by a half (R447, R448, R514): 4 B names its vector, and a write of fewer bytes, or with a byte enable 0, is dropped, though it breaks a pending pair of the block. -/
def State.doorWrite (s : State) (h : Nat) (bytes : List (Option Byte)) : State :=
  if bytes.length = 4 ∧ bytes.all Option.isSome then s.msi h (leNat (bytes.map (·.getD 0)) % 256)
  else s.guardBreak 0x1e

/-- A world-physical address that an inbound request may name besides MSI_DOOR (R447). -/
def pcieAllowed (a : Nat) : Bool :=
  match rangeOf a with
  | .dram => true
  | .window => true
  | _ => false

/-- A half is used and up (R445, R452, R503); half 1 of a port that is not split is unused. -/
def State.halfOn (s : State) (h : Nat) : Bool :=
  s.flagAt (R.PH_CFG h) 0 && s.unitUp (8 + h) && (h % 2 == 0 || s.flagAt R.PR_SPLIT (h / 2))

/-- The runs of contiguous bytes of a write whose byte enables leave some out, by their offset, in ascending order; run: the one being read, newest byte first (R395). -/
def byteRuns : Nat → List Byte → List (Option Byte) → List (Nat × List Byte)
  | _, [], [] => []
  | o, run, [] => [(o - run.length, run.reverse)]
  | o, run, some b :: r => byteRuns (o + 1) (b :: run) r
  | o, [], none :: r => byteRuns (o + 1) [] r
  | o, run, none :: r => (o - run.length, run.reverse) :: byteRuns (o + 1) [] r

/-- An inbound write, one WR_NA for each contiguous run (R395); its refusals are recorded once. -/
def State.pcieWrite (s : State) (w : Bool) (addr : Nat) (bytes : List (Option Byte)) : Option State :=
  if bytes.isEmpty then some s
  else if s.mapped w true addr bytes.length then
    some ((byteRuns 0 [] bytes).foldl (fun s r => s.wpaWrites .pcie w (addr + r.1) r.2 (r.2.length / 2 ^ 21 + 2)) (s.bufNotes .pcie w true addr bytes.length))
  else none

/-- An inbound request (R447). A half that is not up takes none; one that addresses no range is recorded and reads zeros (R413); a read of MSI_DOOR, a write-only register, returns 0 (R12). -/
def pcieInbound (x : PcieReq) (s : State) : State :=
  match x with
  | .read h rid addr len =>
    let w := s.pcieSealed h.val
    if !s.halfOn h.val then s
    else if doorOnly addr.toNat len.val then s.pcieSend (.completion h.val (List.replicate len.val 0))
    else if rangeOf addr.toNat = .nothing then
      (s.requestNotes .pcie w false [addr.toNat]).pcieSend (.completion h.val (List.replicate len.val 0))
    else if pcieAllowed addr.toNat then
      match s.bufRead .pcie w addr.toNat len.val with
      | some r => r.2.pcieSend (.completion h.val r.1)
      | none => (s.pcieUr h.val false rid addr).pcieSend (.unsupported h.val)
    else (s.pcieUr h.val false rid addr).pcieSend (.unsupported h.val)
  | .write h rid addr bytes =>
    let w := s.pcieSealed h.val
    if !s.halfOn h.val then s
    else if doorOnly addr.toNat bytes.length then s.doorWrite h.val bytes
    else if rangeOf addr.toNat = .nothing then s.requestNotes .pcie w true [addr.toNat]
    else if pcieAllowed addr.toNat then
      match s.pcieWrite w addr.toNat bytes with
      | some s => s
      | none => s.pcieUr h.val true rid addr
    else s.pcieUr h.val true rid addr

/-- MSI_DOOR (R445, R448): a half that is not used writes nothing. -/
def msiDoor (h : Fin 8) (v : W32) (s : State) : State := if s.halfOn h.val then s.msi h.val (bitsAt v 0 8) else s

/-- A half's link can come up so: the half is used, the generation is one that PH_CFG allows, and the width is x1, x2, x4 or, on a port that is not split, x8 (R445, R452). -/
def State.linkFits (s : State) (h gen width : Nat) : Bool :=
  s.halfOn h && decide (1 ≤ gen ∧ gen ≤ s.fld (R.PH_CFG h) 1 3) &&
  (width == 1 || width == 2 || width == 4 || (width == 8 && !s.flagAt R.PR_SPLIT (h / 2)))

/-- PCIE_LINK (R445, R449): a link that the half cannot have does not come up. -/
def pcieLink (h : Fin 8) (up : Bool) (gen : Fin 8) (width : Fin 16) (s : State) : State :=
  if up && !s.linkFits h.val gen.val width.val then s else
  let v := if up then 1 + gen.val * 2 + width.val * 16 else 0
  ((s.wr (R.PH_STATE h.val) (BitVec.ofNat 32 v)).flag (R.PH_STATUS h.val) (if up then 0 else 1)).jlogW (s.pcieSealed h.val) s.now
    96 h.val 0x0e20 [(0, 1, h.val), (1, 1, b2n up), (2, 1, gen.val), (3, 1, width.val)] []

/-- PCIE_AER (R445, R449): the status word of the message is a free value; a half that is not used reports none. -/
def pcieAer (h : Fin 8) (uncor : Bool) (s : State) : State :=
  if !s.halfOn h.val then s else
  let f := s.free 32
  ((f.2.flag (R.PH_STATUS h.val) (if uncor then 4 else 3)).bump (R.CNT_AER h.val)).jlogW (s.pcieSealed h.val) s.now
    96 h.val 0x0e22 [(0, 1, h.val), (1, 1, b2n uncor), (4, 4, f.1.toNat)] []

/-- A completed PH_CTL pair: PERST is driven or released, and RETRAIN retrains the link and reads 0 (R452). -/
def State.phCtl (s : State) (h : Nat) (v : W32) : State :=
  let s := s.wr (R.PH_CTL h) (BitVec.ofNat 32 (bitsAt v 0 1))
  let s := { s with ports := { s.ports with perst := putBits s.ports.perst h 1 (bitsAt v 0 1) } }
  if bitAt v 1 then s.pcieSend (.retrain h) else s

/-- PERST (R452). -/
def perst (h : Fin 8) (v : W32) (s : State) : State := s.phCtl h.val v

/-- RETRAIN (R452). -/
def retrain (h : Fin 8) (v : W32) (s : State) : State := s.phCtl h.val v

/-! ### Commands -/

/-- CAN_FRAME_RECEIVE (R444). -/
def execCanFrameReceive (c : Fin 16) (f : CanFrame) (s : State) : Host.Outcome State Fault Refusal := .next (canFrameReceive c f s)
/-- CAN_TRANSMIT (R444). -/
def execCanTransmit (c : Fin 16) (ok : Bool) (s : State) : Host.Outcome State Fault Refusal := .next (canTransmit c ok s)
/-- CAN_RECOVER (R442). -/
def execCanRecover (c : Fin 16) (s : State) : Host.Outcome State Fault Refusal := .next (s.blockWrite 0x1f (canRecover c))
/-- BUS_OFF_RECOVERY (R442). -/
def execBusOffRecovery (c : Fin 16) (s : State) : Host.Outcome State Fault Refusal := .next (busOffRecovery c s)
/-- PCIE_INBOUND (R447). -/
def execPcieInbound (x : PcieReq) (s : State) : Host.Outcome State Fault Refusal := .next (pcieInbound x s)
/-- MSI_DOOR (R448). -/
def execMsiDoor (h : Fin 8) (v : W32) (s : State) : Host.Outcome State Fault Refusal := .next (s.awake (msiDoor h v))
/-- PCIE_LINK (R445). -/
def execPcieLink (h : Fin 8) (up : Bool) (gen : Fin 8) (width : Fin 16) (s : State) : Host.Outcome State Fault Refusal :=
  .next (s.awake (pcieLink h up gen width))
/-- PCIE_AER (R445). -/
def execPcieAer (h : Fin 8) (uncor : Bool) (s : State) : Host.Outcome State Fault Refusal := .next (s.awake (pcieAer h uncor))
/-- PERST (R452). -/
def execPerst (h : Fin 8) (v : W32) (s : State) : Host.Outcome State Fault Refusal := .next (s.blockWrite 0x1e (perst h v))
/-- RETRAIN (R452). -/
def execRetrain (h : Fin 8) (v : W32) (s : State) : Host.Outcome State Fault Refusal := .next (s.blockWrite 0x1e (retrain h v))

end Sys2Proof.Machine
end

