-- ==== Sys2Proof/Machine/Reset.lean ====
section
/-! DEFINITION. The NVM log and the full reset (R459, R460, R463, R470 to R473). -/

namespace Sys2Proof.Machine

/-! ### The NVM log (R459) -/

/-- A block of the log. -/
def State.logBlk (s : State) (i : Nat) : LogBlock := assocD s.nv.log i {}

/-- Replaces a block of the log. -/
def State.setLogBlk (s : State) (i : Nat) (b : LogBlock) : State := { s with nv := { s.nv with log := assocSet s.nv.log i b } }

/-- Slots of a block that are no longer empty. -/
def LogBlock.used (b : LogBlock) : Nat := b.recs.length + b.skipped.length

/-- Bytes 0 to 23 of a block's header (R459). -/
def LogBlock.head (b : LogBlock) : List Byte := toBytes b.seq 8 ++ toBytes b.erases 4 ++ [0, 0, 0, 0] ++ toBytes b.first 8

/-- The header of an erased block is written, with its CRC-32C (R459). -/
def LogBlock.begin (b : LogBlock) (seq first : W64) : LogBlock :=
  let b := { b with seq := seq, first := first }
  { b with crc := crc32c b.head }

/-- The next block of the rotation is erased before the current one fills. -/
def State.logErase (s : State) (i : Nat) : State :=
  let b := s.logBlk i
  s.setLogBlk i { b with recs := [], skipped := [], erases := b.erases + 1 }

/-- The block being written has an empty slot and its header: the next block of the rotation where this one is full. -/
def State.logRoom (s : State) : State :=
  let i := s.nv.logBlock
  let b := s.logBlk i
  if b.used < 2047 then (if b.used = 0 ∧ b.seq = 0 then s.setLogBlk i (b.begin 1 s.nv.logIndex) else s)
  else
    let j := (i + 1) % 256
    let s := s.setLogBlk j ((s.logBlk j).begin (b.seq + 1) s.nv.logIndex)
    { s with nv := { s.nv with logBlock := j } }

/-- The block being written has one empty slot left: the next one is erased (R459). -/
def State.logAhead (s : State) : State :=
  if (s.logBlk s.nv.logBlock).used = 2046 then s.logErase ((s.nv.logBlock + 1) % 256) else s

/-- One record is programmed into the next empty slot. -/
def State.logPut (s : State) (r : JRec) : State :=
  let s := s.logRoom
  let b := s.logBlk s.nv.logBlock
  let s := s.setLogBlk s.nv.logBlock { b with recs := b.recs ++ [r] }
  ({ s with nv := { s.nv with logIndex := s.nv.logIndex + 1 } }.logAhead).bump R.CNT_NVM_WR

/-- Power goes while records wait: whether the slot being programmed is left part-programmed is a free value; such a slot is skipped at restart, and writing resumes at the next one (R459). -/
def State.logTorn (s : State) : State :=
  if s.lan.admitted.isEmpty then s
  else
    let f := s.free 1
    if f.1 = 0 then f.2
    else
      let s := f.2.logRoom
      let b := s.logBlk s.nv.logBlock
      (s.setLogBlk s.nv.logBlock { b with skipped := b.skipped ++ [b.used] }).logAhead

/-- Every admitted record is programmed, oldest first. -/
def State.logFlush (s : State) : State :=
  let l := s.lan.admitted
  l.foldl State.logPut { s with lan := { s.lan with admitted := [], flush := false } }

/-- As time passes the flush that SUPPLY_WARN_N began goes on: a free value says whether the oldest record has been programmed by now (R460, R537; log entry 44). -/
def State.nvmIdle (s : State) : State :=
  if !s.lan.flush then s
  else match s.lan.admitted with
    | [] => { s with lan := { s.lan with flush := false } }
    | r :: l =>
      let f := s.free 1
      if f.1 = 0 then f.2 else { f.2 with lan := { f.2.lan with admitted := l } }.logPut r

/-- A record is already in the NVM log. -/
def State.inLog (s : State) (r : JRec) : Bool := s.nv.log.any (fun p => p.2.recs.contains r)

/-- The flush before a full reset (R460): admitted records, the last 256 of the RAM ring that the log lacks, then a RESET record. -/
def State.resetFlush (s : State) (cause : Nat) : State :=
  let s := s.logFlush
  let last := s.lan.ram.drop (s.lan.ram.length - 256)
  let s := (last.filter (fun r => !s.inLog r)).foldl State.logPut s
  (s.jlog s.now 103 0 0x0f05 [(0, 1, cause)]).logFlush

/-! ### Full reset (R463, R470 to R473) -/

/-- Pads keep the levels that the world drives; everything else of a bay is as after full reset. -/
def padsOnly (b : Bay) : Bay := { pins := b.pins.map (fun p => (p.1, { pad := p.2.pad })) }

/-- The internal full reset: the TWIN_SIDE ball is sampled (R531), and what survives is the non-volatile storage, the world's levels and the commands waiting (R473). -/
def State.coldState (s : State) (cause : Nat) : State :=
  { State.reset with
    nv := { s.nv with period := s.nv.period + 1 }
    tw := { TwState.reset with sideB := Config.twinSide }
    bays := s.bays.map (fun p => (p.1, padsOnly p.2))
    boot := { BootState.reset with aon := !s.boot.rstLow && !s.boot.por, rstLow := s.boot.rstLow, por := s.boot.por, cause := cause }
    freeCtr := s.freeCtr
    pending := s.pending }

/-- FULL_RESET (R463): Lantern flushes, except at power-on and at its own watchdog's reset (R460), and resets every domain. -/
def State.fullReset (s : State) (cause : Nat) : State :=
  (if cause = 0 ∨ cause = 8 then s else s.resetFlush cause).coldState cause

/-- A full reset that JTAG or the debug port asks for (R463, cause 10). No row of the table of commands brings one, so no command calls it. -/
def State.debugReset (s : State) : State := s.fullReset 10

end Sys2Proof.Machine
end

