-- ==== Sys2Proof/Machine/Lantern.lean ====
section
/-! DEFINITION. Lantern: sensors, watchdogs, wear, the log services, updates and the Lantern port (chapter Lantern Management; R177, R475). -/

namespace Sys2Proof.Machine

/-! ### Sensors (R455 to R457) -/

/-- A sensor. -/
def State.sensor (s : State) (i : Nat) : Sensor := assocD s.lan.sensors i {}

/-- Replaces a sensor. -/
def State.setSensor (s : State) (i : Nat) (x : Sensor) : State := { s with lan := { s.lan with sensors := assocSet s.lan.sensors i x } }

/-- A reading as a number. -/
def sVal (v : BitVec 24) : Int := v.toInt

/-- Nominal voltage in mV and tolerance in percent of a voltage monitor; a core monitor judges against the higher of the two targets of a move, or the level's nominal before the targets are set (R455, R498, R500). -/
def State.rail (s : State) (i : Nat) : Nat × Nat :=
  if i < 114 then
    let l := min (s.fld R.PWR_LEVEL 0 3) (s.fld R.PWR_LEVEL 3 3)
    let t := s.fld (R.PWR_VTGT l) 0 10
    (if t = 0 then [800, 720, 660, 600, 550].getD l 550 else t, 3)
  else if i < 116 then (750, 5)
  else if i < 120 then (800, 5)
  else if i < 126 then (1100, 5)
  else if i = 126 then (1800, 5)
  else if i = 127 then (900, 5)
  else if i = 128 then (1200, 5)
  else if i = 129 then (800, 5)
  else if i = 130 then (1800, 5)
  else (3300, 5)

/-- The configured frequency of a clock monitor in kHz, as numerator and denominator (R152, R455, R492, R498); those of the leading-link receive clock and of the Lantern port the spec does not give, so they are free values (log entry 85). -/
def State.clkKhz (s : State) (i : Nat) : Nat × Nat :=
  match i with
  | 204 | 205 => (100000, 1)
  | 206 => (25000, 1)
  | 207 => (s.levelRate * 1000000, 60)
  | 208 | 213 => (1500000, 1)
  | 209 | 210 => (3200000, 1)
  | 211 => (2500000, 1)
  | 212 => (375000, 1)
  | 214 | 215 | 216 | 217 => (1500000, s.fld (R.MCLK_CFG (i - 214)) 0 9)
  | 218 => (80000, 1)
  | 219 | 220 => (750000, 1)
  | 221 => (200000, 1)
  | 222 => (Config.linkClockKhz, 1)
  | _ => (Config.lanternPortKhz, 1)

/-- A reading in kHz lies off n / d by more than 1,000 ppm (R455). -/
def offClock (v : Int) (f : Nat × Nat) : Bool := decide (f.1 < (v * f.2 - f.1).natAbs * 1000)

/-- The LANTERN block's img fields are loaded (R478 step 6); from then on the device applies only what the image carries (R4). -/
def State.thermLoaded (s : State) : Bool := decide (6 ≤ s.boot.step ∧ s.boot.step < 15)

/-- HOT in force, in 0.125 °C: LN_THERM, or before it is loaded the ordering code's default (R456, R542). -/
def State.hotPoint (s : State) : Int :=
  let c := s.fld R.LN_THERM 0 8
  let w : W64 := assocD s.nv.fuses 1 0
  ((if c != 0 || s.thermLoaded then c * 8 else if bitAt w 16 then 720 else 800 : Nat) : Int)

/-- The alarm a reading meets: 0 high, 1 low, 2 stopped (R455). A monitor of a clock not in use meets none. -/
def State.alarmKind (s : State) (i : Nat) (inUse : Bool) (v : Int) : Option Nat :=
  let off (n : Nat) (d p : Nat) : Option Nat :=
    if (v - n).natAbs * d > n * p then some (if v < n then 1 else 0) else none
  if i < 96 then (if s.hotPoint ≤ v then some 0 else none)
  else if i < 132 then off (s.rail i).1 100 (s.rail i).2
  else if i < 204 then none
  else if !inUse then none
  else if v = 0 then some 2
  else
    let f := s.clkKhz i
    if offClock v f then some (if v * f.2 < f.1 then 1 else 0) else none

/-- SENSOR_ALARM (R468). -/
def State.alarmLog (s : State) (i kind : Nat) (v : BitVec 24) : State :=
  s.jlog s.now 103 0 0x0f00 [(0, 1, i), (1, 1, kind), (4, 4, (v.signExtend 32).toNat)]

/-- The clock of a monitor is in use (R494): a reference that some PLL or TB_CTL selects, which the boot defaults do until step 10 (R501), GS_MCLK, the CAN kernel, the leading-link receive clock and the Lantern port as enabled, and every other clock always. -/
def State.clockUsed (s : State) (i : Nat) : Bool :=
  let ref (n : Nat) : Bool := s.tb.src.val == n || s.clk.pllIn.any (fun p => p.2 == n) ||
    (if s.boot.applied then pllFields.any (fun f => s.fld R.CLK_REF f.2 2 == n) || s.fld R.TB_CTL 0 2 == n || decide (2 ≤ s.fld R.TB_CTL 0 2)
     else s.clk.bootRef == n)
  match i with
  | 204 => ref 0
  | 205 => ref 1
  | 214 | 215 | 216 | 217 => s.flagAt (R.MCLK_CFG (i - 214)) 21
  | 218 => (List.range 16).any (fun c => s.flagAt (R.CC_CFG c) 0)
  | 222 => s.flagAt R.TW_CFG 0
  | 223 => s.flagAt R.LN_PORT 1
  | _ => true

/-- What a sensor reads: a clock not in use reads 0, and so does the clock behind a multiplexer that hangs (R455, R496). -/
def State.readingOf (s : State) (r : SensorReading) : BitVec 24 :=
  let i := r.sensor.toNat
  let hung := (i = 207 ∧ s.clk.swCore.isSome ∧ s.muxHung false) ∨ (i = 212 ∧ s.clk.swAnt.isSome ∧ s.muxHung true)
  if !s.clockUsed i ∨ hung then 0 else r.value

/-- One reading, unless the sensor gave none: an alarm begins at the first sample that meets its condition and ends after 10 s inside the limit (R456). While a rail holds boot at step 2, its alarm begins only after 100 ms (R534). -/
def State.reading (s : State) (r : SensorReading) : State :=
  let i := r.sensor.toNat
  if 224 ≤ i || !r.valid then s
  else
    let x := s.sensor i
    let used := s.clockUsed i
    let v := s.readingOf r
    let x := { x with value := v, valid := true, top := if (x.valid || x.wrote) && decide (sVal v ≤ sVal x.top) then x.top else v }
    match s.alarmKind i used (sVal v) with
    | some k =>
      if x.alarm then s.setSensor i { x with inside := 0 }
      else if s.boot.step < 3 ∧ 96 ≤ i ∧ i < 132 ∧ s.now.toNat < 100000000 then s.setSensor i x
      else ((s.setSensor i { x with alarm := true, inside := 0 }).flag R.LN_STATUS 11).alarmLog i k v
    | none =>
      if !x.alarm then s.setSensor i x
      else if x.inside + 1 < 10000 then s.setSensor i { x with inside := x.inside + 1 }
      else (s.setSensor i { x with alarm := false, inside := 0 }).alarmLog i 3 v

/-- The thermal sensors sampled so far: index and reading. -/
def State.thermals (s : State) : List (Nat × Int) :=
  (s.lan.sensors.filter (fun p => decide (p.1 < 96) && p.2.valid)).map (fun p => (p.1, sVal p.2.value))

/-- The hottest thermal sensor, the lowest of those equal. -/
def hottest : List (Nat × Int) → Option (Nat × Int)
  | [] => none
  | x :: r =>
    match hottest r with
    | none => some x
    | some y => if x.2 < y.2 then some y else some x

/-- THERM_HOT (R468). -/
def State.hotLog (s : State) (begins : Bool) : State :=
  match hottest s.thermals with
  | some (i, v) => s.jlog s.now 103 0 0x0f01 [(0, 1, i), (1, 1, b2n begins), (4, 4, (BitVec.ofInt 32 v).toNat)]
  | none => s

/-- The thermal rules after a sample (R456). -/
def State.thermRule (s : State) : State :=
  let hot := s.hotPoint
  let t := s.thermals
  if t.any (fun p => decide (hot ≤ p.2)) then
    if s.lan.hot then { s with lan := { s.lan with cool := 0 } }
    else
      let s := ({ s with lan := { s.lan with hot := true, cool := 0 } }.flag R.LN_STATUS 10).hotLog true
      (s.setFld R.PWR_LEVEL 8 1 1).perfFollow 2
  else if !s.lan.hot then s
  else if t.all (fun p => decide (p.2 < hot - 40)) then
    if s.lan.cool + 1 < 1000 then { s with lan := { s.lan with cool := s.lan.cool + 1 } }
    else
      let s := { s with lan := { s.lan with hot := false, cool := 0 } }.hotLog false
      (s.setFld R.PWR_LEVEL 8 1 0).perfFollow 4
  else { s with lan := { s.lan with cool := 0 } }

/-- The trip point in force, in 0.125 °C: LN_THERM, or before it is loaded the ordering code's default (R456, R542). -/
def State.tripPoint (s : State) : Int :=
  let c := s.fld R.LN_THERM 8 8
  let w : W64 := assocD s.nv.fuses 1 0
  ((if c != 0 || s.thermLoaded then c * 8 else if bitAt w 16 then 840 else 920 : Nat) : Int)

/-- Sums of the aging readings; the hour's means are kept when the clock hour ends, rounded up so that a mean above a limit stays above it (R464). -/
def State.agingAdd (s : State) (rs : List SensorReading) : State :=
  let h := s.now.toNat / 3600000000000
  let s := if h = s.lan.agingHour then s
    else { s with lan := { s.lan with
      agingMean := s.lan.aging.map (fun p => (p.1, (p.2.1 + p.2.2 - 1) / p.2.2)), aging := [], agingHour := h } }
  rs.foldl (fun s r =>
    let i := r.sensor.toNat
    if r.valid ∧ 132 ≤ i ∧ i < 204 then
      let o : Int × Nat := assocD s.lan.aging (i - 132) (0, 0)
      { s with lan := { s.lan with aging := assocSet s.lan.aging (i - 132) (o.1 + sVal r.value, o.2 + 1) } }
    else s) s

/-- The rail of a voltage monitor has been read inside its range (R455, R534). -/
def State.railGood (s : State) (i : Nat) : Bool := (s.sensor i).valid && (s.alarmKind i true (sVal (s.sensor i).value)).isNone

/-- Boot is held at step 2 after a thermal trip, and until every rail lies inside its range (R456, R534). -/
def State.holdRule (s : State) : State :=
  if s.boot.step < 3 then
    let warm := s.boot.cause == 9 && (s.thermals.isEmpty || s.thermals.any (fun p => decide (s.tripPoint - 120 ≤ p.2)))
    let rails := (List.range 36).any (fun i => !s.railGood (96 + i))
    { s with lan := { s.lan with holdBoot := warm || rails, holdTemp := warm } }
  else s

/-- A reading that makes Lantern reset the device: a stopped clock (R457). -/
def State.stopsDevice (s : State) (r : SensorReading) : Bool :=
  r.valid && s.readingOf r == 0 && [207, 208, 209, 210, 212, 213].contains r.sensor.toNat

/-- The policy core gathers the thermal readings of the tiles (R101). -/
def State.gatherTemps (s : State) (rs : List SensorReading) : State :=
  rs.foldl (fun s r =>
    if r.valid && decide (r.sensor.toNat < 72) then s.gatherSet (fun g => { g with temps := assocSet g.temps r.sensor.toNat r.value }) else s) s

/-- The next sample is due 1,000,000 ns after the last one (R455). -/
def State.sampleDue (s : State) : State :=
  let s := match s.lan.sampleAt with
    | some t => s.advanceTo (t + 1000000)
    | none => s
  { s with lan := { s.lan with sampleAt := some s.now } }

/-- The readings of one sample, and what Lantern makes of them (R455, R456, R464). -/
def State.sampleTaken (s : State) (rs : List SensorReading) : State :=
  ((((rs.foldl State.reading s).gatherTemps rs).thermRule.agingAdd rs).holdRule)

/-- SENSOR_SAMPLE (R455 to R457), from boot step 2 on (R478). -/
def sensorSample (rs : List SensorReading) (s : State) : State :=
  if s.boot.step < 2 then s else
  let s := s.sampleDue.sampleTaken rs
  let trip := s.thermals.any (fun p => decide (s.tripPoint ≤ p.2))
  if rs.any s.stopsDevice then s.fullReset 4
  else if trip && s.lan.tripSeen then s.fullReset 9
  else { s with lan := { s.lan with tripSeen := trip } }

/-! ### Watchdogs (R461, R462) -/

/-- SAFE_ALL of every Open bay and of the sector unit (R462). -/
def State.safeAll (s : State) : State :=
  ((List.range 8).foldl (fun s b => if s.baySealed b then s else baySafeAll (bayOf b) 1 s) s).flag R.SI_CTL 0

/-- WD_KICK (R461): a kick loads TIMEOUT into a watchdog that is enabled; it does not undo an expiry at the tick before it. -/
def wdKick (k : Fin 4) (v : W32) (s : State) : State :=
  let c := s.rd (R.WD_CFG k.val)
  if bitAt v 0 && bitAt c 18 then
    s.wr (R.WD_LEFT k.val) (BitVec.ofNat 32 (bitsAt c 0 16))
  else s

/-- At a tick every running software watchdog counts down; WD_WARN is set at half its timeout (R461). -/
def State.wdTick (s : State) : State :=
  (List.range 4).foldl (fun s k =>
    let c := s.rd (R.WD_CFG k)
    let left := s.fld (R.WD_LEFT k) 0 16
    if !bitAt c 18 || left = 0 then s
    else
      let s := s.wr (R.WD_LEFT k) (BitVec.ofNat 32 (left - 1))
      let s := if left - 1 = bitsAt c 0 16 / 2 then
          (s.flag R.LN_STATUS 12).jlog s.now 103 0 0x0f02 [(0, 1, k), (1, 1, 0), (2, 1, bitsAt c 16 2)]
        else s
      if left = 1 then { s with lan := { s.lan with wdDue := s.lan.wdDue ++ [k] } } else s) s

/-- WD_EXPIRE (R461): a software watchdog that has reached 0 is journaled and acts. -/
def wdExpire (k : Fin 4) (s : State) : State :=
  if s.lan.wdDue.contains k.val then
    let a := s.fld (R.WD_CFG k.val) 16 2
    let s := { s with lan := { s.lan with wdDue := s.lan.wdDue.filter (· != k.val) } }
    let s := s.jlog s.now 103 0 0x0f02 [(0, 1, k.val), (1, 1, 1), (2, 1, a)]
    if a = 1 then s.safeAll else if a = 2 then s.fullReset 6 else s
  else s

/-- At a tick the beacon unit, the Hive dispatcher, the Hive policy core and Keeper send Lantern a liveness word; a unit that fails sends none, and which do is a free value (R461; log entry 44). -/
def State.livenessTick (s : State) : State :=
  let f := s.free 4
  { f.2 with lan := { f.2.lan with
    heard := (List.range 4).foldl (fun l u => if bitAt f.1 u then assocSet l u s.bcn.frame else l) s.lan.heard } }

/-- No word has come from unit u for LN_WD_INT beacons, counted from the first tick on (R461). -/
def State.wdIntRun (s : State) (u : Fin 4) : Bool :=
  s.bcn.ticked && decide (s.fld R.LN_WD_INT 0 8 ≤ (s.bcn.frame - assocD s.lan.heard u.val s.bcn.first).toNat)

/-- UNIT_WATCHDOG_EXPIRE (R461): a unit has sent no liveness word for LN_WD_INT beacons. -/
def unitWatchdogExpire (u : Fin 4) (s : State) : State :=
  if !s.wdIntRun u then s else
  (s.jlog s.now 103 0 0x0f02 [(0, 1, 8 + u.val), (1, 1, 1), (2, 1, 2)]).fullReset 7

/-- As time passes Lantern's firmware kicks its watchdog every 10 ms; whether it still does is a free value (R461; log entry 44). -/
def State.lanKick (s : State) : State :=
  match s.lan.kickAt with
  | none => s
  | some t =>
    let n := (s.now - t).toNat / 10000000
    if n = 0 then s
    else
      let f := s.free 1
      { f.2 with lan := { f.2.lan with kickAt := some (if f.1 = 0 then t else t + BitVec.ofNat 64 (n * 10000000)) } }

/-- LANTERN_WATCHDOG_EXPIRE (R460, R461): 100 ms without a kick, from the start of the firmware on; no flush. -/
def lanternWatchdogExpire (s : State) : State :=
  match s.lan.kickAt with
  | some t => (s.advanceTo (t + 100000000)).fullReset 8
  | none => s

/-! ### Wear (R464) -/

/-- Fields of a book entry: kind, unit, sub, reset period (R468). -/
def bookFields (r : JRec) : Nat × Nat × Nat × Nat :=
  (bitsAt r.payload 0 8, bitsAt r.payload 8 16, bitsAt r.payload 24 8, bitsAt r.payload 64 32)

/-- The book names a part. -/
def State.inBook (s : State) (kind unit sub : Nat) : Bool :=
  s.nv.book.any (fun r => let f := bookFields r; f.1 == kind && f.2.1 == unit && f.2.2.1 == sub)

/-- The book shows a part halted in two different reset periods (R464). -/
def State.haltedTwice (s : State) (kind unit sub : Nat) : Bool :=
  let ps := (s.nv.book.filter (fun r => let f := bookFields r; f.1 == kind && f.2.1 == unit && f.2.2.1 == sub)).map
    (fun r => (bookFields r).2.2.2)
  match ps with
  | [] => false
  | p :: r => r.any (· != p)

/-- WEAR_JUDGE (R464): the part is judged worn where its condition holds and the book does not name it yet. -/
def wearJudge (part : WearPart) (s : State) : State :=
  match part with
  | .core k =>
    if decide (s.fld R.LN_WEAR 0 16 < assocD s.lan.agingMean (k.val / 2) 0) && !s.inBook 1 k.val 0 then
      let s := s.judgeWorn 1 k.val 0 0
      s.coreWorn k
    else s
  | .channel c =>
    if (decide (s.fld R.LN_WEAR 16 8 ≤ (s.rd (R.CNT_HARD c.val)).toNat) ||
        decide (s.fld R.LN_WEAR 24 8 ≤ (s.rd (R.memc_CNT_UE c.val)).toNat)) && !s.inBook 3 c.val c.val then
      let s := s.judgeWorn 3 c.val c.val 0
      { s with mem := { s.mem with wornCh := s.mem.wornCh ++ [c.val] } }
    else s
  | .engine b e =>
    if s.haltedTwice 8 e.val b.val && !s.inBook 5 e.val b.val then
      let s := s.judgeWorn 5 e.val b.val 0
      { s with hive := { s.hive with antWorn := s.hive.antWorn ++ [(b.val, e.val)] } }
    else s

/-! ### Mailboxes (R326, R327, R466) -/

/-- The 64 bytes of a mailbox whose words stand at the keys given. -/
def State.mbBytes (s : State) (key : Nat → Nat) : List Byte := (List.range 16).flatMap (fun w => toBytes (s.rd (key w)) 4)

/-- Writes the 64 bytes of a mailbox. -/
def State.mbPut (s : State) (key : Nat → Nat) (bs : List Byte) : State :=
  (List.range 16).foldl (fun s w => s.wr (key w) (BitVec.ofNat 32 (leNat ((bs.drop (4 * w)).take 4)))) s

/-- A reply (R326): the request's word 0, RESULT, LEN and the TAG, and the results over the argument bytes. -/
def mbReply (req : List Byte) (result : Nat) (out : List Byte) : List Byte :=
  req.take 4 ++ [BitVec.ofNat 8 result, BitVec.ofNat 8 out.length] ++ (req.drop 2).take 2 ++ out ++ req.drop (8 + out.length)

/-- State of a Lantern mailbox. -/
def State.lnMb (s : State) (m : Nat) : Mbox := assocD s.lan.mbox m {}

/-- The request in a mailbox. -/
def State.lnReq (s : State) : LnMbox → List Byte
  | .reg m => s.mbBytes (R.lantern_MB m.val)
  | .port => toBytes s.lan.portMb 64

/-- The mailboxes in the order of service (R466). -/
def allMb : List (Fin 8) := [0, 1, 2, 3, 4, 5, 6, 7]

/-- The mailbox is the next to be served: BUSY, and no lower one is (R466). -/
def State.lnNext (s : State) : LnMbox → Bool
  | .reg m => (s.lnMb m.val).st == 1 && (List.range m.val).all (fun i => (s.lnMb i).st != 1)
  | .port => s.lan.portSrc.isSome

/-- A request completes; a reply over the port carries inline bytes (R454). -/
def State.lnFinish (s : State) (m : LnMbox) (result : Nat) (out inline : List Byte) : State :=
  let bs := mbReply (s.lnReq m) result out
  match m with
  | .reg m =>
    let s := { s with lan := { s.lan with mbox := assocSet s.lan.mbox m.val { st := 2, result := BitVec.ofNat 8 result, enclave := 0 } } }
    (s.mbPut (R.lantern_MB m.val) bs).flag R.LN_STATUS m.val
  | .port =>
    match s.lan.portSrc with
    | some src => { s with lan := { s.lan with portSrc := none, portOut := s.lan.portOut ++ [(src, bs ++ inline)] } }
    | none => s

/-- Services over the registers; services 0x01 and 0x08 also come over the port (R454). -/
def lnKnown (code : Nat) : Bool := decide (1 ≤ code ∧ code ≤ 9)

/-- Requests that need no work, of an unknown service or one of the port only: each is answered once no lower mailbox is BUSY (R327, R466). -/
def State.lnUnknown (s : State) : Nat → State
  | 0 => s
  | n + 1 =>
    match allMb.find? (fun m => (s.lnMb m.val).st == 1) with
    | none => s
    | some m =>
      let code := descNum (s.lnReq (.reg m)) 0 1
      if lnKnown code then s else (s.lnFinish (.reg m) (if code = 10 ∨ code = 11 then 2 else 1) [] []).lnUnknown n

/-- A service completes, and the requests behind it that need no work (R327, R466). -/
def State.lnDone (s : State) (m : LnMbox) (result : Nat) (out inline : List Byte) : State := (s.lnFinish m result out inline).lnUnknown 8

/-- Serves a request of a service code, where the mailbox is the next to be served and asks for it. -/
def State.lnServe (s : State) (m : LnMbox) (code : Nat) (f : List Byte → State → State) : State :=
  let req := s.lnReq m
  if s.lnNext m && descNum req 0 1 == code then f req s else s

/-- A buffer of Lantern or Keeper: in DRAM, mapped, and within one berth (R328, R466). -/
def State.svcBuf (s : State) (w write : Bool) (wpa n : Nat) : Bool :=
  decide (rangeOf wpa = .dram) && decide (n ≤ 2 ^ 21 - wpa % 2 ^ 21) && (n == 0 || s.mapped w write wpa n)

/-- LN_DOOR (R327, R466): a doorbell to a BUSY mailbox is dropped; a request that needs no work is answered as soon as no lower mailbox is BUSY. -/
def lnDoor (m : Fin 8) (s : State) : State :=
  let x := s.lnMb m.val
  if x.st = 1 then s.flag R.LN_STATUS 9
  else
    { s with lan := { s.lan with mbox := assocSet s.lan.mbox m.val { x with st := 1 } } }.lnUnknown 8

/-- SENS_DATA of a sensor (R469). -/
def State.sensWord (s : State) (i : Nat) : W32 :=
  let x := s.sensor i
  BitVec.ofNat 32 (x.value.toNat + bitIf x.valid 24 + bitIf x.alarm 25)

/-- SENSORS (R466). -/
def sensors (m : LnMbox) (s : State) : State :=
  s.lnServe m 1 (fun req s =>
    let a := descNum req 8 1
    let n := descNum req 9 1
    if n < 1 ∨ 14 < n ∨ 224 < a + n then s.lnDone m 3 [] []
    else s.lnDone m 0 ((rangeFrom a n).flatMap (fun i => toBytes (s.sensWord i) 4)) [])

/-- The log record of an index, where the log still holds it. -/
def State.logAt (s : State) (i : Nat) : Option JRec :=
  s.nv.log.findSome? (fun p =>
    let f := p.2.first.toNat
    if f ≤ i ∧ i < f + p.2.recs.length then p.2.recs[i - f]? else none)

/-- The oldest log index held. -/
def State.logOldest (s : State) : Nat :=
  (s.nv.log.filter (fun p => !p.2.recs.isEmpty)).foldl (fun a p => min a p.2.first.toNat) s.nv.logIndex.toNat

/-- Copies up to count records from an index on to a buffer, the oldest held if that is later. -/
def State.copyRecs (s : State) (m : LnMbox) (req : List Byte) (oldest stop : Nat) (rec? : Nat → Option JRec) : State :=
  let buf := descNum req 8 8
  let first := descNum req 16 8
  let count := descNum req 24 4
  if count < 1 ∨ 65536 < count then s.lnDone m 3 [] []
  else if !s.svcBuf false true buf (32 * count) then s.lnDone m 4 [] []
  else
    let start := max first oldest
    let l := (rangeFrom start (min count (stop - start))).filterMap rec?
    let s := (s.bufWrite .lantern false buf (l.flatMap recBytes)).getD s
    s.lnDone m 0 (leBytes 8 start ++ leBytes 4 l.length) []

/-- LOG_READ (R466). -/
def logRead (m : LnMbox) (s : State) : State :=
  s.lnServe m 2 (fun req s => s.copyRecs m req s.logOldest s.nv.logIndex.toNat s.logAt)

/-- RING_READ (R466). -/
def ringRead (m : LnMbox) (s : State) : State :=
  s.lnServe m 3 (fun req s =>
    let o := s.lan.ramNext - s.lan.ram.length
    s.copyRecs m req o s.lan.ramNext (fun i => s.lan.ram[i - o]?))

/-- BOOK_READ (R466). -/
def bookRead (m : LnMbox) (s : State) : State :=
  s.lnServe m 4 (fun req s =>
    let buf := descNum req 8 8
    if !s.svcBuf false true buf 65536 then s.lnDone m 4 [] []
    else
      let l := s.nv.book.take 2048
      let s := (s.bufWrite .lantern false buf (l.flatMap recBytes)).getD s
      s.lnDone m 0 (leBytes 4 l.length) [])

/-! ### Image slots and updates (R466, R467, R475) -/

/-- Replaces the cells of a slot. -/
def State.setSlotCells (s : State) (b : Bool) (m : List Host.Cell) : State :=
  if b then { s with nv := { s.nv with slotB := m } } else { s with nv := { s.nv with slotA := m } }

/-- Writes bytes into a slot. -/
def State.slotWrite (s : State) (b : Bool) (off : Nat) (bs : List Byte) : State :=
  s.setSlotCells b (cellWrite 0xff (s.slotCells b) off bs)

/-- A slot's header says VALID (R475). -/
def State.slotValid (s : State) (b : Bool) : Bool := s.slotRead b 12 1 == [0xa5]

/-- UPDATE records (R468). -/
def State.updLog (s : State) (what : Nat) (slot : Bool) (seq : W32) : State :=
  s.jlog s.now 103 0 0x0f04 [(0, 1, what), (1, 1, b2n slot), (4, 4, seq.toNat)]

/-- UPDATE_OPEN (R467): the slot that did not boot is marked invalid, then the blocks it needs are erased. -/
def updateOpen (m : LnMbox) (s : State) : State :=
  s.lnServe m 5 (fun req s =>
    let len := descNum req 8 4
    if 2 ^ 28 < len then s.lnDone m 3 [] []
    else
      let b := !s.boot.slotB
      let seq := BitVec.ofNat 32 (descNum req 12 4)
      let s := s.slotWrite b 12 [0]
      let stop := (len + 65535) / 65536 * 65536
      let s := s.setSlotCells b ((s.slotCells b).filter (fun c => decide (stop ≤ c.1)))
      let s := { s with lan := { s.lan with upd := some { slot := b, len := len, seq := seq } } }
      (s.updLog 0 b seq).lnDone m 0 [] [])

/-- Bytes programmed into an open slot: the VALID byte is left to the commit (R467). -/
def State.program (s : State) (b : Bool) (off : Nat) (bs : List Byte) : State :=
  let s' := s.slotWrite b off bs
  if off ≤ 12 ∧ 12 < off + bs.length then s'.slotWrite b 12 (s.slotRead b 12 1) else s'

/-- UPDATE_WRITE (R466). -/
def updateWrite (m : LnMbox) (s : State) : State :=
  s.lnServe m 6 (fun req s =>
    match s.lan.upd with
    | none => s.lnDone m 7 [] []
    | some u =>
      let src := descNum req 8 8
      let len := descNum req 16 4
      let off := descNum req 20 4
      if 2 ^ 21 < len ∨ u.len < off + len then s.lnDone m 3 [] []
      else if !s.svcBuf false false src len then s.lnDone m 4 [] []
      else match s.bufRead .lantern false src len with
        | none => s.lnDone m 4 [] []
        | some (bs, s) => (s.program u.slot off bs).lnDone m 0 (leBytes 4 len) [])

/-- The body of a slot, by the LEN of its header (R475). -/
def State.slotBody (s : State) (b : Bool) : List Byte := s.slotRead b 4096 (leNat (s.slotRead b 8 4))

/-- UPDATE_COMMIT (R467): the body is hashed and USIG verified with the update key; the header with sequence, hash and VALID is the last write. -/
def updateCommit (m : LnMbox) (s : State) : State :=
  s.lnServe m 7 (fun _ s =>
    match s.lan.upd with
    | none => s.lnDone m 7 [] []
    | some u =>
      let h := toBytes (Config.sha384 (s.slotBody u.slot)) 48
      let ok := Config.ecdsaValid (s.slotRead s.boot.slotB 256 96) h (s.slotRead u.slot 352 96)
      let s := { s with lan := { s.lan with upd := none } }
      if ok then
        let s := s.slotWrite u.slot 0 [0x53, 0x43, 0x31, 0x38]
        let s := (s.slotWrite u.slot 4 (toBytes u.seq 4)).slotWrite u.slot 16 h
        let s := s.slotWrite u.slot 12 [0xa5]
        let s := s.slotWrite u.slot 448 (toBytes (crc32c (s.slotRead u.slot 0 448)) 4)
        (s.updLog 1 u.slot u.seq).lnDone m 0 [1] []
      else (s.updLog 2 u.slot u.seq).lnDone m 5 [0] [])

/-- SLOT_INFO (R466). -/
def slotInfo (m : LnMbox) (s : State) : State :=
  s.lnServe m 8 (fun _ s =>
    s.lnDone m 0 ([BitVec.ofNat 8 (b2n s.boot.slotB), BitVec.ofNat 8 (b2n (s.slotValid false)), BitVec.ofNat 8 (b2n (s.slotValid true)), 0] ++
      s.slotRead false 4 4 ++ s.slotRead true 4 4) [])

/-- RESET (R466): with the confirm word, the reply and then a full reset with cause 2. -/
def resetSvc (m : LnMbox) (s : State) : State :=
  s.lnServe m 9 (fun req s =>
    if descNum req 8 4 = 0x52535421 then (s.lnDone m 0 [] []).fullReset 2 else s.lnDone m 8 [] [])

/-! ### The Lantern port (R454, R466) -/

/-- A datagram is addressed to Lantern: to LN_IP and to port LN_PORT.UDP (R454). -/
def State.lnAddressed (s : State) (h : UdpHead) : Bool := h.ip == s.rd R.LN_IP && h.port.toNat == s.fld R.LN_PORT 16 16

/-- LANTERN_DATAGRAM (R454): a 64 B request to the address and port served; a service not served over the port is answered with RESULT 0x02. -/
def lanternDatagram (h : UdpHead) (bytes : List Byte) (s : State) : State :=
  if !s.lnPortOn || !s.lnAddressed h || s.lan.portSrc.isSome || bytes.length != 64 then s
  else
    let s := { s with lan := { s.lan with portMb := BitVec.ofNat 512 (leNat bytes), portSrc := some h.src } }
    if [1, 8, 10, 11].contains (descNum bytes 0 1) then s else s.lnDone .port 2 [] []

/-- STREAM (R466): the requester gets every record entering the RAM ring until 60 s pass without a repeat request. -/
def stream (src : UdpSrc) (s : State) : State :=
  if s.lan.portSrc == some src then
    s.lnServe .port 10 (fun req s =>
      let hdr := mbReply req 0 []
      let old := s.lan.streams.find? (fun (y : Stream) => y.src == src)
      let x : Stream := { src := src, last := s.now, hdr := hdr, buf := (old.map (·.buf)).getD [] }
      { s with lan := { s.lan with streams := s.lan.streams.filter (fun (y : Stream) => y.src != src) ++ [x] } }.lnDone .port 0 [] [])
  else s

/-- STREAM_TIMEOUT (R466). -/
def streamTimeout (s : State) : State :=
  { s with lan := { s.lan with streams := s.lan.streams.filter s.streamLive } }

/-- LOG_FETCH (R466): up to 32 log records inline, from the index that the request names, or the oldest held if that is later. -/
def logFetch (src : UdpSrc) (s : State) : State :=
  if s.lan.portSrc == some src then
    s.lnServe .port 11 (fun req s =>
      let a := max (descNum req 8 8) s.logOldest
      let l := (rangeFrom a (min 32 (s.nv.logIndex.toNat - a))).filterMap s.logAt
      s.lnDone .port 0 (leBytes 8 a ++ leBytes 4 l.length) (l.flatMap recBytes))
  else s

/-- ARP_REQUEST (R454): answered for LN_IP. -/
def arpRequest (ip : W32) (src : UdpSrc) (s : State) : State :=
  if s.lnPortOn && ip == s.rd R.LN_IP then { s with lan := { s.lan with portOut := s.lan.portOut ++ [(src, toBytes ip 4)] } } else s

/-- ICMP_ECHO (R454): answered for LN_IP with the same data. -/
def icmpEcho (ip : W32) (src : UdpSrc) (bytes : List Byte) (s : State) : State :=
  if s.lnPortOn && ip == s.rd R.LN_IP then { s with lan := { s.lan with portOut := s.lan.portOut ++ [(src, bytes)] } } else s

/-! ### The supply warning (R177, R460) -/

/-- SUPPLY_WARN (R177, R460, R530): the ball has been low for 200 ns; Lantern begins to program every admitted record, which takes time of its own (R537). -/
def supplyWarn (s : State) : State :=
  let s := s.supplyFall (s.now - 200)
  { s with lan := { s.lan with flush := true } }

/-! ### Commands -/

/-- SENSOR_SAMPLE (R455). -/
def execSensorSample (rs : List SensorReading) (s : State) : Host.Outcome State Fault Refusal := .next (sensorSample rs s)
/-- NVM_PROGRAM (R459). -/
def execNvmProgram (s : State) : Host.Outcome State Fault Refusal := .next s.logFlush
/-- WD_KICK (R461). -/
def execWdKick (k : Fin 4) (v : W32) (s : State) : Host.Outcome State Fault Refusal := .next (s.blockWrite 0x22 (wdKick k v))
/-- WD_EXPIRE (R461). -/
def execWdExpire (k : Fin 4) (s : State) : Host.Outcome State Fault Refusal := .next (wdExpire k s)
/-- UNIT_WATCHDOG_EXPIRE (R461). -/
def execUnitWatchdogExpire (u : Fin 4) (s : State) : Host.Outcome State Fault Refusal := .next (unitWatchdogExpire u s)
/-- LANTERN_WATCHDOG_EXPIRE (R461). -/
def execLanternWatchdogExpire (s : State) : Host.Outcome State Fault Refusal := .next (lanternWatchdogExpire s)
/-- WEAR_JUDGE (R464). -/
def execWearJudge (part : WearPart) (s : State) : Host.Outcome State Fault Refusal := .next (wearJudge part s)
/-- LN_DOOR (R466). -/
def execLnDoor (m : Fin 8) (s : State) : Host.Outcome State Fault Refusal := .next (s.blockWrite 0x22 (lnDoor m))
/-- SENSORS (R466). -/
def execSensors (m : LnMbox) (s : State) : Host.Outcome State Fault Refusal := .next (sensors m s)
/-- LOG_READ (R466). -/
def execLogRead (m : LnMbox) (s : State) : Host.Outcome State Fault Refusal := .next (logRead m s)
/-- RING_READ (R466). -/
def execRingRead (m : LnMbox) (s : State) : Host.Outcome State Fault Refusal := .next (ringRead m s)
/-- BOOK_READ (R466). -/
def execBookRead (m : LnMbox) (s : State) : Host.Outcome State Fault Refusal := .next (bookRead m s)
/-- UPDATE_OPEN (R467). -/
def execUpdateOpen (m : LnMbox) (s : State) : Host.Outcome State Fault Refusal := .next (updateOpen m s)
/-- UPDATE_WRITE (R466). -/
def execUpdateWrite (m : LnMbox) (s : State) : Host.Outcome State Fault Refusal := .next (updateWrite m s)
/-- UPDATE_COMMIT (R467). -/
def execUpdateCommit (m : LnMbox) (s : State) : Host.Outcome State Fault Refusal := .next (updateCommit m s)
/-- SLOT_INFO (R466). -/
def execSlotInfo (m : LnMbox) (s : State) : Host.Outcome State Fault Refusal := .next (slotInfo m s)
/-- RESET (R466). -/
def execReset (m : LnMbox) (s : State) : Host.Outcome State Fault Refusal := .next (resetSvc m s)
/-- STREAM (R466). -/
def execStream (src : UdpSrc) (s : State) : Host.Outcome State Fault Refusal := .next (stream src s)
/-- STREAM_TIMEOUT (R466). -/
def execStreamTimeout (s : State) : Host.Outcome State Fault Refusal := .next (streamTimeout s)
/-- LOG_FETCH (R466). -/
def execLogFetch (ip : W32) (port : W16) (mac : BitVec 48) (s : State) : Host.Outcome State Fault Refusal := .next (logFetch ⟨ip, port, mac⟩ s)
/-- LANTERN_DATAGRAM (R454). -/
def execLanternDatagram (h : UdpHead) (bytes : List Byte) (s : State) : Host.Outcome State Fault Refusal := .next (lanternDatagram h bytes s)
/-- ARP_REQUEST (R454). -/
def execArpRequest (ip : W32) (src : UdpSrc) (s : State) : Host.Outcome State Fault Refusal := .next (arpRequest ip src s)
/-- ICMP_ECHO (R454). -/
def execIcmpEcho (ip : W32) (src : UdpSrc) (bytes : List Byte) (s : State) : Host.Outcome State Fault Refusal := .next (icmpEcho ip src bytes s)
/-- SUPPLY_WARN (R177). -/
def execSupplyWarn (s : State) : Host.Outcome State Fault Refusal := .next (s.awake supplyWarn)

end Sys2Proof.Machine
end

