-- ==== Sys2Proof/Machine/Keeper.lean ====
section
/-! DEFINITION. Keeper: mailboxes and services (R325 to R328, R338). -/

namespace Sys2Proof.Machine

/-- State of a Keeper mailbox. -/
def State.kpMb (s : State) (m : Nat) : Mbox := assocD s.keeper.mbox m {}

/-- The 64 bytes of a mailbox. -/
def State.kpReq (s : State) (m : Nat) : List Byte := s.mbBytes (R.keeper_MB m)

/-- A request completes (R327). -/
def State.kpFinish (s : State) (m : Nat) (result : Nat) (out : List Byte) : State :=
  let bs := mbReply (s.kpReq m) result out
  let s := { s with keeper := { s.keeper with mbox := assocSet s.keeper.mbox m { s.kpMb m with st := 2, result := BitVec.ofNat 8 result } } }
  ((s.mbPut (R.keeper_MB m) bs).flag R.KP_STATUS m).bump R.CNT_REQ

/-- Requests of an unknown service need no work: each is answered once no lower mailbox is BUSY (R327, R328). -/
def State.kpUnknown (s : State) : Nat → State
  | 0 => s
  | n + 1 =>
    match (List.range 16).find? (fun i => (s.kpMb i).st == 1) with
    | none => s
    | some m =>
      let code := descNum (s.kpReq m) 0 1
      if 1 ≤ code ∧ code ≤ 8 then s else (s.kpFinish m 1 []).kpUnknown n

/-- A service completes, and the requests behind it that need no work (R327). -/
def State.kpDone (s : State) (m : Nat) (result : Nat) (out : List Byte) : State := (s.kpFinish m result out).kpUnknown 16

/-- Serves a request of a service code: the mailbox is BUSY, no lower one is, and it asks for the service (R327). -/
def State.kpServe (s : State) (m : Fin 16) (code : Nat) (f : List Byte → State → State) : State :=
  let req := s.kpReq m.val
  if (s.kpMb m.val).st == 1 && (List.range m.val).all (fun i => (s.kpMb i).st != 1) && descNum req 0 1 == code then f req s else s

/-- The core of a requester: the core within the tile is the unit (R308, R517). -/
def requesterCore (q : Requester) : Option CoreId :=
  if q.station < 72 ∧ q.unit < 2 then some (coreOf (2 * q.station + q.unit)) else none

/-- MB_DOOR (R314, R327, R328): an Open doorbell to a Sealed mailbox is ignored; one to a BUSY mailbox is dropped; an unknown service needs no work, and is answered as soon as no lower mailbox is BUSY. -/
def mbDoor (m : Fin 16) (q : Requester) (s : State) : State :=
  let x := s.kpMb m.val
  if s.kpSealed m.val && !q.sealed then s
  else if x.st = 1 then s.flag R.KP_STATUS 16
  else
    let enc := match requesterCore q with
      | some k => (s.core k).encCur.toNat
      | none => 0
    let s := { s with keeper := { s.keeper with mbox := assocSet s.keeper.mbox m.val { x with st := 1, enclave := enc } } }
    s.kpUnknown 16

/-- Reads a buffer for a service (R328). -/
def State.kpRead (s : State) (m wpa n : Nat) : Option (List Byte × State) :=
  if s.svcBuf (s.kpSealed m) false wpa n then s.bufRead .keeper (s.kpSealed m) wpa n else none

/-- Writes a buffer for a service that has been found good. -/
def State.kpWrite (s : State) (m wpa : Nat) (bs : List Byte) : State := (s.bufWrite .keeper (s.kpSealed m) wpa bs).getD s

/-- A buffer may be written for a service. -/
def State.kpOut (s : State) (m wpa n : Nat) : Bool := s.svcBuf (s.kpSealed m) true wpa n

/-- RANDOM (R325, R328): the bytes are free values. -/
def random (m : Fin 16) (s : State) : State :=
  s.kpServe m 1 (fun req s =>
    let n := descNum req 8 1
    if s.keeper.faulted then s.kpDone m.val 6 []
    else if n < 1 ∨ 48 < n then s.kpDone m.val 3 []
    else
      let f := s.free 384
      f.2.kpDone m.val 0 (toBytes f.1 n))

/-- DIGEST (R328). -/
def keeperDigest (m : Fin 16) (s : State) : State :=
  s.kpServe m 2 (fun req s =>
    let n := descNum req 16 4
    if 2 ^ 21 < n then s.kpDone m.val 3 []
    else match s.kpRead m.val (descNum req 8 8) n with
      | none => s.kpDone m.val 4 []
      | some (bs, s) => s.kpDone m.val 0 (toBytes (Config.sha384 bs) 48))

/-- SIGN (R325, R328). -/
def sign (m : Fin 16) (s : State) : State :=
  s.kpServe m 3 (fun req s =>
    let dst := descNum req 16 8
    if s.keeper.faulted then s.kpDone m.val 6 []
    else match s.kpRead m.val (descNum req 8 8) 48 with
      | none => s.kpDone m.val 4 []
      | some (h, s) =>
        if !s.kpOut m.val dst 96 then s.kpDone m.val 4 []
        else
          let sg := (Config.ecdsaSign h s.freeCtr ++ List.replicate 96 0).take 96
          ({ s with freeCtr := s.freeCtr + 1 }.kpWrite m.val dst sg).kpDone m.val 0 [])

/-- VERIFY (R328, R475): with the image key or the update key of the slot booted. -/
def verify (m : Fin 16) (s : State) : State :=
  s.kpServe m 4 (fun req s =>
    let k := descNum req 24 1
    if 1 < k then s.kpDone m.val 3 []
    else match s.kpRead m.val (descNum req 8 8) 48 with
      | none => s.kpDone m.val 4 []
      | some (h, s) => match s.kpRead m.val (descNum req 16 8) 96 with
        | none => s.kpDone m.val 4 []
        | some (sg, s) =>
          let key := s.slotRead s.boot.slotB (if k = 0 then 64 else 256) 96
          s.kpDone m.val 0 [BitVec.ofNat 8 (b2n (Config.ecdsaValid key h sg))])

/-- FUSE_READ (R328, R475). -/
def fuseRead (m : Fin 16) (s : State) : State :=
  s.kpServe m 5 (fun req s =>
    let w := descNum req 8 1
    if 15 < w then s.kpDone m.val 3 []
    else s.kpDone m.val 0 (toBytes (assocD s.nv.fuses w (0 : W64)) 8))

/-- The measurement of the enclave that asks (R328). -/
def State.kpMeasure (s : State) (m : Nat) : BitVec 384 := assocD s.keeper.measures (s.kpMb m).enclave 0

/-- SEAL (R328): nonce, tag and ciphertext at the destination; the nonce is a free value. Under a Keeper fault no nonce is generated (R325), and the result is 0x06 (DESIGN CHOICE, log entry 45). -/
def sealSvc (m : Fin 16) (s : State) : State :=
  s.kpServe m 6 (fun req s =>
    let n := descNum req 24 4
    let dst := descNum req 16 8
    if !s.kpSealed m.val then s.kpDone m.val 2 []
    else if 65536 < n then s.kpDone m.val 3 []
    else if s.keeper.faulted then s.kpDone m.val 6 []
    else match s.kpRead m.val (descNum req 8 8) n with
      | none => s.kpDone m.val 4 []
      | some (p, s) =>
        if !s.kpOut m.val dst (n + 28) then s.kpDone m.val 4 []
        else
          let f := s.free 96
          let nonce := toBytes f.1 12
          let x := Config.gcmSeal (s.kpMeasure m.val) nonce p
          let box := nonce ++ (x.1 ++ List.replicate 16 0).take 16 ++ (x.2 ++ List.replicate n 0).take n
          (f.2.kpWrite m.val dst box).kpDone m.val 0 [])

/-- UNSEAL (R328): the source holds nonce, tag and ciphertext; LEN counts the ciphertext. -/
def unsealSvc (m : Fin 16) (s : State) : State :=
  s.kpServe m 7 (fun req s =>
    let n := descNum req 24 4
    let dst := descNum req 16 8
    if !s.kpSealed m.val then s.kpDone m.val 2 []
    else if 65536 < n then s.kpDone m.val 3 []
    else match s.kpRead m.val (descNum req 8 8) (n + 28) with
      | none => s.kpDone m.val 4 []
      | some (b, s) =>
        if !s.kpOut m.val dst n then s.kpDone m.val 4 []
        else match Config.gcmOpen (s.kpMeasure m.val) (b.take 12) ((b.drop 12).take 16) (b.drop 28) with
          | none => s.kpDone m.val 5 []
          | some p => (s.kpWrite m.val dst ((p ++ List.replicate n 0).take n)).kpDone m.val 0 [])

/-- ATTEST (R325, R328). -/
def attest (m : Fin 16) (s : State) : State :=
  s.kpServe m 8 (fun req s =>
    let dst := descNum req 16 8
    if s.keeper.faulted then s.kpDone m.val 6 []
    else if !s.kpSealed m.val then s.kpDone m.val 2 []
    else match s.kpRead m.val (descNum req 8 8) 48 with
      | none => s.kpDone m.val 4 []
      | some (u, s) =>
        if !s.kpOut m.val dst 192 then s.kpDone m.val 4 []
        else
          let r := Config.attest (assocD s.nv.fuses 0 0) (s.kpMb m.val).enclave (s.kpMeasure m.val) u s.freeCtr
          ({ s with freeCtr := s.freeCtr + 1 }.kpWrite m.val dst (toBytes r 192)).kpDone m.val 0 [])

/-- KEEPER_FAULT (R325, R335): an entropy health test has failed. -/
def keeperFault (s : State) : State :=
  ({ s with keeper := { s.keeper with faulted := true } }.flag R.KP_STATUS 17).jlog s.now 102 0 0x0a04 [(0, 1, 1)]

/-- MB_DOOR (R327). -/
def execMbDoor (m : Fin 16) (q : Requester) (s : State) : Host.Outcome State Fault Refusal := .next (s.blockWrite 0x20 (mbDoor m q))
/-- RANDOM (R328). -/
def execRandom (m : Fin 16) (s : State) : Host.Outcome State Fault Refusal := .next (random m s)
/-- KEEPER_DIGEST (R328). -/
def execKeeperDigest (m : Fin 16) (s : State) : Host.Outcome State Fault Refusal := .next (keeperDigest m s)
/-- SIGN (R328). -/
def execSign (m : Fin 16) (s : State) : Host.Outcome State Fault Refusal := .next (sign m s)
/-- VERIFY (R328). -/
def execVerify (m : Fin 16) (s : State) : Host.Outcome State Fault Refusal := .next (verify m s)
/-- FUSE_READ (R328). -/
def execFuseRead (m : Fin 16) (s : State) : Host.Outcome State Fault Refusal := .next (fuseRead m s)
/-- SEAL (R328). -/
def execKeeperSeal (m : Fin 16) (s : State) : Host.Outcome State Fault Refusal := .next (sealSvc m s)
/-- UNSEAL (R328). -/
def execKeeperUnseal (m : Fin 16) (s : State) : Host.Outcome State Fault Refusal := .next (unsealSvc m s)
/-- ATTEST (R328). -/
def execAttest (m : Fin 16) (s : State) : Host.Outcome State Fault Refusal := .next (attest m s)
/-- KEEPER_FAULT (R325). -/
def execKeeperFault (s : State) : Host.Outcome State Fault Refusal := .next (s.awake keeperFault)

end Sys2Proof.Machine
end

