-- ==== Sys2Proof/Machine/Image.lean ====
section
/-! DEFINITION. The configuration image: its slot header, its directory, its sections and its lists, and their layout checks (R475, R482 to R484). -/

namespace Sys2Proof.Machine

/-- Why an image is refused: the failure cause of R487, the section and the entry or check within it (R490). -/
structure Fail where
  cause : Nat
  sec : Nat
  idx : Nat
deriving DecidableEq, Repr

/-- n little-endian bytes of a byte string from an offset, as a number. -/
def numAt (bs : List Byte) (off n : Nat) : Nat := leNat ((bs.drop off).take n)

/-- A byte string cut into pieces of n bytes, at most fuel of them. -/
def pieces (n : Nat) : Nat → List Byte → List (List Byte)
  | 0, _ => []
  | k + 1, bs => if bs.isEmpty then [] else bs.take n :: pieces n k (bs.drop n)

/-- All pieces of n bytes. -/
def chunks (n : Nat) (bs : List Byte) : List (List Byte) := pieces n bs.length bs

/-- The 32-bit words of a byte string. -/
def words (bs : List Byte) : List W32 := (chunks 4 bs).map (fun c => BitVec.ofNat 32 (leNat c))

/-! ### Header (R475) -/

/-- The header of a slot is correct: MAGIC, VALID, LEN and HCRC (R476). -/
def State.headerOk (s : State) (b : Bool) : Bool :=
  let h := s.slotRead b 0 452
  numAt h 0 4 == 0x38314353 && numAt h 12 1 == 0xa5 && decide (4096 ≤ numAt h 8 4 ∧ numAt h 8 4 ≤ 0x0ffff000) &&
  numAt h 448 4 == (crc32c (h.take 448)).toNat

/-- SEQ of a slot. -/
def State.slotSeq (s : State) (b : Bool) : Nat := numAt (s.slotRead b 4 4) 0 4

/-- A 384-bit word of fuses, from a first fuse word (R475). -/
def State.fuse384 (s : State) (w : Nat) : List Byte := (rangeFrom w 6).flatMap (fun i => toBytes (assocD s.nv.fuses i 0) 8)

/-- The checks of step 5 that a slot whose header is correct must pass: none, or the failure cause (R476, R478, R487). -/
def State.verifyCause (s : State) (b : Bool) : Option Nat :=
  if !s.headerOk b then some 1
  else if s.keeper.faulted then some 8
  else
    let h := s.slotRead b 0 256
    let ikey := (h.drop 64).take 96
    let hash := (h.drop 16).take 48
    if toBytes (Config.sha384 ikey) 48 != s.fuse384 4 then some 2
    else if toBytes (Config.sha384 (s.slotBody b)) 48 != hash then some 3
    else if !Config.ecdsaValid ikey hash ((h.drop 160).take 96) then some 4
    else none

/-! ### Directory (R482, R483) -/

/-- A section of the body. -/
structure Sec where
  id : Nat
  len : Nat
  off : Nat
deriving DecidableEq, Repr

/-- The directory entries that the head counts. -/
def secsOf (body : List Byte) : List Sec :=
  (chunks 16 ((body.drop 16).take (16 * numAt body 0 4))).map (fun c => ⟨numAt c 0 2, numAt c 4 4, numAt c 8 4⟩)

/-- The bytes of a section; empty where the image has none. -/
def secBytes (body : List Byte) (id : Nat) : List Byte :=
  match (secsOf body).find? (fun x => x.id == id) with
  | some x => (body.drop x.off).take x.len
  | none => []

/-- A section ID that R483 lists. -/
def secKnown (id : Nat) : Bool :=
  [1, 2, 3, 4, 5, 6, 0x10, 0x11, 0x12, 0x13, 0x20, 0x21, 0x22, 0x23, 0x30, 0x31, 0x90, 0x91, 0x92, 0xa0, 0xa1, 0xb0, 0xb1].contains id ||
  decide (0x40 ≤ id ∧ id < 0x80) || decide (0x80 ≤ id ∧ id < 0x88)

/-- The sections that every image must hold. -/
def secRequired : List Nat := [1, 2, 3, 4, 5, 6, 0x10, 0x11, 0x12, 0x13, 0x20, 0x23, 0x31, 0x90, 0x91, 0x92]

/-- The first failing entry of a list of indexed tests. -/
def firstBad (l : List Bool) : Option Nat := l.findIdx? (fun ok => !ok)

/-- The directory is malformed (R482): failure cause 5. -/
def dirFail (body : List Byte) : Option Fail :=
  let n := numAt body 0 4
  let l := secsOf body
  let entries := chunks 16 ((body.drop 16).take (16 * n))
  if !(decide (1 ≤ n ∧ n ≤ 256) && numAt body 4 4 == 1 && numAt body 8 8 == 0 && decide (16 + 16 * n ≤ body.length)) then some ⟨5, 0, 0⟩
  else
    let test (p : Nat × Sec) : Bool :=
      let i := p.1
      let x := p.2
      let e := entries.getD i []
      secKnown x.id && numAt e 2 2 == 0 && x.off % 64 == 0 && decide (16 + 16 * n ≤ x.off ∧ x.off + x.len ≤ body.length) &&
      (l.drop (i + 1)).all (fun y => decide (x.id < y.id ∧ (x.off + x.len ≤ y.off ∨ y.off + y.len ≤ x.off))) &&
      numAt e 12 4 == (crc32c ((body.drop x.off).take x.len)).toNat
    match firstBad ((indexed l).map test) with
    | some i => some ⟨5, (l.getD i ⟨0, 0, 0⟩).id, i⟩
    | none =>
      match secRequired.find? (fun r => !l.any (fun x => x.id == r)) with
      | some r => some ⟨5, r, 0⟩
      | none => none

/-! ### Register lists (R484) -/

/-- A register list: control-space offsets and values. -/
def regList (bs : List Byte) : List (Nat × W32) := (chunks 8 bs).map (fun c => (numAt c 0 4, BitVec.ofNat 32 (numAt c 4 4)))

/-- The register key of a control-space offset. -/
def regKey (o : Nat) : Nat := (o / 0x10000) * 0x1000 + o % 0x10000

/-- Every bit that some field of a register covers, reserved ones apart. -/
def RegRow.mask (r : RegRow) : Nat := r.rw ||| r.gp ||| r.rl ||| r.rc ||| r.wo ||| r.ro ||| r.img

/-- A register-list entry is well formed. -/
def regEntryOk (e : Nat × W32) : Bool :=
  decide (e.1 < 0x1000000) && e.1 % 4 == 0 && decide (e.1 % 0x10000 < 0x800) &&
  (match rowAt (e.1 / 0x10000) (e.1 % 0x10000) with
   | some r => r.img != 0 && e.2.toNat &&& r.mask == e.2.toNat
   | none => false)

/-- Boot writes the img fields of a register, whatever their access code. -/
def State.regBoot (s : State) (e : Nat × W32) : State :=
  match rowAt (e.1 / 0x10000) (e.1 % 0x10000) with
  | some r =>
    let k := regKey e.1
    let m : W32 := BitVec.ofNat 32 r.img
    s.wr k ((s.rd k &&& ~~~m) ||| (e.2 &&& m))
  | none => s

/-- Writes the entries of a list whose block is chosen. -/
def State.regsBoot (s : State) (blk : Nat → Bool) (l : List (Nat × W32)) : State :=
  (l.filter (fun e => blk (e.1 / 0x10000))).foldl State.regBoot s

/-- A system-register list: number, Sealed bank, value. -/
def sysList (bs : List Byte) : List (Nat × (Bool × W64)) :=
  (chunks 16 bs).map (fun c => (numAt c 0 2, (numAt c 2 1 == 1, BitVec.ofNat 64 (numAt c 8 8))))

/-- The bits that a system register of the list may set: none where it may not be listed (R483). -/
def sysMask (n : Nat) : Option Nat :=
  if n = 0x43e then some (2 ^ 64 - 4096)
  else if (0x440 ≤ n ∧ n < 0x444) ∨ (0x448 ≤ n ∧ n < 0x458) then some (2 ^ 64 - 1)
  else if n = 0x602 then some (2 ^ 46 - 4096)
  else if n = 0x603 then some 0xffff
  else if n = 0x680 then some 0x77777777
  else if n = 0x681 then some 3
  else none

/-- A system-register entry is well formed. -/
def sysEntryOk (c : List Byte) : Bool :=
  c.length == 16 && decide (numAt c 2 1 ≤ 1) && numAt c 3 5 == 0 &&
  (match sysMask (numAt c 0 2) with
   | some m => numAt c 8 8 &&& m == numAt c 8 8
   | none => false)

/-! ### Section layouts (R483) -/

/-- Records of STATE_INIT, OPEN_LOAD and ENCLAVE: address and bytes; none where a record is cut short or badly laid out. -/
def loadRecs : Nat → List Byte → Option (List (Nat × List Byte))
  | 0, bs => if bs.isEmpty then some [] else none
  | k + 1, bs =>
    if bs.isEmpty then some []
    else
      let a := numAt bs 0 8
      let n := numAt bs 8 4
      if bs.length < 12 + n ∨ a % 64 ≠ 0 ∨ n % 64 ≠ 0 ∨ n = 0 then none
      else (loadRecs k (bs.drop (12 + n))).map (fun r => (a, (bs.drop 12).take n) :: r)

/-- The records of a section; empty where it is malformed. -/
def recsOf (bs : List Byte) : List (Nat × List Byte) := (loadRecs bs.length bs).getD []

/-- The value of a field that a register list loads: the last entry that names it. -/
def listVal (l : List (Nat × W32)) (o : Nat) : W32 := (l.filter (fun e => e.1 == o)).foldl (fun _ e => e.2) 0

/-- Control-space offset of a register key. -/
def ctlOff (k : Nat) : Nat := (k / 0x1000) * 0x10000 + k % 0x1000

/-- The LEN of a port's gate control list in a register list. -/
def gclLen (l : List (Nat × W32)) (p : Nat) : Nat := bitsAt (listVal l (ctlOff (R.GCL_CTL (p / 4) (p % 4)))) 5 9

/-- Bytes of NET_TABLES before port p. -/
def netOff (l : List (Nat × W32)) (p : Nat) : Nat := (List.range p).foldl (fun a q => a + 4 * gclLen l q + 512) 0

/-- The enabled logical engines of a bay in a register list. -/
def bayEngines (l : List (Nat × W32)) (b : Nat) : List Nat :=
  (List.range 28).filter (fun e => bitAt (listVal l (ctlOff (R.ENG_CFG b e))) 26)

/-- The layout of a section is as R483 gives it; regs is the REGS list. -/
def secShape (regs : List (Nat × W32)) (id : Nat) (bs : List Byte) : Bool :=
  let n := bs.length
  if id = 1 then n == 64 && decide (numAt bs 0 1 ≤ 1) && numAt bs 1 63 == 0
  else if id = 2 ∨ id = 0x10 then n % 8 == 0
  else if id = 3 then n % 16 == 0
  else if id = 0x11 ∨ id = 0x12 then n % 8 == 0 && decide (n / 8 ≤ 8388608)
  else if id = 0x13 then n == 64
  else if id = 0x20 then n % 64 == 0 && decide (n / 64 ≤ 8192)
  else if id = 0x21 then n % 4 == 0 && decide (n / 4 ≤ 65536)
  else if id = 0x22 then n % 8 == 0
  else if id = 0x23 then n % 8 == 0
  else if id = 0x30 ∨ id = 0x31 ∨ (0x40 ≤ id ∧ id < 0x80) then (loadRecs n bs).isSome
  else if 0x80 ≤ id ∧ id < 0x88 then n == 16384 * (bayEngines regs (id - 0x80)).length
  else if id = 0x90 then n == 68 * bitsAt (listVal regs (ctlOff R.SI_RULES)) 0 13
  else if id = 0x91 then n == 4096
  else if id = 0x92 then n == 40960
  else if id = 0xa0 then n % 4 == 0 && decide (n / 4 ≤ 106 * 106)
  else if id = 0xa1 then n % 4 == 0 && decide (n / 4 ≤ 106 * 3)
  else if id = 0xb0 then n == netOff regs 8
  else if id = 0xb1 then n == 4096
  else true

/-- A word has no reserved bit of its register set. -/
def wordOk (key : Nat) (w : W32) : Bool :=
  match rowAt (key / 0x1000) (key % 0x1000) with
  | some r => w.toNat &&& r.mask == w.toNat
  | none => true

/-- Word i of a byte string. -/
def wordAt (bs : List Byte) (i : Nat) : W32 := BitVec.ofNat 32 (numAt bs (4 * i) 4)

/-- Reserved bits of a stage-2 entry (R346). -/
def s2EntryOk (c : List Byte) : Bool := bitsAt (BitVec.ofNat 64 (numAt c 0 8)) 3 18 == 0 && bitsAt (BitVec.ofNat 64 (numAt c 0 8)) 46 18 == 0

/-- Reserved bytes of a descriptor (R90). -/
def taskEntryOk (c : List Byte) : Bool := numAt c 51 1 == 0 && numAt c 60 4 == 0

/-- Reserved bits of a channel entry (R180). -/
def chanEntryOk (c : List Byte) : Bool :=
  wordOk R.CH_PERMIT (wordAt c 0) && wordOk R.CH_SAFE (wordAt c 1) && wordOk R.CH_START (wordAt c 2) && wordOk R.CH_HOLD (wordAt c 3) &&
  numAt c 16 4 == numAt c 16 4 &&& 0x807fffff

/-- Reserved bits of a CAN match entry (R451). -/
def canEntryOk (c : List Byte) : Bool :=
  wordOk R.CAN_MT_MASK (wordAt c 1) && numAt c 8 4 == numAt c 8 4 &&& 0x1fffffff && wordOk R.CAN_MT_CTRL (wordAt c 3)

/-- The gate control entries of port p in NET_TABLES. -/
def netGcl (l : List (Nat × W32)) (bs : List Byte) (p : Nat) : List W32 := words ((bs.drop (netOff l p)).take (4 * gclLen l p))

/-- The match entries of port p in NET_TABLES: MT_TYPE, MT_VAL, MT_MASK and MT_EXT. -/
def netMatch (l : List (Nat × W32)) (bs : List Byte) (p : Nat) : List (List W32) :=
  if bs.isEmpty then [] else (chunks 16 ((bs.drop (netOff l p + 4 * gclLen l p)).take 512)).map words

/-- Reserved bits of the match entries of each port (R450). -/
def netEntriesOk (l : List (Nat × W32)) (bs : List Byte) : List Bool :=
  (List.range 8).flatMap (fun p => (netMatch l bs p).map (fun e =>
    wordOk (R.MT_TYPE 0 0) (e.getD 0 0) && wordOk (R.MT_EXT 0 0) (e.getD 3 0)))

/-- The entries of the sections that R483 lists, each well formed or not. -/
def entryTests (body : List Byte) : List (Nat × List Bool) :=
  let sec := secBytes body
  let regs := regList (sec 2)
  [(2, regs.map regEntryOk), (3, (chunks 16 (sec 3)).map sysEntryOk), (0x10, (regList (sec 0x10)).map regEntryOk),
   (0x11, (chunks 8 (sec 0x11)).map s2EntryOk), (0x12, (chunks 8 (sec 0x12)).map s2EntryOk),
   (0x20, (chunks 64 (sec 0x20)).map taskEntryOk), (0x21, (words (sec 0x21)).map (fun w => bitsAt w 13 18 == 0)),
   (0x90, (chunks 68 (sec 0x90)).map (fun c => numAt c 3 1 == 0)),
   (0x91, (words (sec 0x91)).map (fun w => wordOk R.TMR_CFG w)), (0x92, (chunks 20 (sec 0x92)).map chanEntryOk),
   (0xa0, (words (sec 0xa0)).map (fun w => wordOk (R.RT_DATA 0) w)), (0xa1, (words (sec 0xa1)).map (fun w => wordOk (R.RR_DATA 0) w)),
   (0xb0, netEntriesOk regs (sec 0xb0)), (0xb1, (chunks 16 (sec 0xb1)).map canEntryOk)]

/-- A section or a list is malformed (R484, R92, R347): failure cause 5. -/
def listFail (body : List Byte) : Option Fail :=
  let sec := secBytes body
  let regs := regList (sec 2)
  match (secsOf body).find? (fun x => !secShape regs x.id (sec x.id)) with
  | some x => some ⟨5, x.id, 0⟩
  | none =>
    match (entryTests body).findSome? (fun p => (firstBad p.2).map (fun i => (p.1, i))) with
    | some (id, i) => some ⟨5, id, i⟩
    | none =>
      ((List.range 8).find? (fun b => !(bayEngines regs b).isEmpty && !(secsOf body).any (fun x => x.id == 0x80 + b))).map
        (fun b => ⟨5, 0x80 + b, 0⟩)

end Sys2Proof.Machine
end

