-- ==== Sys2Proof/Machine/Route.lean ====
section
/-! DEFINITION. Routes between stations: the word of RT_DATA, the check of R398 and the route that is written where the image names none. -/

namespace Sys2Proof.Machine

/-- Hops from position p to position q of a ring in a direction. -/
def hopsOn (r p q : Nat) (d : Bool) : Nat := if d then (p + ringLen r - q) % ringLen r else (q + ringLen r - p) % ringLen r

/-- The positions where two rings cross, on the first and on the second: none where they do not. -/
def crossing (a b : Nat) : Option (Nat × Nat) :=
  (List.range (ringLen a)).findSome? (fun p => (posOn b (stationAt a p)).map (fun q => (p, q)))

/-- A ring of a kind (V rather than H) and index, where it exists. -/
def ringIdx (v : Bool) (i : Nat) : Option Nat := if v then (if i < 9 then some (8 + i) else none) else (if i < 8 then some i else none)

/-- Hops over a list of rings that begins at position p of the first, one direction for each leg: none where two rings do not cross or the last does not hold the destination. -/
def legHops (dst : Nat) : Nat → List Nat → List Bool → Option Nat
  | p, [r], d :: _ => (posOn r dst).map (fun q => hopsOn r p q d)
  | p, r :: r2 :: rs, d :: ds =>
    match crossing r r2 with
    | some (q, p2) => (legHops dst p2 (r2 :: rs) ds).map (fun n => hopsOn r p q d + n)
    | none => none
  | _, _, _ => none

/-- The rings of a route of a kind FIRST and a VIA, from a station to a station (R395, R397): none where the route is not allowed (R398). -/
def routeRings (src dst : Nat) (first : Bool) (via : Nat) : Option (List Nat) :=
  match ringFor first src with
  | none => none
  | some r0 =>
    if (posOn r0 dst).isSome then (if via = 15 then some [r0] else none)
    else if via = 15 then (ringFor (!first) dst).map (fun r1 => [r0, r1])
    else
      match ringIdx (!first) via, ringFor first dst with
      | some r1, some r2 => if (posOn r1 dst).isSome then none else some [r0, r1, r2]
      | _, _ => none

/-- The word of RT_DATA (R411). -/
def routeWord (first : Bool) (dirs : List Bool) (via : Nat) : W32 :=
  BitVec.ofNat 32 (b2n first + b2n (dirs.getD 0 false) * 2 + b2n (dirs.getD 1 false) * 4 + b2n (dirs.getD 2 false) * 8 + via * 16 + 256)

/-- A route of the image is allowed (R398); an entry that is not valid names none. -/
def routeOk (src dst : Nat) (w : W32) : Bool := !bitAt w 8 || (routeRings src dst (bitAt w 0) (bitsAt w 4 4)).isSome

/-- All choices of direction for n legs, direction 0 first. -/
def dirChoices : Nat → List (List Bool)
  | 0 => [[]]
  | n + 1 => (dirChoices n).map (false :: ·) ++ (dirChoices n).map (true :: ·)

/-- The candidate routes of a kind and a VIA, with their hops. -/
def routeCands (src dst : Nat) (first : Bool) (via : Nat) : List (Nat × W32) :=
  match routeRings src dst first via with
  | some (r :: rs) =>
    let p := (posOn r src).getD 0
    (dirChoices (rs.length + 1)).filterMap (fun ds => (legHops dst p (r :: rs) ds).map (fun n => (n, routeWord first ds via)))
  | _ => []

/-- The first candidate with the fewest hops. -/
def fewest : List (Nat × W32) → Option (Nat × W32)
  | [] => none
  | x :: r =>
    match fewest r with
    | some y => if y.1 < x.1 then some y else some x
    | none => some x

/-- The route written where the image names none (R398): the fewest hops, H before V and direction 0 on ties. A station keeps no route to itself. -/
def defaultRoute (src dst : Nat) : W32 :=
  if src = dst then 0
  else
    let two := routeCands src dst false 15 ++ routeCands src dst true 15
    let all := if two.isEmpty then
        ([false, true].flatMap (fun f => (List.range 9).flatMap (fun v => routeCands src dst f v)))
      else two
    match fewest all with
    | some x => x.2
    | none => 0

/-- RT_DATA of a station for a destination. -/
def State.route (s : State) (src dst : Nat) : W32 :=
  match assoc? s.ring.routes (src * 128 + dst) with
  | some w => w
  | none => if src < 106 ∧ dst < 106 then defaultRoute src dst else 0

end Sys2Proof.Machine
end

