-- ==== Sys2Proof/Machine/ImageCheck.lean ====
section
/-! DEFINITION. The checks of boot step 8: every condition that the chapters state as a rejection at boot, and every range of R546 (failure cause 6). -/

namespace Sys2Proof.Machine

/-! ### The image as a candidate -/

/-- The sealed ranges that a WORLD list describes: its n-th WD_RNG_BASE and WD_RNG_CFG entries give range n. -/
def listRanges (l : List (Nat × W32)) : List SealRange :=
  let bs := (l.filter (fun e => e.1 == ctlOff R.WD_RNG_BASE)).map (·.2)
  let cs := (l.filter (fun e => e.1 == ctlOff R.WD_RNG_CFG)).map (·.2)
  ((bs.zip cs).take 256).map (fun p => ⟨p.1, p.2⟩)

/-- The registers of an image and nothing else: REGS and ASSIGN over reset values, and the sealed ranges. -/
def State.candidateOf (s : State) (body : List Byte) : State :=
  let a := regList (secBytes body 0x10)
  let s := (({ s with regs := [] }).regsBoot (fun _ => true) (regList (secBytes body 2))).regsBoot (fun _ => true) a
  { s with ranges := indexed (listRanges a) }

/-- The descriptors of an image. -/
def imgTasks (body : List Byte) : List (Nat × BitVec 1024) := indexed ((chunks 64 (secBytes body 0x20)).map (fun c => BitVec.ofNat 1024 (leNat c)))

/-- The hop table of an image. -/
def imgHops (body : List Byte) : List (Nat × W32) := (indexed (words (secBytes body 0x21))).filter (fun p => p.2 != 0)

/-- The rules of an image: header and eight terms. -/
def imgRules (body : List Byte) : List (Nat × SRule) :=
  indexed ((chunks 68 (secBytes body 0x90)).map (fun c => ⟨wordAt c 0, (List.range 8).map (fun t => (wordAt c (1 + 2 * t), wordAt c (2 + 2 * t)))⟩))

/-- The channels of an image. -/
def imgChans (body : List Byte) : List (Nat × SChan) :=
  indexed ((chunks 20 (secBytes body 0x92)).map (fun c => ⟨wordAt c 0, wordAt c 1, wordAt c 2, wordAt c 3, wordAt c 4⟩))

/-- A stage-2 section. -/
def imgS2 (body : List Byte) (id : Nat) : List W64 := (chunks 8 (secBytes body id)).map (fun c => BitVec.ofNat 64 (leNat c))

/-- The berths that a structure of n bytes at a device-physical address occupies. -/
def berthSpan (a n : Nat) : Nat × Nat := (a / 2 ^ 21, if n = 0 then 0 else (a + n - 1) / 2 ^ 21 - a / 2 ^ 21 + 1)

/-- Berths of the state unit: first and count (R63, R67, R68). -/
def State.unitBerths (s : State) : List (Nat × Nat) :=
  ((List.range 16).filter s.regEn).map (fun r =>
    let n := s.fld (R.REG_SIZE r) 0 16
    (s.fld (R.REG_BACK r) 0 21, 2 * n + (n + 3) / 4)) ++
  [berthSpan (s.fld R.SIDE_BERTH 0 21 * 2 ^ 21) (2 ^ s.fld R.SIDE_SIZE 0 5 * 128),
   berthSpan (s.fld R.TOUCH_BERTH 0 21 * 2 ^ 21) (288 * 2 ^ s.fld R.TOUCH_SIZE 0 5 * 8)]

/-- A berth lies in one of the spans. -/
def inSpans (l : List (Nat × Nat)) (b : Nat) : Bool := l.any (fun p => decide (p.1 ≤ b ∧ b < p.1 + p.2))

/-- Two spans share a berth. -/
def spansMeet (a b : Nat × Nat) : Bool := decide (0 < a.2 ∧ 0 < b.2 ∧ a.1 < b.1 + b.2 ∧ b.1 < a.1 + a.2)

/-- The span of a sealed range in use. -/
def SealRange.span (r : SealRange) : Nat × Nat := (bitsAt r.base 0 21, bitsAt r.cfg 0 16)

/-- The sealed ranges in use. -/
def State.rangesOn (s : State) : List SealRange := (s.ranges.map (·.2)).filter (fun r => bitAt r.base 31)

/-- No two of the values meet. -/
def noneMeet {α : Type} (meet : α → α → Bool) : List α → Bool
  | [] => true
  | x :: r => !r.any (meet x) && noneMeet meet r

/-! ### Ranges of single fields (R546): register, low bit, width, least and greatest value -/

/-- Ranges of the timebase, the beacon, the state unit, Hive and the twin unit. -/
def State.rangesCore (s : State) : List (Nat × (Nat × (Nat × (Nat × Nat)))) :=
  let p := (s.rd R.BCN_PERIOD).toNat
  [(R.BCN_PERIOD, 0, 32, 62500, 16000000), (R.BCN_GUARD, 0, 32, 2000, p / 2), (R.BCN_GRACE, 0, 32, 0, 8000), (R.BCN_OUT_W, 0, 32, 100, p / 4),
   (R.BCN_SLEW, 0, 32, 0, 1000), (R.BCN_CTL, 3, 4, 0, 12), (R.JRN_SIZE, 0, 5, 7, 24), (R.TW_PJRN_SIZE, 0, 5, 7, 24), (R.WD_SJRN_SIZE, 0, 5, 7, 24),
   (R.JRN_BASE_LO, 0, 12, 0, 0), (R.TW_PJRN_BASE_LO, 0, 12, 0, 0), (R.WD_SJRN_BASE_LO, 0, 12, 0, 0),
   (R.IN_SAMPLE_OFF, 0, 2, 0, 0), (R.IN_STAMP_OFF, 0, 3, 0, 0), (R.IN_POINTS, 0, 23, 0, 5592405), (R.OUT_ENTRY_OFF, 0, 6, 0, 0),
   (R.SIDE_SIZE, 0, 5, 10, 20), (R.TOUCH_SIZE, 0, 5, 12, 20), (R.PL_EPOCH, 0, 16, 16, 65535), (R.PL_LIM_TASK, 0, 8, 1, 255),
   (R.PL_LIM_BERTH, 0, 7, 0, 64), (R.PL_LIM_BERTH, 8, 5, 0, 16), (R.PL_MIG_BW, 0, 16, 1, 1000), (R.PL_LIM_HOME, 0, 3, 0, 4),
   (R.SW_CAP, 0, 11, 16, 1024), (R.TW_CFG, 1, 4, 1, 15), (R.TW_CFG, 6, 4, 1, 15), (R.TW_LANE_LIM, 0, 16, 1, 65535),
   (R.TW_MIR_WAIT, 0, 24, 10000, p / 4), (R.TW_COPY_BW, 0, 16, 1, 250)] ++
  (List.range 16).map (fun r => (R.REG_SIZE r, 0, 16, 1, 32768)) ++
  (List.range 64).flatMap (fun c => [(R.HOME_PIN c, 1, 7, 0, 71), (R.HOME_PIN c, 8, 3, 0, 6), (R.BPIN_HI c, 16, 4, 0, 12)])

/-- Ranges of the bays, the grid sense and sector units, the rings, the ports, Lantern, the clocks and the power unit. -/
def State.rangesUnits : List (Nat × (Nat × (Nat × (Nat × Nat)))) :=
  (List.range 8).flatMap (fun b => (List.range 24).flatMap (fun u => [(R.PIN_CFG b u, 13, 2, 0, 2), (R.PIN_CFG b u, 17, 2, 0, 2)]) ++
    (List.range 28).flatMap (fun l => [(R.ENG_CFG b l, 13, 13, 0, 4096), (R.ENG_OUT b l, 0, 3, 0, 0), (R.ENG_OUT b l, 16, 12, 0, 2048)])) ++
  (List.range 16).map (fun g => (R.GRP_CFG g, 19, 8, 0, 191)) ++ [(R.SI_RULES, 0, 13, 0, 4096)] ++
  (List.range 17).flatMap (fun r => [(R.RG_CTL r, 0, 4, 1, 15), (R.RG_LANE_LIM r, 0, 16, 1, 65535)]) ++
  (List.range 13).map (fun c => (R.PATROL_CTL c, 1, 8, 1, 168)) ++
  (List.range 8).flatMap (fun p => [(R.PORT_CFG (p / 4) (p % 4), 2, 2, 0, 2), (R.GCL_CTL (p / 4) (p % 4), 1, 4, 0, 12),
    (R.GCL_CTL (p / 4) (p % 4), 5, 9, 1, 256), (R.REL_OFF (p / 4) (p % 4), 0, 11, 0, 0), (R.PH_CFG p, 1, 3, 1, 5)]) ++
  (List.range 16).flatMap (fun c => [(R.CC_NBT c, 8, 8, 1, 255), (R.CC_NBT c, 16, 7, 1, 127), (R.CC_DBT c, 5, 5, 1, 31),
    (R.CC_REL c, 0, 4, 0, 0), (R.CC_REL c, 24, 5, 0, 16)]) ++
  (List.range 4).flatMap (fun k => [(R.WD_CFG k, 0, 16, 2, 65535), (R.WD_CFG k, 16, 2, 0, 2)]) ++
  [(R.LN_WEAR, 16, 8, 1, 255), (R.LN_WEAR, 24, 8, 1, 255), (R.LN_NVM_RATE, 0, 7, 1, 64), (R.LN_NVM_RATE, 16, 13, 1, 8191), (R.LN_WD_INT, 0, 8, 2, 255),
   (R.CLK_REF, 0, 2, 0, 2), (R.CLK_REF, 2, 2, 0, 2), (R.CLK_REF, 4, 2, 0, 2), (R.CLK_REF, 6, 2, 0, 2), (R.CLK_REF, 8, 2, 0, 2),
   (R.PWR_PERF, 0, 3, 0, 4), (R.PWR_VR, 0, 8, 1, 50)]

/-- Each field lies in its range. -/
def State.rangeTests (s : State) (l : List (Nat × (Nat × (Nat × (Nat × Nat))))) : List Bool :=
  l.map (fun e => decide (e.2.2.2.1 ≤ s.fld e.1 e.2.1 e.2.2.1 ∧ s.fld e.1 e.2.1 e.2.2.1 ≤ e.2.2.2.2))

/-! ### Conditions over several registers -/

/-- A device-physical address range lies in a sealed range of an enclave. -/
def State.inEnclave (s : State) (a e : Nat) : Bool :=
  match s.sealedAt a with
  | some r => bitsAt r.cfg 16 6 == e
  | none => false

/-- State regions, input arrays, output entries and journal rings (R39, R58, R81, R336). -/
def State.stateTests (s : State) : List Bool :=
  let on := (List.range 16).filter s.regEn
  let size (r : Nat) : Nat := s.fld (R.REG_SIZE r) 0 16
  let base (r : Nat) : Nat := s.fld (R.REG_BASE r) 0 19
  let pts := (s.rd R.IN_POINTS).toNat
  [noneMeet (fun a b => spansMeet (base a, size a) (base b, size b)) on,
   decide ((on.map size).foldl (· + ·) 0 ≤ 32768), decide (size 0 ≤ 32), decide (size 1 ≤ 8),
   on.all (fun r => decide (base r + size r ≤ 524288)), s.regEn 0, s.regEn 1,
   decide ((s.rd R.IN_SAMPLE_OFF).toNat + 4 * pts ≤ size 0 * 2 ^ 21), decide ((s.rd R.IN_STAMP_OFF).toNat + 8 * pts ≤ size 0 * 2 ^ 21),
   decide ((s.rd R.OUT_ENTRY_OFF).toNat + 16384 ≤ size 1 * 2 ^ 21),
   s.inEnclave (s.rd64 R.WD_SJRN_BASE_LO R.WD_SJRN_BASE_HI).toNat 0]

/-- World assignments and sealed ranges (R311, R313, R438); bay b is block 0x10 + b, so its source is 48 + b. -/
def State.worldTests (s : State) (open2 : List W64) : List Bool :=
  let on := s.rangesOn
  [s.fld R.WD_REGION 0 2 == 0,
   (List.range 8).all (fun b => s.flagAt (R.WD_IRQW 1) (16 + b) == s.baySealed b),
   noneMeet (fun a b => spansMeet a.span b.span) on,
   on.all (fun r => !s.unitBerths.any (spansMeet r.span)),
   open2.all (fun e => !bitAt e 0 || !inSpans (on.map (·.span)) (bitsAt e 21 25)),
   on.all (fun r => !(bitsAt r.cfg 16 6 == 0 && bitAt r.cfg 22)),
   (s.ranges.map (·.2)).all (fun r => decide (1 ≤ bitsAt r.cfg 0 16))]

/-- A pin is an owner's in the way R443 asks of a CAN FD controller. -/
def State.canPin (s : State) (c pin : Nat) : Bool :=
  decide (pin < 192) && s.fld (R.PIN_CFG (pin / 24) (pin % 24)) 0 2 == 3 && s.fld (R.PIN_CFG (pin / 24) (pin % 24)) 2 11 == c

/-- Field pins, grid clocks and CAN FD pins (R151, R152, R443). -/
def State.pinTests (s : State) : List Bool :=
  (List.range 8).flatMap (fun b => (List.range 24).map (fun u =>
    let id := s.fld (R.PIN_CFG b u) 2 11
    match s.fld (R.PIN_CFG b u) 0 2 with
    | 1 => decide (id < 28)
    | 3 => decide (id < 16)
    | _ => true)) ++
  (List.range 4).map (fun k =>
    let d := s.fld (R.MCLK_CFG k) 0 9
    let r := s.fld (R.MCLK_CFG k) 9 12
    decide (75 ≤ d ∧ d ≤ 300 ∧ 63 ≤ r ∧ r ≤ 2500) &&
    (!s.flagAt (R.MCLK_CFG k) 21 || decide (8000 * (d * r) ≤ 1500000000 ∧ 1500000000 ≤ 80000 * (d * r)))) ++
  (List.range 16).map (fun c =>
    let tx := s.fld (R.CC_CFG c) 8 8
    let rx := s.fld (R.CC_CFG c) 16 8
    !s.flagAt (R.CC_CFG c) 0 || (s.canPin c tx && s.canPin c rx && tx / 24 == rx / 24))

/-! ### Sections -/

/-- The fields of a descriptor, valid or not, lie in the ranges of R90 (R546). -/
def taskRanges (d : BitVec 1024) : Bool :=
  let f (lo w : Nat) : Nat := bitsAt d lo w
  decide (f 4 4 ≤ 12 ∧ f 8 12 < 2 ^ f 4 4) && f 26 2 != 3 && (f 26 2 != 2 || decide (f 96 16 ≤ 143)) &&
  f 128 2 == 0 && f 176 16 == 0 && f 320 12 == 0 && f 366 18 == 0 && decide (f 464 16 ≤ 8191)

/-- A descriptor's fields lie in their ranges, and a valid one meets R91. -/
def State.taskOk (s : State) (hops : List (Nat × W32)) (t : Nat) (d : BitVec 1024) : Bool :=
  let f (lo w : Nat) : Nat := bitsAt d lo w
  let p := (s.rd R.BCN_PERIOD).toNat
  taskRanges d && (!bitAt d 0 ||
  (decide (f 32 32 < f 64 32 ∧ f 64 32 + s.guardNs ≤ p) && (f 26 2 != 1 || !(s.csetCores (f 28 4)).isEmpty) && (!bitAt d 1 || f 416 32 != 0) &&
   (rangeFrom (f 448 16) (f 464 16)).all (fun i => bitAt (assocD hops i 0) 31) &&
   countIf (fun h : Nat × W32 => bitAt h.2 31 && bitsAt h.2 0 13 == t) hops == f 112 16))

/-- The tasks left when every task without a predecessor among them has been taken away, again and again, are none. -/
def acyclic (succ : Nat → List Nat) (ts : List Nat) : Nat → Bool
  | 0 => ts.isEmpty
  | k + 1 =>
    let left := ts.filter (fun t => ts.any (fun p => (succ p).contains t))
    if left.isEmpty then true else if left.length = ts.length then false else acyclic succ left k

/-- The successors of a descriptor (R92). -/
def succOf (hops : List (Nat × W32)) (d : BitVec 1024) : List Nat :=
  (rangeFrom (bitsAt d 448 16) (bitsAt d 464 16)).filterMap (fun i => if bitAt (assocD hops i 0) 31 then some (bitsAt (assocD hops i 0) 0 13) else none)

/-- TASKS and HOPS (R91, R92, R356). -/
def State.taskTests (s : State) (body : List Byte) : List Bool :=
  let ts := imgTasks body
  let hops := imgHops body
  let on := ts.filter (fun p => bitAt p.2 0)
  ts.map (fun p => s.taskOk hops p.1 p.2) ++
  [acyclic (fun t => succOf hops (assocD on t 0)) (on.map (·.1)) on.length,
   noneMeet (fun a b : Nat × BitVec 1024 => bitAt a.2 1 == bitAt b.2 1 && bitsAt a.2 384 16 == bitsAt b.2 384 16 && bitsAt a.2 320 64 != bitsAt b.2 320 64) on]

/-- KIND and CMP of a used term (R166). -/
def termKindOk (t : W32 × W32) : Bool :=
  let kind := bitsAt t.1 0 3
  decide (1 ≤ kind ∧ kind ≤ 5) && (kind != 1 || decide (bitsAt t.1 3 3 ≤ 5))

/-- What a used term of an enabled rule names exists (R166). -/
def termOk (points : Nat) (t : W32 × W32) : Bool :=
  let kind := bitsAt t.1 0 3
  let op := bitsAt t.1 9 23
  (decide (2 < kind) || decide (op < points)) && (kind != 2 || decide (bitsAt t.2 0 5 ≤ 23)) && (kind != 3 || decide (op < 4096)) &&
  (kind != 4 || decide (op ≤ 1023))

/-- A rule (R165, R166): OP, K, KIND and CMP are judged in a disabled one too, and what the terms name in an enabled one. -/
def ruleOk (points : Nat) (r : SRule) : Bool :=
  let n := bitsAt r.hdr 1 3 + 1
  let used := r.terms.take n
  bitsAt r.hdr 4 2 != 3 && (bitsAt r.hdr 4 2 != 2 || decide (1 ≤ bitsAt r.hdr 6 4 ∧ bitsAt r.hdr 6 4 ≤ n)) &&
  used.all termKindOk && (!bitAt r.hdr 0 || used.all (termOk points))

/-- A record of STATE_INIT lies within one enabled region (R66). -/
def State.initOk (s : State) (r : Nat × List Byte) : Bool :=
  (List.range 16).any (fun g => s.regEn g &&
    decide ((s.regLines g).1 * 64 ≤ r.1 ∧ r.1 + r.2.length ≤ ((s.regLines g).1 + (s.regLines g).2) * 64))

/-- A record of a load lies in granules that a stage-2 section maps, and each byte's berth passes a test. -/
def loadOk (s2 : List W64) (ok : Nat → Bool) (r : Nat × List Byte) : Bool :=
  let g := r.1 / 2 ^ 21
  (rangeFrom g ((r.1 + r.2.length - 1) / 2 ^ 21 - g + 1)).all (fun i =>
    let e := s2.getD i 0
    bitAt e 0 && ok (bitsAt e 21 25))

/-- A stage-2 section (R64, R347). -/
def State.s2Tests (s : State) (berths : Nat) (l : List W64) : List Bool :=
  l.map (fun e => decide (bitsAt e 21 25 < berths) && (!bitAt e 0 || !inSpans s.unitBerths (bitsAt e 21 25)))

/-- An index of INPUT_MAP names a source of its kind that the device has (R483, R546); the bounds follow from the counts of the parts (DEDUCED, log entry 46). -/
def mapIndexOk (kind i : Nat) : Bool :=
  match kind with
  | 1 => decide (i / 65536 < 8 ∧ i % 65536 / 2048 < 28 ∧ i % 2048 ≤ 1023)
  | 2 => decide (i < 8192)
  | 3 => decide (i < 256)
  | 4 => decide (i < 256)
  | 5 => decide (i < 2048)
  | 6 => decide (i < 4)
  | 7 => i == 0
  | _ => false

/-- NET_TABLES and Sealed ports (R438, R440). -/
def State.netTests (s : State) (body : List Byte) : List Bool :=
  let regs := regList (secBytes body 2)
  let bs := secBytes body 0xb0
  (List.range 8).map (fun p =>
    let g := (netGcl regs bs p).map (fun w => bitsAt w 8 24)
    let c := s.rd (R.GCL_CTL (p / 4) (p % 4))
    g.all (fun i => decide (1 ≤ i)) && (decide (g.foldl (· + ·) 0 ≤ 2 ^ bitsAt c 1 4 * (s.rd R.BCN_PERIOD).toNat))) ++
  (List.range 8).map (fun p => !s.portSealed p ||
    (s.fld (R.REL_OFF (p / 4) (p % 4)) 24 8 == 0 && (netMatch regs bs p).all (fun e => !bitAt (e.getD 0 0) 31)))

/-- A Sealed CAN FD controller has neither release slots nor match entries (R438, R444). -/
def State.canTests (s : State) (ents : List (List Byte)) : List Bool :=
  (List.range 16).map (fun c => !s.canSealed c ||
    (s.fld (R.CC_REL c) 24 5 == 0 && ents.all (fun e => !bitAt (wordAt e 0) 31 || bitsAt (wordAt e 3) 0 4 != c)))

/-- A system register of the list holds a value in its range: each policy of ATTR_TBL is one of five (R361, R546). -/
def sysRangeOk (c : List Byte) : Bool :=
  numAt c 0 2 != 0x680 || (List.range 8).all (fun i => decide (bitsAt (BitVec.ofNat 64 (numAt c 8 8)) (4 * i) 3 ≤ 4))

/-- Sections other than TASKS and HOPS. -/
def State.sectionTests (s : State) (body : List Byte) (berths : Nat) : List (Nat × List Bool) :=
  let sec := secBytes body
  let pts := (s.rd R.IN_POINTS).toNat
  let chans := imgChans body
  let o := imgS2 body 0x11
  let z := imgS2 body 0x12
  [(3, (chunks 16 (sec 3)).map sysRangeOk), (0x11, s.s2Tests berths o), (0x12, s.s2Tests berths z), (0x13, [numAt (sec 0x13) 0 16 != 0]),
   (0x22, (chunks 8 (sec 0x22)).map (fun c => decide (numAt c 0 4 < pts))),
   (0x23, (chunks 8 (sec 0x23)).map (fun c => decide (numAt c 0 3 < pts) && mapIndexOk (numAt c 3 1) (numAt c 4 4))),
   (0x30, (recsOf (sec 0x30)).map s.initOk), (0x31, (recsOf (sec 0x31)).map (loadOk o (fun _ => true)))] ++
  (List.range 64).map (fun e => (0x40 + e, (recsOf (sec (0x40 + e))).map (loadOk z (fun b => s.inEnclave (b * 2 ^ 21) e)))) ++
  [(0x90, (imgRules body).map (fun r => ruleOk pts r.2)),
   (0x91, (words (sec 0x91)).map (fun w => decide (1 ≤ bitsAt w 13 16))),
   (0x92, chans.map (fun p => decide (1 ≤ bitsAt p.2.start 16 16 ∧ 1 ≤ bitsAt p.2.hold 0 16) && (!bitAt p.2.fb 31 || decide (bitsAt p.2.fb 0 23 < pts))) ++ [decide (countIf (fun p : Nat × SChan => bitAt p.2.permit 13) chans ≤ 256)]),
   (0xa0, (indexed (words (sec 0xa0))).map (fun p => routeOk (p.1 / 106) (p.1 % 106) p.2)),
   (0xa1, (words (sec 0xa1)).map (fun w => decide (1 ≤ bitsAt w 0 11 ∧ bitsAt w 0 11 ≤ 1024 ∧ 1 ≤ bitsAt w 16 8))),
   (0xb0, s.netTests body),
   (0xb1, (chunks 16 (sec 0xb1)).map (fun c => decide (bitsAt (wordAt c 2) 23 6 ≤ 60) && (!bitAt (wordAt c 0) 31 || decide (bitsAt (wordAt c 2) 0 23 < pts))) ++ s.canTests (chunks 16 (sec 0xb1)))]

/-- Every check of step 8 beyond the layouts: section and tests. -/
def State.imageTests (s : State) (body : List Byte) (berths : Nat) : List (Nat × List Bool) :=
  let c := s.candidateOf body
  [(2, c.rangeTests (c.rangesCore ++ State.rangesUnits) ++ c.stateTests ++ c.pinTests), (0x10, c.worldTests (imgS2 body 0x11)),
   (0x20, c.taskTests body)] ++ c.sectionTests body berths

/-- The check that fails first: its section, and its entry where the section is one of entries (R546). -/
def State.checkFail (s : State) (body : List Byte) (berths : Nat) : Option (Nat × Nat) :=
  (s.imageTests body berths).findSome? (fun p => (firstBad p.2).map (fun i => (p.1, i)))

end Sys2Proof.Machine
end

