-- ==== Sys2Proof/Machine/Boot.lean ====
section
/-! DEFINITION. Reset release, the boot sequence of R478 up to the check of the image, and its failures (R471, R476 to R480, R485 to R490, R501). -/

namespace Sys2Proof.Machine

/-! ### Reset (R471, R534) -/

/-- POWER_ON_RESET (R471, R478): the always-on domain leaves reset and boot step 1 begins. -/
def powerOnReset (s : State) : State := ({ s with boot := { s.boot with por := false } }.logTorn).fullReset 0

/-- POWER_ON_RESET_ASSERT (R534): power goes, and every domain is held in reset; records not yet programmed are lost (R537). -/
def powerOnResetAssert (s : State) : State := ({ s with boot := { s.boot with por := true } }.logTorn).fullReset 0

/-- RESET_N_LOW (R471): a full reset with cause 1; the device stays in reset while the ball is low. -/
def resetNLow (s : State) : State :=
  if s.boot.rstLow then s else ({ s with boot := { s.boot with rstLow := true } }).fullReset 1

/-- RESET_N_RELEASE (R471): the always-on domain leaves reset, unless power-on reset holds it (R534). -/
def resetNRelease (s : State) : State :=
  if s.boot.rstLow then { s with boot := { s.boot with rstLow := false, aon := !s.boot.por } } else s

/-! ### Steps 1 to 3 (R25, R478, R491, R493, R501) -/

/-- BOOT_STATE of a step (R478, R479). -/
def bootStateOf (step : Nat) : Nat :=
  if step ≤ 1 then 0 else if step ≤ 3 then 1 else if step ≤ 6 then 2 else if step = 7 then 3 else if step = 8 then 4
  else if step ≤ 13 then 5 else if step = 14 then 6 else 7

/-- Boot reaches a step. -/
def State.bootStep (s : State) (n : Nat) : State :=
  { s with boot := { s.boot with step := n } }.setFld R.BOOT_STAT 0 3 (bootStateOf n)

/-- A copy of a triplicated word that the book retires stays retired (R430, R465). -/
def TripWord.retire (t : TripWord) (c : Nat) : TripWord :=
  match c with
  | 0 => { t with retA := true }
  | 1 => { t with retB := true }
  | _ => { t with retC := true }

/-- The word copies that the book names are retired. -/
def State.retireCopies (s : State) : State :=
  (List.range 5).foldl (fun s i => (List.range 3).foldl (fun s c =>
    if s.inBook 6 c i then { s with trip := s.trip.setWord i ((s.trip.word i).retire c) } else s) s) s

/-- CRYSTAL_STABLE (R25, R491): the ring PLL locks to the crystal and the timebase starts at 0 ns; Lantern writes the reset cause (R463) and holds boot until every rail has been read inside its range (R534), and after a thermal trip (R456). -/
def crystalStable (s : State) : State :=
  if s.boot.step != 1 || !s.boot.aon then s
  else
    let s := { s with tb := { s.tb with running := true, src := 2, locked := true }, lan := { s.lan with holdBoot := true, holdTemp := s.boot.cause == 9 } }
    ((s.retireCopies.wr R.LN_RESET_CAUSE (BitVec.ofNat 32 s.boot.cause)).setFld R.CLK_LOCK 1 1 1).bootStep 2

/-- The boot defaults of the references: every PLL input and the timebase take ref A, ref B where A is not stable at step 3, or else the crystal (R501). -/
def State.bootDefaults (s : State) : State :=
  let r := if s.tb.refA then 0 else if s.tb.refB then 1 else 2
  let s := { s with clk := { s.clk with bootRef := r } }
  let s := pllFields.foldl (fun s f => s.pllTake f.1 r) s
  match s.refChoice with
  | some src => if s.tb.src = src then s else s.refMove src 2
  | none => s

/-- A core counted as lost at boot: the book retires it or shows it halted in two reset periods (R20, R464). -/
def State.coreLost (s : State) (k : CoreId) : Bool := s.inBook 1 k.val 0 || s.haltedTwice 7 k.val 0

/-- Boot step 3 (R478, R501): the PLLs lock at the boot defaults, the timebase moves to the selected reference, and every tile that is not retired is up. -/
def State.bootClocks (s : State) : State :=
  let s := s.bootDefaults
  let up := (List.range 72).filter (fun t => (tileCores t).any (fun k => !s.coreLost k))
  (up.foldl (fun s t => s.setDom t .up) (s.setDom 93 .up)).bootStep 3

/-- REF_STABLE (R26, R491, R493): a reference passes its stable count. At step 3 it enters the boot defaults, which stand from step 4 to step 10 (R501). -/
def refStable (refB : Bool) (s : State) : State :=
  if !s.boot.aon || s.boot.step < 2 then s
  else
    let s := if s.boot.step ≤ 3 then (if refB then { s with tb := { s.tb with refB := true } } else { s with tb := { s.tb with refA := true } }) else s
    if s.boot.step = 2 then (if s.lan.holdBoot then s else s.bootClocks)
    else if s.boot.step = 3 then s.bootDefaults
    else s.refBack refB

/-! ### Failure and fallback (R479, R480, R490) -/

/-- The LANTERN and TWIN fields that a failed slot loaded are cleared: none survives the fallback (R479). -/
def State.slotForget (s : State) : State :=
  { s with regs := s.regs.filterMap (fun p =>
      let b := p.1 / 0x1000
      if b = 0x22 ∨ b = 0x1a then
        match rowAt b (p.1 % 0x1000) with
        | some r =>
          let v := p.2 &&& ~~~(BitVec.ofNat 32 r.img)
          if v = resetVal p.1 then none else some (p.1, v)
        | none => some p
      else some p) }

/-- Boot fails for good: Lantern runs its ROM, which serves no port (R479). -/
def State.bootDead (s : State) : State :=
  { s with lan := { s.lan with running := false, streams := [], portSrc := none, kickAt := none } }.bootStep 15

/-- A slot fails: its cause is recorded and BOOT_FAIL journaled; the other slot is tried once, unless the failure ends boot. The first slot to fail is the preferred one (R486). -/
def State.bootFail (s : State) (cause sec idx : Nat) (last : Bool) : State :=
  let b := s.boot.slotB
  let s := (s.setFld R.BOOT_STAT (if b then 12 else 8) 4 cause).jlog s.now 104 0 0x1001 [(0, 1, b2n b), (1, 1, cause), (2, 2, sec), (4, 4, idx)]
  let s := s.setFld R.BOOT_STAT 4 1 1
  if s.boot.tried || last then s.bootDead
  else
    let s := { s.slotForget with boot := { s.boot with slotB := !b, tried := true } }
    (s.setFld R.BOOT_STAT 3 1 (b2n !b)).bootStep 4

/-! ### Steps 4 to 6 -/

/-- The slot that boot prefers (R476): the higher SEQ as its header reads, slot A on ties. A wrong header fails the slot afterwards. -/
def State.chooseSlot (s : State) : Bool := decide (s.slotSeq false < s.slotSeq true)

/-- The target voltage of a level in mV: its nominal less a trim of 0 to 40 mV, never below 550 (R498). -/
def vTarget (l : Nat) (trim : BitVec 10) : Nat := max 550 ([800, 720, 660, 600, 550].getD l 550 - trim.toNat % 41)

/-- Step 4: the fuses, the voltage targets, whose trims are free values (log entry 53: the place of their fuses is not given), and the choice of a slot (R475, R476, R485, R511). -/
def State.bootChoose (s : State) : State :=
  let w0 : W64 := assocD s.nv.fuses 0 0
  let w1 : W64 := assocD s.nv.fuses 1 0
  let b := s.chooseSlot
  let s := ((s.setFld R.DEV_ID 24 1 (b2n (bitAt w1 16))).wr R.DEV_SER_LO (lo32 w0)).wr R.DEV_SER_HI (hi32 w0)
  let s := (List.range 5).foldl (fun s l =>
    let f := s.free 10
    f.2.wr (R.PWR_VTGT l) (BitVec.ofNat 32 (vTarget l f.1))) s
  ({ s with boot := { s.boot with slotB := b } }.setFld R.BOOT_STAT 3 1 (b2n b)).bootStep 4

/-- Step 6: the firmware starts and the LANTERN block's img fields load; the token bucket starts full (R458, R478, R485). -/
def State.bootFirmware (s : State) : State :=
  let s := s.regsBoot (fun b => b == 0x22) (regList (secBytes (s.slotBody s.boot.slotB) 2))
  { s with lan := { s.lan with running := true, kickAt := some s.now, tokens := s.fld R.LN_NVM_RATE 16 13 * 1000000000, tokenAt := s.now } }.bootStep 6

/-- BOOT_VERIFY (R475 to R480): steps 3 and 4 where they are still to be taken, then the checks of step 5 and step 6, or a failure. -/
def bootVerify (s : State) : State :=
  if s.boot.step < 2 || 4 < s.boot.step || s.lan.holdBoot || !s.boot.aon then s
  else
    let s := if s.boot.step = 2 then s.bootClocks else s
    let s := if s.boot.step = 3 then s.bootChoose else s
    match s.verifyCause s.boot.slotB with
    | some c => s.bootFail c 0 0 false
    | none =>
      let b := s.boot.slotB
      let s := s.tripPut 4 (leNat (s.slotRead b 16 48))
      (s.wr R.IMG_SEQ (BitVec.ofNat 32 (s.slotSeq b))).bootFirmware

/-! ### Step 7: the channels (R414, R418, R432) -/

/-- Places of a channel with a module configuration (R415). -/
def trainPlaces (c : ChanTrain) : Nat := 16384 * 2 ^ (b2n c.twoDimm + b2n c.twoRank + b2n c.den32)

/-- Two channels carry the same module configuration. -/
def trainSame (a b : ChanTrain) : Bool := a.twoDimm == b.twoDimm && a.twoRank == b.twoRank && a.den32 == b.den32

end Sys2Proof.Machine
end

