-- ==== Sys2Proof/Machine/BootApply.lean ====
section
/-! DEFINITION. Boot steps 7 to 10: training, the checks, the berth table and the application of the image (R414, R417, R418, R478, R483 to R485). -/

namespace Sys2Proof.Machine

/-- The body of the slot in use. -/
def State.bootBody (s : State) : List Byte := s.slotBody s.boot.slotB

/-! ### Step 7 -/

/-- The channel's outcome of training: active for now, failed, retired by the book, or absent (R414, R418, R432). -/
def State.trainOne (s : State) (ref : ChanTrain) (c : Nat) (t : ChanTrain) : State :=
  if !t.present then s.setFld (R.MC_STATE c) 0 3 0
  else if !t.trained || !trainSame t ref then s.setFld (R.MC_STATE c) 0 3 5
  else
    let st := if s.inBook 3 c c then 4 else 2
    let s := s.wr (R.MC_CFG c) (BitVec.ofNat 32 (b2n t.twoDimm + 2 * b2n t.twoRank + 4 * b2n t.den32 + 8 * trainPlaces t))
    (s.setFld (R.MC_STATE c) 0 3 st).setDom (80 + c) .up

/-- Training of every channel; the module configuration is that of the lowest channel that trained (R414). A channel already trained is not trained again (R479). -/
def State.train (s : State) (cs : List ChanTrain) : State :=
  if s.boot.trained then s
  else
    let ref := (cs.find? (fun c => c.present && c.trained)).getD ⟨true, false, false, false, true⟩
    let s := (indexed (cs.take 13)).foldl (fun s p => s.trainOne ref p.1 p.2) s
    { s with boot := { s.boot with trained := true } }

/-- The channels that trained, are not failed and not retired (R418). -/
def State.healthyCh (s : State) : List Nat := (List.range 13).filter (fun c => s.fld (R.MC_STATE c) 0 3 == 2 || s.fld (R.MC_STATE c) 0 3 == 3)

/-- PLACES of the device's channels. -/
def State.places (s : State) : Nat := (s.healthyCh.map s.placesOf).foldl max 0

/-! ### Step 9 (R417, R418) -/

/-- The berths that structures of the device occupy, apart from the stage-2 tables (R417). -/
def State.unitSpans (c : State) : List (Nat × Nat) :=
  let ring (lo hi size : Nat) : Nat × Nat := berthSpan (c.rd64 lo hi).toNat (2 ^ c.fld size 0 5 * 32)
  c.unitBerths ++ [ring R.JRN_BASE_LO R.JRN_BASE_HI R.JRN_SIZE, ring R.WD_SJRN_BASE_LO R.WD_SJRN_BASE_HI R.WD_SJRN_SIZE] ++
  (if c.flagAt R.TW_CFG 0 then [ring R.TW_PJRN_BASE_LO R.TW_PJRN_BASE_HI R.TW_PJRN_SIZE] else []) ++
  ((List.range 8).filter (fun b => (List.range 28).any (fun l => c.flagAt (R.ENG_CFG b l) 26))).map (fun b => (c.fld (R.ANT_IMG b) 0 21, 1))

/-- The berths that a stage-2 section maps. -/
def mappedBerths (l : List W64) : List Nat := (l.filter (fun e => bitAt e 0)).map (fun e => bitsAt e 21 25)

/-- The lowest run of n free berths from b (DESIGN CHOICE: the spec leaves the choice to Keeper). -/
def freeRun (used : Nat → Bool) (n : Nat) : Nat → Nat → Option Nat
  | _, 0 => none
  | b, k + 1 => if (rangeFrom b n).any used then freeRun used n (b + 1) k else some b

/-- The berths of the Open and the Sealed stage-2 table: first and count of each (R347); none where they do not fit. -/
def State.s2Spans (c : State) (body : List Byte) (berths : Nat) : Option ((Nat × Nat) × (Nat × Nat)) :=
  let o := imgS2 body 0x11
  let z := imgS2 body 0x12
  let maps := mappedBerths o ++ mappedBerths z
  let used (b : Nat) : Bool := decide (berths ≤ b) || inSpans c.unitSpans b || maps.contains b || inSpans (c.rangesOn.map (·.span)) b
  let size (l : List W64) : Nat := (l.length * 8 + 2 ^ 21 - 1) / 2 ^ 21
  match freeRun used (size o) 0 (berths + 1) with
  | none => none
  | some a => (freeRun (fun b => used b || decide (a ≤ b ∧ b < a + size o)) (size z) 0 (berths + 1)).map (fun d => ((a, size o), (d, size z)))

/-- The next place of a channel from an offset that is not bad. -/
def nextOff (bad : List (Nat × Nat)) (ch : Nat) : Nat → Nat → Option Nat
  | _, 0 => none
  | off, k + 1 => if bad.contains (ch, off) then nextOff bad ch (off + 1) k else some off

/-- Takes a place of the first channel of the rotation that has one; that channel goes to the end. -/
def takePlace (bad : List (Nat × Nat)) (places : Nat) : List (Nat × Nat) → Option ((Nat × Nat) × List (Nat × Nat))
  | [] => none
  | (ch, off) :: r =>
    match nextOff bad ch off (places - off) with
    | some o => some ((ch, o), r ++ [(ch, o + 1)])
    | none => takePlace bad places r

/-- Places berths in order; what is left has no place. -/
def placeBerths (bad : List (Nat × Nat)) (places : Nat) : List Nat → List (Nat × Nat) → List (Nat × (Nat × Nat)) × (List Nat × List (Nat × Nat))
  | [], rot => ([], ([], rot))
  | b :: bs, rot =>
    match takePlace bad places rot with
    | none => ([], (b :: bs, rot))
    | some (p, rot) =>
      let r := placeBerths bad places bs rot
      ((b, p) :: r.1, r.2)

/-- A berth-table entry as boot writes it: affinity class 0 (R416). -/
def btWord (p : Nat × Nat) (used owned : Bool) : W32 :=
  BitVec.ofNat 32 (p.1 + p.2 * 16 + bitIf true 27 + bitIf used 29 + bitIf owned 30)

/-- The bad places that the book records (R424, R464). -/
def State.bookPlaces (s : State) : List (Nat × Nat) :=
  (s.nv.book.filter (fun r => (bookFields r).1 == 4)).map (fun r => ((bookFields r).2.2.1, bitsAt r.payload 32 32))

/-- The cores that start in placement and those in reserve (R20, R21): 128 of the cores that are not lost, the reserve drawn in the order of R20. -/
def State.bootReserve (s : State) : List CoreId :=
  let left := reserveOrder.filter (fun k => !s.coreLost k)
  left.take (left.length - 128)

/-- CORE_STATE at step 9: 7 for a lost core, 0 for a reserve core, 1 for one that starts in placement (R485). -/
def State.bootCores (s : State) : State :=
  let res := s.bootReserve
  let s := (allCores.filter (fun k => s.coreLost k && !s.inBook 1 k.val 0)).foldl (fun s k => s.judgeWorn 1 k.val 0 0) s
  allCores.foldl (fun s k => s.setCstat k.val (if s.coreLost k then .retired else if res.contains k then .reserve else .waking)) s

/-- The L3 ways that the book retires: the spare serves the first, the others are out of service (R24, R387). -/
def State.bootWays (s : State) : State :=
  (List.range 72).foldl (fun s t =>
    let ps := ((s.nv.book.filter (fun r => (bookFields r).1 == 2 && (bookFields r).2.2.1 == t)).map (fun r => (bookFields r).2.1)).eraseDups
    let ws := ps.filter (fun p => decide (p < 16))
    let dead (l : List Nat) (s : State) : State := if l.isEmpty then s else { s with cache := { s.cache with deadWays := assocSet s.cache.deadWays t l } }
    if ps.contains 16 then dead ws s
    else match ws with
      | [] => s
      | w :: r => dead r (s.wr (R.L3_WAYMAP t) (BitVec.ofNat 32 (w + 16)))) s

/-- Boot step 9 (R417, R418): the berth table, or none where the USED berths do not fit (MEM_SHORT), a structure beyond BT_COUNT included. -/
def State.bootPlace (s : State) (body : List Byte) : Option State :=
  let c := s.candidateOf body
  let places := s.places
  let berths := 12 * places
  let active := s.healthyCh.take 12
  let bad := s.bookPlaces
  match c.s2Spans body berths with
  | none => none
  | some (o, z) =>
    let maps := mappedBerths (imgS2 body 0x11) ++ mappedBerths (imgS2 body 0x12)
    let spans := o :: z :: c.unitSpans
    let used (b : Nat) : Bool := inSpans spans b || maps.contains b
    let r := placeBerths bad places ((List.range berths).filter used) (active.map (fun ch => (ch, 0)))
    if !r.2.1.isEmpty || spans.any (fun p => decide (0 < p.2 ∧ berths < p.1 + p.2)) then none
    else
      let u := placeBerths bad places ((List.range berths).filter (fun b => !used b)) r.2.2
      let ent := sortBy (fun a b => decide (a.1 < b.1)) (r.1.map (fun p => (p.1, btWord p.2 true (!maps.contains p.1))) ++ u.1.map (fun p => (p.1, btWord p.2 false false)))
      let s := (s.healthyCh.drop 12).foldl (fun s ch => s.setFld (R.MC_STATE ch) 0 3 3) s
      let s := s.healthyCh.foldl (fun s ch => s.setFld R.PV_MEM_HW ch 1 1) s
      let s := { s with mem := { s.mem with bt := ent, bad := bad }, boot := { s.boot with
        s2Open := (BitVec.ofNat 64 (o.1 * 2 ^ 21), (imgS2 body 0x11).length), s2Sealed := (BitVec.ofNat 64 (z.1 * 2 ^ 21), (imgS2 body 0x12).length) } }
      some ((s.wr R.BT_COUNT (BitVec.ofNat 32 berths)).bootCores.bootWays.bootStep 9)

/-! ### Step 10 (R483 to R485) -/

/-- The point word of an INPUT_MAP entry: POINT with EN. -/
def pointWord (p : Nat) : W32 := BitVec.ofNat 32 (p + 2 ^ 31)

/-- An INPUT_MAP entry takes effect: the map itself, and the register that shows its point. -/
def State.mapApply (s : State) (e : Nat × (Nat × Nat)) : State :=
  let p := e.1
  let i := e.2.2
  let s := { s with sector := { s.sector with inputMap := e :: s.sector.inputMap } }
  match e.2.1 with
  | 2 => { s with grid := { s.grid with map := assocSet s.grid.map i (pointWord p) } }
  | 3 =>
    let x := s.port (i / 32)
    let m : NetMatch := assocD x.mtab (i % 32) {}
    s.setPort (i / 32) { x with mtab := assocSet x.mtab (i % 32) { m with out := BitVec.ofNat 32 p } }
  | 4 =>
    let m : CanMatch := assocD s.ports.canMatch i {}
    { s with ports := { s.ports with canMatch := assocSet s.ports.canMatch i { m with out := putBits m.out 0 23 p } } }
  | 5 => { s with sector := { s.sector with chans := assocSet s.sector.chans i { s.chanCfg i with fb := pointWord p } } }
  | 6 => s.wr (R.POOL_PT i) (pointWord p)
  | 7 => s.wr R.SUPPLY_PT (pointWord p)
  | _ => s

/-- The entries of INPUT_MAP: point, kind, index. -/
def imgMap (body : List Byte) : List (Nat × (Nat × Nat)) := (chunks 8 (secBytes body 0x23)).map (fun c => (numAt c 0 3, (numAt c 3 1, numAt c 4 4)))

/-- TASKS, HOPS, PARAM, RULES, TIMERS, CHANNELS, ROUTES and REGULATORS. -/
def State.applyTables (s : State) (body : List Byte) : State :=
  let sec := secBytes body
  let routes := ((indexed (words (sec 0xa0))).filter (fun p => bitAt p.2 8)).map (fun p => (p.1 / 106 * 128 + p.1 % 106, p.2))
  let regl := (indexed (words (sec 0xa1))).map (fun p =>
    (p.1 / 3 * 4 + p.1 % 3 + 1, ({ rate := bitsAt p.2 0 11, burst := bitsAt p.2 16 8, en := bitAt p.2 24, tokens := bitsAt p.2 16 8 * 2048, seen := s.now } : Regulator)))
  { s with
    hive := { s.hive with
      td := (imgTasks body).filter (fun p => p.2 != 0), hops := imgHops body
      params := (chunks 8 (sec 0x22)).foldl (fun l c => assocSet l (numAt c 0 4) (wordAt c 1)) [] }
    sector := { s.sector with
      rules := (imgRules body).filter (fun p => p.2.hdr != 0 || p.2.terms.any (fun t => t != (0, 0)))
      timers := (indexed (words (sec 0x91))).filter (fun p => p.2 != 0)
      chans := imgChans body }
    ring := { s.ring with routes := routes, regl := regl } }

/-- NET_TABLES and CAN_MATCH. -/
def State.applyPorts (s : State) (body : List Byte) : State :=
  let regs := regList (secBytes body 2)
  let bs := secBytes body 0xb0
  let s := (List.range 8).foldl (fun s p =>
    let mt := (netMatch regs bs p).map (fun e => ({ type := e.getD 0 0, val := e.getD 1 0, mask := e.getD 2 0, ext := e.getD 3 0 } : NetMatch))
    s.setPort p { s.port p with gcl := indexed (netGcl regs bs p), mtab := indexed mt }) s
  { s with ports := { s.ports with canMatch := indexed ((chunks 16 (secBytes body 0xb1)).map (fun c =>
    ({ id := wordAt c 0, mask := wordAt c 1, out := wordAt c 2, ctrl := wordAt c 3 } : CanMatch))) } }

/-- The triplicated words and the registers with an effect of their own, after the register list. -/
def State.applyWords (s : State) : State :=
  let s := (s.tripPut 0 (s.rd64 R.TB_TAI_LO R.TB_TAI_HI).toNat).tripPut 1 (s.rd64 R.BCN_EPOCH_LO R.BCN_EPOCH_HI).toNat
  let s := s.tripPut 2 (s.rd R.BCN_PERIOD).toNat
  pllFields.foldl (fun s f => s.pllTake f.1 (s.fld R.CLK_REF f.2 2)) s

/-- Boot step 10 (R478, R483, R485): the register list and the table sections; every bay with an engine in the image is up, and the sources that the image selects take over from the boot defaults (R501). -/
def State.bootApply (s : State) (body : List Byte) : State :=
  let regs := regList (secBytes body 2)
  let s := s.regsBoot (fun b => b != 0x22 && b != 0x1a && b != 0x20 && b != 0x21) regs
  let s := { s with boot := { s.boot with sysregs := sysList (secBytes body 3) } }
  let s := (imgMap body).foldl State.mapApply ((s.applyTables body).applyPorts body).applyWords
  let s := (List.range 8).foldl (fun s b => if (bayEngines regs b).isEmpty then s else s.setDom (72 + b) .up) s
  let s := s.bootStep 10
  let s := { s with
    boot := { s.boot with applied := true }
    bcn := { s.bcn with outZ := false }
    ports := { s.ports with perst := foldRange (fun h w => putBits w h 1 (s.fld (R.PH_CTL h) 0 1)) 0 8 0 } }
  (s.tbCtlWrite (s.rd R.TB_CTL)).perfFollow 0

/-- CHANNEL_TRAINING (R478): steps 7 to 10, or a failure of the check or of the placement. -/
def channelTraining (cs : List ChanTrain) (s : State) : State :=
  if s.boot.step != 6 then s
  else
    let body := s.bootBody
    let s := (((s.bootStep 7).train cs).regsBoot (fun b => b == 0x1a) (regList (secBytes body 2))).bootStep 8
    match (dirFail body).or (listFail body) with
    | some f => s.bootFail f.cause f.sec f.idx false
    | none =>
      match s.checkFail body (12 * s.places) with
      | some (sec, idx) =>
        let f := s.free 32
        if sec = 2 ∨ sec = 0x10 then f.2.bootFail 6 sec f.1.toNat false else s.bootFail 6 sec idx false
      | none =>
        match s.bootPlace body with
        | none => s.bootFail 7 0 0 false
        | some s => s.bootApply body

end Sys2Proof.Machine
end

