-- ==== Sys2Proof/Machine/BootLoad.lean ====
section
/-! DEFINITION. Boot steps 11 to 14: initialisation, assignment, loading and readiness (R312, R478, R481, R483, R484, R488, R503). -/

namespace Sys2Proof.Machine

/-! ### Step 11 (R66, R478) -/

/-- The bytes of a record as numbered lines from an address. -/
def recLines (r : Nat × List Byte) : List (Nat × Line) := (indexed (chunks 64 r.2)).map (fun p => (r.1 / 64 + p.1, lineOf p.2))

/-- Step 11: every byte of DRAM reads zero, so only the initial contents are written (R66). -/
def State.bootInit (s : State) (body : List Byte) : State :=
  let ls := (recsOf (secBytes body 0x30)).flatMap recLines
  ({ s with su := { s.su with lines := ls.foldl (fun (l : List (Nat × SLine)) (p : Nat × Line) => assocSet l p.1 { dataA := p.2 }) s.su.lines } }).bootStep 11

/-! ### Step 12 (R312) -/

/-- Lines written at a device-physical address. -/
def State.linesAt (s : State) (pa : Nat) (bs : List Byte) : State :=
  (indexed (chunks 64 bs)).foldl (fun s p => s.writePa (pa + 64 * p.1) fullMask (lineOf p.2) false) s

/-- The enclaves that own a sealed range (R312). -/
def State.keyedEnclaves (s : State) : List Nat := (List.range 64).filter (fun e => s.rangesOn.any (fun r => bitsAt r.cfg 16 6 == e))

/-- One key pair for each enclave with a sealed range; the keys are free values (R312, R317). -/
def State.keyEnclaves (s : State) : State :=
  s.keyedEnclaves.foldl (fun s e =>
    let f := s.free 512
    { f.2 with keeper := { f.2.keeper with keys := assocSet f.2.keeper.keys e f.1 } }.setFld (if e < 32 then R.WD_KEYED_LO else R.WD_KEYED_HI) (e % 32) 1 1) s

/-- A port unit is enabled: network ports 0 to 7, PCI Express halves 8 to 15, CAN FD controllers 16 to 31. -/
def State.unitEnabled (s : State) (n : Nat) : Bool :=
  if n < 8 then s.fld (R.PORT_CFG (n / 4) (n % 4)) 0 2 != 0
  else if n < 16 then s.flagAt (R.PH_CFG (n - 8)) 0
  else s.flagAt (R.CC_CFG (n - 16)) 0

/-- The world of a port unit. -/
def State.unitSealed (s : State) (n : Nat) : Bool :=
  if n < 8 then s.portSealed n else if n < 16 then s.pcieSealed (n - 8) else s.canSealed (n - 16)

/-- The votes that boot sets: of its world for each enabled bay and port unit, and the Sealed votes of every Sealed unit (R312, R503). -/
def State.bootVotes (s : State) : State :=
  let s := (List.range 8).foldl (fun s b =>
    let w := s.baySealed b
    let on := (List.range 28).any (fun l => s.flagAt (R.ENG_CFG b l) 26)
    if on || w then (s.setFld R.PV_BAY (b + 8 * b2n w) 1 1).setFld R.CV_BAY (b + 8 * b2n w) 1 1 else s) s
  (List.range 32).foldl (fun s n =>
    let w := s.unitSealed n
    if s.unitEnabled n || w then
      if w then (s.setFld R.PV_UNIT_SEALED n 1 1).setFld R.CV_UNIT_SEALED n 1 1
      else (s.setFld R.PV_UNIT_OPEN n 1 1).setFld R.CV_UNIT_OPEN n 1 1
    else s) s

/-- Step 12 (R312, R482 to R485): Keeper writes the assignment, the stage-2 tables and the digest key, keys the enclaves, sets votes and locks. -/
def State.bootAssign (s : State) (body : List Byte) : State :=
  let sec := secBytes body
  let l := regList (sec 0x10)
  let s := s.regsBoot (fun b => b == 0x20 || b == 0x21) (l.filter (fun e => e.1 != ctlOff R.WD_RNG_BASE && e.1 != ctlOff R.WD_RNG_CFG))
  let s := { s with ranges := indexed (listRanges l) }
  let s := (s.linesAt s.boot.s2Open.1.toNat (sec 0x11)).linesAt s.boot.s2Sealed.1.toNat (sec 0x12)
  let s := (List.range 4).foldl (fun s i => s.wr (R.DIG_KEY0 + 4 * i) (wordAt (sec 0x13) i)) s
  let s := { s with boot := { s.boot with partnerKey := BitVec.ofNat 384 (numAt (sec 0x13) 16 48), assigned := true } }
  let s := (s.keyEnclaves.bootVotes).tripPut 3 3
  (s.jlog s.now 104 0 0x0a03 [(0, 1, 3), (1, 1, s.keyedEnclaves.length), (2, 2, s.rangesOn.length), (4, 8, s.cfgDigest.toNat)]).bootStep 12

/-- BOOT_INITIALISE (R478, R480): steps 11 and 12; a Keeper fault at step 12 ends boot. -/
def bootInitialise (s : State) : State :=
  if s.boot.step != 10 then s
  else
    let body := s.bootBody
    let s := s.bootInit body
    if s.keeper.faulted then s.bootFail 8 0 0 true else s.bootAssign body

/-! ### Step 13 (R483) -/

/-- The bytes of a record written at a world-physical address, line by line. -/
def State.loadRec (s : State) (w : Bool) (r : Nat × List Byte) : State :=
  (indexed (chunks 64 r.2)).foldl (fun s p =>
    match s.agentXlate w (r.1 + 64 * p.1) with
    | some pa => (s.requestNotes .keeper w true [pa]).agentWrite .keeper w pa p.2
    | none => s) s

/-- ENCLAVE sections: each is loaded, and its SHA-384 is the enclave's measurement (R328, R483). -/
def State.loadEnclaves (s : State) (body : List Byte) : State :=
  (List.range 64).foldl (fun s e =>
    let bs := secBytes body (0x40 + e)
    if (secsOf body).any (fun x => x.id == 0x40 + e) then
      let s := (recsOf bs).foldl (fun s r => s.loadRec true r) s
      { s with keeper := { s.keeper with measures := assocSet s.keeper.measures e (Config.sha384 bs) } }
    else s) s

/-- The physical engine that serves a logical engine at boot: its own number, or a spare where the book retires that engine (R24, R148). -/
def State.bootEngine (s : State) (b : BayId) (l : Nat) : Option Nat :=
  if s.inBook 5 l b.val then (rangeFrom 28 4).find? (fun e => !s.inBook 5 e b.val && (s.eng b e).logical == 31) else some l

/-- A logical engine gets its image: into berth ANT_IMG and into the local SRAM of its engine, which starts (R478, R483). -/
def State.bootEngineStart (s : State) (b : BayId) (l : Nat) (img : List Byte) : State :=
  let s := s.linesAt (s.fld (R.ANT_IMG b.val) 0 21 * 2 ^ 21 + 16384 * l) img
  match s.bootEngine b l with
  | none => s.flag (R.BAY_STATUS b.val) 3
  | some e => (s.setEng b e { Engine.reset with logical := l, sram := cellWrite 0 [] 0 img }).engStart b e false

/-- The engines of every bay: those that the book retires, then each enabled logical engine in order. -/
def State.bootBays (s : State) (body : List Byte) : State :=
  let regs := regList (secBytes body 2)
  (List.range 8).foldl (fun s b =>
    let bay := bayOf b
    let s := (List.range 32).foldl (fun s e => if s.inBook 5 e b then s.setEng bay e { s.eng bay e with st := .retired } else s) s
    (indexed (bayEngines regs b)).foldl (fun s p =>
      s.bootEngineStart bay p.2 ((secBytes body (0x80 + b)).drop (16384 * p.1) |>.take 16384)) s) s

/-! ### Step 14 -/

/-- The cores that start in placement join it idle, with their system registers; the tiles, bays and channels without a vote go down (R20, R484, R503, R521), and the safe states of the pins of the bays that are up are judged (R141). -/
def State.bootPlacement (s : State) : State :=
  let s := allCores.foldl (fun s k =>
    if s.cstat k.val == .waking then
      let s := s.setCstat k.val (if s.excluded k.val then .excluded else .idle)
      (s.loadSys k).setVoteBit (R.PV_TILE_HW 0) (k.val / 2) true
    else s) s
  let s := (List.range 72).foldl (fun s t =>
    if s.voteBit (R.PV_TILE_HW 0) t then
      (tileCores t).foldl (fun s k => s.setCore k { (s.core k).evReset s.coreCycles with run := .idle }) (s.setDom t .up)
    else s.setDom t .down) s
  let s := (List.range 21).foldl (fun s i => if (s.votes (72 + i)).any id then s.setDom (72 + i) .up else s.setDom (72 + i) .down) s
  (List.range 8).foldl (fun s b => if s.domReady (72 + b) then s.judgeBay (bayOf b) else s) s

/-- The assigned core of each task at boot: a free choice among the cores it may use (R101, R105). -/
def State.bootTasks (s : State) : State :=
  (s.tasks.filter s.tdValid).foldl (fun s t =>
    let p := s.pick (s.pool t)
    match p.1 with
    | some k => p.2.setRt t { p.2.rt t with assigned := k }
    | none => p.2) s

/-- BOOT_DONE (R478, R490). -/
def State.bootDone (s : State) (mode : Nat) : State :=
  let b := s.boot.slotB
  (s.wr R.BOOT_MS (BitVec.ofNat 32 ((s.now.toNat + 2621440) / 1000000))).jlog s.now 104 0 0x1000
    [(0, 1, b2n b), (1, 1, b2n s.boot.tried), (2, 1, s.fld R.BOOT_STAT (if b then 8 else 12) 4), (3, 1, mode),
     (4, 4, (s.rd R.IMG_SEQ).toNat), (8, 4, s.cfgDigest.toNat)]

/-- BOOT_LOAD (R478, R481, R488): step 13 loads and starts the engines; step 14 locks, journals BOOT_DONE and under START_MODE 0 writes RUN. -/
def bootLoad (s : State) : State :=
  if s.boot.step != 12 then s
  else
    let body := s.bootBody
    let mode := numAt (secBytes body 1) 0 1
    let s := s.bootStep 13
    let s := ((recsOf (secBytes body 0x31)).foldl (fun s r => s.loadRec false r) s).loadEnclaves body
    let s := ((s.bootBays body).bootPlacement.bootTasks).bootStep 14
    let s := { s with boot := { s.boot with locked := true, initPass := s.healthyCh.map (fun c => (c, 0)) } }
    let s := s.bootDone mode
    if mode = 0 then beaconRun (s.rd R.BCN_CTL ||| 1) s else s

/-! ### Votes and domains (R503, R504, R506, R511) -/

/-- The bits of a vote word written from a world: an Open write that clears a bit of a Sealed unit is refused; the units refused are listed (R333, R504). -/
def voteBits (old v : W32) (q : Requester) (isSealed : Nat → Bool) (n : Nat) : W32 × List Nat :=
  let no := (List.range n).filter (fun i => bitAt old i && !bitAt v i && isSealed i && !q.sealed)
  (no.foldl (fun w i => putBits w i 1 1) v, no)

/-- Sealed vote bits written by a Sealed context: those of a Sealed unit change only for SS (R333). -/
def sealedVotes (old v : W32) (q : Requester) (isSealed : Nat → Bool) (n : Nat) : W32 :=
  if !q.sealed then old
  else if q.sup then v
  else foldRange (fun i w => if isSealed i then putBits w i 1 (bitsAt old i 1) else w) 0 n v

/-- Kind and unit of DENIED_VOTE for a port unit (R335). -/
def unitKind (n : Nat) : Nat × Nat := if n < 8 then (1, n) else if n < 16 then (2, n - 8) else (3, n - 16)

/-- A port unit without a power vote: its lanes are disabled, so its link goes down, and it is held in reset (R503); what that reset clears is DESIGN CHOICE (log entry 82). -/
def State.unitOff (s : State) (n : Nat) : State :=
  if n < 8 then
    let x := s.port n
    let s := s.setPort n { x with queues := [], sending := none, txs := [] }
    if s.flagAt (R.PORT_STATE (n / 4) (n % 4)) 0 then netLink ⟨n % 8, Nat.mod_lt _ (by decide)⟩ false s else s
  else if n < 16 then
    let h := n - 8
    let w := s.rd (R.PH_STATE h)
    if bitAt w 0 then
      pcieLink ⟨h % 8, Nat.mod_lt _ (by decide)⟩ false ⟨bitsAt w 1 3 % 8, Nat.mod_lt _ (by decide)⟩ ⟨bitsAt w 4 4 % 16, Nat.mod_lt _ (by decide)⟩ s
    else s
  else s.setCanc (n - 16) { s.canc (n - 16) with pend := [], txErr := 0, rxErr := 0, busOff := false, recovering := false, last := 0 }

/-- A port unit holds a power vote. -/
def State.unitPowered (s : State) (n : Nat) : Bool := s.flagAt R.PV_UNIT_OPEN n || s.flagAt R.PV_UNIT_SEALED n

/-- A vote word of the port units changes: a unit that loses its last power vote goes off (R503). -/
def State.unitWord (s : State) (key : Nat) (v : W32) : State :=
  let lost := (List.range 32).filter (fun n => s.unitPowered n && !(s.wr key v).unitPowered n)
  lost.foldl State.unitOff (s.wr key v)

/-- An Open or Sealed vote word of the port units. -/
def State.unitVotes (s : State) (key : Nat) (v : W32) (q : Requester) (clock : Bool) : State :=
  let r := voteBits (s.rd key) v q s.unitSealed 32
  r.2.foldl (fun s n => s.denyVote (unitKind n).1 (unitKind n).2 clock) (s.unitWord key r.1)

/-- A vote word of the bays: Open votes in [7:0], Sealed ones in [15:8], which only a Sealed access writes, those of a Sealed bay SS alone (R333). -/
def State.bayVotes (s : State) (key : Nat) (v : W32) (q : Requester) (clock : Bool) : State :=
  let old := s.rd key
  let r := voteBits (BitVec.ofNat 32 (bitsAt old 0 8)) (BitVec.ofNat 32 (bitsAt v 0 8)) q s.baySealed 8
  let hi := bitsAt (sealedVotes (BitVec.ofNat 32 (bitsAt old 8 8)) (BitVec.ofNat 32 (bitsAt v 8 8)) q s.baySealed 8) 0 8
  let s := s.wr key (BitVec.ofNat 32 (bitsAt r.1 0 8 + hi * 256))
  let s := r.2.foldl (fun s b => s.denyVote 0 b clock) s
  if clock then s
  else (List.range 8).foldl (fun s b =>
    let vote : Fin 3 := if bitAt (s.rd key ^^^ old) (b + 8) then 2 else 1
    s.follow (72 + b) vote) s

/-- A word of tile votes, Open or Sealed. -/
def State.tileVotes (s : State) (key i : Nat) (v : W32) (vote : Fin 3) : State :=
  let n := min 32 (72 - 32 * i)
  let s := s.wr key (BitVec.ofNat 32 (bitsAt v 0 n))
  (rangeFrom (32 * i) n).foldl (fun s t => s.follow t vote) s

/-- A write of a vote register of the POWER or CLOCK block (R504, R510, R511): none where the offset is no vote register that the requester may write. -/
def State.voteTo (s : State) (key : Nat) (v : W32) (q : Requester) : Option State :=
  if key = R.PV_TILE_OPEN 0 ∨ key = R.PV_TILE_OPEN 1 ∨ key = R.PV_TILE_OPEN 2 then some (s.tileVotes key ((key - R.PV_TILE_OPEN 0) / 4) v 1)
  else if key = R.PV_TILE_SEALED 0 ∨ key = R.PV_TILE_SEALED 1 ∨ key = R.PV_TILE_SEALED 2 then
    (if q.sealed then some (s.tileVotes key ((key - R.PV_TILE_SEALED 0) / 4) v 2) else some s)
  else if key = R.PV_BAY then some (s.bayVotes key v q false)
  else if key = R.CV_BAY then some (s.bayVotes key v q true)
  else if key = R.PV_UNIT_OPEN then some (s.unitVotes key v q false)
  else if key = R.CV_UNIT_OPEN then some (s.unitVotes key v q true)
  else if key = R.PV_UNIT_SEALED ∨ key = R.CV_UNIT_SEALED then some (s.unitWord key (sealedVotes (s.rd key) v q s.unitSealed 32))
  else none

/-- VOTE_WRITE (R504). -/
def voteWrite (q : Requester) (b : Byte) (off : BitVec 12) (v : W32) (s : State) : State :=
  (s.voteTo (b.toNat * 0x1000 + off.toNat / 4 * 4) v q).getD s

/-- DOMAIN_READY (R506, R521): once its delay has elapsed a waking domain becomes ready; the cores of a tile that Hive wakes take their system registers, and the counters of both cores are reset. -/
def domainReady (d : Fin 95) (s : State) : State :=
  match s.dom d with
  | .waking v =>
    let s := ((s.advanceTo (s.wakeEnd d.val)).setDom d .up).flag R.PWR_STATUS 2
    let s := (s.bump R.CNT_WAKE).jlogW (s.domSealed d) s.now 104 0 0x0702 [(0, 1, (domName d).1), (1, 1, (domName d).2), (2, 1, 1), (3, 1, v.val)] []
    if d.val < 72 then
      (tileCores d.val).foldl (fun s k =>
        let s := s.setCore k ((s.core k).powered s.coreCycles (if s.cstat k.val == .halted then .halted else .idle))
        s.coreReady k) s
    else if d.val < 80 then s.judgeBay (bayOf (d.val - 72))
    else s
  | _ => s

/-! ### Commands -/

/-- POWER_ON_RESET (R471). -/
def execPowerOnReset (s : State) : Host.Outcome State Fault Refusal := .next (powerOnReset s)
/-- POWER_ON_RESET_ASSERT (R534). -/
def execPowerOnResetAssert (s : State) : Host.Outcome State Fault Refusal := .next (powerOnResetAssert s)
/-- RESET_N_LOW (R471). -/
def execResetNLow (s : State) : Host.Outcome State Fault Refusal := .next (resetNLow s)
/-- RESET_N_RELEASE (R471). -/
def execResetNRelease (s : State) : Host.Outcome State Fault Refusal := .next (resetNRelease s)
/-- CRYSTAL_STABLE (R25). -/
def execCrystalStable (s : State) : Host.Outcome State Fault Refusal := .next (crystalStable s)
/-- REF_STABLE (R491). -/
def execRefStable (refB : Bool) (s : State) : Host.Outcome State Fault Refusal := .next (refStable refB s)
/-- BOOT_VERIFY (R476). -/
def execBootVerify (s : State) : Host.Outcome State Fault Refusal := .next (bootVerify s)
/-- CHANNEL_TRAINING (R478). -/
def execChannelTraining (cs : List ChanTrain) (s : State) : Host.Outcome State Fault Refusal := .next (channelTraining cs s)
/-- BOOT_INITIALISE (R478). -/
def execBootInitialise (s : State) : Host.Outcome State Fault Refusal := .next (bootInitialise s)
/-- BOOT_LOAD (R478). -/
def execBootLoad (s : State) : Host.Outcome State Fault Refusal := .next (bootLoad s)
/-- VOTE_WRITE (R504). -/
def execVoteWrite (q : Requester) (b : Byte) (off : BitVec 12) (v : W32) (s : State) : Host.Outcome State Fault Refusal :=
  .next (s.blockWrite b.toNat (voteWrite q b off v))
/-- DOMAIN_READY (R506). -/
def execDomainReady (d : Fin 95) (s : State) : Host.Outcome State Fault Refusal := .next (domainReady d s)

end Sys2Proof.Machine
end

