-- ==== Sys2Proof/Machine/Grid.lean ====
section
/-! DEFINITION. The grid sense unit: decimated samples, three-phase groups, quantities, events and headroom (chapter Grid Sense, Sector Interlocks and Start Permits). -/

namespace Sys2Proof.Machine

/-- A modulator input. -/
def State.gin (s : State) (i : Nat) : GsInput := assocD s.grid.inputs i {}
/-- Replaces a modulator input. -/
def State.setGin (s : State) (i : Nat) (x : GsInput) : State := { s with grid := { s.grid with inputs := assocSet s.grid.inputs i x } }
/-- A group. -/
def State.grp (s : State) (g : Nat) : GsGroup := assocD s.grid.groups g {}
/-- Replaces a group. -/
def State.setGrp (s : State) (g : Nat) (x : GsGroup) : State := { s with grid := { s.grid with groups := assocSet s.grid.groups g x } }

/-! ### Conversion of a decimated output (R153, R154) -/

/-- A value saturated to ±(2^23 - 1), and whether it was. -/
def sat23 (v : Int) : Int × Bool :=
  let c := clampInt (-(2 ^ 23 - 1)) (2 ^ 23 - 1) v
  (c, c != v)

/-- Step 1 of R153. -/
def gridX (raw ratio : Nat) : Int × Bool :=
  sat23 (divRne ((2 * (raw : Int) - (ratio ^ 3 : Nat)) * 2 ^ 23) (ratio ^ 3))

/-- Step 2 of R153. -/
def gridY (x : Int) (gain : Nat) (off : Int) : Int × Bool := sat23 ((x * gain) / 2 ^ 14 + off * 256)

/-- Step 3 of R153: the engineering value, in 0.1 V or 0.1 A. -/
def gridValue (y : Int) (fs : Nat) : Int := (y * fs) / 2 ^ 23

/-- The modulator clock of an input (R152). -/
def State.mclk (s : State) (i : Nat) : Nat := s.fld (R.CH_CFG i) 0 2

/-- The stamp of a sample whose last bit is sampled now (R154): 3 * (RATIO - 1) / 2 periods of MDIV * 2/3 ns before it. -/
def State.sampleStamp (s : State) (i : Nat) : Stamp :=
  s.now - BitVec.ofNat 64 ((s.fld (R.MCLK_CFG (s.mclk i)) 9 12 - 1) * s.fld (R.MCLK_CFG (s.mclk i)) 0 9)

/-! ### Groups -/

/-- The voltage inputs of a group, then its current inputs where it has them (R156). -/
def State.grpInputs (s : State) (g : Nat) : List Nat :=
  let three (k : Nat) := [s.fld k 0 6, s.fld k 6 6, s.fld k 12 6]
  three (R.GRP_V g) ++ (if s.flagAt (R.GRP_I g) 18 then three (R.GRP_I g) else [])

/-- An input of the group is faulted (R155). -/
def State.grpFault (s : State) (g : Nat) : Bool := (s.grpInputs g).any (fun i => (s.gin i).faulted)

/-- Channel c of a group: 0 to 2 the voltages, 3 to 5 the currents. -/
def State.grpChan (s : State) (g c : Nat) : Nat := (s.grpInputs g).getD c 0

/-- Whether an input's quantities are valid: it is not faulted and has given three good outputs since its last fault cleared (R155). -/
def State.ginGood (s : State) (i : Nat) : Bool := !(s.gin i).faulted && decide (3 ≤ (s.gin i).good)

/-- The samples of an input with stamps in [start, stop), newest first. -/
def State.window (s : State) (i : Nat) (start stop : Stamp) : List GsSample :=
  (s.gin i).hist.filter (fun x => stampLe start x.stamp && stampLt x.stamp stop)

/-- The samples of a channel's window as stamps and values. -/
def State.winVals (s : State) (g c : Nat) (start stop : Stamp) : List (Stamp × Int) :=
  (s.window (s.grpChan g c) start stop).map (fun x => (x.stamp, x.value))

/-- A sample of one of the channels' windows saturated: quality bit 5 (R153). -/
def State.winSat (s : State) (g : Nat) (start stop : Stamp) (chans : List Nat) : Bool :=
  chans.any (fun c => (s.window (s.grpChan g c) start stop).any (·.sat))

/-- Posts a quantity of a group, computed from the channels named over [start, stop), where its entry of the map is enabled (R160): quality bits 7 valid, 5 out of range, 4 substituted, source class 5. -/
def State.postGrid (s : State) (g q : Nat) (v : Int) (start stop : Stamp) (chans : List Nat) : State :=
  let e := assocD s.grid.map (512 * g + q) 0
  if bitAt e 31 then
    let sync := (s.grp g).sync
    let valid := chans.all (fun c => s.ginGood (s.grpChan g c)) && (sync || q != 6)
    s.postSample (bitsAt e 0 23)
      (sampleOf v (5 + bitIf valid 7 + bitIf (s.winSat g start stop chans) 5 + bitIf (!sync && q != 6) 4)) stop 99 g
  else s

/-! ### Arithmetic of the quantities (R158, R159). Where the spec states a formula and no rounding, the result is the exact one, rounded down or up as a free value says (DESIGN CHOICE, log entry 36) -/

/-- num / den, rounded down or up freely where it is not exact; a free value where there is nothing to divide by. -/
def State.quotFree (s : State) (num : Int) (den : Nat) : Int × State :=
  if den = 0 then ((s.free 24).1.toInt, (s.free 24).2)
  else if num % den = 0 then (num / den, s)
  else (num / den + (s.free 1).1.toNat, (s.free 1).2)

/-- The square root of num / den, rounded as quotFree rounds. -/
def State.rootFree (s : State) (num den : Nat) : Nat × State :=
  if den = 0 then ((s.free 24).1.toNat, (s.free 24).2)
  else
    let r := Nat.sqrt (num / den)
    if r * r * den = num then (r, s) else (r + (s.free 1).1.toNat, (s.free 1).2)

/-- The sum of a function over a list. -/
def sumInt {α : Type} (f : α → Int) (l : List α) : Int := l.foldl (fun a x => a + f x) 0

/-- The RMS of a channel over a window (R158). -/
def State.rmsOf (s : State) (g c : Nat) (start stop : Stamp) : Nat × State :=
  let w := s.winVals g c start stop
  s.rootFree (sumInt (fun x => x.2 * x.2) w).toNat w.length

/-- The sum of v * i over the voltage samples of a phase, each with the latest current sample not after it, and their number (R158; the pairing is a DESIGN CHOICE, log entry 36). -/
def State.powerSum (s : State) (g ph : Nat) (start stop : Stamp) : Int × Nat :=
  let cur := s.winVals g (3 + ph) start stop
  let pairs := (s.winVals g ph start stop).filterMap (fun v => (cur.find? (fun c => stampLe c.1 v.1)).map (fun c => v.2 * c.2))
  (sumInt id pairs, pairs.length)

/-- The fundamental of a channel over a window. -/
def State.phasorOf (s : State) (g c : Nat) (start stop : Stamp) : Int × Int := Config.phasor (s.winVals g c start stop) start stop

/-- The angle of a channel's fundamental, 0 to 35,999. -/
def State.angleOf (s : State) (g c : Nat) (start stop : Stamp) : Nat :=
  let z := s.phasorOf g c start stop
  Config.angle z.1 z.2 % 36000

/-- An angle taken from another, 0 to 35,999. -/
def angleDiff (a b : Nat) : Nat := (a + 36000 - b % 36000) % 36000

/-- An angle as a signed number, -18,000 to 17,999. -/
def angleSigned (a : Nat) : Int := if a < 18000 then a else (a : Int) - 36000

/-- V1 * I1 * sin(θv - θi) of a phase in units of 2^-16 * 0.01 var (R158). -/
def State.reactive (s : State) (g ph : Nat) (start stop : Stamp) : Int :=
  let v := s.phasorOf g ph start stop
  let i := s.phasorOf g (3 + ph) start stop
  v.2 * i.1 - v.1 * i.2

/-- Bin k of the rectangular DFT of a window resampled to 4,096 points, as (real, imaginary) (R159). -/
def dftBin (w : List (Stamp × Int)) (start stop : Stamp) (k : Nat) : Int × Int :=
  foldRange (fun n z =>
    let x := Config.gridPoint w start stop n
    let f := Config.dftFactor (k * n % 4096)
    (z.1 + x * f.1, z.2 + x * f.2)) 0 4096 (0, 0)

/-- The squared magnitude of a bin. -/
def sqMag (z : Int × Int) : Nat := (z.1 * z.1 + z.2 * z.2).toNat

/-- Twice the square of harmonic group h over a window of n cycles: the bins between the midway bins in full, the midway bins by one half (R159). -/
def groupSq2 (w : List (Stamp × Int)) (start stop : Stamp) (n h : Nat) : Nat :=
  let bin (k : Nat) : Nat := sqMag (dftBin w start stop k)
  let mid := n / 2
  bin (h * n - mid) + bin (h * n + mid) + ((rangeFrom (h * n - mid + 1) (2 * mid - 1)).foldl (fun a k => a + 2 * bin k) 0)

/-! ### Sags, swells and interruptions (R161) -/

/-- A half-cycle value in % * 100 of UDIN: value in 0.1 V, UDIN in V. -/
def pct100 (rms udin : Nat) : Nat := if udin = 0 then 0 else rms * 1000 / udin

/-- Begins or ends one kind of event: kind 0 sag, 1 swell, 2 interruption; begins and ends are the conditions of R161. -/
def State.gridEvent (s : State) (g kind : Nat) (cur : Option GsEvent) (begins ends : Bool) (mask first extreme : Nat) (stamp : Stamp) : Option GsEvent × State :=
  match cur with
  | none =>
    if begins then
      (some ⟨stamp, extreme⟩, ((s.bump R.CNT_EVT).flag R.GS_STATUS 3).jlog stamp 99 0 0x0401 [(0, 1, g), (1, 1, kind), (2, 1, mask), (4, 4, first)])
    else (none, s)
  | some e =>
    let ex := if kind = 1 then max e.extreme extreme else min e.extreme extreme
    if ends then
      (none, s.jlog stamp 99 0 0x0402 [(0, 1, g), (1, 1, kind), (2, 2, ex), (4, 8, (stamp - e.start).toNat)])
    else (some { e with extreme := ex }, s)

/-- The comparisons of a half cycle (R161). -/
def State.gridEvents (s : State) (g : Nat) (stamp : Stamp) : State :=
  let x := s.grp g
  let udin := s.fld (R.GRP_CFG g) 0 16
  let sag := s.fld (R.GRP_EVT g) 0 7
  let swell := s.fld (R.GRP_EVT g) 7 7
  let intr := s.fld (R.GRP_EVT g) 14 7
  let hyst := s.fld (R.GRP_EVT g) 21 4
  let vs := [x.rmsA, x.rmsB, x.rmsC]
  -- rms (0.1 V) compared with p % of UDIN (V)
  let below (p v : Nat) : Bool := decide (v * 10 < p * udin)
  let above (p v : Nat) : Bool := decide (p * udin < v * 10)
  let mask (c : Nat → Bool) : Nat := bitIf (c x.rmsA) 0 + bitIf (c x.rmsB) 1 + bitIf (c x.rmsC) 2
  let lo := min x.rmsA (min x.rmsB x.rmsC)
  let hi := max x.rmsA (max x.rmsB x.rmsC)
  let r0 := s.gridEvent g 0 x.sag (vs.any (below sag)) (vs.all (fun v => !below (sag + hyst) v)) (mask (below sag)) (pct100 lo udin) (pct100 lo udin) stamp
  let r1 := r0.2.gridEvent g 1 x.swell (vs.any (above swell)) (vs.all (fun v => !above (swell - hyst) v)) (mask (above swell)) (pct100 hi udin) (pct100 hi udin) stamp
  let r2 := r1.2.gridEvent g 2 x.intr (vs.all (below intr)) (vs.any (fun v => !below (intr + hyst) v)) 7 (pct100 lo udin) (pct100 lo udin) stamp
  r2.2.setGrp g { x with sag := r0.1, swell := r1.1, intr := r2.1 }

/-! ### Headroom (R162) -/

/-- A generator group's breaker reads closed (R23, R156, R162). -/
def State.breaker (s : State) (g : Nat) : Bool :=
  let n := s.fld (R.GRP_CFG g) 19 8
  s.pinLevel (bayOf (n / 24)) (n % 24) != s.flagAt (R.GRP_CFG g) 27

/-- The conditions of R162 for a generator group to be online. -/
def State.isOnline (s : State) (g : Nat) : Bool :=
  let x := s.grp g
  let udin := s.fld (R.GRP_CFG g) 0 16
  s.breaker g && [x.rmsA, x.rmsB, x.rmsC].all (fun v => decide (80 * udin ≤ v * 10)) && x.sync && !s.grpFault g && x.powered

/-- H_p: the sum over the online groups of pool p of max(0, RATED - P). -/
def State.headroom (s : State) (p : Nat) : Nat :=
  (List.range 16).foldl (fun acc g =>
    if s.flagAt (R.GRP_CFG g) 16 && s.fld (R.GRP_CFG g) 17 2 == p && (s.grp g).online then
      acc + ((s.fld (R.GRP_GEN g) 0 16 : Int) - (s.grp g).power.toInt).toNat
    else acc) 0

/-- At a power window end of a generator group: H_p is latched and posted (R162). -/
def State.postHeadroom (s : State) (g : Nat) (stamp : Stamp) : State :=
  let p := s.fld (R.GRP_CFG g) 17 2
  let h := s.headroom p
  let s := s.wr (R.POOL_HR p) (BitVec.ofNat 32 (h % 2 ^ 24))
  let excluded := (List.range 16).any (fun j => s.flagAt (R.GRP_CFG j) 16 && s.fld (R.GRP_CFG j) 17 2 == p && s.grpFault j)
  let e := s.rd (R.POOL_PT p)
  if bitAt e 31 then s.postSample (bitsAt e 0 23) (sampleOf h (0x87 + bitIf excluded 4)) stamp 99 (16 + p) else s

/-! ### Window ends (R157 to R160) -/

/-- A one-cycle window that ends at a half cycle: RMS values and event flags (R158, R161). -/
def State.halfEnd (s : State) (g : Nat) (start stop : Stamp) : State :=
  let a := s.rmsOf g 0 start stop
  let b := a.2.rmsOf g 1 start stop
  let c := b.2.rmsOf g 2 start stop
  let s := c.2.setGrp g { c.2.grp g with rmsA := a.1, rmsB := b.1, rmsC := c.1 }
  let s := ((s.postGrid g 0 a.1 start stop [0]).postGrid g 1 b.1 start stop [1]).postGrid g 2 c.1 start stop [2]
  let s := if s.flagAt (R.GRP_I g) 18 then
      [3, 4, 5].foldl (fun s c => (s.rmsOf g c start stop).2.postGrid g c (s.rmsOf g c start stop).1 start stop [c]) s
    else s
  let s := s.gridEvents g stop
  let y := s.grp g
  s.postGrid g 21 (b2n y.sag.isSome + 2 * b2n y.swell.isSome + 4 * b2n y.intr.isSome) start stop [0, 1, 2]

/-- A half cycle ends: its window began two half cycles before, where there were two (R158). -/
def State.halfStep (s : State) (g : Nat) (stop : Stamp) : State :=
  let x := s.grp g
  let s := s.setGrp g { x with ends := (stop :: x.ends).take 2 }
  match x.ends with
  | [_, start] => s.halfEnd g start stop
  | _ => s

/-- The frequency in mHz of a period in ns: 10^12 / period (R158). -/
def State.freqOf (s : State) (period : Nat) : Nat × State :=
  let r := s.quotFree (10 ^ 12 : Nat) period
  (r.1.toNat, r.2)

/-- The active power of phases A, B and C and their total, in kW (R158). -/
def State.activePosts (s : State) (g : Nat) (start stop : Stamp) : State :=
  let a := s.powerSum g 0 start stop
  let b := s.powerSum g 1 start stop
  let c := s.powerSum g 2 start stop
  let s := [0, 1, 2].foldl (fun s ph =>
    let p := s.powerSum g ph start stop
    let q := s.quotFree p.1 (p.2 * 100000)
    q.2.postGrid g (13 + ph) q.1 start stop [ph, 3 + ph]) s
  let t := s.quotFree (a.1 * b.2 * c.2 + b.1 * a.2 * c.2 + c.1 * a.2 * b.2) (a.2 * b.2 * c.2 * 100000)
  let s := t.2.postGrid g 16 t.1 start stop [0, 1, 2, 3, 4, 5]
  let s := s.setGrp g { s.grp g with power := BitVec.ofInt 24 t.1, powered := true }
  s.wr (R.GRP_P g) (BitVec.ofNat 32 (BitVec.ofInt 24 t.1).toNat)

/-- The fundamental reactive power of phases A, B and C and their total, in kvar (R158). -/
def State.reactivePosts (s : State) (g : Nat) (start stop : Stamp) : State :=
  let s := [0, 1, 2].foldl (fun s ph =>
    let q := s.quotFree (s.reactive g ph start stop) (2 ^ 16 * 100000)
    q.2.postGrid g (17 + ph) q.1 start stop [ph, 3 + ph]) s
  let t := s.quotFree (sumInt (fun ph => s.reactive g ph start stop) [0, 1, 2]) (2 ^ 16 * 100000)
  t.2.postGrid g 20 t.1 start stop [0, 1, 2, 3, 4, 5]

/-- A power window ends for a group with currents (R158, R162). -/
def State.powerEnd (s : State) (g : Nat) (start stop : Stamp) : State :=
  let s := [0, 1, 2].foldl (fun s ph =>
    s.postGrid g (10 + ph) (angleSigned (angleDiff (s.angleOf g (3 + ph) start stop) (s.angleOf g ph start stop))) start stop [ph, 3 + ph]) s
  let s := (s.activePosts g start stop).reactivePosts g start stop
  if s.flagAt (R.GRP_CFG g) 16 then
    let s := s.setGrp g { s.grp g with online := s.isOnline g }
    s.postHeadroom g stop
  else s

/-- Cycles of a harmonic window (R159). -/
def State.harmCycles (s : State) : Nat := if s.flagAt R.GS_CTL 1 then 12 else 10

/-- THD and the harmonic groups 2 to 50 of a channel over a window, in 0.01 % of group 1 (R158, R159). -/
def State.harmChan (s : State) (g c : Nat) (start stop : Stamp) : State :=
  let w := s.winVals g c start stop
  let n := s.harmCycles
  let one := groupSq2 w start stop n 1
  let part (s : State) (q sq : Nat) : State :=
    let r := s.rootFree (sq * 10 ^ 8) one
    r.2.postGrid g q r.1 start stop [c]
  let hs := rangeFrom 2 49
  let s := part s (22 + c) (hs.foldl (fun a h => a + groupSq2 w start stop n h) 0)
  hs.foldl (fun s h => part s (64 + 49 * c + (h - 2)) (groupSq2 w start stop n h)) s

/-- A harmonic window ends (R159). -/
def State.harmEnd (s : State) (g : Nat) (start stop : Stamp) : State :=
  (List.range (if s.flagAt (R.GRP_I g) 18 then 6 else 3)).foldl (fun s c => s.harmChan g c start stop) s

/-- The phases of the voltages at a cycle's end (R158). -/
def State.phasePosts (s : State) (g : Nat) (start stop : Stamp) : State :=
  let a := s.angleOf g 0 start stop
  let s := s.postGrid g 7 (Config.secondPhase a stop % 36000 : Nat) start stop [0]
  let s := s.postGrid g 8 (angleDiff (s.angleOf g 1 start stop) a) start stop [0, 1]
  s.postGrid g 9 (angleDiff (s.angleOf g 2 start stop) a) start stop [0, 2]

/-- A cycle ends; period is that from positive crossing to positive crossing, or the nominal one, where there is one (R157 to R159). -/
def State.cycleEnd (s : State) (g : Nat) (start stop : Stamp) (period : Option Nat) : State :=
  let s := match period with
    | none => s
    | some p =>
      let f := s.freqOf p
      let s := f.2.setGrp g { f.2.grp g with freq := BitVec.ofNat 24 f.1 }
      (s.wr (R.GRP_FREQ g) (BitVec.ofNat 32 (f.1 % 2 ^ 24))).postGrid g 6 f.1 start stop [0]
  let s := s.phasePosts g start stop
  let s := if s.flagAt (R.GRP_I g) 18 then s.powerEnd g start stop else s
  let x := s.grp g
  let from0 := x.harmStart.getD start
  if s.harmCycles ≤ x.cycles + 1 then (s.setGrp g { x with cycles := 0, harmStart := some stop }).harmEnd g from0 stop
  else s.setGrp g { x with cycles := x.cycles + 1, harmStart := some from0 }

/-- The end of a cycle, where one was running, and the start of the next. -/
def State.cycleStep (s : State) (g : Nat) (stop : Stamp) (period : Option Nat) : State :=
  let s := match (s.grp g).cycStart with
    | some start => s.cycleEnd g start stop period
    | none => s
  s.setGrp g { s.grp g with cycStart := some stop }

/-- A crossing of phase A (R157): positive brings the group back in sync and ends a cycle; either ends a half cycle. -/
def State.crossing (s : State) (g : Nat) (positive : Bool) (stamp : Stamp) : State :=
  let x := s.grp g
  if positive then
    let period := if x.sync then x.lastPos.map (fun t => (stamp - t).toNat) else none
    let s := s.setGrp g { x with sync := true, nominal := 0, origin := stamp, lastPos := some stamp }
    (s.halfStep g stamp).cycleStep g stamp period
  else if x.sync then s.halfStep g stamp else s

/-- n nominal half periods in ns (R157). -/
def State.nominalNs (s : State) (n : Nat) : W64 := BitVec.ofNat 64 (n * 1000000000 / (if s.flagAt R.GS_CTL 1 then 120 else 100))

/-- The stamp n nominal half periods after a stamp (R157). -/
def State.nominalEnd (s : State) (t : Stamp) (n : Nat) : Stamp := t + s.nominalNs n

/-- A group loses sync (R157): its windows are timed at the nominal period from its last positive crossing.
DESIGN CHOICE (log entry 36): the windows of the two periods that have passed since that crossing are among them, and a half cycle that a negative crossing had ended is measured again. -/
def State.loseSync (s : State) (g : Nat) : State :=
  let x := s.grp g
  let o := x.lastPos.getD s.now
  (s.setGrp g { x with sync := false, nominal := 0, origin := o, ends := [o, o - s.nominalNs 1] }).flag R.GS_STATUS 2

/-- Two nominal periods without a positive crossing have passed at a stamp (R157). -/
def State.syncOver (s : State) (g : Nat) (t : Stamp) : Bool :=
  match (s.grp g).lastPos with
  | some p => stampLe (s.nominalEnd p 4) t
  | none => true

/-- Out of sync, the half cycle windows end at the nominal period: those that a stamp has reached, n at most (R157). -/
def State.nominalRun (s : State) (g : Nat) (t : Stamp) : Nat → State
  | 0 => s
  | n + 1 =>
    let x := s.grp g
    let stop := s.nominalEnd x.origin (x.nominal + 1)
    if stampLt t stop then s
    else
      let s := (s.setGrp g { x with nominal := x.nominal + 1 }).halfStep g stop
      let s := if x.nominal % 2 = 1 then
          s.cycleStep g stop (some (stop - s.nominalEnd x.origin (x.nominal - 1)).toNat)
        else s
      s.nominalRun g t n

/-- Time passes for a group up to a stamp: it loses sync, and windows out of sync end (R157). -/
def State.groupTime (s : State) (g : Nat) (t : Stamp) : State :=
  let x := s.grp g
  if x.lastPos.isNone then s
  else
    let s := if x.sync && s.syncOver g t then s.loseSync g else s
    let x := s.grp g
    if x.sync then s else s.nominalRun g t ((s.since x.origin).toNat / 8000000 + 1)

/-- A sample of phase A: where the fundamental has changed its sign since the sample before, the crossing is interpolated between the two to the ns, less the filter's delay (R157). -/
def State.phaseA (s : State) (g : Nat) (t : Stamp) : State :=
  let f := Config.gridFilter (((s.gin (s.grpChan g 0)).hist).map (fun x => (x.stamp, x.value)))
  let p := (s.grp g).prev
  let s := s.setGrp g { s.grp g with prev := some (t, f) }
  match p with
  | none => s
  | some (t0, f0) =>
    let at0 (a b : Int) : Stamp := t0 + BitVec.ofInt 64 (stampDiff t t0 * a / b) - BitVec.ofNat 64 Config.gridDelay
    if f0 < 0 ∧ 0 ≤ f then s.crossing g true (at0 (-f0) (f - f0))
    else if 0 ≤ f0 ∧ f < 0 then s.crossing g false (at0 f0 (f0 - f))
    else s

/-- A sample of an input reaches a group that names it (R156, R157). -/
def State.groupSample (s : State) (i g : Nat) (stamp : Stamp) : State :=
  if !s.flagAt (R.GRP_V g) 18 || !(s.grpInputs g).contains i then s
  else (if s.grpChan g 0 == i then s.phaseA g stamp else s).groupTime g stamp

/-- The samples that a window in progress can still need: a model bound of one second, longer than every window. -/
def GsInput.keep (x : GsInput) (y : GsSample) : GsInput :=
  { x with hist := y :: x.hist.filter (fun z => decide ((y.stamp - z.stamp).toNat < 1000000000)) }

/-- A sample of an input as R153 and R154 make it from the raw output. -/
def State.sampleFrom (s : State) (n raw : Nat) : GsSample :=
  let a := gridX raw (s.fld (R.MCLK_CFG (s.mclk n)) 9 12)
  let y := gridY a.1 (s.fld (R.CH_CAL n) 0 16) (signed 16 (s.fld (R.CH_CAL n) 16 16))
  ⟨s.sampleStamp n, gridValue y.1 (s.fld (R.CH_SCALE n) 0 24), a.2 || y.2⟩

/-- DECIMATED_SAMPLE (R153 to R162). The decimator of a faulted input goes on (R155). -/
def decimatedSample (i : InputId) (raw : BitVec 34) (s : State) : State :=
  let n := i.val
  if !s.flagAt R.GS_CTL 0 || !s.flagAt (R.CH_CFG n) 2 || !s.flagAt (R.MCLK_CFG (s.mclk n)) 21 then s
  else
    let x := s.gin n
    let good := if x.faulted then 0 else x.good + 1
    if 0 < x.discard then s.setGin n { x with discard := x.discard - 1, good := good }
    else
      let y := s.sampleFrom n raw.toNat
      let s := s.setGin n ({ x with good := good }.keep y)
      let s := if y.sat then s.flag R.GS_STATUS 4 else s
      foldRange (fun g s => s.groupSample n g y.stamp) 0 16 s

/-- MOD_FAULT (R155): after a fault clears, the first three outputs are discarded, and its quantities are valid again once three good outputs have passed. -/
def modFault (i : InputId) (faulted : Bool) (s : State) : State :=
  let x := s.gin i.val
  if x.faulted == faulted then s
  else if faulted then
    (((s.setGin i.val { x with faulted := true, good := 0 }).flag R.GS_STATUS 1).bump R.CNT_MODF).jlog s.now 99 0 0x0400 [(0, 1, i.val), (1, 1, 1)]
  else (s.setGin i.val { x with faulted := false, discard := 3, good := 0 }).jlog s.now 99 0 0x0400 [(0, 1, i.val), (1, 1, 0)]

/-- NO_SYNC (R157): the group has had no positive crossing for two nominal periods. -/
def noSync (g : GroupId) (s : State) : State :=
  if !s.flagAt (R.GRP_V g.val) 18 || !s.syncOver g.val s.now then s
  else if (s.grp g.val).sync then s.loseSync g.val
  else s.flag R.GS_STATUS 2

/-- DECIMATED_SAMPLE (R153). -/
def execDecimatedSample (i : InputId) (raw : BitVec 34) (s : State) : Host.Outcome State Fault Refusal := .next (decimatedSample i raw s)
/-- MOD_FAULT (R155). -/
def execModFault (i : InputId) (faulted : Bool) (s : State) : Host.Outcome State Fault Refusal := .next (s.awake (modFault i faulted))
/-- NO_SYNC (R157). -/
def execNoSync (g : GroupId) (s : State) : Host.Outcome State Fault Refusal := .next (noSync g s)

end Sys2Proof.Machine
end

