-- ==== Sys2Proof/Machine/RegView.lean ====
section
/-! DEFINITION. What a read of a control-space register returns where hardware owns the register: the fields of the state that stand behind each (the register tables of the chapters). -/

namespace Sys2Proof.Machine

/-- A 32-bit register word from a number. -/
def word (n : Nat) : W32 := BitVec.ofNat 32 n

/-- Word i of a number, 32 bits each. -/
def wordOf (n i : Nat) : W32 := word ((n >>> (32 * i)) % 2 ^ 32)

/-- The value of a HI register as the last latching read left it (R515). -/
def State.latched (s : State) (key : Nat) : W32 := assocD s.latch key 0

/-- Index i of a register whose copies lie st apart from a key. -/
def regIdx (key base st : Nat) : Nat := (key - base) / st

/-- A key is copy i below n of a register, its copies st apart. -/
def regCopy (key base st n : Nat) : Bool :=
  decide (base ≤ key) && (key - base) % st == 0 && decide ((key - base) / st < n)

/-- The registers of TIMEBASE and BEACON that hardware owns (R56, R57). -/
def State.viewTime (s : State) (key : Nat) : Option W32 :=
  if key = R.TB_NOW_LO then some (lo32 s.now)
  else if key = R.TB_SRC then some (word (s.tb.src.val + bitIf s.tb.locked 2))
  else if key = R.TB_TAI_LO then some (wordOf s.trip.tai.val 0)
  else if key = R.TB_TAI_HI then some (wordOf s.trip.tai.val 1)
  else if key = R.BCN_PERIOD then some (word s.period)
  else if key = R.BCN_EPOCH_LO then some (lo32 s.epoch)
  else if key = R.BCN_EPOCH_HI then some (hi32 s.epoch)
  else if key = R.BCN_FRAME_LO then some (lo32 s.bcn.frame)
  else if key = R.BCN_TICK_LO then some (lo32 s.bcn.tickStamp)
  else if key = R.BCN_IN_LAST_LO then some (lo32 s.bcn.inLast)
  else if key = R.BCN_IN_ERR then some s.bcn.inErr
  else if key = R.JRN_WPTR then some s.jrn.wptr
  else none

/-- The img fields are loaded (R13, R478): boot step 10 is done. -/
def State.imgLoaded (s : State) : Bool := decide (10 ≤ s.boot.step ∧ s.boot.step < 15)

/-- REG_ATTR: TASK_WR is forced for regions 0 and 1, and WORLD mirrors the world assignment (R88). -/
def State.regAttr (s : State) (r : Nat) : W32 :=
  let v := s.rd (R.REG_ATTR r)
  putBits (putBits v 1 1 (if r = 0 then 0 else if r = 1 then b2n s.imgLoaded else bitsAt v 1 1)) 3 1 (b2n (s.regionSealed r))

/-- The registers of STATE that hardware owns (R88). -/
def State.viewState (s : State) (key : Nat) : Option W32 :=
  if regCopy key (R.REG_ATTR 0) 16 16 then some (s.regAttr (regIdx key (R.REG_ATTR 0) 16))
  else if regCopy key R.DIG_KEY0 4 4 then some 0
  else if key = R.DIG_FRAME_LO then some (lo32 s.su.digFrame)
  else if key = R.DIG_FRAME_HI then some (hi32 s.su.latFrame)
  else if regCopy key R.DIG0 4 4 then some (wordOf s.su.latVal.toNat (regIdx key R.DIG0 4))
  else if key = R.SIDE_USED then some (word s.su.side.length)
  else if key = R.WALK_USED then some (word s.su.walks.length)
  else if key = R.SWEEP_POS then some (word s.su.sweepPos)
  else if key = R.SWEEP_PASS then some s.su.sweepPass
  else if regCopy key R.DBG_META0 4 4 then some (wordOf s.su.dbgMeta.toNat (regIdx key R.DBG_META0 4))
  else none

/-- CORE_STATE.STATE (R119). -/
def CStat.num : CStat → Nat
  | .reserve => 0 | .waking => 1 | .idle => 2 | .running => 3
  | .carried => 4 | .excluded => 5 | .halted => 6 | .retired => 7

/-- HV_CORES (R118): nothing is placed before placement starts at step 9 (R478). -/
def State.hvCores (s : State) : W32 :=
  if s.boot.step < 9 then 0
  else
    let n (p : CStat → Bool) : Nat := countIf (fun k => p (s.cstat k.val)) allCores
    word (s.placed.length + n (· == .reserve) * 256 + n (fun x => x == .halted || x == .retired) * 65536)

/-- HV_FRAME (R118). -/
def State.hvFrame (s : State) : W32 :=
  word (countIf (fun p => p.2.due) s.hive.rt + countIf (fun p => p.2.due && p.2.done) s.hive.rt * 16384)

/-- TD_DATA w: of a Sealed task, an Open read sees VALID and WORLD only (R118). -/
def State.tdWord (s : State) (open_ : Bool) (w : Nat) : W32 :=
  let t := taskOf (s.fld R.TD_INDEX 0 13)
  let v := wordOf (s.td t).toNat w
  if s.taskSealed t && open_ then (if w = 0 then v &&& 3 else 0) else v

/-- CORE_STATE c (R119). -/
def State.coreStateWord (s : State) (open_ : Bool) (c : Nat) : W32 :=
  let running := s.hive.rt.find? (fun p => match p.2.run with | some r => r.1.val == c | none => false)
  match running with
  | none => word (s.cstat c).num
  | some p =>
    let sealedTask := s.taskSealed (taskOf p.1)
    word ((s.cstat c).num + (if sealedTask && open_ then 0 else p.1 * 8) + bitIf sealedTask 16)

/-- SW_SLOT_STAT (R120). -/
def slotWord (x : SwSlot) : W32 :=
  Machine.word (x.st.val + x.entries.length * 8 + x.setTag.toNat * 2 ^ 14 + bitIf x.last 22 + x.code.val * 2 ^ 23)

/-- The registers of HIVE0 to HIVE3 that hardware owns (R118 to R120). -/
def State.viewHive (s : State) (open_ : Bool) (key : Nat) : Option W32 :=
  if key = R.HV_CORES then some s.hvCores
  else if key = R.HV_FRAME then some s.hvFrame
  else if key = R.HV_EPOCH then some s.hive.epochs
  else if regCopy key (R.TD_DATA 0) 4 32 then some (s.tdWord open_ (regIdx key (R.TD_DATA 0) 4))
  else if key = R.HOP_DATA then some (s.hop (s.fld R.HOP_INDEX 0 16))
  else if regCopy key (R.CORE_STATE 0) 4 144 then some (s.coreStateWord open_ (regIdx key (R.CORE_STATE 0) 4))
  else if regCopy key (R.CORE_LOAD 0) 4 144 then some (word (min (2 ^ 32 - 1) (assocD s.hive.loadLast (regIdx key (R.CORE_LOAD 0) 4) 0)))
  else if regCopy key (R.SW_SLOT_STAT 0) 16 8 then some (slotWord (s.slot (regIdx key (R.SW_SLOT_STAT 0) 16)))
  else if regCopy key (R.SW_SLOT_FRM 0) 16 8 then some (lo32 (s.slot (regIdx key (R.SW_SLOT_FRM 0) 16)).frame)
  else none

/-- PIN_STATE (R151). -/
def State.pinWord (s : State) (b : BayId) (u : Nat) : W32 :=
  word (b2n (s.pinLevel b u) + bitIf (s.pinDriver b u).isSome 1 + bitIf (s.pinSafe b u) 2 +
    (s.pin b u).cap.length * 8 + bitIf (s.pin b u).cmp.isSome 6)

/-- ENG_STATE.STATE (R151). -/
def EngSt.num : EngSt → Nat
  | .spare => 0 | .loading => 1 | .running => 2 | .waiting => 3 | .halted => 4 | .retired => 5

/-- ENG_STATE (R151). -/
def Engine.stateWord (x : Engine) : W32 :=
  let stopped := x.st == .halted || x.st == .retired
  Machine.word (x.st.num + x.logical * 8 + x.haltCause.toNat * 256 + bitsAt (if stopped then x.haltPc else x.pc) 0 14 * 2048)

/-- The registers of an ANT block that hardware owns (R151). -/
def State.viewAnt (s : State) (b : BayId) (key : Nat) : Option W32 :=
  if key = R.POST_DEPTH b.val then some (word (s.bay b).posts.length)
  else if key = R.MEM_DATA b.val then some (s.memWord b)
  else if regCopy key (R.PIN_STATE b.val 0) 4 24 then some ((s.bayDue b).pinWord b (regIdx key (R.PIN_STATE b.val 0) 4))
  else if regCopy key (R.ENG_STATE b.val 0) 4 32 then some (s.eng b (regIdx key (R.ENG_STATE b.val 0) 4)).stateWord
  else none

/-- GRP_STATE (R160). -/
def State.grpWord (s : State) (g : Nat) : W32 :=
  let x := s.grp g
  word (b2n x.sync + bitIf x.online 1 + bitIf x.sag.isSome 2 + bitIf x.swell.isSome 3 + bitIf x.intr.isSome 4 + bitIf (s.grpFault g) 5)

/-- CH_STATE (R180). -/
def State.chWord (s : State) (c : Nat) : W32 :=
  let x := s.chan c
  word (b2n x.permit + bitIf x.running 1 + bitIf x.queued 2 + bitIf x.denyRun 3 + bitIf x.timedOut 4 + min 65535 x.waited * 65536)

/-- The registers of GRID and SECTOR that hardware owns (R160, R180). -/
def State.viewSector (s : State) (key : Nat) : Option W32 :=
  let rule := s.fld R.RULE_INDEX 0 12
  let tmr := s.fld R.TMR_INDEX 0 10
  let ch := s.fld R.CH_INDEX 0 11
  if regCopy key (R.GRP_STATE 0) 32 16 then some (s.grpWord (regIdx key (R.GRP_STATE 0) 32))
  else if key = R.GS_MAP_DATA then some (assocD s.grid.map (s.fld R.GS_MAP_IDX 0 13) 0)
  else if key = R.RULE_HDR then some (s.srule rule).hdr
  else if regCopy key (R.TERM_CTL 0) 8 8 then some (listAt (s.srule rule).terms (regIdx key (R.TERM_CTL 0) 8) (0, 0)).1
  else if regCopy key (R.TERM_THR 0) 8 8 then some (listAt (s.srule rule).terms (regIdx key (R.TERM_THR 0) 8) (0, 0)).2
  else if key = R.RULE_RESULT then some (word (b2n (s.ruleResult rule) + bitIf (assocD s.sector.latches rule false) 1))
  else if key = R.TMR_CFG then some (assocD s.sector.timers tmr 0)
  else if key = R.TMR_STATE then some (word ((assocD s.sector.timerSt tmr (0, false)).1 + bitIf (assocD s.sector.timerSt tmr (0, false)).2 16))
  else if key = R.CH_PERMIT then some (s.chanCfg ch).permit
  else if key = R.CH_SAFE then some (s.chanCfg ch).safe
  else if key = R.CH_START then some (s.chanCfg ch).start
  else if key = R.CH_HOLD then some (s.chanCfg ch).hold
  else if key = R.CH_FB then some (s.chanCfg ch).fb
  else if key = R.CH_STATE then some (s.chWord ch)
  else none

/-- TW_ROLE (R211); TOKEN reads its reset value 0 until boot ends (R13). -/
def State.roleWord (s : State) : W32 :=
  word (s.tw.role.code.val + bitIf (s.holder && s.boot.locked) 3 + bitIf s.tw.verified 4 + s.tw.partnerRole.code.val * 32 +
    bitIf s.tw.sideB 8 + bitIf s.tw.linkUp 9 + bitIf s.tw.resyncDue 10)

/-- The registers of TWIN that hardware owns (R211). -/
def State.viewTwin (s : State) (key : Nat) : Option W32 :=
  if key = R.TW_ROLE then some s.roleWord
  else if key = R.TW_GEN then some s.tw.g
  else if key = R.TW_SILENT then some (word (min 15 s.tw.silentLink + min 15 s.tw.silentLine * 16))
  else if key = R.TW_LANES then some (word (s.tw.inUse.toNat + s.tw.failed.toNat * 512 + bitIf s.tw.x4 18))
  else if key = R.TW_LINK_DLY then some (word s.tw.linkDly.toNat)
  else if key = R.TW_CMP_FRAME_LO then some (lo32 s.tw.cmpFrame)
  else if key = R.TW_CMP_FRAME_HI then some (hi32 s.tw.latFrame)
  else if key = R.TW_DIV_COUNT then some (word (min 15 s.tw.divCount))
  else if regCopy key (R.TW_OD 0) 4 4 then some (wordOf s.tw.latOd.toNat (regIdx key (R.TW_OD 0) 4))
  else if key = R.TW_JOIN then some (word s.tw.join.step.val)
  else if key = R.TW_JOIN_LINES then some (word s.tw.join.lines)
  else if key = R.TW_JOIN_TOTAL then some (word (if s.tw.join.step != 0 || s.tw.host.active then s.joinTotal else 0))
  else if key = R.TW_PAIR_OFF_LO then some (lo32 s.tw.pairOff)
  else if key = R.TW_PJRN_WPTR then some s.tw.pjWptr
  else none

/-- The sealed range that WD_RNG_INDEX selects (R336). -/
def State.rangeSel (s : State) : SealRange := assocD s.ranges (s.fld R.WD_RNG_INDEX 0 8) ⟨0, 0⟩

/-- The registers of WORLD and KEEPER that hardware owns (R336, R330). -/
def State.viewWorld (s : State) (open_ : Bool) (key : Nat) : Option W32 :=
  if key = R.WD_LOCK then some (word (s.trip.wdLock.val % 4))
  else if key = R.WD_STATUS then some (if open_ then putBits (s.rd key) 4 1 0 else s.rd key)
  else if key = R.WD_RNG_BASE then some s.rangeSel.base
  else if key = R.WD_RNG_CFG then some (if open_ then putBits s.rangeSel.cfg 16 6 0 else s.rangeSel.cfg)
  else if key = R.WD_SJRN_WPTR then some s.jrn.swptr
  else if regCopy key (R.MB_STAT 0) 4 16 then
    let x := s.kpMb (regIdx key (R.MB_STAT 0) 4)
    some (word (x.st.val + x.result.toNat * 4))
  else if key = R.KP_STATE then some (if s.keeper.faulted then 2 else if 6 ≤ s.boot.step then 1 else 0)
  else none

/-- DSP_STATE.STATE (R234). -/
def DspSt.num : DspSt → Nat
  | .idle => 0 | .entering => 1 | .running => 2 | .draining => 3 | .stopping => 4 | .halted => 5 | .off => 6

/-- The dispatch register at offset o of a core (R232, R234), before its HI registers are latched. -/
def State.dspWord (s : State) (k : CoreId) (o : Nat) : W32 :=
  let c := s.core k
  match o / 4 with
  | 0 => word (c.task.val + bitIf c.taskSealed 13 + c.enclave.toNat * 16384 + bitIf c.pflush 20)
  | 1 => word c.asid.toNat
  | 2 => lo32 c.frame
  | 3 => hi32 c.frame
  | 4 => lo32 c.entry
  | 5 => hi32 c.entry &&& 0xffff
  | 6 => lo32 c.sp
  | 7 => hi32 c.sp
  | 8 => lo32 c.arg
  | 9 => hi32 c.arg
  | 10 => lo32 c.s1root
  | 11 => hi32 c.s1root &&& 0x3fff
  | 12 => word ((if s.cstat k.val == .reserve || s.cstat k.val == .waking then 6 else c.run.num) + bitIf c.flushed 3)
  | 13 => word (min (2 ^ 32 - 1) (if c.run.busy then s.coreCycles - c.goAt else c.cycles))
  | 14 => word (c.doneTask.val + c.doneStatus.toNat * 65536)
  | 15 => c.doneFrame
  | _ => 0

/-- What a read of a dispatch register returns (R234, R507): the reset values while the tile domain is not ready, and of a Sealed task WORLD and STATE only toward Open. -/
def State.dspRead (s : State) (open_ : Bool) (k : CoreId) (o : Nat) : W32 :=
  if !s.domReady (k.val / 2) then (if o = 0x30 then 6 else 0)
  else if (s.core k).taskSealed && open_ then
    (if o = 0 then s.dspWord k 0 &&& 0x2000 else if o = 0x30 then s.dspWord k 0x30 &&& 7 else 0)
  else s.dspWord k o

/-- The registers of a TILE block that hardware owns (R234, R391). -/
def State.viewTile (s : State) (open_ : Bool) (t : Nat) (off : Nat) : Option W32 :=
  if off < 0x200 then
    (if off % 0x100 < 0x40 then
      let key := (0x50 + t) * 0x1000 + off
      let isHi := off % 0x100 / 4 % 2 = 1 ∧ 3 ≤ off % 0x100 / 4 ∧ off % 0x100 / 4 ≤ 11
      if isHi then some (if (s.core (coreOf (2 * t + off / 0x100))).taskSealed && open_ || !s.domReady t then 0 else s.latched key)
      else some (s.dspRead open_ (coreOf (2 * t + off / 0x100)) (off % 0x100))
    else none)
  else if off = 0x314 then some (word (b2n s.cache.range.isSome))
  else none

/-- RG_LANES (R411). -/
def RingSt.lanesWord (x : RingSt) : W32 :=
  word (x.dir0.inUse.toNat + x.dir1.inUse.toNat * 8 + x.dir0.failed.toNat * 64 + x.dir1.failed.toNat * 512 +
    bitIf x.dir0.down 12 + bitIf x.dir1.down 13)

/-- The registers of ring r that hardware owns (R409, R411). -/
def State.viewRing (s : State) (r : Nat) (key : Nat) : Option W32 :=
  let rp := s.fld (R.RR_INDEX r) 0 4
  let rg := s.regulator (stationAt r rp) (s.fld (R.RR_INDEX r) 4 2)
  let rtp := s.fld (R.RT_INDEX r) 0 4
  let holds := fun p => decide (p < ringLen r) && (decide (r < 8) || p == 0 || p == 9)
  if key = R.RG_LANES r then some (s.rg r).lanesWord
  else if key = R.RT_DATA r then
    some (if s.imgLoaded ∧ holds rtp ∧ s.fld (R.RT_INDEX r) 8 7 < 106 then s.route (stationAt r rtp) (s.fld (R.RT_INDEX r) 8 7) else 0)
  else if key = R.RR_DATA r then
    some (if holds rp then word (rg.rate + rg.burst * 65536 + bitIf rg.en 24) else 0)
  else if key = R.RR_TOKENS r then
    some (if holds rp then word ((rg.fill s.now).tokens / 2048) else 0)
  else if regCopy key (R.TRC_DATA r 0) 4 8 then
    some (wordOf (listAt (s.rg r).trace (s.fld (R.TRC_INDEX r) 0 8) 0).toNat (regIdx key (R.TRC_DATA r 0) 4))
  else none

/-- LOG_DATA w: of an entry for a sealed range, an Open read sees bytes 8 to 13 and 16 to 21 as 0 (R429). -/
def State.logWord (s : State) (open_ : Bool) (ch w : Nat) : W32 :=
  let e := assocD (s.memc ch).log (s.fld (R.LOG_INDEX ch) 0 6) 0
  let e := if open_ && bitAt e 123 then putBits (putBits e 64 48 0) 128 48 0 else e
  wordOf e.toNat w

/-- The registers of MEMC ch that hardware owns (R432). -/
def State.viewMemc (s : State) (open_ : Bool) (ch : Nat) (key : Nat) : Option W32 :=
  let m := s.memc ch
  let bank := s.fld (R.BANK_INDEX ch) 0 8
  if key = R.PATROL_POS ch then some (word (m.patrolLine + m.patrolOff * 32768))
  else if key = R.MERGE_USED ch then some (word m.merge.length)
  else if key = R.HT_USED ch then some (word (countIf (fun e => e.live s.now) m.hard))
  else if regCopy key (R.LOG_DATA ch 0) 4 8 then some (s.logWord open_ ch (regIdx key (R.LOG_DATA ch 0) 4))
  else if key = R.BANK_CNT ch then
    some (word (min 65535 (assocD m.bankHard bank 0) + min 65535 (assocD m.bankCe bank 0) * 65536))
  else none

/-- The place of the address in DEC_ADDR, where its berth is placed and the reader may see it (R433). -/
def State.decPlace (s : State) (open_ : Bool) : Option (Nat × Nat) :=
  let pa := (s.rd64 R.DEC_ADDR_LO R.DEC_ADDR_HI).toNat % 2 ^ 46
  if open_ && (s.sealedAt pa).isSome then none else s.placeOf pa

/-- Retired copies, three bits a word (R433). -/
def State.tripWord (s : State) : W32 :=
  word ((List.range 5).foldl (fun n i =>
    let t := s.trip.word i
    n + (b2n t.retA + bitIf t.retB 1 + bitIf t.retC 2) * 8 ^ i) 0)

/-- The registers of BERTH that hardware owns (R433). -/
def State.viewBerth (s : State) (open_ : Bool) (key : Nat) : Option W32 :=
  let copy := assoc? s.mem.copies (s.fld R.MIG_INDEX 0 4)
  let bad (c : Nat) : Nat := countIf (fun p => p.1 == c) s.mem.bad
  if key = R.BT_DATA then some (s.btEntry (s.fld R.BT_INDEX 0 21))
  else if regCopy key (R.PLACES_FREE 0) 4 13 then
    let c := regIdx key (R.PLACES_FREE 0) 4
    some (word (s.placesOf c - (s.usedPlaces c).length))
  else if regCopy key (R.PLACES_BAD 0) 4 13 then some (word (bad (regIdx key (R.PLACES_BAD 0) 4)))
  else if key = R.MIG_BERTH then some (match copy with | some c => word (c.berth + 2 ^ 31) | none => 0)
  else if key = R.MIG_TARGET then some (match copy with | some c => word (c.dstCh + c.dstOff * 16) | none => 0)
  else if key = R.MIG_LINES then some (match copy with | some c => word c.ptr | none => 0)
  else if key = R.DEC_PLACE then
    some (match s.decPlace open_ with | some p => word (p.1 + p.2 / 32768 * 16 + 2 ^ 31) | none => 0)
  else if key = R.DEC_RESULT then
    some (match s.decPlace open_ with | some p => decodeChan (s.rd (R.MC_CFG p.1)) p.2 | none => 0)
  else if key = R.TRIP_STATE then some s.tripWord
  else none

/-- The registers of a network port that hardware owns (R450). -/
def State.viewNet (s : State) (p : Nat) (o : Nat) : Option W32 :=
  let x := s.port p
  let b := p / 4
  let i := p % 4
  let m := assocD x.mtab (s.fld (R.MT_INDEX b i) 0 5) {}
  match o with
  | 0x0c => some (putBits (s.rd (R.PORT_STATE b i)) 1 1 (b2n (!(s.holder && s.boot.locked))))
  | 0x40 => some (match x.txs with | (tag, _) :: _ => word (tag.toNat + 2 ^ 31) | [] => 0)
  | 0x44 => some (lo32 x.txsLatch)
  | 0x48 => some (hi32 x.txsLatch)
  | 0x84 => some (assocD x.gcl (s.fld (R.GCL_INDEX b i) 0 8) 0)
  | 0x8c => some m.type
  | 0x90 => some m.val
  | 0x94 => some m.mask
  | 0x98 => some m.out
  | 0x9c => some m.ext
  | _ => none

/-- The registers of CAN that hardware owns (R451). -/
def State.viewCan (s : State) (off : Nat) : Option W32 :=
  let m := assocD s.ports.canMatch (s.fld R.CAN_MT_INDEX 0 8) {}
  if off < 0x400 ∧ off % 64 = 0x14 then some (s.ccState (off / 64))
  else if off = 0x404 then some m.id
  else if off = 0x408 then some m.mask
  else if off = 0x40c then some m.out
  else if off = 0x410 then some m.ctrl
  else none

/-- The registers of LANTERN that hardware owns (R469). -/
def State.viewLantern (s : State) (key : Nat) : Option W32 :=
  if regCopy key (R.LN_MBSTAT 0) 4 8 then
    let x := s.lnMb (regIdx key (R.LN_MBSTAT 0) 4)
    some (word (x.st.val + x.result.toNat * 4))
  else if key = R.LN_STATE then
    some (word ((if s.lan.holdTemp then 3 else if s.lan.hot then 2 else if s.lan.running then 1 else 0) +
      bitIf s.boot.slotB 2 + bitIf s.lan.upd.isSome 3))
  else if key = R.SENS_DATA then some (s.sensWord (s.fld R.SENS_INDEX 0 8))
  else if key = R.SENS_MAX then some (word (s.sensor (s.fld R.SENS_INDEX 0 8)).top.toNat)
  else if key = R.NVM_ERASE_MAX then some (word (if s.boot.step < 6 then 0 else s.nv.log.foldl (fun n p => max n p.2.erases.toNat) 0))
  else none

/-- The READY bits of 32 domains from domain d. -/
def State.readyWord (s : State) (d n : Nat) : Nat :=
  (List.range n).foldl (fun w j => w + bitIf (s.domReady (d + j)) j) 0

/-- The registers of DEVICE, CLOCK and POWER that hardware owns (R486, R510, R511). -/
def State.viewDevice (s : State) (key : Nat) : Option W32 :=
  if key = R.CFG_DIG_DATA then
    some (if s.fld R.CFG_DIG_IDX 0 4 < 12 then wordOf s.cfgDigest.toNat (s.fld R.CFG_DIG_IDX 0 4) else 0)
  else if regCopy key (R.DOM_TILE 0) 4 3 then
    let i := regIdx key (R.DOM_TILE 0) 4
    some (word (s.readyWord (32 * i) (min 32 (72 - 32 * i))))
  else if key = R.DOM_OTHER then
    some (word (s.readyWord 72 8 + s.readyWord 80 13 * 256 + bitIf (s.domReady 93) 21))
  else none

/-- HI registers that hold the copy of the last latching read (R515), apart from those of the state unit, the twin unit and the tiles. -/
def latchedKeys : List Nat := [R.TB_NOW_HI, R.BCN_FRAME_HI, R.BCN_TICK_HI, R.BCN_IN_LAST_HI, R.TW_PAIR_OFF_HI, R.DEV_SER_HI]

/-- What a read of the register at a key returns, toward Open or toward Sealed, before it has any effect. -/
def State.view (s : State) (open_ : Bool) (b off : Nat) : W32 :=
  let key := b * 0x1000 + off
  let v :=
    if latchedKeys.contains key then some (s.latched key)
    else if b = 1 ∨ b = 2 then s.viewTime key
    else if b = 8 then s.viewState key
    else if 4 ≤ b ∧ b < 8 then s.viewHive open_ key
    else if 0x10 ≤ b ∧ b < 0x18 then s.viewAnt (bayOf (b - 0x10)) key
    else if b = 0x18 ∨ b = 0x19 then s.viewSector key
    else if b = 0x1a then s.viewTwin key
    else if b = 0x1c ∨ b = 0x1d then s.viewNet ((b - 0x1c) * 4 + off / 0x200) (off % 0x200)
    else if b = 0x1f then s.viewCan off
    else if b = 0x20 ∨ b = 0x21 then s.viewWorld open_ key
    else if b = 0x22 then s.viewLantern key
    else if b = 0 ∨ b = 0x24 ∨ b = 0x25 then s.viewDevice key
    else if 0x28 ≤ b ∧ b < 0x35 then s.viewMemc open_ (b - 0x28) key
    else if b = 0x36 then s.viewBerth open_ key
    else if 0x38 ≤ b ∧ b < 0x49 then s.viewRing (b - 0x38) key
    else if 0x50 ≤ b ∧ b < 0x98 then s.viewTile open_ (b - 0x50) off
    else none
  v.getD (s.rd key)

end Sys2Proof.Machine
end

