-- ==== Sys2Proof/Machine/RegIf.lean ====
section
/-! DEFINITION. Accesses to control-space registers: access codes, latches, guard pairs, worlds and domains that are down (chapter Register Interface and Event Counters; R314, R507, R508). -/

namespace Sys2Proof.Machine

/-- The status registers of a block with their interrupt enables, as offsets (the register tables). -/
def statusRegs (b : Nat) : List (Nat × Nat) :=
  if b = 0 then [(0x18, 0x1c)]
  else if b = 2 then [(0x40, 0x44)]
  else if b = 8 then [(0x160, 0x164)]
  else if b = 4 ∨ b = 0x24 ∨ b = 0x25 ∨ b = 0x36 ∨ b = 0x21 ∨ b = 0x18 ∨ b = 0x19 then
    (if b = 0x24 then [(0x8, 0xc)] else [(0x4, 0x8)])
  else if b = 7 then [(0x104, 0x108)]
  else if 0x10 ≤ b ∧ b < 0x18 then [(0x4, 0x8)]
  else if b = 0x1a then [(0x10, 0x14)]
  else if b = 0x1c ∨ b = 0x1d then (List.range 4).map (fun i => (0x200 * i + 4, 0x200 * i + 8))
  else if b = 0x1e then (0x200, 0x204) :: (List.range 8).map (fun h => (0x40 * h + 0x8, 0x40 * h + 0xc))
  else if b = 0x1f then (List.range 16).map (fun c => (0x40 * c + 0xc, 0x40 * c + 0x10))
  else if b = 0x20 then [(0x480, 0x484)]
  else if b = 0x22 then [(0x240, 0x244)]
  else if 0x28 ≤ b ∧ b < 0x35 then [(0x8, 0xc)]
  else if 0x38 ≤ b ∧ b < 0x49 then [(0x4, 0x8)]
  else if 0x50 ≤ b ∧ b < 0x98 then [(0x204, 0x208)]
  else []

/-- Interrupt source 32 + b is asserted (R296). -/
def State.blockIrq (s : State) (b : Nat) : Bool :=
  (statusRegs b).any (fun p => (s.rd (b * 0x1000 + p.1) &&& s.rd (b * 0x1000 + p.2)) != 0)

/-- The registers of a Sealed bay that Open reads in full: BAY_STATUS and ENG_STATE (R151). -/
def openReads (b off : Nat) : Bool :=
  decide (0x10 ≤ b ∧ b < 0x18) && (decide (off = 4) || decide (0x280 ≤ off ∧ off < 0x300))

/-- The bits of an Open register that are Sealed, so that Open reads them as 0 and its writes leave them: Sealed vote halves (R510, R511), SJRN_WRAP (R336), the bits of Sealed mailboxes (R314, R338). -/
def State.sealedBits (s : State) (b off : Nat) : W32 :=
  if (b = 0x24 ∧ off = 0x28) ∨ (b = 0x25 ∧ off = 0x70) then 0xff00 else if b = 0x21 ∧ off = 4 then 0x10
  else if b = 0x20 ∧ (off = 0x480 ∨ off = 0x484 ∨ off = 0x488) then s.rd R.KP_MBW &&& 0xffff else 0

/-- The power domain whose state decides whether a register answers (R507, R508). -/
def regDomain (b off : Nat) : Option Nat :=
  if 0x10 ≤ b ∧ b < 0x18 then some (72 + (b - 0x10))
  else if 0x28 ≤ b ∧ b < 0x35 then some (80 + (b - 0x28))
  else if 0x50 ≤ b ∧ b < 0x98 ∧ off < 0x200 then some (b - 0x50)
  else none

/-- The domain of a register, where it is down or not yet ready (R508). -/
def State.domDown (s : State) (b off : Nat) : Option Nat :=
  match regDomain b off with
  | some d => if s.domReady d then none else some d
  | none => none

/-- The registers that R507 gives a value while the domain is down: ENG_STATE, MC_STATE and the dispatch registers. -/
def downReads (b off : Nat) : Bool :=
  (decide (0x10 ≤ b ∧ b < 0x18) && decide (0x280 ≤ off ∧ off < 0x300)) || (decide (0x28 ≤ b ∧ b < 0x35) && decide (off = 4)) ||
    decide (0x50 ≤ b)

/-- An access to a register of a domain that is not ready (R508): refused, or, under ONDEMAND, the vote of the requester's world set, and the access waits. -/
def State.offAccess (s : State) (q : Requester) (b off d : Nat) (write : Bool) : Bool × State :=
  let own := decide (d < 72) || (decide (d < 80) && s.baySealed (d - 72) == q.sealed)
  if s.flagAt R.PWR_CTL 0 && own then
    let vote : Fin 3 := if q.sealed then 2 else 1
    if d < 72 then (true, (s.setVoteBit (if q.sealed then R.PV_TILE_SEALED 0 else R.PV_TILE_OPEN 0) d true).follow d vote)
    else (true, (s.setFld R.PV_BAY (d - 72 + (if q.sealed then 8 else 0)) 1 1).follow d vote)
  else
    let n := domName d
    (false, ((s.flag R.PWR_STATUS 4).bump R.CNT_OFF_ACCESS).jlogW (s.regSealed b off) s.now 104 0 0x0703
      [(0, 1, n.1), (1, 1, n.2), (2, 2, off), (4, 1, b2n write)] [])

/-- The triplicated word behind a register (R430). -/
def tripOf (key : Nat) : Option Nat :=
  if key = R.TB_TAI_LO ∨ key = R.TB_TAI_HI then some 0
  else if key = R.BCN_EPOCH_LO ∨ key = R.BCN_EPOCH_HI then some 1
  else if key = R.BCN_PERIOD then some 2
  else if key = R.WD_LOCK then some 3
  else if key = R.CFG_DIG_DATA then some 4
  else none

/-- A vote that found every copy different (R430): the device is reset with the cause vote loss (R463). -/
def State.voteLost (s : State) (i : Nat) : State :=
  ((s.flag R.BT_STATUS 5).jlog s.now 104 0 0x0d07 [(0, 1, i)]).fullReset 3

/-- A read's vote on a triplicated word: false where the vote is lost and the device is reset. -/
def State.tripVote (s : State) (i : Nat) : Bool × State :=
  match s.tripRead i with
  | some r => (true, r.2)
  | none => (false, s.voteLost i)

/-- Latches a HI register. -/
def State.setLatch (s : State) (key : Nat) (v : W32) : State := { s with latch := assocSet s.latch key v }

/-- What a read latches (R515, R88, R211, R234). -/
def State.latchRead (s : State) (b off : Nat) : State :=
  let key := b * 0x1000 + off
  if key = R.TB_NOW_LO then s.setLatch R.TB_NOW_HI (hi32 s.now)
  else if key = R.BCN_FRAME_LO then s.setLatch R.BCN_FRAME_HI (hi32 s.bcn.frame)
  else if key = R.BCN_TICK_LO then s.setLatch R.BCN_TICK_HI (hi32 s.bcn.tickStamp)
  else if key = R.BCN_IN_LAST_LO then s.setLatch R.BCN_IN_LAST_HI (hi32 s.bcn.inLast)
  else if key = R.TW_PAIR_OFF_LO then s.setLatch R.TW_PAIR_OFF_HI (hi32 s.tw.pairOff)
  else if key = R.DEV_SER_LO then s.setLatch R.DEV_SER_HI (s.rd R.DEV_SER_HI)
  else if key = R.DIG_FRAME_LO then { s with su := { s.su with latFrame := s.su.digFrame, latVal := s.su.digVal } }
  else if key = R.TW_CMP_FRAME_LO then { s with tw := { s.tw with latFrame := s.tw.cmpFrame, latOd := s.tw.cmpOd } }
  else if 0x50 ≤ b ∧ b < 0x98 ∧ off < 0x200 ∧ off % 0x100 < 0x40 then
    let o := off % 0x100
    if o / 4 % 2 = 0 ∧ 8 ≤ o ∧ o ≤ 0x28 then s.setLatch (key + 4) (s.dspRead false (coreOf (2 * (b - 0x50) + off / 0x100)) (o + 4)) else s
  else s

/-- The block that stores a register: the range registers of the TILE blocks are one set, kept in block 0x50 (R391). -/
def regBlock (b off : Nat) : Nat := if 0x50 ≤ b ∧ b < 0x98 ∧ 0x300 ≤ off ∧ off < 0x800 then 0x50 else b

/-- What a read answers: the word, whether it waits for a domain to wake, and the state. -/
structure RegAns where
  val : W32
  stall : Bool
  st : State

/-- The effects and the word of a read that reaches its register (R519, R515). -/
def State.readAt (s : State) (q : Requester) (b off : Nat) (row : RegRow) : W32 × State :=
  let key := b * 0x1000 + off
  if 0x10 ≤ b ∧ b < 0x18 ∧ off = 0x44 then
    let s := memDataRead (bayOf (b - 0x10)) q s
    (s.readVal, s)
  else if (b = 0x1c ∨ b = 0x1d) ∧ off % 0x200 = 0x40 then
    let p := (b - 0x1c) * 4 + off / 0x200
    let s := txsTagPop ⟨p % 8, Nat.mod_lt p (by decide)⟩ q s
    (s.readVal, s)
  else
    let hide := if q.sealed then 0 else s.sealedBits b off
    let v := s.view (!q.sealed) b off &&& ~~~(BitVec.ofNat 32 row.wo) &&& ~~~hide
    let s := if row.rc = 0 then s else s.wr key (s.rd key &&& ~~~(v &&& BitVec.ofNat 32 row.rc))
    (v, s.latchRead b off)

/-- A 4 B read of the register at offset off of block b (R11 to R14, R314, R507, R508, R513). -/
def State.regRead (s : State) (q : Requester) (b o : Nat) : RegAns :=
  let off := o % 0x1000 / 4 * 4
  match rowAt b off with
  | none => ⟨0, false, s⟩
  | some row =>
    if s.regSealed b off && !q.sealed && !openReads b off then ⟨0, false, s⟩
    else
      match s.domDown b off with
      | some d =>
        if downReads b off then
          ⟨if 0x10 ≤ b ∧ b < 0x18 then 5 else s.view (!q.sealed) b off, false, s.latchRead b off⟩
        else
          let r := s.offAccess q b off d false
          ⟨0, r.1, r.2⟩
      | none =>
        match tripOf (b * 0x1000 + off) with
        | some i =>
          let r := s.tripVote i
          if r.1 then
            let a := r.2.readAt q b off row
            ⟨a.1, false, a.2⟩
          else ⟨0, false, r.2⟩
        | none =>
          let a := s.readAt q (regBlock b off) off row
          ⟨a.1, false, a.2⟩

/-! ### Writes -/

/-- Stores a register's bits of the access codes in mask. -/
def State.regPut (s : State) (key : Nat) (mask : Nat) (v : W32) : State :=
  let m : W32 := BitVec.ofNat 32 mask
  s.wr key ((s.rd key &&& ~~~m) ||| (v &&& m))

/-- The level that a peak register follows: side entries in use, requests queued, or entries waiting to merge (R88, R391, R432, R520); none for any other register. -/
def State.peakLevel (s : State) (key : Nat) : Option Nat :=
  if key = R.SIDE_PEAK then some s.su.side.length
  else if key % 0x1000 = 0x228 ∧ 0x50 ≤ key / 0x1000 ∧ key / 0x1000 < 0x98 then
    some (countIf (fun y => y.home.val == key / 0x1000 - 0x50) s.cache.queue)
  else if key % 0x1000 = 0x38 ∧ 0x28 ≤ key / 0x1000 ∧ key / 0x1000 < 0x35 then some (s.memc (key / 0x1000 - 0x28)).merge.length
  else none

/-- A write of a peak register stores the higher of the written value and the level then (R520). -/
def State.putPeak (s : State) (key mask : Nat) (v : W32) : State :=
  match s.peakLevel key with
  | some n => s.wr key (BitVec.ofNat 32 (Nat.max (v &&& BitVec.ofNat 32 mask).toNat n))
  | none => s.regPut key mask v

/-- The same station and unit, in the same world (R517). -/
def sameRequester (a b : Requester) : Bool := a.station == b.station && a.unit == b.unit && a.sealed == b.sealed

/-- The action of a completed guard pair in TIMEBASE, BEACON, STATE and HIVE (R517). -/
def State.pairTime (s : State) (q : Requester) (key : Nat) (v : W32) : State :=
  if key = R.TB_CTL then s.tbCtlWrite v
  else if key = R.TB_RATE then tbRateWrite v s
  else if key = R.TB_TAI_LO then taiWrite v s
  else if key = R.TB_TAI_HI then s.wr key v
  else if key = R.BCN_CTL then beaconRun v s
  else if key = R.BCN_EPOCH_LO then epochWrite v s
  else if key = R.BCN_EPOCH_HI then (if s.runSet then s.flag R.BCN_STATUS 10 else s.wr key v)
  else if key = R.DBG_CTL then (if bitAt v 0 then dbgMetaRead q s else s)
  else if key = R.SW_OPEN then swOpen v s
  else if key = R.SW_ARM_LO then swArmLo v s
  else if key = R.SW_CANCEL then swCancel v s
  else s.regPut key 1 v

/-- TW_CMD (R211). -/
def State.twCmd (s : State) (v : W32) : State :=
  let s := if bitAt v 0 then rejoin s else s
  let s := if bitAt v 1 then isolate s else s
  if bitAt v 2 then handoverRequest s else s

/-- The action of a completed guard pair in CLOCK and POWER (R510, R511). -/
def State.pairClock (s : State) (q : Requester) (key : Nat) (v : W32) : State :=
  if key = R.CLK_REF then pllRefSelect v s
  else if key = R.CLK_SRC then clkSrcWrite v q s
  else if key = R.CLK_AG_DIS then s.wr key (v &&& 0xf)
  else if key = R.PWR_PERF then perfRequest v s
  else s

/-- The action of a completed guard pair in a TILE block (R391). -/
def State.pairTile (s : State) (q : Requester) (t off : Nat) (v : W32) : State :=
  if off = 0x200 then l3Lock (tileOf t) v s
  else if off = 0x218 then (if bitAt v 0 then lockFill (tileOf t) (BitVec.ofNat 4 (bitsAt v 1 4)) s else s.wr (R.LF_CTL t) (v &&& 0x1e))
  else if off = 0x310 then
    let op := bitsAt v 1 2
    if bitAt v 0 && op != 0 then rangeGo ⟨op % 4, Nat.mod_lt op (by decide)⟩ (tileOf t) (bitAt v 3) q s
    else s.wr (R.RNG_CTL 0) (v &&& 0xe)
  else s

/-- The action of a completed guard pair (R517): the register's own command, or its bits stored. -/
def State.pairDone (s : State) (q : Requester) (b off : Nat) (v : W32) : State :=
  let key := b * 0x1000 + off
  if b < 9 then s.pairTime q key v
  else if 0x10 ≤ b ∧ b < 0x18 then baySafeAll (bayOf (b - 0x10)) v s
  else if b = 0x19 then s.wr key (v &&& 1)
  else if b = 0x1a then s.twCmd v
  else if b = 0x1e then perst ⟨off / 0x40 % 8, Nat.mod_lt _ (by decide)⟩ v s
  else if b = 0x22 then wdKick ⟨(off - 0x284) / 0x10 % 4, Nat.mod_lt _ (by decide)⟩ v s
  else if b = 0x24 ∨ b = 0x25 then s.pairClock q key v
  else if 0x28 ≤ b ∧ b < 0x35 then s.wr key (putBits (v &&& 0x1ff) 1 8 (if bitsAt v 1 8 = 0 then 1 else bitsAt v 1 8))
  else if 0x38 ≤ b ∧ b < 0x49 then laneTest ⟨(b - 0x38) % 17, Nat.mod_lt _ (by decide)⟩ v s
  else if 0x50 ≤ b ∧ b < 0x98 then s.pairTile q (b - 0x50) off v
  else s

/-- A write of a mailbox word, doorbell or other register of KEEPER or LANTERN that no guard pair covers (R326, R327, R469). -/
def State.putMailbox (s : State) (q : Requester) (b off : Nat) (mask : Nat) (v : W32) : State :=
  let key := b * 0x1000 + off
  if b = 0x20 then
    if off < 0x400 then (if (s.kpMb (off / 0x40)).st = 1 then s.flag R.KP_STATUS 16 else s.wr key v)
    else if off < 0x440 then (if bitAt v 0 then mbDoor ⟨(off - 0x400) / 4 % 16, Nat.mod_lt _ (by decide)⟩ q s else s)
    else s.regPut key mask v
  else
    if off < 0x200 then (if (s.lnMb (off / 0x40)).st = 1 then s.flag R.LN_STATUS 9 else s.wr key v)
    else if off < 0x220 then (if bitAt v 0 then lnDoor ⟨(off - 0x200) / 4 % 8, Nat.mod_lt _ (by decide)⟩ s else s)
    else if key = R.SENS_MAX then
      let i := s.fld R.SENS_INDEX 0 8
      let x := s.sensor i
      let w := BitVec.ofNat 24 v.toNat
      s.setSensor i { x with top := if x.valid && decide (sVal w < sVal x.value) then x.value else w, wrote := true }
    else s.regPut key mask v

/-- A write of MSI_DOOR by a core, which names a vector of its own world (R448). -/
def State.coreMsi (s : State) (q : Requester) (v : W32) : State :=
  let n := bitsAt v 0 8
  if q.sealed == decide (128 ≤ n) then
    let s := s.flag (R.MSI_PEND (n / 32)) (n % 32)
    if n < 128 then s.flag R.PCIE_STATUS 1 else s
  else s

/-- A write of a port's register that no guard pair covers (R437, R442, R448). -/
def State.putPort (s : State) (q : Requester) (b off : Nat) (mask : Nat) (v : W32) : State :=
  let key := b * 0x1000 + off
  if b = 0x1e then (if off = 0x240 then s.coreMsi q v else s.regPut key mask v)
  else if b = 0x1f then
    if off < 0x400 ∧ off % 0x40 = 0x1c then (if bitAt v 0 then canRecover ⟨off / 0x40 % 16, Nat.mod_lt _ (by decide)⟩ s else s)
    else if off < 0x400 ∧ (off % 0x40 = 0x2c ∨ off % 0x40 = 0x3c) then
      ringTailWrite (.can ⟨off / 0x40 % 16, Nat.mod_lt _ (by decide)⟩) (if off % 0x40 = 0x2c then 0 else 1) v s
    else s.regPut key mask v
  else
    let p : Nat := (b - 0x1c) * 4 + off / 0x200
    if off % 0x200 = 0x2c ∨ off % 0x200 = 0x3c then
      ringTailWrite (.net ⟨p % 8, Nat.mod_lt _ (by decide)⟩) (if off % 0x200 = 0x2c then 0 else 1) v s
    else s.regPut key mask v

/-- A write of SW_ENT_TGT, SW_ENT_VAL or SW_ARM_HI: ignored on a device that is not the holder (R198, R112). -/
def State.putSwitch (s : State) (key : Nat) (mask : Nat) (v : W32) : State :=
  if key = R.SW_ENT_VAL then swEntVal v s
  else if key = R.SW_ENT_TGT ∨ key = R.SW_ARM_HI then (if s.holder then s.wr key v else s.flag R.TW_STATUS 11)
  else s.regPut key mask v

/-- An RL field still takes writes (R12, R478): until boot locks, and a field of the assignment until WD_LOCK.ASSIGN is set (R312). -/
def State.rlOpen (s : State) (b off : Nat) : Bool :=
  !s.boot.locked && !((b == 0x21 || b * 0x1000 + off == R.KP_MBW) && s.trip.wdLock.val % 2 == 1)

/-- The bits of a register that a write changes, by its access codes (R12): WD_REGION keeps bits 0 and 1 at 0 (R336), and an Open write leaves the bits of Sealed units (R314). -/
def State.writeMask (s : State) (q : Requester) (b off : Nat) (row : RegRow) : Nat :=
  let m : W32 := BitVec.ofNat 32 (row.rw ||| (if s.rlOpen b off then row.rl else 0))
  let m := if b * 0x1000 + off = R.WD_REGION then m &&& 0xfffc else m
  (if q.sealed then m else m &&& ~~~(s.sealedBits b off)).toNat

/-- A write of the sealed range that WD_RNG_INDEX selects (R336). -/
def State.putRange (s : State) (key : Nat) (mask : Nat) (v : W32) : State :=
  let m : W32 := BitVec.ofNat 32 mask
  let r := s.rangeSel
  let put (old : W32) : W32 := (old &&& ~~~m) ||| (v &&& m)
  { s with ranges := assocSet s.ranges (s.fld R.WD_RNG_INDEX 0 8) (if key = R.WD_RNG_BASE then { r with base := put r.base } else { r with cfg := put r.cfg }) }

/-- A write to a register that no guard pair covers, by its access code (R12). -/
def State.regWrite (s : State) (q : Requester) (b off : Nat) (row : RegRow) (v : W32) : State :=
  let key := b * 0x1000 + off
  let mask := s.writeMask q b off row
  match s.voteTo key v q with
  | some s => s
  | none =>
    if b = 7 then s.putSwitch key mask v
    else if b = 0x20 ∨ b = 0x22 then s.putMailbox q b off mask v
    else if 0x1c ≤ b ∧ b < 0x20 then s.putPort q b off mask v
    else if 0x38 ≤ b ∧ b < 0x49 ∧ off = 0x204 then
      (if v = 0 then traceRestart ⟨(b - 0x38) % 17, Nat.mod_lt _ (by decide)⟩ s else s.regPut key mask v)
    else if key = R.BCN_PERIOD then (if s.boot.locked then s else (s.wr key v).tripPut 2 v.toNat)
    else if mask = 0 then s
    else if key = R.WD_LOCK then s.tripPut 3 (s.trip.wdLock.val ||| bitsAt v 0 2)
    else if key = R.WD_RNG_BASE ∨ key = R.WD_RNG_CFG then s.putRange key mask v
    else s.putPeak key mask v

/-- A write on its own, with no pending pair in the block (R14, R314, R508, R517, R518 cause 4): whether it waits for a domain, and the state. -/
def State.store1 (s : State) (q : Requester) (b off : Nat) (v : W32) : Bool × State :=
  if 0x800 ≤ off then (false, s.loneWrite b off q v)
  else if s.regSealed b off && !q.sealed then (false, s)
  else match rowAt b off with
    | none => (false, s)
    | some row =>
      match s.domDown b off with
      | some d => s.offAccess q b off d true
      | none =>
        if row.gp = 0 then (false, s.regWrite q (regBlock b off) off row v)
        else (false, { s with guard := assocSet s.guard b { off := off, value := v, who := q, arrival := s.now, rate := s.coreRate } })

/-- A 4 B write to offset o of block b (R513, R517, R518): whether it waits for a domain, and the state. -/
def State.regStore (s : State) (q : Requester) (b o : Nat) (v : W32) : Bool × State :=
  let off := o % 0x1000 / 4 * 4
  if !blockExists b then (false, s)
  else
    let s := s.guardExpire b
    match assoc? s.guard b with
    | none => s.store1 q b off v
    | some p =>
      let s := s.guardClear b
      if off = p.off + 0x800 ∧ sameRequester q p.who then
        if v = ~~~p.value then
          match s.domDown b p.off with
          | some d => s.offAccess q b off d true
          | none => (false, s.pairDone q b p.off p.value)
        else (false, s.guardFail b 1 off q v)
      else (s.guardFail b 3 p.off p.who p.value).store1 q b off v

/-- A 1 B or 2 B store of value v at byte offset off: dropped, but a write that discards a pending pair and, from 0x800, fails with cause 4 (R514, R518). The record holds the byte offset and the bytes stored, zero-extended (DESIGN CHOICE, log entry 89). -/
def State.regDrop (s : State) (q : Requester) (b off : Nat) (v : W32) : State :=
  let s := s.guardBreak b
  if 0x800 ≤ off ∧ blockExists b then s.loneWrite b off q v else s

/-- REGISTER_WRITE: a write is performed by the register's access code (R12). -/
def registerWrite (q : Requester) (b : Byte) (off : W16) (v : W32) (s : State) : State := (s.regStore q b.toNat off.toNat v).2

/-- GUARD_PAIR_HOLD: a write to a guard-pair register is held pending for its complement (R517). -/
def guardPairHold (q : Requester) (b : Byte) (off : W16) (v : W32) (s : State) : State :=
  match rowAt b.toNat (off.toNat % 0x1000 / 4 * 4) with
  | some row => if row.gp = 0 then s else (s.regStore q b.toNat off.toNat v).2
  | none => s

/-- GUARD_WINDOW_EXPIRE: the pending write of a block is discarded 64 core cycles after it arrived (R518 cause 2). -/
def guardWindowExpire (b : Byte) (s : State) : State :=
  match assoc? s.guard b.toNat with
  | none => s
  | some p =>
    let s := s.advanceTo p.ends
    (s.guardClear b.toNat).guardFail b.toNat 2 p.off p.who p.value

/-- LATCHED_READ: a read of a LO register latches its HI register (R515). -/
def latchedRead (q : Requester) (b : Byte) (off : W16) (s : State) : State :=
  let a := s.regRead q b.toNat off.toNat
  if a.stall then a.st else { a.st with readVal := a.val }

/-- STATUS_READ: a read of RC fields returns them and clears the bits returned (R519). -/
def statusRead (q : Requester) (b : Byte) (off : W16) (s : State) : State :=
  let a := s.regRead q b.toNat off.toNat
  if a.stall then a.st else { a.st with readVal := a.val }

def execRegisterWrite (q : Requester) (b : Byte) (off : W16) (v : W32) (s : State) : Host.Outcome State Fault Refusal :=
  .next (s.awake (registerWrite q b off v))
def execGuardPairHold (q : Requester) (b : Byte) (off : W16) (v : W32) (s : State) : Host.Outcome State Fault Refusal :=
  .next (s.awake (guardPairHold q b off v))
def execGuardWindowExpire (b : Byte) (s : State) : Host.Outcome State Fault Refusal := .next (guardWindowExpire b s)
def execLatchedRead (q : Requester) (b : Byte) (off : W16) (s : State) : Host.Outcome State Fault Refusal := .next (s.awake (latchedRead q b off))
def execStatusRead (q : Requester) (b : Byte) (off : W16) (s : State) : Host.Outcome State Fault Refusal := .next (s.awake (statusRead q b off))

end Sys2Proof.Machine
end

