-- ==== Sys2Proof/Machine/Except.lean ====
section
/-! DEFINITION. Exceptions, interrupts and mask levels of a Scarab core (chapter Exceptions, Interrupts and Mask Levels; R321 to R324). -/

namespace Sys2Proof.Machine

/-- A synchronous exception that an instruction raises (R290). -/
structure Exc where
  cause : Nat
  level : Nat
  sub : Nat
  eaddr : W64
  epc : W64
  /-- a block operation was stopped (R276) -/
  blk : Bool := false
  /-- what the fault writes into TR_LAST_WPA (R349) -/
  wpa : Option W64 := none
deriving DecidableEq, Repr

/-- The words of the instructions that can raise an exception that records them, from the formats (R238). -/
def encR (op d a b fn : Nat) : W32 := BitVec.ofNat 32 (op * 2 ^ 26 + d * 2 ^ 21 + a * 2 ^ 16 + b * 2 ^ 11 + fn)
/-- Format R5. -/
def encR5 (op d a b c fn6 : Nat) : W32 := encR op d a b (c * 64 + fn6)
/-- Format I. -/
def encI (op d a imm : Nat) : W32 := BitVec.ofNat 32 (op * 2 ^ 26 + d * 2 ^ 21 + a * 2 ^ 16 + imm)

/-! ### The context of a core -/

/-- The bank of the world in which the core runs. -/
def CoreSt.here (c : CoreSt) : Bank := c.bank c.sealed

/-- The core's station, and its unit within the tile, as a requester in its world (R310, R517). -/
def State.coreReq (s : State) (k : CoreId) : Requester := ⟨k.val / 2, k.val % 2, (s.core k).sealed, (s.core k).sup⟩

/-- The core moves to a world: the predictor is flushed at a change, and the device holds the Sealed vote on the tile while the core is Sealed (R218, R292, R334). -/
def State.toWorld (s : State) (k : CoreId) (w : Bool) : State :=
  if (s.core k).sealed == w then s
  else
    let s := (s.setCore k ((s.core k).evSync s.coreCycles)).evDraw k
    (s.setCore k (({ s.core k with sealed := w, lastSealed := w, pred := {} } : CoreSt).ev 0x08 1)).sealTile k w

/-! ### Entry (R292) -/

/-- ESTAT of the context being left (R295). -/
def CoreSt.estat (c : CoreSt) (cause sub olvl : Nat) (blk : Bool) : W64 :=
  BitVec.ofNat 64 (cause % 256 + sub % 256 * 256 + c.here.ml.toNat * 2 ^ 16 + c.here.act.toNat * 2 ^ 20 +
    bitIf c.sealed 24 + bitIf c.sup 25 + bitIf blk 26 + olvl % 16 * 2 ^ 27)

/-- The bank of the world entered, as entry at a level leaves it. -/
def Bank.enter (b : Bank) (lvl : Nat) (epc estat eaddr : W64) : Bank :=
  { b with
    epc := assocSet b.epc lvl (putBits epc 0 2 0)
    estat := assocSet b.estat lvl estat
    eaddr := assocSet b.eaddr lvl eaddr
    act := BitVec.ofNat 4 lvl
    ml := BitVec.ofNat 4 lvl }

/-- Entry at a level into a world: the bank written, ACT and ML at the level, supervisor privilege, the PC at the vector (R292). -/
def State.enter (s : State) (k : CoreId) (w : Bool) (lvl cause sub olvl : Nat) (epc eaddr : W64) (blk : Bool) : State :=
  let c := s.core k
  let b := (c.bank w).enter lvl epc (c.estat cause sub olvl blk) eaddr
  let s := s.setCore k { c.setBank w b with sup := true, blkWait := false, frzAt := none, pc := b.evec + BitVec.ofNat 64 (0x80 * lvl) }
  s.toWorld k w

/-- The task field of a record about a core's task: 0xFFFF for a Sealed task (R308). -/
def CoreSt.taskField (c : CoreSt) : Nat := if c.taskSealed then 0xffff else c.task.val

/-- The core halts (R304): nothing is written to a bank, and Hive removes the core. -/
def State.coreHalt (s : State) (k : CoreId) (cause level : Nat) (pc : W64) : State :=
  let c := s.core k
  let secret := c.taskSealed || c.sealed
  let base (task pcv : Nat) : BitVec 96 := payloadOf [(0, 1, cause), (1, 1, level), (2, 2, task), (4, 6, pcv), (10, 2, k.val)]
  let s := s.jlogFull s.now (coreStation k) (k.val % 2) 0x0901
    (base c.taskField (if secret then 0 else bitsAt pc 0 48))
    (if secret then some (base c.task.val (bitsAt pc 0 48)) else none)
  let s := s.setCore k { c with run := .halted }
  (s.bookAdd 7 k.val 0 0).hiveHalt k

/-- ESCALATE (R303, R308). -/
def State.escalateLog (s : State) (k : CoreId) (e : Exc) : State :=
  let c := s.core k
  let secret := c.taskSealed || c.sealed
  let base (task pcv : Nat) : BitVec 96 := payloadOf
    [(0, 1, e.cause), (1, 1, e.level), (2, 1, c.here.ml.toNat), (3, 1, b2n c.sealed + bitIf c.sup 1), (4, 6, pcv), (10, 2, task)]
  s.jlogFull s.now (coreStation k) (k.val % 2) 0x0900
    (base c.taskField (if secret then 0 else bitsAt e.epc 0 48))
    (if secret then some (base c.task.val (bitsAt e.epc 0 48)) else none)

/-- A synchronous exception with no interrupt ahead of it: taken at its level, escalated, or halting the core (R289, R303, R304). -/
def State.take (s : State) (k : CoreId) (e : Exc) : State :=
  let s := match e.wpa with
    | some v => s.setCore k ((s.core k).setTr (s.core k).sealed { (s.core k).tr (s.core k).sealed with lastWpa := v })
    | none => s
  let c := s.core k
  if c.here.act = 15 then s.coreHalt k e.cause e.level e.epc
  else if c.here.ml.toNat < e.level then
    (s.setCore k (c.ev 0x1f 1)).enter k c.sealed e.level e.cause e.sub 0 e.epc e.eaddr e.blk
  else
    let s := s.escalateLog k e
    (s.setCore k ((s.core k).ev 0x21 1)).enter k c.sealed 15 0x10 e.cause e.level e.epc e.eaddr e.blk

/-! ### Interrupts (R296 to R302) -/

/-- Source n of the core's interrupt controller is asserted (R296). -/
def State.srcPend (s : State) (k : CoreId) (n : Nat) : Bool :=
  let c := s.core k
  if n = 0 then c.tmr != 0 && stampLe c.tmr s.now
  else if n = 1 then c.counterIrq
  else if n = 2 then c.doorbell
  else if 32 ≤ n ∧ n < 184 then s.blockIrq (n - 32)
  else false

/-- IC_EN: the source is enabled on the core. -/
def CoreSt.srcOn (c : CoreSt) (n : Nat) : Bool := bitAt (c.icEn.toList.getD (n / 64) 0) (n % 64)

/-- IC_LVL: the level of a source on the core. -/
def CoreSt.srcLevel (c : CoreSt) (n : Nat) : Nat := bitsAt (c.icLvl.toList.getD (n / 16) 0) (4 * (n % 16)) 4

/-- A pending enabled source that the core can take in the context it runs (R288, R298 to R300). -/
def State.takeable (s : State) (k : CoreId) (n : Nat) : Bool :=
  let c := s.core k
  c.srcOn n && c.srcLevel n != 0 &&
    (if s.srcSealed n then (if c.sealed then decide (c.bankS.ml.toNat < c.srcLevel n) else true)
     else !c.sealed && decide (c.bankO.ml.toNat < c.srcLevel n)) &&
    s.srcPend k n

/-- The better of two sources: the higher level, then the lower number (R298). -/
def bestSource (c : CoreSt) : List Nat → Option Nat
  | [] => none
  | n :: r =>
    match bestSource c r with
    | none => some n
    | some m => if c.srcLevel n < c.srcLevel m then some m else some n

/-- The sources an interrupt controller has (R296). -/
def allSources : List Nat := [0, 1, 2] ++ rangeFrom 32 152

/-- The interrupt that the core takes next (R298). -/
def State.nextIrq (s : State) (k : CoreId) : Option Nat :=
  if (s.core k).run != .running then none
  else bestSource (s.core k) (allSources.filter (s.takeable k))

/-- Entry for an interrupt at the boundary before the instruction at the PC; the entry that takes DOORBELL clears it (R291, R298 to R300). -/
def State.irqEntry (s : State) (k : CoreId) (n : Nat) (blk : Bool) : State :=
  let c := s.core k
  let c := if n = 2 then { c with doorbell := false } else c
  (s.setCore k (c.ev 0x20 1)).enter k (s.srcSealed n) (c.srcLevel n) 0x20 n 0 c.pc 0 blk

/-- The interrupt that goes ahead of a synchronous entry at a level: the one taken next, where its level is higher (R291). -/
def State.irqFirst (s : State) (k : CoreId) (lvl : Nat) : Option Nat := (s.nextIrq k).filter (fun n => decide (lvl < (s.core k).srcLevel n))

/-- The level at which a synchronous exception of a level is taken (R289). -/
def CoreSt.excLevel (c : CoreSt) (lvl : Nat) : Nat := if c.here.ml.toNat < lvl then lvl else 15

/-- A synchronous exception at retirement: an interrupt of a higher level at the same boundary goes first (R291). -/
def State.raise (s : State) (k : CoreId) (e : Exc) : State :=
  match s.irqFirst k ((s.core k).excLevel e.level) with
  | some n => s.irqEntry k n e.blk
  | none => s.take k e

/-- INTERRUPT_ENTRY: the core takes the highest takeable interrupt (R298); a block operation that waits between granules is stopped by it (R276, R277). -/
def interruptEntry (k : CoreId) (s : State) : State :=
  let s := (s.setCore k ((s.core k).evSync s.coreCycles)).evDraw k
  match s.nextIrq k with
  | some n => s.irqEntry k n (s.core k).blkWait
  | none => s

/-- TIMER_SOURCE: the timebase reaches IC_TMR, so source TIMER is asserted (R296). -/
def timerSource (k : CoreId) (s : State) : State := if (s.core k).tmr = 0 then s else s.advanceTo (s.core k).tmr

/-- A write of IC_DOOR from a core in a world: raises DOORBELL on the named core, unless that source is Sealed and the writer is not (R302). -/
def State.ringDoor (s : State) (fromSealed : Bool) (v : W64) : State :=
  let n := bitsAt v 0 8
  if 144 ≤ n || (s.srcSealed 2 && !fromSealed) then s
  else s.setCore (coreOf n) { s.core (coreOf n) with doorbell := true }

/-- DOORBELL: a supervisor's SYSW to IC_DOOR reaches the named core (R302). -/
def doorbellWrite (k : CoreId) (n : W64) (s : State) : State :=
  if (s.core k).run == .running && (s.core k).sup then s.ringDoor (s.core k).sealed n else s

/-! ### Return (R305 to R307, R301, R323) -/

/-- Why an ERET of the core is illegal: 0 where it is legal (R305). -/
def CoreSt.eretCause (c : CoreSt) : Nat :=
  let b := c.here
  let e := assocD b.estat b.act.toNat 0
  let pml := bitsAt e 16 4
  let pact := bitsAt e 20 4
  let pworld := bitAt e 24
  let ppriv := bitAt e 25
  if !c.sealed && pworld then 1
  else if (ppriv && pact == 0) || (!ppriv && pact != 0) then 2
  else if pworld == c.sealed && (b.act.toNat ≤ pact || pml < pact) then 3
  else 0

/-- A legal ERET (R307, R323); one to the user level of a task whose stop is pending stops it (R301). -/
def State.eretLegal (s : State) (k : CoreId) : State :=
  let c := s.core k
  let b := c.here
  let e := assocD b.estat b.act.toNat 0
  let pc := assocD b.epc b.act.toNat 0
  let w := bitAt e 24
  let c := c.setBank c.sealed { b with irf := false }
  let c := if c.sealed && !w then { c with bankS := { c.bankS with act := 0, ml := 0 } } else c
  let t := c.bank w
  let c := c.setBank w { t with act := BitVec.ofNat 4 (bitsAt e 20 4), ml := BitVec.ofNat 4 (bitsAt e 16 4) }
  let s := (s.setCore k { c with pc := pc, sup := bitAt e 25 }).toWorld k w
  let task := (s.core k).task
  if (s.core k).taskLevel && (s.rt task).stopPending && (match (s.rt task).run with | some r => r.1 == k | none => false) then
    s.takeOff task .abort
  else s

/-- ERET at supervisor level: legal, or ILLEGAL_RETURN at the current level, level 15 included: no bank register is written, IRF and IRC are set, and the core fetches at EVEC (R305 to R307). DEDUCED: R306 ranges over every level, and the chapter counts it apart from the synchronous exceptions that R304 halts on. -/
def State.eret (s : State) (k : CoreId) : State :=
  let c := s.core k
  match c.eretCause with
  | 0 => s.eretLegal k
  | n => s.setCore k { c.setBank c.sealed { c.here with irf := true, irc := BitVec.ofNat 3 n } with pc := c.here.evec }

/-! ### World calls (R321, R322) -/

/-- Why a WCALL is refused: 0 where it is accepted (R321; WCALL_REFUSE of R335). -/
def State.wcallCause (s : State) (k : CoreId) (x : W64) : Nat :=
  let c := s.core k
  let g := s.rd (R.WD_GATE (bitsAt x 0 6))
  if c.sealed then 4
  else if 64 ≤ x.toNat then 1
  else if !bitAt g 0 then 2
  else if (if c.sup then bitAt g 2 else bitAt g 1) then 0
  else 3

/-- The record of a refused WCALL. -/
def State.wcallLog (s : State) (k : CoreId) (x : W64) (reason : Nat) : State :=
  let c := s.core k
  let secret := c.taskSealed || c.sealed
  let base (task pcv : Nat) : BitVec 96 := payloadOf
    [(0, 1, if 255 < x.toNat then 255 else x.toNat), (1, 1, reason), (2, 2, k.val), (4, 6, pcv), (10, 2, task)]
  s.jlogFull s.now 104 0 0x0a00
    (base c.task.val (if secret then 0 else bitsAt c.pc 0 48))
    (if secret then some (base c.task.val (bitsAt c.pc 0 48)) else none)

/-- WCALL of gate x: entry into SS at level 9, or refused with PRIVILEGE (R321, R322). An interrupt of a higher level at the same boundary goes first, and the WCALL has then done nothing (R291). -/
def State.wcall (s : State) (k : CoreId) (x : W64) (w : W32) : State :=
  let c := s.core k
  let reason := s.wcallCause k x
  match s.irqFirst k (if reason = 0 then 9 else c.excLevel 12) with
  | some n => s.irqEntry k n false
  | none =>
    if reason = 0 then (s.setCore k (c.ev 0x1f 1)).enter k true 9 0x0c (s.fld (R.WD_GATE x.toNat) 8 8) 0 (c.pc + 4) x false
    else ((s.flag R.WD_STATUS 2).wcallLog k x reason).take k { cause := 0x02, level := 12, sub := 0, eaddr := w.zeroExtend 64, epc := c.pc }

def execInterruptEntry (k : CoreId) (s : State) : Host.Outcome State Fault Refusal := .next (s.awake (interruptEntry k))
def execTimerSource (k : CoreId) (s : State) : Host.Outcome State Fault Refusal := .next (timerSource k s)
def execDoorbell (k : CoreId) (n : W64) (s : State) : Host.Outcome State Fault Refusal := .next (doorbellWrite k n s)

end Sys2Proof.Machine
end

