-- ==== Sys2Proof/Machine/Slot.lean ====
section
/-! DEFINITION. A slot at a station: ejection, turns, deflection, the escape register, HOLD, and the injection of local packets under the regulators, with the sampler (R399 to R402, R408). -/

namespace Sys2Proof.Machine

/-! ### Slots sent on (R401, R407) -/

/-- The key of a station's ring direction. -/
def passKey (x : RingPass) : Nat := 2 * x.pos.val + b2n x.dir

/-- HOLD at the station of a pass. -/
def State.holdSt (s : State) (x : RingPass) : HoldSt := assocD (s.rg x.ring.val).holds (passKey x) {}

/-- The escape register of the station for a ring direction is full. -/
def State.escFull (s : State) (x : RingPass) : Bool := (assoc? (s.rg x.ring.val).esc (passKey x)).isSome

/-- Slots that pass a station in one lap of its ring direction: one in each ring cycle on each lane in use (R393). -/
def State.lapSlots (s : State) (x : RingPass) : Nat :=
  ringLen x.ring.val * countIf (fun i => bitAt ((s.rg x.ring.val).dir x.dir).inUse i) (List.range 3)

/-- HOLD of the slot as it is sent on: set while the escape register is full, else as it came.
DESIGN CHOICE (log entry 37): the spec names no one who takes HOLD off; a station whose escape register has emptied does so for one lap. -/
def State.holdOut (s : State) (x : RingPass) : Bool := s.escFull x || (x.hold && (s.holdSt x).clear == 0)

/-- What the pass leaves of HOLD at the station. -/
def State.holdNext (s : State) (x : RingPass) : State :=
  let h := s.holdSt x
  let lap := s.lapSlots x
  let h' : HoldSt := { quiet := if s.holdOut x then lap else h.quiet - 1, clear := if s.escFull x then lap else h.clear - 1 }
  if h' = h then s
  else
    let g := s.rg x.ring.val
    s.setRg x.ring.val { g with holds := if h' = {} then assocDel g.holds (passKey x) else assocSet g.holds (passKey x) h' }

/-- The slot leaves the station with what it holds. -/
def State.sendOn (s : State) (x : RingPass) (p : Packet) : State :=
  let hold := s.holdOut x
  let s := s.holdNext x
  { s with ring := { s.ring with sent := ({ ring := x.ring, pos := x.pos.val, dir := x.dir, lane := x.lane, hold := hold, pkt := p } : RingHop) :: s.ring.sent } }

/-- A packet goes on from the station: the probes of the link see it (R407). -/
def State.hopOn (s : State) (x : RingPass) (p : Packet) : State :=
  let y := (List.range 4).foldl (fun (acc : Packet × State) k => acc.2.probeSee x.ring.val k x.pos.val x.lane.val x.dir acc.1) (p, s)
  y.2.sendOn x y.1

/-- An empty slot goes on. A slot that a station has emptied is not used again at that station (DESIGN CHOICE, log entry 37). -/
def State.emptyOn (s : State) (x : RingPass) : State := s.sendOn x { x.pkt with type := 0 }

/-! ### Leaving the ring (R400, R401) -/

/-- The controller that a station's unit is (R392): MEMC 0 to 7 at the west ends, MEMC 8 to 12 at the north ends. -/
def memcAt (st : Nat) : Option Nat := if 72 ≤ st ∧ st < 80 then some (st - 72) else if 88 ≤ st ∧ st < 93 then some (st - 80) else none

/-- The unit at a station has a free input entry for the slot: never a controller whose input entry holds a write that waits (R425). -/
def State.unitRoom (s : State) (st : Nat) (x : RingPass) : Bool :=
  x.room && (match memcAt st with | some ch => (s.memc ch).input.isNone | none => true)

/-- A packet is ejected at its destination, which checks its payload (R397, R405).
What the message does is the command of that message: DESIGN CHOICE (log entry 37). -/
def State.eject (s : State) (x : RingPass) : State :=
  let s := s.payErr x
  { s with ring := { s.ring with ejected := (x.pkt, x.pay.val == 2) :: s.ring.ejected } }

/-- A packet that cannot leave its ring laps it again (R400). -/
def State.deflect (s : State) (x : RingPass) : State :=
  let r := x.ring.val
  let laps := min 15 (x.pkt.laps.val + 1)
  let p := { x.pkt with laps := ⟨laps, by omega⟩ }
  let s := s.bump (R.CNT_DEFLECT r)
  let late := !p.prio && decide (s.fld (R.RG_CTL r) 0 4 ≤ laps)
  let s := if late then s.bump (R.CNT_PRIO r) else s
  s.hopOn x { p with prio := p.prio || late }

/-- The direction of a leg: the header's, or the other one of a ring whose direction is down (R406). -/
def State.legDir (s : State) (r : Nat) (p : Packet) (leg : Nat) : Bool := bitAt p.dirs leg != ((s.rg r).dir (bitAt p.dirs leg)).down

/-- A packet at the end of a leg (R397, R400, R401): it turns onto the empty slot of an active lane that passes on its next ring, unless the escape register or another packet takes that slot; a PRIO packet that cannot turn moves into the escape register. -/
def State.turn (s : State) (x : RingPass) (nr : Nat) (np : Nat) : State :=
  let leg := x.pkt.leg.val + 1
  let dir := s.legDir nr x.pkt leg
  let p := { x.pkt with leg := ⟨leg % 4, Nat.mod_lt _ (by decide)⟩, laps := 0 }
  let key := 2 * np + b2n dir
  let slot := key * 4 + x.nlane.val
  let g := s.rg nr
  if x.room && bitAt (g.dir dir).inUse x.nlane.val && (assoc? g.esc key).isNone && (assoc? g.turning slot).isNone then
    (s.setRg nr { g with turning := assocSet g.turning slot p }).emptyOn x
  else if x.pkt.prio && (assoc? g.esc key).isNone then (s.setRg nr { g with esc := assocSet g.esc key p }).emptyOn x
  else s.deflect x

/-! ### Local packets (R397, R399, R402, R408) -/

/-- The traffic class of a message type (R402). -/
def classOfType (t : Nat) : Fin 4 :=
  if (11 ≤ t ∧ t ≤ 14) ∨ t = 16 ∨ (18 ≤ t ∧ t ≤ 21) ∨ t = 24 then 0
  else if t ≤ 10 ∨ t = 15 ∨ t = 17 then 1
  else if t = 29 then 3 else 2

/-- A packet as its source station sends it: the route comes from the route table, and the class from the type (R397, R402). -/
def State.routed (s : State) (st : Nat) (p : Packet) : Packet :=
  let w := s.route st p.dst.val
  { p with
    src := ⟨st % 256, Nat.mod_lt _ (by decide)⟩, first := bitAt w 0, dirs := BitVec.ofNat 3 (bitsAt w 1 3)
    via := ⟨bitsAt w 4 4 % 16, Nat.mod_lt _ (by decide)⟩, leg := 0, cls := classOfType p.type.val, laps := 0, prio := false, trace := false }

/-- A packet handed over by the station's unit waits at its source. One without a route, or of a type that is never sent, is none (R396, R398). -/
def State.offered (s : State) (st : Nat) : Option Packet → State
  | some p =>
    if bitAt (s.route st p.dst.val) 8 && decide (1 ≤ p.type.val ∧ p.type.val < 30) then
      { s with ring := { s.ring with waiting := s.ring.waiting ++ [s.routed st p] } }
    else s
  | none => s

/-- The regulator of a station lets a packet of a class through (R402). -/
def State.tokenFor (s : State) (st : Nat) (cls : Nat) : Bool :=
  let g := s.regulator st cls
  cls == 0 || !g.en || decide (2048 ≤ (g.fill s.now).tokens)

/-- The packet takes its token. -/
def State.tokenTake (s : State) (st : Nat) (cls : Nat) : State :=
  let g := s.regulator st cls
  if cls = 0 ∨ !g.en then s
  else
    let g := g.fill s.now
    { s with ring := { s.ring with regl := assocSet s.ring.regl (st * 4 + cls) { g with tokens := g.tokens - 2048 } } }

/-- The sampler of a ring block counts a request packet of the Open world by berth and by home slice (R408, R103). -/
def State.sample (s : State) (r line slice : Nat) (isSealed : Bool) : State :=
  let g := s.rg r
  let b := line / 32768
  if isSealed then s
  else s.setRg r { g with
    byBerth := if line * 64 < 2 ^ 44 then assocSet g.byBerth b (assocD g.byBerth b 0 + 1) else g.byBerth
    bySlice := if slice < 72 then assocSet g.bySlice slice (assocD g.bySlice slice 0 + 1) else g.bySlice }

/-- The sampler sees a packet that enters its ring: each request packet counts once, in the block of its leg 0 (DESIGN CHOICE, log entry 37). -/
def State.sampled (s : State) (r : Nat) (p : Packet) : State :=
  if 1 ≤ p.type.val ∧ p.type.val ≤ 7 then s.sample r p.addr.toNat p.dst.val p.sealed else s

/-- A waiting packet may enter the slot of a pass (R399): its leg 0 takes this ring in this direction, and its regulator has a token. -/
def State.fits (s : State) (x : RingPass) (p : Packet) : Bool :=
  let st := stationAt x.ring.val x.pos.val
  p.src.val == st && ringFor p.first st == some x.ring.val && s.legDir x.ring.val p 0 == x.dir && s.tokenFor st p.cls.val

/-- An empty slot at a station (R399, R401): the escape register takes it first, then a turning packet, then the oldest local packet that fits, on an active lane and where HOLD does not forbid it. -/
def State.emptySlot (s : State) (x : RingPass) : State :=
  let r := x.ring.val
  let g := s.rg r
  match assoc? g.esc (passKey x) with
  | some p =>
    (s.setRg r { g with esc := assocDel g.esc (passKey x) }).hopOn x p
  | none =>
    match assoc? g.turning (passKey x * 4 + x.lane.val) with
    | some p => (s.setRg r { g with turning := assocDel g.turning (passKey x * 4 + x.lane.val) }).hopOn x p
    | none =>
      if !bitAt (g.dir x.dir).inUse x.lane.val || s.holdOut x || (s.holdSt x).quiet != 0 then s.emptyOn x
      else match s.ring.waiting.find? (s.fits x) with
        | none => s.emptyOn x
        | some p =>
          (({ s with ring := { s.ring with waiting := s.ring.waiting.erase p } }.tokenTake (stationAt r x.pos.val) p.cls.val).sampled r p).hopOn x p

/-! ### A pass (R400) -/

/-- A slot with a packet at a station. -/
def State.fullSlot (s : State) (x : RingPass) : State :=
  let st := stationAt x.ring.val x.pos.val
  if x.pkt.dst.val = st then (if s.unitRoom st x || x.pkt.prio then (s.eject x).emptyOn x else s.deflect x)
  else if hasNextLeg x.pkt then
    match nextRing x.pkt with
    | none => s.hopOn x x.pkt
    | some nr =>
      match posOn nr st with
      | some np => s.turn x nr np
      | none => s.hopOn x x.pkt
  else s.hopOn x x.pkt

/-- RING_PASS (R396, R400, R404): a slot passes a station, which drops and counts a type never sent. -/
def ringPass (x : RingPass) (s : State) : State :=
  if ringLen x.ring.val ≤ x.pos.val then s
  else
    let s := s.offered (stationAt x.ring.val x.pos.val) x.offer
    if x.hpar then (s.hparDrop x).emptyOn x
    else if x.pkt.type.val = 0 then s.emptySlot x
    else if 30 ≤ x.pkt.type.val then (s.bump (R.CNT_HPAR x.ring.val)).emptyOn x
    else s.fullSlot x

/-- RING_PASS (R400). -/
def execRingPass (x : RingPass) (s : State) : Host.Outcome State Fault Refusal := .next (s.awake (ringPass x))

end Sys2Proof.Machine
end

