-- ==== Sys2Proof/Machine/CoreLine.lean ====
section
/-! DEFINITION. What a step of a core's instruction answers, and its accesses to lines of DRAM: the private caches and what a store does to them (R221, R226, R361 to R366, R384). -/

namespace Sys2Proof.Machine

/-! ### Answers -/

/-- What a part of an instruction answers: a value, an exception, or that the instruction waits with the state as it is. -/
inductive MRes (α : Type) where
  | ok (v : α) (s : State)
  | exc (e : Exc) (s : State)
  | wait (s : State)

/-- Goes on with the value, where there is one. -/
def MRes.andThen {α β : Type} (r : MRes α) (f : α → State → MRes β) : MRes β :=
  match r with
  | .ok v s => f v s
  | .exc e s => .exc e s
  | .wait s => .wait s

/-- An exception of the instruction at the PC (R290). -/
def State.excAt (s : State) (k : CoreId) (cause level sub : Nat) (eaddr : W64) : Exc :=
  { cause := cause, level := level, sub := sub, eaddr := eaddr, epc := (s.core k).pc }

/-- Data that is poisoned gives MACHINE_CHECK to the instruction that consumes it (R426). -/
def State.consume {α : Type} (s : State) (k : CoreId) (pa poison : Nat) (v : α) : MRes α :=
  if poison = 0 then .ok v s else .exc (s.excAt k 0x0f 14 poison (BitVec.ofNat 64 pa)) s

/-- A core's request to a home on another tile travels as a request packet, which the sampler of its leg-0 ring counts (R370, R408). -/
def State.asks (s : State) (k : CoreId) (line : Nat) : State :=
  let st := k.val / 2
  let h := (s.homeOf line).val
  if st = h then s
  else match ringFor (bitAt (s.route st h) 0) st with
    | some r => s.sample r line h (s.core k).sealed
    | none => s

/-! ### Loads of a line (R361, R366, R384) -/

/-- A line through the L2: a hit, a fill, or RD_NA where the level is disabled (R361, R366, R384). A fetch asks for a shared grant (R372). A home that cannot take the request NACKs it (R375). -/
def State.lineL2 (s : State) (k : CoreId) (line : Nat) (fetch : Bool) : MRes (Line × Nat) :=
  if (s.ebFind k line).any (·.sent) then .wait s
  else
    let s := s.recall k line
    match s.l2Find k line with
    | some x => .ok (x.data, x.poison) (s.l2Touch k line x.way)
    | none =>
      let on := (s.core k).cacheOn.2
      if s.lineBlocked line then .wait (s.coreNack k line (if on then .rdS else .rdNa) false fetch)
      else if !on then
        let r := (s.asks k line).cohRdNa line
        .ok r.1 ((r.2.mshrDrop k line).memNotes.count k 0x14 1)
      else if s.ebFull k then .wait s
      else match (s.asks k line).cohRdS k line fetch true with
        | some r => .ok r.1 ((r.2.memNotes.count k 0x14 1).count k (s.fillEvent k line) 1)
        | none => .wait s

/-- A line for a load under a policy that looks up the caches. -/
def State.lineCached (s : State) (k : CoreId) (line : Nat) : MRes (Line × Nat) :=
  (s.lineL2 k line false).andThen fun r t => .ok r ((t.l1Maybe k line).count k 0x13 (b2n (s.l1Misses k line)))

/-- A line read at its home, for an uncached or device-ordered access (R361, R362). -/
def State.lineHome (s : State) (k : CoreId) (line : Nat) : MRes (Line × Nat) :=
  if s.lineBlocked line then .wait (s.coreNack k line .rdNa false false)
  else
    let r := (s.asks k line).cohRdNa line
    .ok r.1 (r.2.mshrDrop k line).memNotes

/-- A policy that performs each access exactly once (R260). -/
def Policy.single (p : Policy) : Bool := p == .unc || p == .dev

/-- A line of DRAM for a load under a policy (R361, R362). -/
def State.lineLoad (s : State) (k : CoreId) (line : Nat) (pol : Policy) : MRes (Line × Nat) :=
  if pol.single then s.lineHome k line else s.lineCached k line

/-- n bytes of DRAM within one line, as a number; poisoned data is not consumed. -/
def State.dramBytes (s : State) (k : CoreId) (pa n : Nat) (pol : Policy) : MRes Nat :=
  (s.lineLoad k (pa / 64) pol).andThen fun r s => s.consume k pa r.2 (lineNum r.1 (pa % 64) n)

/-! ### The L1I (R226, R227, R359, R360) -/

/-- The L1I set of a line. -/
def l1iSet (line : Nat) : Nat := line % 256

/-- Marks an access to a way of an L1I set. -/
def CoreCache.l1iTouch (c : CoreCache) (line w : Nat) : CoreCache :=
  { c with plruI := assocSet c.plruI (l1iSet line) (plruTouch 2 (assocD c.plruI (l1iSet line) 0) w) }

/-- Fills a line into an L1I, in place of a victim of its set. -/
def State.l1iFill (s : State) (k : CoreId) (line poison : Nat) : State :=
  let c := s.cc k
  let mine := c.l1i.filter (fun x => l1iSet x.line == l1iSet line)
  match plruVictim 2 (assocD c.plruI (l1iSet line) 0) (mine.map (·.way)) (fun _ => true) with
  | none => s
  | some w =>
    let keep := c.l1i.filter (fun x => !(l1iSet x.line == l1iSet line && x.way == w))
    s.setCc k (({ c with l1i := ⟨line, w, poison⟩ :: keep } : CoreCache).l1iTouch line w)

/-- The line of a fetch, as the SUB of its poison: from the L1I, or filled from the L2; an uncached one is read at its home (R227, R359, R361). -/
def State.fetchLine (s : State) (k : CoreId) (line : Nat) (pol : Policy) : MRes Nat :=
  if pol.single then (s.lineHome k line).andThen fun r s => .ok r.2 s
  else match (s.cc k).l1i.find? (fun x => x.line == line) with
    | some x => .ok x.poison (s.setCc k ((s.cc k).l1iTouch line x.way))
    | none => (s.lineL2 k line true).andThen fun r s => .ok r.2 ((s.l1iFill k line r.2).count k 0x12 1)

/-- A store of the core to a line that its L1I holds invalidates that line there (R226). -/
def State.l1iDrop (s : State) (k : CoreId) (line : Nat) : State :=
  s.setCc k { s.cc k with l1i := (s.cc k).l1i.filter (fun x => x.line != line) }

/-! ### Stores to DRAM (R221, R361, R384) -/

/-- The bytes of a store merged into a line held as owner; a full line clears poison (R426). -/
def State.ownStore (s : State) (k : CoreId) (x : L2Line) (mask : BitVec 64) (data : Line) : State :=
  let y := { x with st := .m, data := mergeLine x.data data mask, poison := if mask = fullMask then 0 else x.poison }
  ((s.l2Set' k y).l2Touch k x.line x.way).l1Maybe k x.line

/-- A store performed at the home (R361); a copy that the requester keeps takes the bytes too, and is accessed (R360). -/
def State.homeStore (s : State) (k : CoreId) (line : Nat) (mask : BitVec 64) (data : Line) (keep alloc : Bool) : MRes Unit :=
  if s.lineBlocked line then .wait (s.coreNack k line .wrNa keep false)
  else
    let s := ((s.asks k line).cohWrNa line mask data (if keep then some k else none) alloc 0).mshrDrop k line
    match s.l2Find k line with
    | some x =>
      let s := (s.l2Set' k { x with data := mergeLine x.data data mask }).l2Touch k line x.way
      .ok () (if s.l1Misses k line then s else s.l1Fill k line)
    | none => .ok () s

/-- RD_X of a core from its start to its grant, the fill of a miss counted (R371); a home that cannot take the request NACKs it (R375). -/
def State.ownAsk (s : State) (k : CoreId) (line : Nat) (zero : Bool) : MRes L2Line :=
  if s.lineBlocked line then .wait (s.coreNack k line .rdX zero false)
  else match (s.asks k line).cohRdX k line zero true with
    | none => .wait s
    | some r =>
      let t := r.2.memNotes
      match t.l2Find k line with
      | some y => .ok y (if (s.l2Find k line).isNone then t.count k (s.fillEvent k line) 1 else t)
      | none => .wait t

/-- The line of an L2 owned: held in E or M, or asked for (R363, R371); with the eviction buffer full a miss waits (R365). -/
def State.own (s : State) (k : CoreId) (line : Nat) (zero : Bool) : MRes L2Line :=
  match s.l2Find k line with
  | some x => if x.st != .s then .ok x s else s.ownAsk k line zero
  | none => if s.ebFull k then .wait s else s.ownAsk k line zero

/-- A write-back store: the line owned, then written (R361, R363); a miss while the L2 is disabled is performed at the home (R384). -/
def State.wbStore (s : State) (k : CoreId) (line : Nat) (mask : BitVec 64) (data : Line) (zero : Bool) : MRes Unit :=
  if (s.l2Find k line).isNone && !(s.core k).cacheOn.2 then s.homeStore k line mask data false false
  else (s.own k line zero).andThen fun x s => .ok () (s.ownStore k x mask data)

/-- A store by its policy; a write-around store that hits takes the line owned first where it is shared (R371). -/
def State.policyStore (s : State) (k : CoreId) (p : StPart) (zero : Bool) : MRes Unit :=
  let line := p.pa / 64
  let mask := maskOf (p.pa % 64) (p.pa % 64 + p.bytes.length - 1)
  let data := linePut 0 (p.pa % 64) p.bytes.length (leNat p.bytes)
  match p.pol with
  | .unc | .dev => s.homeStore k line mask data false false
  | .wb => s.wbStore k line mask data zero
  | .wt => s.homeStore k line mask data true true
  | .wa =>
    match s.l2Find k line with
    | some _ => s.wbStore k line mask data false
    | none => s.homeStore k line mask data false false

/-- A committed store to a line of DRAM is performed, its misses counted and its L1I line dropped; it waits where its line's home, directory set or eviction entry makes it. -/
def State.dramOut (s : State) (k : CoreId) (p : StPart) (zero : Bool) : MRes Unit :=
  let line := p.pa / 64
  if p.pol.single then (s.policyStore k p zero).andThen fun _ s => .ok () (s.l1iDrop k line)
  else if (s.ebFind k line).any (·.sent) then .wait s
  else
    let s := s.recall k line
    (s.policyStore k p zero).andThen fun _ t =>
      .ok () (((t.count k 0x13 (b2n (s.l1Misses k line))).count k 0x14 (b2n (s.l2Find k line).isNone)).l1iDrop k line)

/-- The line of an AMO's operand (R363, R371): owned in the L2 by RD_X, whatever the new value; with the L2 disabled a miss is read at its home. -/
def State.amoLine (s : State) (k : CoreId) (line : Nat) : MRes (Line × Nat) :=
  if (s.ebFind k line).any (·.sent) then .wait s
  else
    let s := s.recall k line
    let miss := (s.l2Find k line).isNone
    if miss && !(s.core k).cacheOn.2 then (s.lineHome k line).andThen fun r s => .ok r (s.count k 0x14 1)
    else
      (s.own k line false).andThen fun x t =>
        .ok (x.data, x.poison) ((((t.l2Touch k line x.way).l1Maybe k line).count k 0x13 (b2n (s.l1Misses k line))).count k 0x14 (b2n miss))

end Sys2Proof.Machine
end

