-- ==== Sys2Proof/Machine/Xlate.lean ====
section
/-! DEFINITION. Address translation: stage 1, stage 2, the TLBs and the walk cache (chapter Address Translation). -/

namespace Sys2Proof.Machine

/-- What an access does (R343). -/
inductive Acc where
  | fetch | load | store
deriving DecidableEq, Repr

/-- What stage 2 gives: the device-physical address, and its permissions (R346). -/
structure S2Out where
  pa : Nat
  w : Bool
  x : Bool
deriving DecidableEq, Repr

/-- A translated access: its device-physical address, attribute index and policy. -/
structure Phys where
  pa : Nat
  idx : Nat
  pol : Policy
deriving DecidableEq, Repr

/-- A failure of a translation: TRANSLATION with its SUB, and what TR_LAST_WPA receives (R349). -/
def State.trFault {α : Type} (s : State) (k : CoreId) (va : W64) (stage lvl kind : Nat) (wpa : Option Nat) : MRes α :=
  let sub := stage + 2 * lvl + (if kind = 4 then 8 else 0) + 16 * kind
  let last : W64 := match wpa with
    | some a => BitVec.ofNat 64 (a % 2 ^ 46 + 2 ^ 63)
    | none => 0
  .exc { s.excAt k 0x05 11 sub va with wpa := some last } s

/-- A canonical address: bits [63:48] equal bit 47 (R339). -/
def canonical (va : W64) : Bool := bitsAt va 47 17 == 0 || bitsAt va 47 17 == 2 ^ 17 - 1

/-- A list of at most n entries with one added at the end: where it is full an entry leaves, and which one the rules leave open (log entry 57). -/
def State.capPush {α : Type} (s : State) (n : Nat) (l : List α) (x : α) : List α × State :=
  if l.length < n then (l ++ [x], s)
  else
    let r := s.free 8
    (l.eraseIdx (r.1.toNat % l.length) ++ [x], r.2)

/-- An 8 B load of a walk through the coherent L2 (R348). -/
def State.walkRead (s : State) (k : CoreId) (pa : Nat) : MRes W64 :=
  (s.lineL2 k (pa / 64) false).andThen fun r s => s.consume k pa r.2 (BitVec.ofNat 64 (lineNum r.1 (pa % 64) 8))

/-- Adds a walk-cache entry (R352). -/
def State.walkcAdd (s : State) (k : CoreId) (e : WalkC) : State :=
  let r := s.capPush 64 (s.core k).walkc e
  r.2.setCore k { r.2.core k with walkc := r.1 }

/-! ### Stage 2 (R339, R346) -/

/-- The walk-cache entry of a stage-2 granule. -/
def CoreSt.s2Cached (c : CoreSt) (w : Bool) (g : Nat) : Option W64 :=
  c.walkc.findSome? (fun e => match e with
    | .stage2 w' g' v => if w' == w && g' == g then some v else none
    | _ => none)

/-- The stage-2 entry of a granule, from the walk cache or from memory. -/
def State.s2Walk (s : State) (k : CoreId) (w : Bool) (g : Nat) : MRes W64 :=
  match (s.core k).s2Cached w g with
  | some v => .ok v s
  | none => (s.walkRead k (((s.core k).tr w).s2Base.toNat + 8 * g)).andThen fun v s =>
      .ok v (if bitAt v 0 then s.walkcAdd k (.stage2 w g v) else s)

/-- A world-physical address passes stage 2 (R339, R346): through its granule's entry, or unchanged. lvl is the stage-1 level that needs it. -/
def State.stage2 (s : State) (k : CoreId) (w : Bool) (va : W64) (lvl wpa : Nat) : MRes S2Out :=
  match rangeOf wpa with
  | .dram =>
    if wpa / 2 ^ 21 < ((s.core k).tr w).s2Limit then
      (s.s2Walk k w (wpa / 2 ^ 21)).andThen fun e s =>
        if bitAt e 0 then .ok ⟨bitsAt e 21 23 * 2 ^ 21 + wpa % 2 ^ 21, bitAt e 1, bitAt e 2⟩ s
        else s.trFault k va 1 lvl 0 (some wpa)
    else s.trFault k va 1 lvl 0 (some wpa)
  | .nothing => s.trFault k va 1 lvl 2 (some wpa)
  | _ => .ok ⟨wpa, true, true⟩ s

/-! ### Stage 1 (R341 to R345) -/

/-- The index of a level: VA bits [47:39], [38:30], [29:21], [20:12] (R341). -/
def vaIndex (va : W64) (lvl : Nat) : Nat := bitsAt va (39 - 9 * lvl) 9

/-- The VA bits that index a level and those above it. -/
def vaPrefix (va : W64) (lvl : Nat) : Nat := bitsAt va (39 - 9 * lvl) (9 * (lvl + 1))

/-- The descriptor is a table descriptor (R342). -/
def descTable (lvl : Nat) (d : W64) : Bool := decide (lvl < 3) && bitAt d 1

/-- A valid descriptor breaks the format of R342. -/
def descBad (lvl : Nat) (d : W64) : Bool :=
  bitsAt d 49 6 != 0 || bitAt d 63 ||
    (if descTable lvl d then bitsAt d 2 10 != 0 || bitsAt d 46 3 != 0
     else bitsAt d 10 2 != 0 || (!bitAt d 1 && (lvl == 0 || lvl == 3)) || (bitAt d 9 && lvl != 3) ||
       (lvl == 2 && bitsAt d 12 9 != 0) || (lvl == 1 && bitsAt d 12 18 != 0))

/-- Bits [45:12] of a descriptor as an address. -/
def descAddr (d : W64) : Nat := bitsAt d 12 34 * 4096

/-- A leaf found by a walk: its level and descriptor. -/
structure Leaf where
  lvl : Nat
  desc : W64
deriving DecidableEq, Repr

/-- Walks from a table of a level, with n levels left, to the leaf (R341, R348 step 2). -/
def State.walk (s : State) (k : CoreId) (w : Bool) (va : W64) : (n lvl table : Nat) → MRes Leaf
  | 0, lvl, table => s.trFault k va 0 lvl 3 (some table)
  | n + 1, lvl, table =>
    let a := table + 8 * vaIndex va lvl
    (s.stage2 k w va lvl a).andThen fun o s =>
      match rangeOf o.pa with
      | .dram => (s.walkRead k o.pa).andThen fun d s =>
          if !bitAt d 0 then s.trFault k va 0 lvl 0 (some a)
          else if descBad lvl d then s.trFault k va 0 lvl 3 (some a)
          else if descTable lvl d then
            (s.walkcAdd k (.table w ((s.core k).tr w).asid lvl (vaPrefix va lvl) (descAddr d))).walk k w va n (lvl + 1) (descAddr d)
          else .ok ⟨lvl, d⟩ s
      | .window => s.trFault k va 0 lvl 5 (some a)
      | _ => s.trFault k va 0 lvl 4 (some a)

/-- The walk-cache entry of a table descriptor of a level. -/
def CoreSt.tableCached (c : CoreSt) (w : Bool) (va : W64) (lvl : Nat) : Option Nat :=
  c.walkc.findSome? (fun e => match e with
    | .table w' a l p next => if w' == w && a == (c.tr w).asid && l == lvl && p == vaPrefix va lvl then some next else none
    | _ => none)

/-- A stage-1 walk, from the deepest table that the walk cache holds, or from the root. -/
def State.stage1 (s : State) (k : CoreId) (w : Bool) (va : W64) : MRes Leaf :=
  let c := s.core k
  match c.tableCached w va 2, c.tableCached w va 1, c.tableCached w va 0 with
  | some t, _, _ => s.walk k w va 1 3 t
  | _, some t, _ => s.walk k w va 2 2 t
  | _, _, some t => s.walk k w va 3 1 t
  | _, _, _ => s.walk k w va 4 0 ((c.tr w).root.toNat)

/-- The log2 size of a leaf's page: 4 KiB, 64 KiB with CH, 2 MiB or 1 GiB (R341, R344). -/
def Leaf.size (l : Leaf) : Nat := if l.lvl = 3 then (if bitAt l.desc 9 then 16 else 12) else if l.lvl = 2 then 21 else 30

/-- The world-physical address of a leaf's page (R344). -/
def Leaf.base (l : Leaf) : Nat := descAddr l.desc / 2 ^ l.size * 2 ^ l.size

/-- The TLB entry of a leaf whose output passes stage 2 as given (R352). -/
def Leaf.entry (l : Leaf) (w : Bool) (asid : W16) (va : W64) (o : S2Out) : TlbEnt :=
  let off := bitsAt va 0 l.size
  { sealed := w, asid := asid, global := bitAt l.desc 6, size := l.size, vpn := bitsAt va l.size (48 - l.size)
    out := o.pa - off, u := bitAt l.desc 2, w := bitAt l.desc 3, ux := bitAt l.desc 4, sx := bitAt l.desc 5
    af := bitAt l.desc 7, d := bitAt l.desc 8, attr := BitVec.ofNat 3 (bitsAt l.desc 46 3)
    s2w := o.w, s2x := o.x, level := l.lvl, wpa := l.base }

/-! ### TLBs (R352) -/

/-- The entry matches a lookup of a world. -/
def TlbEnt.hits (e : TlbEnt) (w : Bool) (asid : W16) (va : W64) : Bool :=
  e.sealed == w && (e.global || e.asid == asid) && e.vpn == bitsAt va e.size (48 - e.size)

/-- An entry of a page wider than a granule takes stage 2 for the granule reached; any other holds the combined result. -/
def State.entryOut (s : State) (k : CoreId) (e : TlbEnt) (va : W64) : MRes S2Out :=
  let off := bitsAt va 0 e.size
  if 21 < e.size then s.stage2 k e.sealed va e.level (e.wpa + off) else .ok ⟨e.out + off, e.s2w, e.s2x⟩ s

/-- What holds a translation: an L1 TLB, the L2 TLB, or no TLB, so that it was walked for. -/
inductive TlbHit where
  | l1 | l2 | walked
deriving DecidableEq, Repr

/-- The L1 TLB of an access: the ITLB for a fetch, else the DTLB. -/
def CoreSt.l1Tlb (c : CoreSt) (a : Acc) : List TlbEnt := if a = .fetch then c.itlb else c.dtlb

/-- The translation of an address: an entry of an L1 TLB or of the L2 TLB, or a walk. -/
def State.lookup (s : State) (k : CoreId) (va : W64) (a : Acc) : MRes (TlbEnt × S2Out × TlbHit) :=
  let c := s.core k
  let w := c.sealed
  let hit (l : List TlbEnt) : Option TlbEnt := l.find? (fun e => e.hits w (c.tr w).asid va)
  match hit (c.l1Tlb a), hit c.tlb with
  | some e, _ => (s.entryOut k e va).andThen fun o s => .ok (e, o, .l1) s
  | none, some e => (s.entryOut k e va).andThen fun o s => .ok (e, o, .l2) s
  | none, none =>
    (s.stage1 k w va).andThen fun l s =>
      (s.stage2 k w va l.lvl (l.base + bitsAt va 0 l.size)).andThen fun o s =>
        .ok (l.entry w ((s.core k).tr w).asid va o, o, .walked) s

/-- Stage-1 permission (R343). -/
def TlbEnt.allows (e : TlbEnt) (sup : Bool) (a : Acc) : Bool :=
  (sup || e.u) && (match a with
    | .fetch => if sup then e.sx else e.ux
    | .store => e.w
    | .load => true)

/-- Stage-2 permission (R348 step 5). -/
def S2Out.allows (o : S2Out) (a : Acc) : Bool :=
  match a with
  | .fetch => o.x
  | .store => o.w
  | .load => true

/-- An entry leaves the TLBs of a core (R345). -/
def State.tlbDrop (s : State) (k : CoreId) (e : TlbEnt) : State :=
  let c := s.core k
  s.setCore k { c with itlb := c.itlb.filter (· != e), dtlb := c.dtlb.filter (· != e), tlb := c.tlb.filter (· != e) }

/-- An entry is filled into the L1 TLB of an access. -/
def State.l1TlbFill (s : State) (k : CoreId) (a : Acc) (e : TlbEnt) : State :=
  let r := s.capPush 64 ((s.core k).l1Tlb a) e
  let c := r.2.core k
  r.2.setCore k (if a = .fetch then { c with itlb := r.1 } else { c with dtlb := r.1 })

/-- The L2 TLB's set of an entry. DESIGN CHOICE (log entry 57): the low bits of its page number. -/
def TlbEnt.set (e : TlbEnt) : Nat := e.vpn % 256

/-- An entry is filled into the L2 TLB, into the 8 ways of its set. -/
def State.l2TlbFill (s : State) (k : CoreId) (e : TlbEnt) : State :=
  let mine := (s.core k).tlb.filter (fun x => x.set == e.set)
  let r := s.capPush 8 mine e
  r.2.setCore k { r.2.core k with tlb := (r.2.core k).tlb.filter (fun x => x.set != e.set) ++ r.1 }

/-- A translation that an access uses is filled where it was missed: into the L1 TLB, and after a walk into the L2 TLB too; the misses and the walk are counted (R352, R525). -/
def State.tlbFill (s : State) (k : CoreId) (a : Acc) (e : TlbEnt) (held : TlbHit) : State :=
  let miss := if a = .fetch then 0x1b else 0x1c
  match held with
  | .l1 => s
  | .l2 => (s.l1TlbFill k a e).count k miss 1
  | .walked => (((s.l1TlbFill k a e).l2TlbFill k e).count k miss 1).count k 0x1d 1

/-! ### The whole translation (R348, R351, R309) -/

/-- The policy of an attribute index (R361, R390). -/
def policyAt (t : W32) (i : Nat) : Policy :=
  match bitsAt t (4 * i) 3 with
  | 0 => .wb
  | 1 => .wt
  | 2 => .wa
  | 3 => .unc
  | _ => .dev

/-- The attribute suits the range reached (R351). -/
def attrSuits (r : Range) (p : Policy) : Bool :=
  match r with
  | .dram => true
  | .window => p == .wb
  | .pcie => p == .unc || p == .dev
  | .control => p == .dev
  | .nothing => false

/-- A Sealed context reaches a sealed range (R309): the current enclave's, enclave 0's in SS, or a shared one. -/
def CoreSt.reaches (c : CoreSt) (r : SealRange) : Bool :=
  let enclave := bitsAt r.cfg 16 6
  enclave == c.encCur.toNat || (c.sup && enclave == 0) || bitAt r.cfg 22

/-- A Sealed access to a sealed range that its context does not reach. -/
def State.sealedBad (s : State) (k : CoreId) (pa : Nat) : Bool :=
  (s.core k).sealed && (match s.sealedAt pa with
    | some r => !(s.core k).reaches r
    | none => false)

/-- Steps 4 to 6 of R348, then R351 and R309, on a translation found. -/
def State.permit (s : State) (k : CoreId) (va : W64) (a : Acc) (e : TlbEnt) (o : S2Out) (held : TlbHit) : MRes Phys :=
  let c := s.core k
  let wpa := e.wpa + bitsAt va 0 e.size
  if !e.allows c.sup a then s.trFault k va 0 e.level 1 (some wpa)
  else if !o.allows a then s.trFault k va 1 e.level 1 (some wpa)
  else if !e.af then .exc (s.excAt k 0x06 10 0 va) (s.tlbDrop k e)
  else if a = .store && !e.d then .exc (s.excAt k 0x07 10 0 va) (s.tlbDrop k e)
  else
    let s := s.tlbFill k a e held
    let pol := policyAt (c.tr c.sealed).attr e.attr.toNat
    if !attrSuits (rangeOf o.pa) pol then .exc (s.excAt k 0x04 12 e.attr.toNat va) s
    else if s.sealedBad k o.pa then .exc (s.excAt k 0x0e 12 0 va) s
    else .ok ⟨o.pa, e.attr.toNat, pol⟩ s

/-- A translation of a core's access in the world it runs (R348). -/
def State.translate (s : State) (k : CoreId) (va : W64) (a : Acc) : MRes Phys :=
  if !canonical va then s.trFault k va 0 0 2 none
  else (s.lookup k va a).andThen fun r s => s.permit k va a r.1 r.2.1 r.2.2

end Sys2Proof.Machine
end

