-- ==== Sys2Proof/Machine/CoreMem.lean ====
section
/-! DEFINITION. Loads, stores, atomics and line operations of a core, over every range of device-physical addresses (chapter The SIS-64 Instruction Set; R59 to R62, R245, R260, R412, R514). -/

namespace Sys2Proof.Machine

/-! ### Pieces and alignment (R245) -/

/-- A translated piece of an access: its virtual address, translation and bytes. -/
structure Piece where
  va : W64
  ph : Phys
  n : Nat
deriving DecidableEq, Repr

/-- ALIGN at a virtual address. -/
def State.alignExc (s : State) (k : CoreId) (va : W64) : Exc := s.excAt k 0x03 12 0 va

/-- An access of n bytes must be naturally aligned under the policy: always with strict, else to uncached and device-ordered addresses, which a 16 B access never reaches (R245). -/
def misaligned (va : W64) (n : Nat) (strict : Bool) (p : Policy) : Bool :=
  (va.toNat % n != 0 && (strict || p.single)) || (n == 16 && p.single)

/-- The pieces of an access of n bytes: one, or two where it crosses a line (R225, R245); every piece is translated before any is performed. -/
def State.pieces (s : State) (k : CoreId) (va : W64) (n : Nat) (strict : Bool) (a : Acc) : MRes (List Piece) :=
  (s.translate k va a).andThen fun p s =>
    if misaligned va n strict p.pol then .exc (s.alignExc k va) s
    else
      let m := 64 - va.toNat % 64
      if n ≤ m then .ok [⟨va, p, n⟩] s
      else
        let va2 := va + BitVec.ofNat 64 m
        (s.translate k va2 a).andThen fun q s =>
          if q.pol.single then .exc (s.alignExc k va2) s
          else .ok [⟨va, p, m⟩, ⟨va2, q, n - m⟩] s

/-! ### The state window (R59 to R61, R73) -/

/-- A load of region 0 waits: by a task of the running frame, of a line of the arrays that the freeze has not yet written (R37, R80, R193). -/
def State.freezeWaits (s : State) (k : CoreId) (line : Nat) : Bool :=
  !s.bcn.frozen && (s.core k).frame == s.bcn.frame && s.inArrays line && !s.tw.mirLines.contains line

/-- The core is Open and the line's region is Sealed. -/
def State.windowHidden (s : State) (k : CoreId) (line : Nat) : Bool := !(s.core k).sealed && s.lineSealed line

/-- A load that waits for the freeze notes when it began (R37, R525). -/
def State.frzWait (s : State) (k : CoreId) : State :=
  let c := s.core k
  s.setCore k { c with frzAt := some (c.frzAt.getD s.coreCycles) }

/-- A load that waited for the freeze goes on: FREEZE_WAIT counts the core cycles that it waited (R37, R525). -/
def State.frzDone (s : State) (k : CoreId) : State :=
  match (s.core k).frzAt with
  | some t => s.setCore k (({ s.core k with frzAt := none } : CoreSt).ev 0x25 (s.coreCycles - t))
  | none => s

/-- A state line from its home, for a load that misses (R67, R73, R385): filled with its version key. Whether the home's L3 or DRAM answers is a free value for the event that counts the fill (R525, log entry 91). -/
def State.windowFill (s : State) (k : CoreId) (line : Nat) : Line × State :=
  let e := s.free 1
  let r := e.2.stRead (some ((s.core k).task, lo32 (s.core k).frame)) line
  (r.1, (((r.2.svFill k line r.1).mshrDrop k line).count k 0x14 1).count k (if e.1 = 0 then 0x15 else 0x16) 1)

/-- A committed copy filled in an earlier frame is revalidated at its first use (R385): REVAL with its key, the line settled at its home, and SAME or the new version as the answer. -/
def State.revalidate (s : State) (k : CoreId) (line : Nat) (x : L2Line) (y : StKey) : Line × State :=
  let s := (s.settle line).count k 0x26 1
  let m := s.sline line
  if m.committed == y.slot && m.tag m.committed + 1 == y.tick then
    (x.data, (s.l2Set' k { x with key := some { y with filled := s.bcn.frame } }).l2Touch k line x.way)
  else
    let r := s.stRead (some ((s.core k).task, lo32 (s.core k).frame)) line
    (r.1, r.2.svFill k line r.1)

/-- A state line for a load of the core's task (R365, R385): a copy that is the task's pending one or was filled in this frame, one that is revalidated, or one from the home. -/
def State.windowLine (s : State) (k : CoreId) (line : Nat) : MRes Line :=
  let s := (s.svLand k line).recall k line
  let t := (s.core k).task
  match (s.l2Find k line).bind (fun x => x.key.map (fun y => (x, y))) with
  | some (x, y) =>
    if y.task == some t || (y.task.isNone && y.filled == s.bcn.frame) then .ok x.data ((s.l2Touch k line x.way).l1Maybe k line)
    else if s.lineBlocked line then .wait (s.coreNack k line .rdS false false)
    else
      let r := s.revalidate k line x y
      .ok r.1 (r.2.l1Maybe k line)
  | none =>
    if s.lineBlocked line then .wait (s.coreNack k line .rdS false false)
    else if s.ebFull k && (s.core k).cacheOn.2 then .wait s
    else
      let r := s.windowFill k line
      .ok r.1 r.2

/-- n bytes of the state window for a load of the core's task: region 0 waits for the freeze (R37), a rehomed class for its drain (R369), and another world's region reads 0. -/
def State.windowLoad (s : State) (k : CoreId) (p : Piece) : MRes Nat :=
  let line := p.ph.pa / 64
  match s.regionOf line with
  | none => .exc (s.excAt k 0x08 11 0xff p.va) s
  | some r =>
    if s.windowHidden k line then .ok 0 s
    else if r = 0 ∧ s.freezeWaits k line then .wait (s.frzWait k)
    else (((s.frzDone k).windowLine k line).andThen fun d t =>
      .ok (lineNum d (p.ph.pa % 64) p.n) (t.count k 0x13 (b2n (s.l1Misses k line))))

/-- The checks of a store to the state window (R59, R61). -/
def State.windowCheck (s : State) (k : CoreId) (p : Piece) : Option Exc :=
  match s.regionOf (p.ph.pa / 64) with
  | none => some (s.excAt k 0x08 11 0xff p.va)
  | some r => if s.windowHidden k (p.ph.pa / 64) || s.regTaskWr r then none else some (s.excAt k 0x09 11 r p.va)

/-- Bytes of a line written by the core's task in its frame (R74 to R77). -/
def State.windowStore (s : State) (k : CoreId) (p : StPart) : State :=
  let r := s.windowPut k p
  r.2.fullStops r.1

/-! ### PCIe windows and control space (R314, R446, R514) -/

/-- The half that owns an address of the PCIe windows (R446). -/
def halfOf (pa : Nat) : Nat := (pa - 0x200000000000) / 2 ^ 41
/-- The offset within its window. -/
def halfOff (pa : Nat) : Nat := (pa - 0x200000000000) % 2 ^ 41

/-- Sends an access through a window below the half's root port (R446): below offset 0x1000_0000 as a configuration request, else as a memory request.
A half that is not used sends nothing (R445), and an access to bus 0, the root port itself, goes no further. -/
def State.outbound (s : State) (pa : Nat) (config memory : PcieMsg) : State :=
  let o := halfOff pa
  if !s.halfOn (halfOf pa) || decide (o < 0x100000) then s
  else s.pcieSend (if o < 0x10000000 then config else memory)

/-- A read through a root port: what lies below it, and a register of the port itself, answers a free value; an Open request to a Sealed half reads 0.
DESIGN CHOICE (log entry 92): the read of a half that is not used is a free value too. -/
def State.pcieLoad (s : State) (k : CoreId) (pa n : Nat) : MRes Nat :=
  let h := halfOf pa
  if s.pcieSealed h && !(s.core k).sealed then .ok 0 s
  else
    let r := s.free 64
    .ok (r.1.toNat % 2 ^ (8 * n)) (r.2.outbound pa (.configRead h (halfOff pa) n) (.read h (halfOff pa) n))

/-- A write through a root port, from a world. -/
def State.pcieStore (s : State) (sealed : Bool) (p : StPart) : State :=
  let h := halfOf p.pa
  if s.pcieSealed h && !sealed then s
  else s.outbound p.pa (.configWrite h (halfOff p.pa) p.bytes) (.write h (halfOff p.pa) p.bytes)

/-- The block and the offset of a control-space address (R392, R513). -/
def ctlBlock (pa : Nat) : Nat := (pa - 0x3e0000000000) / 0x10000
/-- The offset in its block. -/
def ctlAt (pa : Nat) : Nat := (pa - 0x3e0000000000) % 0x10000

/-- A 4 B read of a register by the core; it waits where the register's domain has to wake (R508). -/
def State.ctlRead (s : State) (k : CoreId) (pa : Nat) : MRes Nat :=
  let r := s.regRead (s.coreReq k) (ctlBlock pa) (ctlAt pa)
  if r.stall then .wait r.st else .ok r.val.toNat r.st

/-- A 4 B write of a register by a requester. -/
def State.ctlWrite (s : State) (q : Requester) (pa v : Nat) : MRes Unit :=
  let r := s.regStore q (ctlBlock pa) (ctlAt pa) (BitVec.ofNat 32 v)
  if r.1 then .wait r.2 else .ok () r.2

/-- A load from control space: 4 B, 8 B as two reads, lower first, or 1 or 2 B of a whole register (R514). -/
def State.ctlLoad (s : State) (k : CoreId) (pa n : Nat) : MRes Nat :=
  if n = 8 then
    (s.ctlRead k pa).andThen fun lo s => (s.ctlRead k (pa + 4)).andThen fun hi s => .ok (lo + hi * 2 ^ 32) s
  else (s.ctlRead k (pa / 4 * 4)).andThen fun v s => .ok (v / 2 ^ (8 * (pa % 4)) % 2 ^ (8 * n)) s

/-- A store to control space (R514). -/
def State.ctlStore (s : State) (q : Requester) (p : StPart) : MRes Unit :=
  let n := p.bytes.length
  let v := leNat p.bytes
  if n = 8 then (s.ctlWrite q p.pa (v % 2 ^ 32)).andThen fun _ s => s.ctlWrite q (p.pa + 4) (v / 2 ^ 32)
  else if n = 4 then s.ctlWrite q p.pa v
  else .ok () (s.regDrop q (ctlBlock p.pa) (p.pa % 0x1000) (BitVec.ofNat 32 v))

/-! ### The store queue (R221, R259 rule 3, R260) -/

/-- Replaces the store queue of a core. -/
def State.setSq (s : State) (k : CoreId) (q : List StoreEnt) : State := s.setCore k { s.core k with sq := q }

/-- A part of a committed store reaches its target. -/
def State.partOut (s : State) (k : CoreId) (e : StoreEnt) (p : StPart) : MRes Unit :=
  match rangeOf p.pa with
  | .dram => s.dramOut k p e.zero
  | .window => .ok () (s.windowStore k p)
  | .pcie => .ok () (s.pcieStore e.sealed p)
  | .control => s.ctlStore { s.coreReq k with sealed := e.sealed, sup := e.sup } p
  | .nothing => .ok () s

/-- A core that is stopping becomes idle once its store queue is empty (R233), and its tile may drop (R505). -/
def State.stopOver (s : State) (k : CoreId) : State :=
  if (s.core k).run == .stopping && (s.core k).sq.isEmpty then (s.setCore k { s.core k with run := .idle }).tileLeft (k.val / 2) else s

/-- The first part of the oldest committed store is performed and leaves the queue; one that has to wait stays there. -/
def State.sqPart (s : State) (k : CoreId) : MRes Unit :=
  match (s.core k).sq with
  | [] => .ok () s
  | e :: r =>
    match e.parts with
    | [] => .ok () ((s.setSq k r).stopOver k)
    | p :: ps =>
      match (s.setSq k (if ps.isEmpty then r else { e with parts := ps } :: r)).partOut k e p with
      | .ok _ u => .ok () (u.stopOver k)
      | .exc x u => .exc x u
      | .wait u => .wait (u.setSq k (e :: r))

/-- The oldest committed store leaves the queue, both its parts in order (R221, R259 rule 3). -/
def State.sqOne (s : State) (k : CoreId) : MRes Unit :=
  match (s.core k).sq with
  | [] => .ok () s
  | e :: _ => (s.sqPart k).andThen fun _ s =>
    match e.parts.drop 1 with
    | [] => .ok () s
    | ps => if (s.core k).sq.head? == some { e with parts := ps } then s.sqPart k else .ok () s

/-- The core executes: it runs an instruction, or drains at a DONE. -/
def CoreSt.executes (c : CoreSt) : Bool := c.run == .running || c.run == .draining

/-- The n oldest stores leave the queue, or the instruction waits; it goes no further where one of them has stopped its task. -/
def State.sqDrain (s : State) (k : CoreId) : Nat → MRes Unit
  | 0 => .ok () s
  | n + 1 =>
    if (s.core k).sq.isEmpty then .ok () s
    else (s.sqOne k).andThen fun _ s => if (s.core k).executes then s.sqDrain k n else .wait s

/-- Every older store is performed. -/
def State.sqDrainAll (s : State) (k : CoreId) : MRes Unit := s.sqDrain k (s.core k).sq.length

/-- A store enters the queue as one entry; with 48 entries in use the oldest leaves first (R221). -/
def State.queueStore (s : State) (k : CoreId) (parts : List StPart) (zero : Bool) : MRes Unit :=
  (s.sqDrain k ((s.core k).sq.length - 47)).andThen fun _ s =>
    .ok () (if parts.isEmpty then s else s.setSq k ((s.core k).sq ++ [⟨parts, (s.core k).sealed, (s.core k).sup, zero⟩]))

/-- The depth in a queue of the youngest store that satisfies a test: 0 where none does. -/
def sqDepth (p : StoreEnt → Bool) : List StoreEnt → Nat
  | [] => 0
  | e :: r => if sqDepth p r != 0 then sqDepth p r + 1 else if p e then 1 else 0

/-- Part of the store is uncached or device-ordered. -/
def StoreEnt.single (e : StoreEnt) : Bool := e.parts.any (·.pol.single)

/-- Part of the store is device-ordered. -/
def StoreEnt.dev (e : StoreEnt) : Bool := e.parts.any (·.pol == .dev)

/-! ### Loads against the queue (R222, R223, R225) -/

/-- The store's part overlaps a piece of a load. -/
def StPart.overlaps (p : StPart) (q : Piece) : Bool := decide (p.pa < q.ph.pa + q.n) && decide (q.ph.pa < p.pa + p.bytes.length)

/-- The store's part holds every byte of a piece of a load. -/
def StPart.covers (p : StPart) (q : Piece) : Bool := decide (p.pa ≤ q.ph.pa) && decide (q.ph.pa + q.n ≤ p.pa + p.bytes.length)

/-- The store overlaps some byte of a load. -/
def StoreEnt.overlaps (e : StoreEnt) (l : List Piece) : Bool := l.any (fun q => e.parts.any (·.overlaps q))

/-- The store holds every byte of a load. -/
def StoreEnt.covers (e : StoreEnt) (l : List Piece) : Bool := l.all (fun q => e.parts.any (·.covers q))

/-- The bytes of a load as a store that covers it holds them. -/
def StoreEnt.value (e : StoreEnt) : List Piece → Nat
  | [] => 0
  | q :: r =>
    let v := match e.parts.find? (·.covers q) with
      | some p => leNat ((p.bytes.drop (q.ph.pa - p.pa)).take q.n)
      | none => 0
    v + e.value r * 2 ^ (8 * q.n)

/-- The place of the youngest store in a queue that overlaps a load. -/
def youngest (l : List Piece) : List StoreEnt → Nat → Option (Nat × StoreEnt)
  | [], _ => none
  | e :: r, i =>
    match youngest l r (i + 1) with
    | some x => some x
    | none => if e.overlaps l then some (i, e) else none

/-- The load at the PC overlaps an older store: whether it executed first, and so was fetched again with its wait table entry set, the rules leave open; one whose entry is set waits for every older address (R223). MEM_ORDER counts the refetch (R525). -/
def State.orderViolation (s : State) (k : CoreId) : State :=
  let r := s.free 1
  let c := r.2.core k
  let i := bitsAt c.pc 2 8
  if r.1 = 0 || c.pred.wait.contains i then r.2
  else r.2.setCore k (({ c with pred := { c.pred with wait := i :: c.pred.wait } } : CoreSt).ev 0x0f 1)

/-! ### Loads and stores (R244) -/

/-- One piece of a load. -/
def State.loadPiece (s : State) (k : CoreId) (p : Piece) : MRes Nat :=
  let s := if p.ph.pol.single then s.setCore k { s.core k with devReads := (s.core k).devReads + 1 } else s
  match rangeOf p.ph.pa with
  | .dram => s.dramBytes k p.ph.pa p.n p.ph.pol
  | .window => s.windowLoad k p
  | .pcie => s.pcieLoad k p.ph.pa p.n
  | .control => s.ctlLoad k p.ph.pa p.n
  | .nothing => .ok 0 s

/-- The pieces of a load, lowest address first. -/
def State.loadPieces (s : State) (k : CoreId) : List Piece → MRes Nat
  | [] => .ok 0 s
  | p :: r => (s.loadPiece k p).andThen fun v s => (s.loadPieces k r).andThen fun u s => .ok (v + u * 2 ^ (8 * p.n)) s

/-- The piece lies in a region that the core's world does not see. -/
def State.pieceHidden (s : State) (k : CoreId) (p : Piece) : Bool := rangeOf p.ph.pa = .window && s.windowHidden k (p.ph.pa / 64)

/-- A load that may be forwarded: none of its pieces is uncached, device-ordered or hidden (R222). -/
def State.forwards (s : State) (k : CoreId) (l : List Piece) (e : StoreEnt) : Bool :=
  e.covers l && !e.single && l.all (fun p => !p.ph.pol.single && !s.pieceHidden k p)

/-- A load as one over all its bytes against the store queue (R222, R225): forwarded from the youngest overlapping older store where that holds every byte, else read once that store has left the queue. A device-ordered one also waits for every older device-ordered store (R260). -/
def State.loadQueued (s : State) (k : CoreId) (l : List Piece) : MRes Nat :=
  let q := (s.core k).sq
  let dev := if l.any (fun p => p.ph.pol == .dev) then sqDepth (·.dev) q else 0
  match youngest l q 0 with
  | none => (s.sqDrain k dev).andThen fun _ s => s.loadPieces k l
  | some (i, e) =>
    if s.forwards k l e then .ok (e.value l) ((s.orderViolation k).count k 0x0d 1)
    else ((s.orderViolation k).sqDrain k (max (i + 1) dev)).andThen fun _ s =>
      (s.loadPieces k l).andThen fun v s => .ok v (s.count k 0x0e 1)

/-- A load of n bytes (R244): the value, zero-extended. -/
def State.load (s : State) (k : CoreId) (va : W64) (n : Nat) (strict : Bool) : MRes Nat :=
  (s.pieces k va n strict .load).andThen fun ps s => s.loadQueued k ps

/-- The parts of a store, lowest address first. -/
def partsOf : List Piece → Nat → List StPart
  | [], _ => []
  | p :: r, v => ⟨p.ph.pa, leBytes p.n (v % 2 ^ (8 * p.n)), p.ph.pol⟩ :: partsOf r (v / 2 ^ (8 * p.n))

/-- A store's pieces after the checks: into the store queue as one entry. What an Open store would write to a Sealed region is dropped (R60). -/
def State.storePieces (s : State) (k : CoreId) (ps : List Piece) (v : Nat) : MRes Unit :=
  s.queueStore k ((partsOf ps v).filter (fun p => !(rangeOf p.pa = .window && s.windowHidden k (p.pa / 64)))) false

/-- The first failing check of a store's pieces. -/
def State.storeBad (s : State) (k : CoreId) (ps : List Piece) : Option Exc :=
  ps.findSome? (fun p => if rangeOf p.ph.pa = .window then s.windowCheck k p else none)

/-- A store of the low n bytes of a number (R244): it retires into the store queue. -/
def State.store (s : State) (k : CoreId) (va : W64) (n : Nat) (strict : Bool) (v : Nat) : MRes Unit :=
  (s.pieces k va n strict .store).andThen fun ps s =>
    match s.storeBad k ps with
    | some e => .exc e s
    | none => s.storePieces k ps v

/-! ### AMO (R246, R62, R363) -/

/-- The read-modify-write at a device-physical address: the new value where there is one. -/
def State.amoAt (s : State) (k : CoreId) (p : Piece) (f : Nat → Option Nat) : MRes Nat :=
  match rangeOf p.ph.pa with
  | .dram =>
    (s.sqDrainAll k).andThen fun _ s =>
      (s.amoLine k (p.ph.pa / 64)).andThen fun r s =>
        (s.consume k p.ph.pa r.2 (lineNum r.1 (p.ph.pa % 64) p.n)).andThen fun old s =>
          match f old with
          | none => .ok old s
          | some new => (s.dramOut k ⟨p.ph.pa, leBytes p.n new, p.ph.pol⟩ false).andThen fun _ s => .ok old s
  | .window =>
    (s.sqDrainAll k).andThen fun _ s =>
      (s.windowLoad k p).andThen fun old s =>
        match f old with
        | none => .ok old s
        | some new => .ok old (if s.windowHidden k (p.ph.pa / 64) then s else s.windowStore k ⟨p.ph.pa, leBytes p.n new, p.ph.pol⟩)
  | _ => .ok 0 s

/-- An AMO of n bytes at an address, which translates as a store: the old value. -/
def State.amo (s : State) (k : CoreId) (va : W64) (n : Nat) (f : Nat → Option Nat) : MRes Nat :=
  (s.translate k va .store).andThen fun p s =>
    if va.toNat % n != 0 then .exc (s.alignExc k va) s
    else if p.pol.single then .exc (s.excAt k 0x04 12 p.idx va) s
    else match s.storeBad k [⟨va, p, n⟩] with
      | some e => .exc e s
      | none => s.amoAt k ⟨va, p, n⟩ f

/-! ### Line operations (R256, R363, R381) -/

/-- ZERO.VA: one store of a 64 B line of zeros at the line that holds the address; to control space and PCIe windows the attribute suits no 64 B store. -/
def State.zeroLine (s : State) (k : CoreId) (va : W64) : MRes Unit :=
  (s.translate k va .store).andThen fun p s =>
    let part : StPart := ⟨p.pa / 64 * 64, List.replicate 64 0, p.pol⟩
    match rangeOf p.pa with
    | .dram => s.queueStore k [part] true
    | .window =>
      match s.windowCheck k ⟨va, p, 64⟩ with
      | some e => .exc e s
      | none => s.queueStore k (if s.windowHidden k (p.pa / 64) then [] else [part]) true
    | _ => .exc (s.alignExc k va) s

/-- A cache operation on the line that holds an address, which translates like a store: as a range operation of one line without FORCE, after the core's own older stores (R256, R381). A line of the state window and an address without a home hold nothing to clean. -/
def State.cmoLine (s : State) (k : CoreId) (va : W64) (clean inv : Bool) : MRes Unit :=
  (s.translate k va .store).andThen fun p s =>
    match rangeOf p.pa with
    | .dram =>
      (s.sqDrainAll k).andThen fun _ s =>
        let line := p.pa / 64
        if s.rangeBars (s.core k).sealed (line / 32768) then .ok () s
        else if s.lineBlocked line then .wait (s.coreNack k line .cmo false false)
        else .ok () ((s.cohCmo line clean inv false).2.mshrDrop k line).memNotes
    | .window =>
      match s.windowCheck k ⟨va, p, 64⟩ with
      | some e => .exc e s
      | none => .ok () s
    | _ => .ok () s

/-- CLINV.SW at L1D level: the line of a set and way leaves the L1D; its L2 copy holds the data. -/
def State.l1Clinv (s : State) (k : CoreId) (set way : Nat) : State :=
  let c := s.cc k
  s.setCc k { c with l2 := c.l2.map (fun x => if l1Set x.line == set && x.l1way == some way then { x with l1way := none } else x) }

/-- CLINV.SW (R383): the line of a set and way is cleaned and invalidated, a dirty one through the eviction buffer; an operand outside the layout does nothing. -/
def State.clinvSw (s : State) (k : CoreId) (x : W64) : MRes Unit :=
  let lvl := bitsAt x 0 2
  let way := bitsAt x 2 3
  let set := bitsAt x 6 11
  if 1 < lvl || bitAt x 5 || bitsAt x 17 47 != 0 then .ok () s
  else if lvl = 0 then .ok () (if set < 128 then s.l1Clinv k set way else s)
  else
    match (s.cc k).l2.find? (fun y => l2Set y.line == set && y.way == way) with
    | none => .ok () s
    | some y => if y.st = .m && s.ebFull k then .wait s else .ok () (s.l2Evict k y)

/-- STORE_DRAIN: the oldest committed store of a core leaves its store queue; a core that is stopping becomes idle with the last (R221, R233). -/
def storeDrain (k : CoreId) (s : State) : State :=
  match s.sqOne k with
  | .ok _ u => u
  | .wait u => u
  | .exc _ u => u

def execStoreDrain (k : CoreId) (s : State) : Host.Outcome State Fault Refusal := .next (storeDrain k s)

/-! ### Fetch (R59, R227, R343, R426) -/

/-- The committed stores that wait in the queue up to the youngest that matches the instruction at an address leave it before the instruction is fetched, and their L1I lines go (R226); SMC counts the match (R525). -/
def State.smcDrain (s : State) (k : CoreId) (p : Phys) : MRes Unit :=
  let n := sqDepth (fun e => e.parts.any (fun q => q.overlaps ⟨0, p, 4⟩)) (s.core k).sq
  if n = 0 then .ok () s else (s.sqDrain k n).andThen fun _ s => .ok () (s.count k 0x10 1)

/-- The fetch at the PC: it translates, and its line is found in the L1I or filled; poisoned data gives MACHINE_CHECK. An older store to the instruction is performed first (R226). -/
def State.fetch (s : State) (k : CoreId) : MRes Unit :=
  let pc := (s.core k).pc
  (s.translate k pc .fetch).andThen fun p s => (s.smcDrain k p).andThen fun _ s =>
    match rangeOf p.pa with
    | .dram => (s.fetchLine k (p.pa / 64) p.pol).andThen fun r s => s.consume k p.pa r ()
    | .window => if (s.regionOf (p.pa / 64)).isNone then .exc (s.excAt k 0x08 11 0xff pc) s else .ok () s
    | _ => .ok () s

end Sys2Proof.Machine
end

