-- ==== Sys2Proof/Machine/Flags.lean ====
section
/-! DEFINITION. Floating point: exact values, one rounding, and the FPSTAT flags each operation sets (R250 to R255; IEEE 754-2019 for what the rules name). -/

namespace Sys2Proof.Machine

/-! ### Flags, as FPSTAT bits [12:8] from bit 0 up (R250) -/

/-- INVALID. -/
def fInvalid : Nat := 1
/-- DIVZERO. -/
def fDivZero : Nat := 2
/-- OVERFLOW. -/
def fOverflow : Nat := 4
/-- UNDERFLOW. -/
def fUnderflow : Nat := 8
/-- INEXACT. -/
def fInexact : Nat := 16

/-- A result: its bits, and the flags set. -/
structure FRes where
  bits : Nat
  flags : Nat
deriving DecidableEq, Repr

/-! ### Formats -/

/-- Bits of the significand, hidden one included: binary32 with sgl, else binary64. -/
def fPrec (sgl : Bool) : Nat := if sgl then 24 else 53
/-- The exponent bias. -/
def fBias (sgl : Bool) : Nat := if sgl then 127 else 1023
/-- Bits of the exponent field. -/
def fExpW (sgl : Bool) : Nat := if sgl then 8 else 11
/-- Bits of the whole format. -/
def fWidth (sgl : Bool) : Nat := if sgl then 32 else 64
/-- Position of the sign. -/
def fSignBit (sgl : Bool) : Nat := fWidth sgl - 1

/-- A value: a NaN, an infinity, or m times 2^e with its sign. -/
inductive FVal where
  | nan (signalling : Bool)
  | inf (neg : Bool)
  | fin (neg : Bool) (m : Nat) (e : Int)
deriving DecidableEq, Repr

/-- The canonical NaN (R251). -/
def fNaN (sgl : Bool) : Nat := if sgl then 0x7fc00000 else 0x7ff8000000000000

/-- An infinity. -/
def fInf (sgl neg : Bool) : Nat := (2 ^ fExpW sgl - 1) * 2 ^ (fPrec sgl - 1) + bitIf neg (fSignBit sgl)

/-- A zero. -/
def fZero (sgl neg : Bool) : Nat := bitIf neg (fSignBit sgl)

/-- The largest finite value. -/
def fMax (sgl neg : Bool) : Nat := fInf sgl neg - 1

/-- The value that bits hold. -/
def fUnpack (sgl : Bool) (w : Nat) : FVal :=
  let p := fPrec sgl
  let frac := w % 2 ^ (p - 1)
  let ex := w / 2 ^ (p - 1) % 2 ^ fExpW sgl
  let neg := w / 2 ^ fSignBit sgl % 2 == 1
  if ex = 2 ^ fExpW sgl - 1 then
    (if frac = 0 then .inf neg else .nan (frac / 2 ^ (p - 2) == 0))
  else if ex = 0 then .fin neg frac (2 - (fBias sgl : Int) - p)
  else .fin neg (frac + 2 ^ (p - 1)) ((ex : Int) - fBias sgl + 1 - p)

/-- The value is a signalling NaN. -/
def FVal.isS : FVal → Bool
  | .nan s => s
  | _ => false
/-- The value is a NaN. -/
def FVal.isN : FVal → Bool
  | .nan _ => true
  | _ => false

/-! ### Rounding (R250, R251) -/

/-- Whether a magnitude rounds up: n the integer part, rem the rest of 2^k. -/
def roundsUp (mode : Nat) (neg : Bool) (n rem k : Nat) : Bool :=
  match mode with
  | 0 => decide (2 ^ k < 2 * rem) || (2 * rem == 2 ^ k && n % 2 == 1)
  | 1 => decide (2 ^ k ≤ 2 * rem)
  | 2 => false
  | 3 => !neg && rem != 0
  | _ => neg && rem != 0

/-- m * 2^e as a multiple of 2^q, rounded: the multiple, and whether the value was not one. -/
def quantum (mode : Nat) (neg : Bool) (m : Nat) (e q : Int) : Nat × Bool :=
  if q ≤ e then (m * 2 ^ (e - q).toNat, false)
  else
    let k := (q - e).toNat
    let n := m / 2 ^ k
    let rem := m % 2 ^ k
    (n + b2n (roundsUp mode neg n rem k), rem != 0)

/-- The result on overflow (IEEE 754-2019, 7.4): an infinity or the largest finite value, by the mode. -/
def fOver (sgl : Bool) (mode : Nat) (neg : Bool) : Nat :=
  let big := match mode with
    | 0 => true
    | 1 => true
    | 2 => false
    | 3 => !neg
    | _ => neg
  if big then fInf sgl neg else fMax sgl neg

/-- The nonzero value with sign neg, m * 2^e, rounded to a format; underflow is detected after rounding (R251). -/
def fRound (sgl : Bool) (mode : Nat) (neg : Bool) (m : Nat) (e : Int) : FRes :=
  let p := fPrec sgl
  let emin : Int := 1 - fBias sgl
  let top : Int := e + Nat.log2 m
  let free := top - (p - 1)
  let low := emin - (p - 1)
  let q := if free < low then low else free
  let r := quantum mode neg m e q
  let r2 := quantum mode neg m e free
  let tiny := decide (top < emin) && !(r2.1 == 2 ^ p && top + 1 == emin)
  let n := if r.1 = 2 ^ p then 2 ^ (p - 1) else r.1
  let q := if r.1 = 2 ^ p then q + 1 else q
  if (fBias sgl : Int) < q + (p - 1) then ⟨fOver sgl mode neg, fOverflow + fInexact⟩
  else
    let fl := (if r.2 then fInexact else 0) + (if tiny && r.2 then fUnderflow else 0)
    let mag := if n < 2 ^ (p - 1) then n else n - 2 ^ (p - 1) + (q + (p - 1) + fBias sgl).toNat * 2 ^ (p - 1)
    ⟨mag + bitIf neg (fSignBit sgl), fl⟩

/-- The rounding of an exact signed integer times 2^e; zero takes the sign given. -/
def fRoundInt (sgl : Bool) (mode : Nat) (zeroNeg : Bool) (v : Int) (e : Int) : FRes :=
  if v = 0 then ⟨fZero sgl zeroNeg, 0⟩ else fRound sgl mode (v < 0) v.natAbs e

/-- A NaN result: the canonical NaN, INVALID where asked (R251). -/
def fNanRes (sgl inv : Bool) : FRes := ⟨fNaN sgl, if inv then fInvalid else 0⟩

/-! ### Arithmetic (R252, R253) -/

/-- The signed integer of a sign and magnitude. -/
def sgnInt (neg : Bool) (m : Nat) : Int := if neg then -(m : Int) else m

/-- The exact sum of two finite values, rounded; an exact zero of two unlike signs is +0, or -0 toward -∞. -/
def fSum (sgl : Bool) (mode : Nat) (na : Bool) (ma : Nat) (ea : Int) (nb : Bool) (mb : Nat) (eb : Int) : FRes :=
  let e := if ea < eb then ea else eb
  let v := sgnInt na (ma * 2 ^ (ea - e).toNat) + sgnInt nb (mb * 2 ^ (eb - e).toNat)
  fRoundInt sgl mode (if na == nb then na else mode == 4) v e

/-- a + b of values. -/
def fAddV (sgl : Bool) (mode : Nat) (a b : FVal) : FRes :=
  match a, b with
  | .nan s, b => fNanRes sgl (s || b.isS)
  | .inf _, .nan s => fNanRes sgl s
  | .fin _ _ _, .nan s => fNanRes sgl s
  | .inf x, .inf y => if x == y then ⟨fInf sgl x, 0⟩ else fNanRes sgl true
  | .inf x, .fin _ _ _ => ⟨fInf sgl x, 0⟩
  | .fin _ _ _, .inf y => ⟨fInf sgl y, 0⟩
  | .fin na ma ea, .fin nb mb eb => fSum sgl mode na ma ea nb mb eb

/-- A value with its sign inverted; a NaN stays. -/
def FVal.neg : FVal → FVal
  | .nan s => .nan s
  | .inf n => .inf (!n)
  | .fin n m e => .fin (!n) m e

/-- a * b + c with one rounding (R253); ∞ × 0 is invalid whatever c is. -/
def fFmaV (sgl : Bool) (mode : Nat) (a b c : FVal) : FRes :=
  let sig := a.isS || b.isS || c.isS
  let prod : Option FVal := match a, b with
    | .nan _, _ => none
    | _, .nan _ => none
    | .inf x, .inf y => some (.inf (x != y))
    | .inf x, .fin y m _ => if m = 0 then none else some (.inf (x != y))
    | .fin x m _, .inf y => if m = 0 then none else some (.inf (x != y))
    | .fin x m e, .fin y n f => some (.fin (x != y) (m * n) (e + f))
  match prod with
  | none => fNanRes sgl (sig || !(a.isN || b.isN))
  | some p => fAddV sgl mode p c

/-- a * b of values. -/
def fMulV (sgl : Bool) (mode : Nat) (a b : FVal) : FRes :=
  match a, b with
  | .nan s, b => fNanRes sgl (s || b.isS)
  | .inf _, .nan s => fNanRes sgl s
  | .fin _ _ _, .nan s => fNanRes sgl s
  | .inf x, .inf y => ⟨fInf sgl (x != y), 0⟩
  | .inf x, .fin y m _ => if m = 0 then fNanRes sgl true else ⟨fInf sgl (x != y), 0⟩
  | .fin x m _, .inf y => if m = 0 then fNanRes sgl true else ⟨fInf sgl (x != y), 0⟩
  | .fin x m e, .fin y n f => fRoundInt sgl mode (x != y) (sgnInt (x != y) (m * n)) (e + f)

/-- The quotient of two nonzero magnitudes, cut after enough bits with a sticky last one. -/
def fQuot (sgl : Bool) (mode : Nat) (neg : Bool) (ma : Nat) (ea : Int) (mb : Nat) (eb : Int) : FRes :=
  let s := fPrec sgl + 3 + Nat.log2 mb
  let n := ma * 2 ^ s
  let q := n / mb
  fRound sgl mode neg (2 * q + b2n (n % mb != 0)) (ea - eb - s - 1)

/-- a / b of values. -/
def fDivV (sgl : Bool) (mode : Nat) (a b : FVal) : FRes :=
  match a, b with
  | .nan s, b => fNanRes sgl (s || b.isS)
  | .inf _, .nan s => fNanRes sgl s
  | .fin _ _ _, .nan s => fNanRes sgl s
  | .inf _, .inf _ => fNanRes sgl true
  | .inf x, .fin y _ _ => ⟨fInf sgl (x != y), 0⟩
  | .fin x _ _, .inf y => ⟨fZero sgl (x != y), 0⟩
  | .fin x m e, .fin y n f =>
    if n = 0 then (if m = 0 then fNanRes sgl true else ⟨fInf sgl (x != y), fDivZero⟩)
    else if m = 0 then ⟨fZero sgl (x != y), 0⟩
    else fQuot sgl mode (x != y) m e n f

/-- The integer square root of a number below 4^k, bit by bit. -/
def isqrt (m acc : Nat) : Nat → Nat
  | 0 => acc
  | k + 1 => if (acc + 2 ^ k) * (acc + 2 ^ k) ≤ m then isqrt m (acc + 2 ^ k) k else isqrt m acc k

/-- The root of a value. -/
def fSqrtV (sgl : Bool) (mode : Nat) (a : FVal) : FRes :=
  match a with
  | .nan s => fNanRes sgl s
  | .inf n => if n then fNanRes sgl true else ⟨fInf sgl false, 0⟩
  | .fin n m e =>
    if m = 0 then ⟨fZero sgl n, 0⟩
    else if n then fNanRes sgl true
    else
      let s := 2 * (fPrec sgl + 3) + (if e % 2 = 0 then 0 else 1)
      let w := m * 2 ^ s
      let r := isqrt w 0 (fPrec sgl + 60)
      fRound sgl mode false (2 * r + b2n (r * r != w)) ((e - s) / 2 - 1)

/-! ### Comparison, minimum, maximum (R252) -/

/-- The relation of two values that are no NaN: -1 less, 0 equal, 1 greater. -/
def fOrder (a b : FVal) : Int :=
  match a, b with
  | .inf x, .inf y => if x == y then 0 else if x then -1 else 1
  | .inf x, _ => if x then -1 else 1
  | _, .inf y => if y then 1 else -1
  | .fin na ma ea, .fin nb mb eb =>
    let e := if ea < eb then ea else eb
    let d := sgnInt na (ma * 2 ^ (ea - e).toNat) - sgnInt nb (mb * 2 ^ (eb - e).toNat)
    if d < 0 then -1 else if d = 0 then 0 else 1
  | _, _ => 0

/-- FCMP and FCMPO: the mask of R252, and the flags; all says that a quiet NaN sets INVALID too. -/
def fCmpV (all : Bool) (a b : FVal) : FRes :=
  if a.isN || b.isN then ⟨8, if all || a.isS || b.isS then fInvalid else 0⟩
  else ⟨if fOrder a b < 0 then 1 else if fOrder a b = 0 then 2 else 4, 0⟩

/-- The sign of a value that is no NaN. -/
def FVal.isNeg : FVal → Bool
  | .nan _ => false
  | .inf n => n
  | .fin n _ _ => n

/-- The first operand is the smaller: -0 counts as less than +0. -/
def fLess (a b : FVal) : Bool := decide (fOrder a b < 0) || (fOrder a b == 0 && a.isNeg && !b.isNeg)

/-- FMIN and FMAX on bits (IEEE 754-2019 minimum and maximum). -/
def fMinMax (sgl big : Bool) (x y : Nat) : FRes :=
  let a := fUnpack sgl x
  let b := fUnpack sgl y
  if a.isN || b.isN then fNanRes sgl (a.isS || b.isS)
  else ⟨if fLess a b != big then x else y, 0⟩

/-- FMINNUM and FMAXNUM on bits (IEEE 754-2019 minimumNumber and maximumNumber). -/
def fMinMaxNum (sgl big : Bool) (x y : Nat) : FRes :=
  let a := fUnpack sgl x
  let b := fUnpack sgl y
  let fl := if a.isS || b.isS then fInvalid else 0
  if a.isN && b.isN then ⟨fNaN sgl, fl⟩
  else if a.isN then ⟨y, fl⟩
  else if b.isN then ⟨x, fl⟩
  else ⟨if fLess a b != big then x else y, 0⟩

/-- FKIND (R252). -/
def fKind (sgl : Bool) (w : Nat) : Nat :=
  let k := match fUnpack sgl w with
    | .nan s => if s then 5 else 4
    | .inf _ => 3
    | .fin _ m _ => if m = 0 then 0 else if m < 2 ^ (fPrec sgl - 1) then 1 else 2
  k + 8 * (w / 2 ^ fSignBit sgl % 2)

/-! ### Conversion (R252) -/

/-- To an integer within [lo, hi]: saturation and INVALID outside, and for a NaN 0 and INVALID. -/
def fToInt (mode : Nat) (lo hi : Int) (a : FVal) : Int × Nat :=
  match a with
  | .nan _ => (0, fInvalid)
  | .inf n => (if n then lo else hi, fInvalid)
  | .fin n m e =>
    let r := quantum mode n m e 0
    let v := sgnInt n r.1
    if v < lo then (lo, fInvalid)
    else if hi < v then (hi, fInvalid)
    else (v, if r.2 then fInexact else 0)

/-- From an integer. -/
def fFromInt (sgl : Bool) (mode : Nat) (v : Int) : FRes := fRoundInt sgl mode false v 0

/-- From the other precision. -/
def fResizeV (sgl : Bool) (mode : Nat) (a : FVal) : FRes :=
  match a with
  | .nan s => fNanRes sgl s
  | .inf n => ⟨fInf sgl n, 0⟩
  | .fin n m e => fRoundInt sgl mode n (sgnInt n m) e

end Sys2Proof.Machine
end

