-- ==== Sys2Proof/Machine/Operands.lean ====
section
/-! DEFINITION. The operand forms of SIS-64: registers, immediates, and the integer functions (R235 to R248). -/

namespace Sys2Proof.Machine

/-! ### Registers (R235, R236) -/

/-- Xr; X0 reads 0. -/
def CoreSt.xr (c : CoreSt) (r : Reg) : W64 := if r = 0 then 0 else c.x.toList.getD r.toNat 0
/-- Writes Xr; a write of X0 is discarded. -/
def CoreSt.setX (c : CoreSt) (r : Reg) (v : W64) : CoreSt := if r = 0 then c else { c with x := c.x.setIfInBounds r.toNat v }
/-- Fr. -/
def CoreSt.fr (c : CoreSt) (r : Reg) : W64 := c.f.toList.getD r.toNat 0
/-- Writes Fr. -/
def CoreSt.setF (c : CoreSt) (r : Reg) (v : W64) : CoreSt := { c with f := c.f.setIfInBounds r.toNat v }
/-- Vr. -/
def CoreSt.vr (c : CoreSt) (r : Reg) : V128 := c.v.toList.getD r.toNat 0
/-- Writes Vr. -/
def CoreSt.setV (c : CoreSt) (r : Reg) (v : V128) : CoreSt := { c with v := c.v.setIfInBounds r.toNat v }

/-! ### Immediates (R238) -/

/-- imm16, sign-extended. -/
def simm (i : BitVec 16) : W64 := i.signExtend 64
/-- imm16, zero-extended. -/
def zimm (i : BitVec 16) : W64 := i.zeroExtend 64
/-- imm21, sign-extended and shifted left by 16 (R243). -/
def uimm (i : BitVec 21) : W64 := i.signExtend 64 <<< 16
/-- off16 times 4. -/
def boff (i : BitVec 16) : W64 := i.signExtend 64 <<< 2
/-- off26 times 4. -/
def joff (i : BitVec 26) : W64 := i.signExtend 64 <<< 2

/-- A 32-bit result, sign-extended. -/
def sext32 (v : W32) : W64 := v.signExtend 64

/-! ### Integer functions (R241 to R243) -/

/-- 1 or 0 as a register. -/
def bool64 (b : Bool) : W64 := if b then 1 else 0

/-- The largest signed value of a width. -/
def maxS (n : Nat) : BitVec n := BitVec.ofNat n (2 ^ (n - 1) - 1)
/-- The most negative value of a width. -/
def minS (n : Nat) : BitVec n := BitVec.ofNat n (2 ^ (n - 1))

/-- The quotient of DIV, saturating (R242). -/
def divS {n : Nat} (a b : BitVec n) : BitVec n :=
  if b = 0 then (if a.toInt < 0 then minS n else maxS n)
  else if a = minS n ∧ b = BitVec.allOnes n then maxS n
  else BitVec.ofInt n (a.toInt.tdiv b.toInt)

/-- The remainder of DIV (R242). -/
def remS {n : Nat} (a b : BitVec n) : BitVec n :=
  if b = 0 then 0
  else if a = minS n ∧ b = BitVec.allOnes n then 0
  else BitVec.ofInt n (a.toInt.tmod b.toInt)

/-- The quotient of DIVU (R242). -/
def divUns {n : Nat} (a b : BitVec n) : BitVec n := if b = 0 then BitVec.allOnes n else BitVec.ofNat n (a.toNat / b.toNat)

/-- The remainder of DIVU (R242). -/
def remUns {n : Nat} (a b : BitVec n) : BitVec n := if b = 0 then 0 else BitVec.ofNat n (a.toNat % b.toNat)

/-- Bits [127:64] of the signed product. -/
def mulHi (a b : W64) : W64 := BitVec.ofInt 64 (a.toInt * b.toInt / 2 ^ 64)
/-- Bits [127:64] of the unsigned product. -/
def mulHiU (a b : W64) : W64 := BitVec.ofNat 64 (a.toNat * b.toNat / 2 ^ 64)

/-- The number of zeros above the highest set bit among the low n bits. -/
def leadZeros (a : W64) : Nat → Nat
  | 0 => 0
  | n + 1 => if bitAt a n then 0 else 1 + leadZeros a n

/-- The number of zeros below the lowest set bit from bit i, of n bits left. -/
def trailZeros (a : W64) (i : Nat) : Nat → Nat
  | 0 => 0
  | n + 1 => if bitAt a i then 0 else 1 + trailZeros a (i + 1) n

/-- The number of set bits among the low n bits. -/
def popCount (a : W64) : Nat → Nat
  | 0 => 0
  | n + 1 => b2n (bitAt a n) + popCount a n

/-- A shift of a kind by an amount (R241, R243). -/
def shiftBy {n : Nat} (kind : ShiftKind) (a : BitVec n) (sh : Nat) : BitVec n :=
  match kind with
  | .sll => a <<< sh
  | .srl => a >>> sh
  | .sra => a.sshiftRight sh

/-- The smaller signed value. -/
def minI {n : Nat} (a b : BitVec n) : BitVec n := if a.slt b then a else b
/-- The larger signed value. -/
def maxI {n : Nat} (a b : BitVec n) : BitVec n := if a.slt b then b else a
/-- The smaller unsigned value. -/
def minUns {n : Nat} (a b : BitVec n) : BitVec n := if a.ult b then a else b
/-- The larger unsigned value. -/
def maxUns {n : Nat} (a b : BitVec n) : BitVec n := if a.ult b then b else a

/-- A number of n bytes read by a load, sign-extended or not (R244). -/
def loadExt (n : Nat) (sgn : Bool) (v : Nat) : W64 :=
  if sgn then (BitVec.ofNat (8 * n) v).signExtend 64 else BitVec.ofNat 64 v

/-- The size of an LDAQ or STRL in bytes (R247). -/
def ordSize (s : BitVec 2) : Nat := 2 ^ s.toNat

end Sys2Proof.Machine
end

