-- ==== Sys2Proof/Machine/Run.lean ====
section
/-! DEFINITION. One instruction of a core: the fetch's translation, the body, retirement or exception (R215, R231, R289 to R294), and the shapes the families share. -/

namespace Sys2Proof.Machine

/-- What an instruction does to the PC: on to the next, to a target, or the PC is already settled. -/
inductive Next where
  | step
  | to (pc : W64)
  | stay
deriving DecidableEq, Repr

/-- The instruction retires: counted, and the PC set (R215, R525). A core that has stopped keeps what the stop left. -/
def State.retire (s : State) (k : CoreId) (pc : W64) : State :=
  let c := s.core k
  if c.run != .running then s else s.setCore k (({ c with pc := pc, blkWait := false } : CoreSt).ev 0x01 1)

/-- An instruction's answer becomes the machine's state. -/
def MRes.finish (k : CoreId) (r : MRes Next) : State :=
  match r with
  | .ok .step s' => s'.retire k (canon ((s'.core k).pc + 4))
  | .ok (.to pc) s => s.retire k pc
  | .ok .stay s => s
  | .exc e s => s.raise k e
  | .wait s => s

/-- A core that runs, or that enters its task's first instruction, with its cycle counters brought up to the device's cycles (R234, R521). -/
def State.begun (s : State) (k : CoreId) : State := s.setCore k { (s.core k).evSync s.coreCycles with run := .running }

/-- Core k executes one instruction: the fetch at the PC, then the body (R215, R343). A core that runs no task executes nothing. -/
def State.instr (s : State) (k : CoreId) (body : State → MRes Next) : State :=
  if (s.core k).run == .running || (s.core k).run == .entering then ((((s.begun k).fetch k).andThen fun _ s => body s).finish k) else s

/-- The core's registers change and the next instruction follows; a core that has stopped changes nothing more. -/
def State.done (s : State) (k : CoreId) (f : CoreSt → CoreSt) : MRes Next :=
  if (s.core k).run != .running then .ok .stay s else .ok .step (s.setCore k (f (s.core k)))

/-- The illegal-instruction exception (R240). -/
def State.illegal {α : Type} (s : State) (k : CoreId) (w : W32) : MRes α := .exc (s.excAt k 0x01 12 0 (w.zeroExtend 64)) s

/-- The privilege exception. -/
def State.privilege {α : Type} (s : State) (k : CoreId) (w : W32) : MRes α := .exc (s.excAt k 0x02 12 0 (w.zeroExtend 64)) s

/-! ### Shapes -/

/-- Xd = a function of the core's registers. -/
def intOp (k : CoreId) (d : Reg) (f : CoreSt → W64) (s : State) : State :=
  s.instr k (fun s => s.done k (fun c => c.setX d (f c)))

/-- Xd = a 32-bit function of Xa and Xb, sign-extended (R241). -/
def intOpW (k : CoreId) (d a b : Reg) (f : W32 → W32 → W32) (s : State) : State :=
  intOp k d (fun c => sext32 (f (lo32 (c.xr a)) (lo32 (c.xr b)))) s

/-- The address Xa + imm16 s (R244). -/
def CoreSt.eaddr (c : CoreSt) (a : Reg) (imm : BitVec 16) : W64 := c.xr a + simm imm

/-- A load of n bytes that writes a register (R244). -/
def loadOp (k : CoreId) (a : Reg) (imm : BitVec 16) (n : Nat) (f : Nat → CoreSt → CoreSt) (s : State) : State :=
  s.instr k (fun s => (s.load k ((s.core k).eaddr a imm) n false).andThen fun v s => s.done k (fun c => (f v c).ev 0x0b 1))

/-- A store of n bytes of a register (R244). -/
def storeOp (k : CoreId) (a : Reg) (imm : BitVec 16) (n : Nat) (f : CoreSt → Nat) (s : State) : State :=
  s.instr k (fun s => (s.store k ((s.core k).eaddr a imm) n false (f (s.core k))).andThen fun _ s => s.done k (fun c => c.ev 0x0c 1))

/-- An AMO of 4 or 8 B with a function of the old value, Xb and Xd (R246). -/
def amoOp (k : CoreId) (d a b : Reg) (dbl : Bool) (f : (n : Nat) → (old xb xd : BitVec n) → Option (BitVec n)) (s : State) : State :=
  s.instr k (fun s =>
    let c := s.core k
    let n := if dbl then 8 else 4
    let g : Nat → Option Nat := fun old =>
      (f (8 * n) (BitVec.ofNat (8 * n) old) ((c.xr b).truncate (8 * n)) ((c.xr d).truncate (8 * n))).map (·.toNat)
    (s.amo k (c.xr a) n g).andThen fun old s =>
      s.done k (fun c => ((c.setX d (loadExt n true old)).ev 0x0b 1).ev 0x0c 1))

/-- A two-bit direction counter moves with an outcome (R216). -/
def dirTrain (dir : List (Nat × Nat)) (i : Nat) (taken : Bool) : List (Nat × Nat) :=
  let v := assocD dir i 1
  let u := if taken then min 3 (v + 1) else v - 1
  if u = 1 then assocDel dir i else assocSet dir i u

/-- The target buffer learns a taken transfer (R216). -/
def Pred.learn (p : Pred) (pc target : W64) (kind : BrKind) : Pred :=
  { p with target := assocSet p.target (bitsAt pc 2 12) (target, kind) }

/-- A conditional branch retires: the predictor is trained and the branch counted (R216, R248). -/
def condBranch (k : CoreId) (off : BitVec 16) (cond : CoreSt → Bool) (s : State) : State :=
  s.instr k (fun s =>
    let c := s.core k
    let taken := cond c
    let target := c.pc + boff off
    let p := { c.pred with
      dir := dirTrain c.pred.dir (bitsAt c.pc 2 14 ^^^ c.pred.hist.toNat) taken
      hist := c.pred.hist <<< 1 ||| BitVec.ofNat 14 (b2n taken) }
    let p := if taken then p.learn c.pc target .cond else p
    .ok (if taken then .to target else .step) (s.setCore k (({ c with pred := p } : CoreSt).ev 0x05 1)))

/-- An unconditional transfer: its link register, its target, and what the return stack does (R248, R249). -/
def jumpTo (k : CoreId) (link : Reg) (target : W64) (kind : BrKind) (ras : List W64 → List W64) (s : State) : MRes Next :=
  let c := s.core k
  let p := { c.pred.learn c.pc target kind with ras := ras c.pred.ras }
  .ok (.to target) (s.setCore k ((({ c with pred := p } : CoreSt).setX link (c.pc + 4)).ev 0x05 1))

/-- A push onto the return stack of 32 entries: an overflow overwrites the oldest (R216). -/
def rasPush (v : W64) (l : List W64) : List W64 := (v :: l).take 32

end Sys2Proof.Machine
end

