-- ==== Sys2Proof/Machine/Discard.lean ====
section
/-! DEFINITION. What a step does on an empty queue: a clock passes, the leading link carries what it can, and a core may do the work of an instruction that it later discards (R229, R230, R357). -/

namespace Sys2Proof.Machine

/-- The lines that a discarded access fills, where it translates (R229, R230): one to ordinary memory of a cached policy. -/
def State.discardLine (s : State) (k : CoreId) (p : Phys) (a : Acc) : State :=
  if rangeOf p.pa != .dram || p.pol.single then s
  else match a with
    | .store => s
    | .fetch => (match s.fetchLine k (p.pa / 64) p.pol with
      | .ok _ t => t
      | _ => s)
    | .load => (match s.lineLoad k (p.pa / 64) p.pol with
      | .ok _ t => t
      | _ => s)

/-- An access of an instruction that is later discarded: it fills TLBs, the walk cache and caches, raises nothing and counts nothing (R229, R230, R357). A translation that it finds is held whatever its A and D marks say, so that ACCESS_FLAG and DIRTY can fire against an old entry (R355); one that it may not use reaches no line. -/
def State.discardAccess (s : State) (k : CoreId) (va : W64) (a : Acc) : State :=
  if !canonical va then s
  else match s.lookup k va a with
    | .ok r t =>
      let t := t.tlbFill k a r.1 r.2.2
      let u := match t.permit k va a r.1 r.2.1 .l1 with
        | .ok p u => u.discardLine k p a
        | _ => t
      u.setCore k { u.core k with evcnt := (s.core k).evcnt, evsel := (s.core k).evsel, evOcc := (s.core k).evOcc }
    | _ => s

/-- Training by an instruction that is later discarded: an outcome in the direction table, a target, the return stack or a wait table entry; which and with what, the rules leave open (R216, R229). -/
def State.discardTrain (s : State) (k : CoreId) : State :=
  let w := s.free 3
  let v := w.2.free 64
  let p := (s.core k).pred
  let i := bitsAt v.1 2 14
  let q : Pred :=
    if w.1 = 0 then { p with dir := dirTrain p.dir i (bitAt v.1 0), hist := p.hist <<< 1 ||| BitVec.ofNat 14 (b2n (bitAt v.1 0)) }
    else if w.1 = 1 then { p with target := assocSet p.target (bitsAt v.1 2 12) (v.1, if bitAt v.1 0 then .cond else .jump) }
    else if w.1 = 2 then { p with ras := (v.1 :: p.ras).take 32 }
    else if w.1 = 3 then { p with ras := p.ras.drop 1 }
    else if w.1 = 4 then { p with wait := bitsAt v.1 2 8 :: p.wait.filter (· != bitsAt v.1 2 8) }
    else p
  v.2.setCore k { s.core k with pred := q }

/-- Between commands a core that runs may make an access that it later discards, and train its predictor; which core, address and kind the rules leave open (R229, log entry 67). -/
def State.discarded (s : State) : State :=
  if allCores.any (fun k => (s.core k).run == .running) then
    let c := s.free 8
    let v := c.2.free 64
    let w := v.2.free 2
    let k := coreOf c.1.toNat
    let a : Acc := if w.1 = 0 then .fetch else if w.1 = 1 then .store else .load
    if c.1.toNat < 144 && (s.core k).run == .running then (w.2.discardAccess k v.1 a).discardTrain k else w.2
  else s

/-- Between commands the berth table's SECDED may find an entry in error: a corrected one is repaired in place, an uncorrectable one is rewritten from the policy core's copy, and BT_FIX records it (R416). Whether and where is free (log entry 81). -/
def State.btChecked (s : State) : State :=
  if s.btCount = 0 then s
  else
    let c := s.free 3
    let b := c.2.free 21
    if (c.1 = 1 ∨ c.1 = 2) ∧ b.1.toNat < s.btCount then
      (b.2.flag R.BT_STATUS 4).jlog b.2.now 104 0 0x0d08 [(0, 4, b.1.toNat), (4, 1, c.1.toNat - 1)]
    else b.2

/-- The block on an empty queue: one clock passes where the timebase runs, and what it allows happens. -/
def State.idle (s : State) : State := if s.tb.running then s.clockPass.linkDrain.discarded.ebSendAll.btChecked.supplyIdle.nvmIdle.lanKick.antDue else s

end Sys2Proof.Machine
end

