-- ==== Sys2Proof/Machine/ScBranch.lean ====
section
/-! DEFINITION. Branches and jumps of SIS-64 (R248, R249). -/

namespace Sys2Proof.Machine

/-- BEQ (R248). -/
def execBeq (k : CoreId) (a b : Reg) (off : BitVec 16) (s : State) : Host.Outcome State Fault Refusal := .next (condBranch k off (fun c => c.xr a == c.xr b) s)

/-- BNE (R248). -/
def execBne (k : CoreId) (a b : Reg) (off : BitVec 16) (s : State) : Host.Outcome State Fault Refusal := .next (condBranch k off (fun c => c.xr a != c.xr b) s)

/-- BLT (R248). -/
def execBlt (k : CoreId) (a b : Reg) (off : BitVec 16) (s : State) : Host.Outcome State Fault Refusal := .next (condBranch k off (fun c => (c.xr a).slt (c.xr b)) s)

/-- BGE (R248). -/
def execBge (k : CoreId) (a b : Reg) (off : BitVec 16) (s : State) : Host.Outcome State Fault Refusal := .next (condBranch k off (fun c => !(c.xr a).slt (c.xr b)) s)

/-- BLTU (R248). -/
def execBltu (k : CoreId) (a b : Reg) (off : BitVec 16) (s : State) : Host.Outcome State Fault Refusal := .next (condBranch k off (fun c => (c.xr a).ult (c.xr b)) s)

/-- BGEU (R248). -/
def execBgeu (k : CoreId) (a b : Reg) (off : BitVec 16) (s : State) : Host.Outcome State Fault Refusal := .next (condBranch k off (fun c => !(c.xr a).ult (c.xr b)) s)

/-- J (R248). -/
def execJ (k : CoreId) (off : BitVec 26) (s : State) : Host.Outcome State Fault Refusal :=
  .next (s.instr k (fun s => jumpTo k 0 ((s.core k).pc + joff off) .jump id s))

/-- JAL: X31 = PC + 4 (R248, R249). -/
def execJal (k : CoreId) (off : BitVec 26) (s : State) : Host.Outcome State Fault Refusal :=
  .next (s.instr k (fun s => jumpTo k 31 ((s.core k).pc + joff off) .call (rasPush ((s.core k).pc + 4)) s))

/-- What JALR does to the return stack (R249). -/
def jalrRas (d a : Reg) (next : W64) (l : List W64) : List W64 :=
  if d = 31 then rasPush next l else if d = 0 ∧ a = 31 then l.drop 1 else l

/-- The kind of a JALR (R249). -/
def jalrKind (d a : Reg) : BrKind := if d = 31 then .call else if d = 0 ∧ a = 31 then .ret else .indirect

/-- JALR: a target not aligned to 4 B raises ALIGN on the JALR itself (R248). -/
def execJalr (k : CoreId) (d a : Reg) (imm : BitVec 16) (s : State) : Host.Outcome State Fault Refusal :=
  .next (s.instr k (fun s =>
    let c := s.core k
    let t := c.eaddr a imm
    if bitsAt t 0 2 != 0 then .exc (s.alignExc k t) s else jumpTo k d t (jalrKind d a) (jalrRas d a (c.pc + 4)) s))

end Sys2Proof.Machine
end

