-- ==== Sys2Proof/Machine/ScFloat.lean ====
section
/-! DEFINITION. Floating-point instructions of SIS-64 (R250 to R253). -/

namespace Sys2Proof.Machine

/-- FPSTAT.RND (R250). -/
def CoreSt.rnd (c : CoreSt) : Nat := bitsAt c.fpstat 0 3

/-- Flags accrue in FPSTAT (R251). -/
def CoreSt.accrue (c : CoreSt) (fl : Nat) : CoreSt := { c with fpstat := c.fpstat ||| BitVec.ofNat 64 (fl % 32 * 256) }

/-- The rounding that a 3-bit field names; none for 6 and 7 (R250). -/
def CoreSt.roundOf (c : CoreSt) (rnd : BitVec 3) : Option Nat :=
  if rnd = 0 then some c.rnd else if rnd.toNat ≤ 5 then some (rnd.toNat - 1) else none

/-- The operand in Fr: all of it, or bits [31:0] as binary32 (R236). -/
def CoreSt.fop (c : CoreSt) (sgl : Bool) (r : Reg) : Nat := (c.fr r).toNat % 2 ^ fWidth sgl

/-- Its value. -/
def CoreSt.fval (c : CoreSt) (sgl : Bool) (r : Reg) : FVal := fUnpack sgl (c.fop sgl r)

/-- The word of a FOP instruction (R252). -/
def fopWord (sgl : Bool) (rnd op : Nat) (d a b : Reg) : W32 := encR 0x34 d.toNat a.toNat b.toNat (b2n sgl * 1024 + rnd * 128 + op)

/-- Fd = a result, its flags accrued; n operations are counted (R236, R251, R525). -/
def CoreSt.putF (c : CoreSt) (d : Reg) (n : Nat) (r : FRes) : CoreSt := ((c.setF d (BitVec.ofNat 64 r.bits)).accrue r.flags).ev 0x24 n

/-- Xd = a result, its flags accrued. -/
def CoreSt.putX (c : CoreSt) (d : Reg) (n : Nat) (v : W64) (fl : Nat) : CoreSt := ((c.setX d v).accrue fl).ev 0x24 n

/-- A rounding instruction: illegal with rounding field 6 or 7 (R250). -/
def roundOp (k : CoreId) (rnd : BitVec 3) (w : W32) (f : Nat → CoreSt → CoreSt) (s : State) : State :=
  s.instr k (fun s =>
    match (s.core k).roundOf rnd with
    | none => s.illegal k w
    | some m => s.done k (f m))

/-- An instruction that does not round. -/
def plainOp (k : CoreId) (f : CoreSt → CoreSt) (s : State) : State := s.instr k (fun s => s.done k f)

/-- FTO: Xd = Fa rounded to an integer of a width, sign-extended from 32 bits (R252). -/
def ftoOp (k : CoreId) (sgl : Bool) (rnd : BitVec 3) (op : Nat) (d a : Reg) (bits : Nat) (sgn : Bool) (s : State) : State :=
  roundOp k rnd (fopWord sgl rnd.toNat op d a 0) (fun m c =>
    let lo : Int := if sgn then -(2 ^ (bits - 1) : Nat) else 0
    let hi : Int := if sgn then (2 ^ (bits - 1) : Nat) - 1 else (2 ^ bits : Nat) - 1
    let r := fToInt m lo hi (c.fval sgl a)
    c.putX d 1 (if bits = 32 then sext32 (BitVec.ofInt 32 r.1) else BitVec.ofInt 64 r.1) r.2) s

/-- An integer in Xa converted to Fd (R252). -/
def tofOp (k : CoreId) (sgl : Bool) (rnd : BitVec 3) (op : Nat) (d a : Reg) (v : W64 → Int) (s : State) : State :=
  roundOp k rnd (fopWord sgl rnd.toNat op d a 0) (fun m c => c.putF d 1 (fFromInt sgl m (v (c.xr a)))) s

/-- The word of an FMA instruction (R253). -/
def fmaWord (op : Nat) (sgl : Bool) (rnd : Nat) (d a b c : Reg) : W32 := encR5 0x35 d.toNat a.toNat b.toNat c.toNat (op * 16 + b2n sgl * 8 + rnd)

/-- The operands of FMA operation op: 0 A, 1 S, 2 NA, 3 NS. The negated product or addend is rounded once, with its sign (R253). -/
def fmaRes (op : Nat) (sgl : Bool) (m : Nat) (a b c : FVal) : FRes :=
  match op with
  | 0 => fFmaV sgl m a b c
  | 1 => fFmaV sgl m a b c.neg
  | 2 => fFmaV sgl m a.neg b c.neg
  | _ => fFmaV sgl m a.neg b c

/-- An FMA instruction (R253). -/
def fmaOp (k : CoreId) (op : Nat) (sgl : Bool) (rnd : BitVec 3) (d a b c : Reg) (s : State) : State :=
  roundOp k rnd (fmaWord op sgl rnd.toNat d a b c) (fun m x =>
    x.putF d 2 (fmaRes op sgl m (x.fval sgl a) (x.fval sgl b) (x.fval sgl c))) s

/-- FADD (R252). -/
def execFadd (k : CoreId) (sgl : Bool) (rnd : BitVec 3) (d a b : Reg) (s : State) : Host.Outcome State Fault Refusal := .next (roundOp k rnd (fopWord sgl rnd.toNat 0 d a b) (fun m c => c.putF d 1 (fAddV sgl m (c.fval sgl a) (c.fval sgl b))) s)

/-- FSUB (R252). -/
def execFsub (k : CoreId) (sgl : Bool) (rnd : BitVec 3) (d a b : Reg) (s : State) : Host.Outcome State Fault Refusal := .next (roundOp k rnd (fopWord sgl rnd.toNat 1 d a b) (fun m c => c.putF d 1 (fAddV sgl m (c.fval sgl a) (c.fval sgl b).neg)) s)

/-- FMUL (R252). -/
def execFmul (k : CoreId) (sgl : Bool) (rnd : BitVec 3) (d a b : Reg) (s : State) : Host.Outcome State Fault Refusal := .next (roundOp k rnd (fopWord sgl rnd.toNat 2 d a b) (fun m c => c.putF d 1 (fMulV sgl m (c.fval sgl a) (c.fval sgl b))) s)

/-- FDIV (R252). -/
def execFdiv (k : CoreId) (sgl : Bool) (rnd : BitVec 3) (d a b : Reg) (s : State) : Host.Outcome State Fault Refusal := .next (roundOp k rnd (fopWord sgl rnd.toNat 3 d a b) (fun m c => c.putF d 1 (fDivV sgl m (c.fval sgl a) (c.fval sgl b))) s)

/-- FSQRT (R252). -/
def execFsqrt (k : CoreId) (sgl : Bool) (rnd : BitVec 3) (d a : Reg) (s : State) : Host.Outcome State Fault Refusal := .next (roundOp k rnd (fopWord sgl rnd.toNat 4 d a 0) (fun m c => c.putF d 1 (fSqrtV sgl m (c.fval sgl a))) s)

/-- FMIN (R252). -/
def execFmin (k : CoreId) (sgl : Bool) (d a b : Reg) (s : State) : Host.Outcome State Fault Refusal := .next (plainOp k (fun c => c.putF d 1 (fMinMax sgl false (c.fop sgl a) (c.fop sgl b))) s)

/-- FMAX (R252). -/
def execFmax (k : CoreId) (sgl : Bool) (d a b : Reg) (s : State) : Host.Outcome State Fault Refusal := .next (plainOp k (fun c => c.putF d 1 (fMinMax sgl true (c.fop sgl a) (c.fop sgl b))) s)

/-- FMINNUM (R252). -/
def execFminnum (k : CoreId) (sgl : Bool) (d a b : Reg) (s : State) : Host.Outcome State Fault Refusal := .next (plainOp k (fun c => c.putF d 1 (fMinMaxNum sgl false (c.fop sgl a) (c.fop sgl b))) s)

/-- FMAXNUM (R252). -/
def execFmaxnum (k : CoreId) (sgl : Bool) (d a b : Reg) (s : State) : Host.Outcome State Fault Refusal := .next (plainOp k (fun c => c.putF d 1 (fMinMaxNum sgl true (c.fop sgl a) (c.fop sgl b))) s)

/-- Bits of an operand below its sign. -/
def fMag (sgl : Bool) (w : Nat) : Nat := w % 2 ^ fSignBit sgl
/-- The sign bit of an operand. -/
def fSgn (sgl : Bool) (w : Nat) : Nat := w / 2 ^ fSignBit sgl % 2

/-- FABS: no flag, and a NaN passes (R252). -/
def execFabs (k : CoreId) (sgl : Bool) (d a : Reg) (s : State) : Host.Outcome State Fault Refusal := .next (plainOp k (fun c => c.setF d (BitVec.ofNat 64 (fMag sgl (c.fop sgl a)))) s)

/-- FNEG (R252). -/
def execFneg (k : CoreId) (sgl : Bool) (d a : Reg) (s : State) : Host.Outcome State Fault Refusal := .next (plainOp k (fun c => c.setF d (BitVec.ofNat 64 (fMag sgl (c.fop sgl a) + (1 - fSgn sgl (c.fop sgl a)) * 2 ^ fSignBit sgl))) s)

/-- FCPS: the magnitude of Fa with the sign of Fb (R252). -/
def execFcps (k : CoreId) (sgl : Bool) (d a b : Reg) (s : State) : Host.Outcome State Fault Refusal := .next (plainOp k (fun c => c.setF d (BitVec.ofNat 64 (fMag sgl (c.fop sgl a) + fSgn sgl (c.fop sgl b) * 2 ^ fSignBit sgl))) s)

/-- FCMP (R252). -/
def execFcmp (k : CoreId) (sgl : Bool) (d a b : Reg) (s : State) : Host.Outcome State Fault Refusal := .next (plainOp k (fun c => let r := fCmpV false (c.fval sgl a) (c.fval sgl b); c.putX d 1 (BitVec.ofNat 64 r.bits) r.flags) s)

/-- FCMPO (R252). -/
def execFcmpo (k : CoreId) (sgl : Bool) (d a b : Reg) (s : State) : Host.Outcome State Fault Refusal := .next (plainOp k (fun c => let r := fCmpV true (c.fval sgl a) (c.fval sgl b); c.putX d 1 (BitVec.ofNat 64 r.bits) r.flags) s)

/-- FKIND (R252). -/
def execFkind (k : CoreId) (sgl : Bool) (d a : Reg) (s : State) : Host.Outcome State Fault Refusal := .next (plainOp k (fun c => c.setX d (BitVec.ofNat 64 (fKind sgl (c.fop sgl a)))) s)

/-- FTOS64 (R252). -/
def execFtos64 (k : CoreId) (sgl : Bool) (rnd : BitVec 3) (d a : Reg) (s : State) : Host.Outcome State Fault Refusal := .next (ftoOp k sgl rnd 0x20 d a 64 true s)

/-- FTOU64 (R252). -/
def execFtou64 (k : CoreId) (sgl : Bool) (rnd : BitVec 3) (d a : Reg) (s : State) : Host.Outcome State Fault Refusal := .next (ftoOp k sgl rnd 0x21 d a 64 false s)

/-- FTOS32 (R252). -/
def execFtos32 (k : CoreId) (sgl : Bool) (rnd : BitVec 3) (d a : Reg) (s : State) : Host.Outcome State Fault Refusal := .next (ftoOp k sgl rnd 0x22 d a 32 true s)

/-- FTOU32 (R252). -/
def execFtou32 (k : CoreId) (sgl : Bool) (rnd : BitVec 3) (d a : Reg) (s : State) : Host.Outcome State Fault Refusal := .next (ftoOp k sgl rnd 0x23 d a 32 false s)

/-- S64TOF (R252). -/
def execS64tof (k : CoreId) (sgl : Bool) (rnd : BitVec 3) (d a : Reg) (s : State) : Host.Outcome State Fault Refusal := .next (tofOp k sgl rnd 0x24 d a (fun x => x.toInt) s)

/-- U64TOF (R252). -/
def execU64tof (k : CoreId) (sgl : Bool) (rnd : BitVec 3) (d a : Reg) (s : State) : Host.Outcome State Fault Refusal := .next (tofOp k sgl rnd 0x25 d a (fun x => x.toNat) s)

/-- S32TOF (R252). -/
def execS32tof (k : CoreId) (sgl : Bool) (rnd : BitVec 3) (d a : Reg) (s : State) : Host.Outcome State Fault Refusal := .next (tofOp k sgl rnd 0x26 d a (fun x => (lo32 x).toInt) s)

/-- U32TOF (R252). -/
def execU32tof (k : CoreId) (sgl : Bool) (rnd : BitVec 3) (d a : Reg) (s : State) : Host.Outcome State Fault Refusal := .next (tofOp k sgl rnd 0x27 d a (fun x => (lo32 x).toNat) s)

/-- FRESIZE: from the other precision (R252). -/
def execFresize (k : CoreId) (sgl : Bool) (rnd : BitVec 3) (d a : Reg) (s : State) : Host.Outcome State Fault Refusal := .next (roundOp k rnd (fopWord sgl rnd.toNat 0x28 d a 0) (fun m c => c.putF d 1 (fResizeV sgl m (c.fval (!sgl) a))) s)

/-- FBITS (R252). -/
def execFbits (k : CoreId) (sgl : Bool) (d a : Reg) (s : State) : Host.Outcome State Fault Refusal := .next (plainOp k (fun c => c.setX d (BitVec.ofNat 64 (c.fop sgl a))) s)

/-- XBITS (R236, R252). -/
def execXbits (k : CoreId) (sgl : Bool) (d a : Reg) (s : State) : Host.Outcome State Fault Refusal := .next (plainOp k (fun c => c.setF d (BitVec.ofNat 64 ((c.xr a).toNat % 2 ^ fWidth sgl))) s)

/-- FMA.A: Fa × Fb + Fc (R253). -/
def execFmaA (k : CoreId) (sgl : Bool) (rnd : BitVec 3) (d a b c : Reg) (s : State) : Host.Outcome State Fault Refusal := .next (fmaOp k 0 sgl rnd d a b c s)

/-- FMA.S: Fa × Fb − Fc (R253). -/
def execFmaS (k : CoreId) (sgl : Bool) (rnd : BitVec 3) (d a b c : Reg) (s : State) : Host.Outcome State Fault Refusal := .next (fmaOp k 1 sgl rnd d a b c s)

/-- FMA.NA: −(Fa × Fb + Fc) (R253). -/
def execFmaNa (k : CoreId) (sgl : Bool) (rnd : BitVec 3) (d a b c : Reg) (s : State) : Host.Outcome State Fault Refusal := .next (fmaOp k 2 sgl rnd d a b c s)

/-- FMA.NS: Fc − Fa × Fb (R253). -/
def execFmaNs (k : CoreId) (sgl : Bool) (rnd : BitVec 3) (d a b c : Reg) (s : State) : Host.Outcome State Fault Refusal := .next (fmaOp k 3 sgl rnd d a b c s)

end Sys2Proof.Machine
end

