-- ==== Sys2Proof/Machine/SisWords.lean ====
section
/-! DEFINITION. The words of the SIS-64 instructions: an encoder and a decoder from the tables of R238 to R265 and R353. A word the decoder refuses raises the illegal-instruction exception (R240). -/

namespace Sys2Proof.Machine

/-! ### Formats (R238) -/

/-- Format R: fields d, a and b, and fn. -/
def wordR (op : BitVec 6) (d a b : Reg) (fn : BitVec 11) : W32 := op ++ d ++ a ++ b ++ fn
/-- Format R5: fields d, a, b and c, and fn6. -/
def wordR5 (op : BitVec 6) (d a b c : Reg) (fn : BitVec 6) : W32 := op ++ d ++ a ++ b ++ c ++ fn
/-- Format I: fields d and a, and imm16. -/
def wordI (op : BitVec 6) (d a : Reg) (imm : BitVec 16) : W32 := op ++ d ++ a ++ imm
/-- Format U: field d and imm21. -/
def wordU (op : BitVec 6) (d : Reg) (imm : BitVec 21) : W32 := op ++ d ++ imm
/-- Format B: fields a and b, and off16. -/
def wordB (op : BitVec 6) (a b : Reg) (off : BitVec 16) : W32 := op ++ a ++ b ++ off
/-- Format J: off26. -/
def wordJ (op : BitVec 6) (off : BitVec 26) : W32 := op ++ off

/-- The kind of SHIFTI in imm16[7:6] (R243). -/
def shiftBits : ShiftKind → BitVec 2
  | .sll => 0
  | .srl => 1
  | .sra => 2

/-- A bit as a field. -/
def bit1 (b : Bool) : BitVec 1 := BitVec.ofBool b

/-- imm16 of SHIFTI (R243). -/
def shiftImm (kind : ShiftKind) (w32 : Bool) (sh : BitVec 6) : BitVec 16 := (0 : BitVec 7) ++ bit1 w32 ++ shiftBits kind ++ sh
/-- fn of an AMO (R246). -/
def amoFn (op : BitVec 4) (dbl : Bool) (ord : BitVec 2) : BitVec 11 := ord ++ bit1 dbl ++ (0 : BitVec 4) ++ op
/-- fn of FOP (R252). -/
def fopFn (sgl : Bool) (rnd : BitVec 3) (op : BitVec 7) : BitVec 11 := bit1 sgl ++ rnd ++ op
/-- fn6 of FMA (R253). -/
def fmaFn (op : BitVec 2) (sgl : Bool) (rnd : BitVec 3) : BitVec 6 := op ++ bit1 sgl ++ rnd
/-- fn of VOP (R254). -/
def vopFn (ty : BitVec 3) (op : BitVec 6) : BitVec 11 := ty ++ (0 : BitVec 2) ++ op
/-- fn6 of VR4 (R255). -/
def vr4Fn (op : BitVec 3) (ty : BitVec 2) : BitVec 6 := op ++ ty ++ (0 : BitVec 1)

/-- The word of an instruction of SIS-64 (R238 to R265); any other command has none. -/
def sisWord : Instr → Option W32
  | .add _ d a b => some (wordR 1 d a b 0x0)
  | .sub _ d a b => some (wordR 1 d a b 0x1)
  | .and _ d a b => some (wordR 1 d a b 0x2)
  | .or _ d a b => some (wordR 1 d a b 0x3)
  | .xor _ d a b => some (wordR 1 d a b 0x4)
  | .sll _ d a b => some (wordR 1 d a b 0x5)
  | .srl _ d a b => some (wordR 1 d a b 0x6)
  | .sra _ d a b => some (wordR 1 d a b 0x7)
  | .slt _ d a b => some (wordR 1 d a b 0x8)
  | .sltu _ d a b => some (wordR 1 d a b 0x9)
  | .min _ d a b => some (wordR 1 d a b 0xa)
  | .max _ d a b => some (wordR 1 d a b 0xb)
  | .minu _ d a b => some (wordR 1 d a b 0xc)
  | .maxu _ d a b => some (wordR 1 d a b 0xd)
  | .mul _ d a b => some (wordR 1 d a b 0x10)
  | .mulh _ d a b => some (wordR 1 d a b 0x11)
  | .mulhu _ d a b => some (wordR 1 d a b 0x12)
  | .div _ d a b => some (wordR 1 d a b 0x18)
  | .divu _ d a b => some (wordR 1 d a b 0x19)
  | .rem _ d a b => some (wordR 1 d a b 0x1a)
  | .remu _ d a b => some (wordR 1 d a b 0x1b)
  | .addw _ d a b => some (wordR 1 d a b 0x100)
  | .subw _ d a b => some (wordR 1 d a b 0x101)
  | .sllw _ d a b => some (wordR 1 d a b 0x105)
  | .srlw _ d a b => some (wordR 1 d a b 0x106)
  | .sraw _ d a b => some (wordR 1 d a b 0x107)
  | .mulw _ d a b => some (wordR 1 d a b 0x110)
  | .divw _ d a b => some (wordR 1 d a b 0x118)
  | .divuw _ d a b => some (wordR 1 d a b 0x119)
  | .remw _ d a b => some (wordR 1 d a b 0x11a)
  | .remuw _ d a b => some (wordR 1 d a b 0x11b)
  | .clz _ d a => some (wordR 1 d a 0 0x20)
  | .ctz _ d a => some (wordR 1 d a 0 0x21)
  | .popc _ d a => some (wordR 1 d a 0 0x22)
  | .addi _ d a imm => some (wordI 0x2 d a imm)
  | .andi _ d a imm => some (wordI 0x3 d a imm)
  | .ori _ d a imm => some (wordI 0x4 d a imm)
  | .xori _ d a imm => some (wordI 0x5 d a imm)
  | .slti _ d a imm => some (wordI 0x6 d a imm)
  | .sltiu _ d a imm => some (wordI 0x7 d a imm)
  | .addiw _ d a imm => some (wordI 0x9 d a imm)
  | .jalr _ d a imm => some (wordI 0x30 d a imm)
  | .ld _ d a imm => some (wordI 0x10 d a imm)
  | .lw _ d a imm => some (wordI 0x11 d a imm)
  | .lwu _ d a imm => some (wordI 0x12 d a imm)
  | .lh _ d a imm => some (wordI 0x13 d a imm)
  | .lhu _ d a imm => some (wordI 0x14 d a imm)
  | .lb _ d a imm => some (wordI 0x15 d a imm)
  | .lbu _ d a imm => some (wordI 0x16 d a imm)
  | .st _ d a imm => some (wordI 0x17 d a imm)
  | .sw _ d a imm => some (wordI 0x18 d a imm)
  | .sh _ d a imm => some (wordI 0x19 d a imm)
  | .sb _ d a imm => some (wordI 0x1a d a imm)
  | .fld _ d a imm => some (wordI 0x1b d a imm)
  | .flw _ d a imm => some (wordI 0x1c d a imm)
  | .fsd _ d a imm => some (wordI 0x1d d a imm)
  | .fsw _ d a imm => some (wordI 0x1e d a imm)
  | .vld _ d a imm => some (wordI 0x1f d a imm)
  | .vst _ d a imm => some (wordI 0x20 d a imm)
  | .shifti _ d a kind w32 sh => some (wordI 8 d a (shiftImm kind w32 sh))
  | .lui _ d imm => some (wordU 0xa d imm)
  | .auipc _ d imm => some (wordU 0xb d imm)
  | .beq _ a b off => some (wordB 0x28 a b off)
  | .bne _ a b off => some (wordB 0x29 a b off)
  | .blt _ a b off => some (wordB 0x2a a b off)
  | .bge _ a b off => some (wordB 0x2b a b off)
  | .bltu _ a b off => some (wordB 0x2c a b off)
  | .bgeu _ a b off => some (wordB 0x2d a b off)
  | .j _ off => some (wordJ 0x2e off)
  | .jal _ off => some (wordJ 0x2f off)
  | .amoSwap _ d a b dbl ord => some (wordR 0x21 d a b (amoFn 0 dbl ord))
  | .amoAdd _ d a b dbl ord => some (wordR 0x21 d a b (amoFn 1 dbl ord))
  | .amoAnd _ d a b dbl ord => some (wordR 0x21 d a b (amoFn 2 dbl ord))
  | .amoOr _ d a b dbl ord => some (wordR 0x21 d a b (amoFn 3 dbl ord))
  | .amoXor _ d a b dbl ord => some (wordR 0x21 d a b (amoFn 4 dbl ord))
  | .amoMin _ d a b dbl ord => some (wordR 0x21 d a b (amoFn 5 dbl ord))
  | .amoMax _ d a b dbl ord => some (wordR 0x21 d a b (amoFn 6 dbl ord))
  | .amoMinu _ d a b dbl ord => some (wordR 0x21 d a b (amoFn 7 dbl ord))
  | .amoMaxu _ d a b dbl ord => some (wordR 0x21 d a b (amoFn 8 dbl ord))
  | .cas _ d a b dbl ord => some (wordR 0x21 d a b (amoFn 9 dbl ord))
  | .ldaq _ d a size => some (wordR 0x22 d a 0 ((0 : BitVec 1) ++ size ++ (0 : BitVec 8)))
  | .strl _ d a size => some (wordR 0x22 d a 0 ((0 : BitVec 1) ++ size ++ (1 : BitVec 8)))
  | .fadd _ sgl rnd d a b => some (wordR 0x34 d a b (fopFn sgl rnd 0x0))
  | .fsub _ sgl rnd d a b => some (wordR 0x34 d a b (fopFn sgl rnd 0x1))
  | .fmul _ sgl rnd d a b => some (wordR 0x34 d a b (fopFn sgl rnd 0x2))
  | .fdiv _ sgl rnd d a b => some (wordR 0x34 d a b (fopFn sgl rnd 0x3))
  | .fsqrt _ sgl rnd d a => some (wordR 0x34 d a 0 (fopFn sgl rnd 0x4))
  | .ftos64 _ sgl rnd d a => some (wordR 0x34 d a 0 (fopFn sgl rnd 0x20))
  | .ftou64 _ sgl rnd d a => some (wordR 0x34 d a 0 (fopFn sgl rnd 0x21))
  | .ftos32 _ sgl rnd d a => some (wordR 0x34 d a 0 (fopFn sgl rnd 0x22))
  | .ftou32 _ sgl rnd d a => some (wordR 0x34 d a 0 (fopFn sgl rnd 0x23))
  | .s64tof _ sgl rnd d a => some (wordR 0x34 d a 0 (fopFn sgl rnd 0x24))
  | .u64tof _ sgl rnd d a => some (wordR 0x34 d a 0 (fopFn sgl rnd 0x25))
  | .s32tof _ sgl rnd d a => some (wordR 0x34 d a 0 (fopFn sgl rnd 0x26))
  | .u32tof _ sgl rnd d a => some (wordR 0x34 d a 0 (fopFn sgl rnd 0x27))
  | .fresize _ sgl rnd d a => some (wordR 0x34 d a 0 (fopFn sgl rnd 0x28))
  | .fmin _ sgl d a b => some (wordR 0x34 d a b (fopFn sgl 0 0x5))
  | .fmax _ sgl d a b => some (wordR 0x34 d a b (fopFn sgl 0 0x6))
  | .fminnum _ sgl d a b => some (wordR 0x34 d a b (fopFn sgl 0 0x7))
  | .fmaxnum _ sgl d a b => some (wordR 0x34 d a b (fopFn sgl 0 0x8))
  | .fcps _ sgl d a b => some (wordR 0x34 d a b (fopFn sgl 0 0xb))
  | .fcmp _ sgl d a b => some (wordR 0x34 d a b (fopFn sgl 0 0x10))
  | .fcmpo _ sgl d a b => some (wordR 0x34 d a b (fopFn sgl 0 0x11))
  | .fabs _ sgl d a => some (wordR 0x34 d a 0 (fopFn sgl 0 0x9))
  | .fneg _ sgl d a => some (wordR 0x34 d a 0 (fopFn sgl 0 0xa))
  | .fkind _ sgl d a => some (wordR 0x34 d a 0 (fopFn sgl 0 0x13))
  | .fbits _ sgl d a => some (wordR 0x34 d a 0 (fopFn sgl 0 0x30))
  | .xbits _ sgl d a => some (wordR 0x34 d a 0 (fopFn sgl 0 0x31))
  | .fmaA _ sgl rnd d a b c => some (wordR5 0x35 d a b c (fmaFn 0 sgl rnd))
  | .fmaS _ sgl rnd d a b c => some (wordR5 0x35 d a b c (fmaFn 1 sgl rnd))
  | .fmaNa _ sgl rnd d a b c => some (wordR5 0x35 d a b c (fmaFn 2 sgl rnd))
  | .fmaNs _ sgl rnd d a b c => some (wordR5 0x35 d a b c (fmaFn 3 sgl rnd))
  | .vadd _ ty d a b => some (wordR 0x38 d a b (vopFn ty 0x0))
  | .vsub _ ty d a b => some (wordR 0x38 d a b (vopFn ty 0x1))
  | .vmul _ ty d a b => some (wordR 0x38 d a b (vopFn ty 0x2))
  | .vdiv _ ty d a b => some (wordR 0x38 d a b (vopFn ty 0x3))
  | .vmin _ ty d a b => some (wordR 0x38 d a b (vopFn ty 0x5))
  | .vmax _ ty d a b => some (wordR 0x38 d a b (vopFn ty 0x6))
  | .vand _ ty d a b => some (wordR 0x38 d a b (vopFn ty 0x8))
  | .vor _ ty d a b => some (wordR 0x38 d a b (vopFn ty 0x9))
  | .vxor _ ty d a b => some (wordR 0x38 d a b (vopFn ty 0xa))
  | .vcmpeq _ ty d a b => some (wordR 0x38 d a b (vopFn ty 0x10))
  | .vcmplt _ ty d a b => some (wordR 0x38 d a b (vopFn ty 0x11))
  | .vcmple _ ty d a b => some (wordR 0x38 d a b (vopFn ty 0x12))
  | .vshl _ ty d a b => some (wordR 0x38 d a b (vopFn ty 0x2c))
  | .vsra _ ty d a b => some (wordR 0x38 d a b (vopFn ty 0x2d))
  | .vsqrt _ ty d a => some (wordR 0x38 d a 0 (vopFn ty 0x4))
  | .vsplatX _ ty d a => some (wordR 0x38 d a 0 (vopFn ty 0x20))
  | .vsplatF _ ty d a => some (wordR 0x38 d a 0 (vopFn ty 0x21))
  | .vsumh _ ty d a => some (wordR 0x38 d a 0 (vopFn ty 0x26))
  | .vcvt _ ty d a => some (wordR 0x38 d a 0 (vopFn ty 0x28))
  | .vextX _ ty d a lane => some (wordR 0x38 d a lane (vopFn ty 0x22))
  | .vinsX _ ty d a lane => some (wordR 0x38 d a lane (vopFn ty 0x23))
  | .vextF _ ty d a lane => some (wordR 0x38 d a lane (vopFn ty 0x24))
  | .vinsF _ ty d a lane => some (wordR 0x38 d a lane (vopFn ty 0x25))
  | .vr4FmaA _ ty d a b c => some (wordR5 0x39 d a b c (vr4Fn 0 ty))
  | .vr4FmaS _ ty d a b c => some (wordR5 0x39 d a b c (vr4Fn 1 ty))
  | .vr4FmaNa _ ty d a b c => some (wordR5 0x39 d a b c (vr4Fn 2 ty))
  | .vr4FmaNs _ ty d a b c => some (wordR5 0x39 d a b c (vr4Fn 3 ty))
  | .vsel _ ty d a b c => some (wordR5 0x39 d a b c (vr4Fn 4 ty))
  | .sysr _ d a n => some (wordI 0x3a d a ((0 : BitVec 4) ++ n))
  | .sysw _ d a n => some (wordI 0x3a d a ((1 : BitVec 4) ++ n))
  | .fence _ m => some (wordR 0x3b 0 0 0 ((0 : BitVec 7) ++ m))
  | .ifence _ => some (wordR 0x3b 0 0 0 0x10)
  | .iofence _ => some (wordR 0x3b 0 0 0 0x11)
  | .brk _ => some (wordR 0x3b 0 0 0 0x23)
  | .ecall _ a code => some (wordR 0x3b 0 a code 0x20)
  | .cleanVa _ a => some (wordR 0x3b 0 a 0 0x40)
  | .invVa _ a => some (wordR 0x3b 0 a 0 0x41)
  | .clinvVa _ a => some (wordR 0x3b 0 a 0 0x42)
  | .clinvSw _ a => some (wordR 0x3b 0 a 0 0x43)
  | .zeroVa _ a => some (wordR 0x3b 0 a 0 0x44)
  | .wcall _ a => some (wordR 0x3b 0 a 0 0x21)
  | .eret _ a => some (wordR 0x3b 0 a 0 0x22)
  | .tlbiAll _ a bcast => some (wordR 0x3b 0 a ((0 : BitVec 1) ++ bit1 bcast ++ (0 : BitVec 3)) 0x30)
  | .tlbiAsid _ a bcast => some (wordR 0x3b 0 a ((0 : BitVec 1) ++ bit1 bcast ++ (1 : BitVec 3)) 0x30)
  | .tlbiVa _ a bcast => some (wordR 0x3b 0 a ((0 : BitVec 1) ++ bit1 bcast ++ (2 : BitVec 3)) 0x30)
  | .tlbiVaAll _ a bcast => some (wordR 0x3b 0 a ((0 : BitVec 1) ++ bit1 bcast ++ (3 : BitVec 3)) 0x30)
  | .tlbiWalk _ a bcast => some (wordR 0x3b 0 a ((0 : BitVec 1) ++ bit1 bcast ++ (4 : BitVec 3)) 0x30)
  | .tint1 _ d a b => some (wordR5 0x3c d a b 0 1)
  | .tint2 _ d a b c => some (wordR5 0x3c d a b c 2)
  | .tint3 _ d a b c => some (wordR5 0x3c d a b c 3)
  | .blkcpy _ d a b => some (wordR5 0x3d d a b 0 1)
  | .blkset _ d a b => some (wordR5 0x3d d a b 0 2)
  | .vdot _ d a b c => some (wordR5 0x3d d a b c 3)
  | .sld _ d a b c => some (wordR5 0x3e d a b c 0)
  | .stamp _ d => some (wordR 0x3f d 0 0 0)
  | .frameN _ d => some (wordR 0x3f d 0 0 0x100)
  | .frameT _ d => some (wordR 0x3f d 0 0 0x200)
  | .done _ status => some (wordR 0x3f 0 0 0 ((3 : BitVec 3) ++ status))
  | _ => none

/-! ### The instructions -/

/-- The instructions of SIS-64, by their rows (R241 to R284). -/
inductive SisOp where
  | add | sub | and | or | xor | sll | srl | sra | slt | sltu | min | max
  | minu | maxu | mul | mulh | mulhu | div | divu | rem | remu | addw | subw | sllw
  | srlw | sraw | mulw | divw | divuw | remw | remuw | clz | ctz | popc | addi | andi
  | ori | xori | slti | sltiu | addiw | jalr | ld | lw | lwu | lh | lhu | lb
  | lbu | st | sw | sh | sb | fld | flw | fsd | fsw | vld | vst | shifti
  | lui | auipc | beq | bne | blt | bge | bltu | bgeu | j | jal | amoSwap | amoAdd
  | amoAnd | amoOr | amoXor | amoMin | amoMax | amoMinu | amoMaxu | cas | ldaq | strl | fadd | fsub
  | fmul | fdiv | fsqrt | ftos64 | ftou64 | ftos32 | ftou32 | s64tof | u64tof | s32tof | u32tof | fresize
  | fmin | fmax | fminnum | fmaxnum | fcps | fcmp | fcmpo | fabs | fneg | fkind | fbits | xbits
  | fmaA | fmaS | fmaNa | fmaNs | vadd | vsub | vmul | vdiv | vmin | vmax | vand | vor
  | vxor | vcmpeq | vcmplt | vcmple | vshl | vsra | vsqrt | vsplatX | vsplatF | vsumh | vcvt | vextX
  | vinsX | vextF | vinsF | vr4FmaA | vr4FmaS | vr4FmaNa | vr4FmaNs | vsel | sysr | sysw | fence | ifence
  | iofence | brk | ecall | cleanVa | invVa | clinvVa | clinvSw | zeroVa | wcall | eret | tlbiAll | tlbiAsid
  | tlbiVa | tlbiVaAll | tlbiWalk | tint1 | tint2 | tint3 | blkcpy | blkset | vdot | sld | stamp | frameN
  | frameT | done
deriving DecidableEq, Repr

/-! ### The decoder -/

/-- The fields of a word (R238). -/
structure SisFields where
  op : BitVec 6
  d : Reg
  a : Reg
  b : Reg
  c : Reg
  fn : BitVec 11
  fn6 : BitVec 6
  imm : BitVec 16
deriving DecidableEq, Repr

/-- The fields of a word. -/
def sisFields (w : W32) : SisFields where
  op := w.extractLsb' 26 6
  d := w.extractLsb' 21 5
  a := w.extractLsb' 16 5
  b := w.extractLsb' 11 5
  c := w.extractLsb' 6 5
  fn := w.extractLsb' 0 11
  fn6 := w.extractLsb' 0 6
  imm := w.extractLsb' 0 16

/-- An instruction under a condition on its fields. -/
def whenOk (ok : Bool) (i : SisOp) : Option SisOp := if ok then some i else none

/-- OP (R241). -/
def decOp (x : SisFields) : Option SisOp :=
  match x.fn.toNat with
  | 0x0 => some .add
  | 0x1 => some .sub
  | 0x2 => some .and
  | 0x3 => some .or
  | 0x4 => some .xor
  | 0x5 => some .sll
  | 0x6 => some .srl
  | 0x7 => some .sra
  | 0x8 => some .slt
  | 0x9 => some .sltu
  | 0xa => some .min
  | 0xb => some .max
  | 0xc => some .minu
  | 0xd => some .maxu
  | 0x10 => some .mul
  | 0x11 => some .mulh
  | 0x12 => some .mulhu
  | 0x18 => some .div
  | 0x19 => some .divu
  | 0x1a => some .rem
  | 0x1b => some .remu
  | 0x100 => some .addw
  | 0x101 => some .subw
  | 0x105 => some .sllw
  | 0x106 => some .srlw
  | 0x107 => some .sraw
  | 0x110 => some .mulw
  | 0x118 => some .divw
  | 0x119 => some .divuw
  | 0x11a => some .remw
  | 0x11b => some .remuw
  | 0x20 => whenOk (x.b == 0) .clz
  | 0x21 => whenOk (x.b == 0) .ctz
  | 0x22 => whenOk (x.b == 0) .popc
  | _ => none

/-- SHIFTI (R243). -/
def decShift (x : SisFields) : Option SisOp :=
  let kind := x.imm.extractLsb' 6 2
  let w32 := x.imm.getLsbD 8
  let sh : BitVec 6 := x.imm.extractLsb' 0 6
  if x.imm.extractLsb' 9 7 != 0 || (w32 && sh.getLsbD 5) then none
  else match kind.toNat with
    | 0 => some .shifti
    | 1 => some .shifti
    | 2 => some .shifti
    | _ => none

/-- AMO (R246). -/
def decAmo (x : SisFields) : Option SisOp :=
  if x.fn.extractLsb' 4 4 != 0 then none
  else match (x.fn.extractLsb' 0 4).toNat with
    | 0 => some .amoSwap
    | 1 => some .amoAdd
    | 2 => some .amoAnd
    | 3 => some .amoOr
    | 4 => some .amoXor
    | 5 => some .amoMin
    | 6 => some .amoMax
    | 7 => some .amoMinu
    | 8 => some .amoMaxu
    | 9 => some .cas
    | _ => none

/-- ORD (R247). -/
def decOrd (x : SisFields) : Option SisOp :=
  if x.fn.extractLsb' 2 6 != 0 || x.fn.getLsbD 10 || x.b != 0 then none
  else match (x.fn.extractLsb' 0 2).toNat with
    | 0 => some .ldaq
    | 1 => some .strl
    | _ => none

/-- FOP (R250, R252). b must be 0 where its row says so. -/
def decFop (x : SisFields) : Option SisOp :=
  let rnd : BitVec 3 := x.fn.extractLsb' 7 3
  let round := decide (rnd.toNat ≤ 5)
  match (x.fn.extractLsb' 0 7).toNat with
  | 0x0 => whenOk round .fadd
  | 0x1 => whenOk round .fsub
  | 0x2 => whenOk round .fmul
  | 0x3 => whenOk round .fdiv
  | 0x4 => whenOk (round && x.b == 0) .fsqrt
  | 0x20 => whenOk round .ftos64
  | 0x21 => whenOk round .ftou64
  | 0x22 => whenOk round .ftos32
  | 0x23 => whenOk round .ftou32
  | 0x24 => whenOk round .s64tof
  | 0x25 => whenOk round .u64tof
  | 0x26 => whenOk round .s32tof
  | 0x27 => whenOk round .u32tof
  | 0x28 => whenOk round .fresize
  | 0x5 => whenOk (rnd == 0) .fmin
  | 0x6 => whenOk (rnd == 0) .fmax
  | 0x7 => whenOk (rnd == 0) .fminnum
  | 0x8 => whenOk (rnd == 0) .fmaxnum
  | 0xb => whenOk (rnd == 0) .fcps
  | 0x10 => whenOk (rnd == 0) .fcmp
  | 0x11 => whenOk (rnd == 0) .fcmpo
  | 0x9 => whenOk (rnd == 0 && x.b == 0) .fabs
  | 0xa => whenOk (rnd == 0 && x.b == 0) .fneg
  | 0x13 => whenOk (rnd == 0 && x.b == 0) .fkind
  | 0x30 => whenOk (rnd == 0) .fbits
  | 0x31 => whenOk (rnd == 0) .xbits
  | _ => none

/-- FMA (R253). -/
def decFma (x : SisFields) : Option SisOp :=
  let rnd : BitVec 3 := x.fn6.extractLsb' 0 3
  if 5 < rnd.toNat then none
  else match (x.fn6.extractLsb' 4 2).toNat with
    | 0 => some .fmaA
    | 1 => some .fmaS
    | 2 => some .fmaNa
    | _ => some .fmaNs

/-- VOP (R254). b must be 0 for VSQRT alone. -/
def decVop (x : SisFields) : Option SisOp :=
  let ty : BitVec 3 := x.fn.extractLsb' 8 3
  let t := ty.toNat
  let lanes := if t = 0 then 2 else 4
  if x.fn.extractLsb' 6 2 != 0 then none
  else match (x.fn.extractLsb' 0 6).toNat with
    | 0x0 => whenOk (decide (t ≤ 2)) .vadd
    | 0x1 => whenOk (decide (t ≤ 2)) .vsub
    | 0x2 => whenOk (decide (t ≤ 2)) .vmul
    | 0x3 => whenOk (decide (t ≤ 1)) .vdiv
    | 0x5 => whenOk (decide (t ≤ 2)) .vmin
    | 0x6 => whenOk (decide (t ≤ 2)) .vmax
    | 0x8 => whenOk (decide (t ≤ 2)) .vand
    | 0x9 => whenOk (decide (t ≤ 2)) .vor
    | 0xa => whenOk (decide (t ≤ 2)) .vxor
    | 0x10 => whenOk (decide (t ≤ 2)) .vcmpeq
    | 0x11 => whenOk (decide (t ≤ 2)) .vcmplt
    | 0x12 => whenOk (decide (t ≤ 2)) .vcmple
    | 0x2c => whenOk (decide (2 ≤ t ∧ t ≤ 2)) .vshl
    | 0x2d => whenOk (decide (2 ≤ t ∧ t ≤ 2)) .vsra
    | 0x4 => whenOk (decide (t ≤ 1) && x.b == 0) .vsqrt
    | 0x20 => whenOk (decide (t ≤ 2)) .vsplatX
    | 0x21 => whenOk (decide (t ≤ 2)) .vsplatF
    | 0x26 => whenOk (decide (t ≤ 2)) .vsumh
    | 0x28 => whenOk (decide (1 ≤ t ∧ t ≤ 2)) .vcvt
    | 0x22 => whenOk (decide (2 ≤ t ∧ t ≤ 2) && decide (x.b.toNat < lanes)) .vextX
    | 0x23 => whenOk (decide (2 ≤ t ∧ t ≤ 2) && decide (x.b.toNat < lanes)) .vinsX
    | 0x24 => whenOk (decide (t ≤ 1) && decide (x.b.toNat < lanes)) .vextF
    | 0x25 => whenOk (decide (t ≤ 1) && decide (x.b.toNat < lanes)) .vinsF
    | _ => none

/-- VR4 (R255). -/
def decVr4 (x : SisFields) : Option SisOp :=
  let ty : BitVec 2 := x.fn6.extractLsb' 1 2
  if x.fn6.getLsbD 0 then none
  else match (x.fn6.extractLsb' 3 3).toNat with
    | 0 => whenOk (decide (ty.toNat ≤ 1)) .vr4FmaA
    | 1 => whenOk (decide (ty.toNat ≤ 1)) .vr4FmaS
    | 2 => whenOk (decide (ty.toNat ≤ 1)) .vr4FmaNa
    | 3 => whenOk (decide (ty.toNat ≤ 1)) .vr4FmaNs
    | 4 => some .vsel
    | _ => none

/-- SYS (R262). -/
def decSys (x : SisFields) : Option SisOp :=
  match (x.imm.extractLsb' 12 4).toNat with
  | 0 => some .sysr
  | 1 => some .sysw
  | _ => none

/-- TLBI: field b selects the kind (R353). -/
def decTlbi (x : SisFields) : Option SisOp :=
  if x.b.getLsbD 4 then none
  else match (x.b.extractLsb' 0 3).toNat with
    | 0 => some .tlbiAll
    | 1 => some .tlbiAsid
    | 2 => some .tlbiVa
    | 3 => some .tlbiVaAll
    | 4 => some .tlbiWalk
    | _ => none

/-- MISC (R256). Fields d and b are 0 unless a row names them. -/
def decMisc (x : SisFields) : Option SisOp :=
  let one := x.b == 0
  if x.d != 0 then none
  else if x.fn.toNat < 16 then whenOk one .fence
  else match x.fn.toNat with
    | 0x10 => whenOk one .ifence
    | 0x11 => whenOk one .iofence
    | 0x23 => whenOk one .brk
    | 0x20 => some .ecall
    | 0x30 => decTlbi x
    | 0x40 => whenOk one .cleanVa
    | 0x41 => whenOk one .invVa
    | 0x42 => whenOk one .clinvVa
    | 0x43 => whenOk one .clinvSw
    | 0x44 => whenOk one .zeroVa
    | 0x21 => whenOk one .wcall
    | 0x22 => whenOk one .eret
    | _ => none

/-- TINT, BLKCPY, BLKSET, VDOT and SLD (R265). -/
def decTable (x : SisFields) : Option SisOp :=
  match x.op.toNat, x.fn6.toNat with
  | 0x3c, 1 => whenOk (x.c == 0) .tint1
  | 0x3c, 2 => some .tint2
  | 0x3c, 3 => whenOk (x.c != 31) .tint3
  | 0x3d, 1 => whenOk (x.c == 0) .blkcpy
  | 0x3d, 2 => whenOk (x.c == 0) .blkset
  | 0x3d, 3 => some .vdot
  | 0x3e, 0 => whenOk (x.d != 0 && !x.d.getLsbD 0) .sld
  | _, _ => none

/-- STAMP, FRAME and DONE (R265). -/
def decFrame (x : SisFields) : Option SisOp :=
  let st : Byte := x.fn.extractLsb' 0 8
  let plain := x.a == 0 && x.b == 0 && st == 0
  match (x.fn.extractLsb' 8 3).toNat with
  | 0 => whenOk plain .stamp
  | 1 => whenOk plain .frameN
  | 2 => whenOk plain .frameT
  | 3 => whenOk (x.d == 0 && x.a == 0 && x.b == 0) .done
  | _ => none

/-- The instruction a word is (R238, R239); none where the word is illegal (R240). Format B holds a and b where the others hold d and a. -/
def sisDecode (w : W32) : Option SisOp :=
  let x := sisFields w
  match x.op.toNat with
  | 0x01 => decOp x
  | 0x2 => some .addi
  | 0x3 => some .andi
  | 0x4 => some .ori
  | 0x5 => some .xori
  | 0x6 => some .slti
  | 0x7 => some .sltiu
  | 0x9 => some .addiw
  | 0x10 => some .ld
  | 0x11 => some .lw
  | 0x12 => some .lwu
  | 0x13 => some .lh
  | 0x14 => some .lhu
  | 0x15 => some .lb
  | 0x16 => some .lbu
  | 0x17 => some .st
  | 0x18 => some .sw
  | 0x19 => some .sh
  | 0x1a => some .sb
  | 0x1b => some .fld
  | 0x1c => some .flw
  | 0x1d => some .fsd
  | 0x1e => some .fsw
  | 0x1f => some .vld
  | 0x20 => some .vst
  | 0x30 => some .jalr
  | 0x28 => some .beq
  | 0x29 => some .bne
  | 0x2a => some .blt
  | 0x2b => some .bge
  | 0x2c => some .bltu
  | 0x2d => some .bgeu
  | 0x08 => decShift x
  | 0x0a => some .lui
  | 0x0b => some .auipc
  | 0x21 => decAmo x
  | 0x22 => decOrd x
  | 0x2e => some .j
  | 0x2f => some .jal
  | 0x34 => decFop x
  | 0x35 => decFma x
  | 0x38 => decVop x
  | 0x39 => decVr4 x
  | 0x3a => decSys x
  | 0x3b => decMisc x
  | 0x3c => decTable x
  | 0x3d => decTable x
  | 0x3e => decTable x
  | 0x3f => decFrame x
  | _ => none

/-- The instruction a command names. -/
def sisOp : Instr → Option SisOp
  | .add _ _ _ _ => some .add
  | .sub _ _ _ _ => some .sub
  | .and _ _ _ _ => some .and
  | .or _ _ _ _ => some .or
  | .xor _ _ _ _ => some .xor
  | .sll _ _ _ _ => some .sll
  | .srl _ _ _ _ => some .srl
  | .sra _ _ _ _ => some .sra
  | .slt _ _ _ _ => some .slt
  | .sltu _ _ _ _ => some .sltu
  | .min _ _ _ _ => some .min
  | .max _ _ _ _ => some .max
  | .minu _ _ _ _ => some .minu
  | .maxu _ _ _ _ => some .maxu
  | .mul _ _ _ _ => some .mul
  | .mulh _ _ _ _ => some .mulh
  | .mulhu _ _ _ _ => some .mulhu
  | .div _ _ _ _ => some .div
  | .divu _ _ _ _ => some .divu
  | .rem _ _ _ _ => some .rem
  | .remu _ _ _ _ => some .remu
  | .addw _ _ _ _ => some .addw
  | .subw _ _ _ _ => some .subw
  | .sllw _ _ _ _ => some .sllw
  | .srlw _ _ _ _ => some .srlw
  | .sraw _ _ _ _ => some .sraw
  | .mulw _ _ _ _ => some .mulw
  | .divw _ _ _ _ => some .divw
  | .divuw _ _ _ _ => some .divuw
  | .remw _ _ _ _ => some .remw
  | .remuw _ _ _ _ => some .remuw
  | .clz _ _ _ => some .clz
  | .ctz _ _ _ => some .ctz
  | .popc _ _ _ => some .popc
  | .addi _ _ _ _ => some .addi
  | .andi _ _ _ _ => some .andi
  | .ori _ _ _ _ => some .ori
  | .xori _ _ _ _ => some .xori
  | .slti _ _ _ _ => some .slti
  | .sltiu _ _ _ _ => some .sltiu
  | .addiw _ _ _ _ => some .addiw
  | .jalr _ _ _ _ => some .jalr
  | .ld _ _ _ _ => some .ld
  | .lw _ _ _ _ => some .lw
  | .lwu _ _ _ _ => some .lwu
  | .lh _ _ _ _ => some .lh
  | .lhu _ _ _ _ => some .lhu
  | .lb _ _ _ _ => some .lb
  | .lbu _ _ _ _ => some .lbu
  | .st _ _ _ _ => some .st
  | .sw _ _ _ _ => some .sw
  | .sh _ _ _ _ => some .sh
  | .sb _ _ _ _ => some .sb
  | .fld _ _ _ _ => some .fld
  | .flw _ _ _ _ => some .flw
  | .fsd _ _ _ _ => some .fsd
  | .fsw _ _ _ _ => some .fsw
  | .vld _ _ _ _ => some .vld
  | .vst _ _ _ _ => some .vst
  | .shifti _ _ _ _ _ _ => some .shifti
  | .lui _ _ _ => some .lui
  | .auipc _ _ _ => some .auipc
  | .beq _ _ _ _ => some .beq
  | .bne _ _ _ _ => some .bne
  | .blt _ _ _ _ => some .blt
  | .bge _ _ _ _ => some .bge
  | .bltu _ _ _ _ => some .bltu
  | .bgeu _ _ _ _ => some .bgeu
  | .j _ _ => some .j
  | .jal _ _ => some .jal
  | .amoSwap _ _ _ _ _ _ => some .amoSwap
  | .amoAdd _ _ _ _ _ _ => some .amoAdd
  | .amoAnd _ _ _ _ _ _ => some .amoAnd
  | .amoOr _ _ _ _ _ _ => some .amoOr
  | .amoXor _ _ _ _ _ _ => some .amoXor
  | .amoMin _ _ _ _ _ _ => some .amoMin
  | .amoMax _ _ _ _ _ _ => some .amoMax
  | .amoMinu _ _ _ _ _ _ => some .amoMinu
  | .amoMaxu _ _ _ _ _ _ => some .amoMaxu
  | .cas _ _ _ _ _ _ => some .cas
  | .ldaq _ _ _ _ => some .ldaq
  | .strl _ _ _ _ => some .strl
  | .fadd _ _ _ _ _ _ => some .fadd
  | .fsub _ _ _ _ _ _ => some .fsub
  | .fmul _ _ _ _ _ _ => some .fmul
  | .fdiv _ _ _ _ _ _ => some .fdiv
  | .fsqrt _ _ _ _ _ => some .fsqrt
  | .ftos64 _ _ _ _ _ => some .ftos64
  | .ftou64 _ _ _ _ _ => some .ftou64
  | .ftos32 _ _ _ _ _ => some .ftos32
  | .ftou32 _ _ _ _ _ => some .ftou32
  | .s64tof _ _ _ _ _ => some .s64tof
  | .u64tof _ _ _ _ _ => some .u64tof
  | .s32tof _ _ _ _ _ => some .s32tof
  | .u32tof _ _ _ _ _ => some .u32tof
  | .fresize _ _ _ _ _ => some .fresize
  | .fmin _ _ _ _ _ => some .fmin
  | .fmax _ _ _ _ _ => some .fmax
  | .fminnum _ _ _ _ _ => some .fminnum
  | .fmaxnum _ _ _ _ _ => some .fmaxnum
  | .fcps _ _ _ _ _ => some .fcps
  | .fcmp _ _ _ _ _ => some .fcmp
  | .fcmpo _ _ _ _ _ => some .fcmpo
  | .fabs _ _ _ _ => some .fabs
  | .fneg _ _ _ _ => some .fneg
  | .fkind _ _ _ _ => some .fkind
  | .fbits _ _ _ _ => some .fbits
  | .xbits _ _ _ _ => some .xbits
  | .fmaA _ _ _ _ _ _ _ => some .fmaA
  | .fmaS _ _ _ _ _ _ _ => some .fmaS
  | .fmaNa _ _ _ _ _ _ _ => some .fmaNa
  | .fmaNs _ _ _ _ _ _ _ => some .fmaNs
  | .vadd _ _ _ _ _ => some .vadd
  | .vsub _ _ _ _ _ => some .vsub
  | .vmul _ _ _ _ _ => some .vmul
  | .vdiv _ _ _ _ _ => some .vdiv
  | .vmin _ _ _ _ _ => some .vmin
  | .vmax _ _ _ _ _ => some .vmax
  | .vand _ _ _ _ _ => some .vand
  | .vor _ _ _ _ _ => some .vor
  | .vxor _ _ _ _ _ => some .vxor
  | .vcmpeq _ _ _ _ _ => some .vcmpeq
  | .vcmplt _ _ _ _ _ => some .vcmplt
  | .vcmple _ _ _ _ _ => some .vcmple
  | .vshl _ _ _ _ _ => some .vshl
  | .vsra _ _ _ _ _ => some .vsra
  | .vsqrt _ _ _ _ => some .vsqrt
  | .vsplatX _ _ _ _ => some .vsplatX
  | .vsplatF _ _ _ _ => some .vsplatF
  | .vsumh _ _ _ _ => some .vsumh
  | .vcvt _ _ _ _ => some .vcvt
  | .vextX _ _ _ _ _ => some .vextX
  | .vinsX _ _ _ _ _ => some .vinsX
  | .vextF _ _ _ _ _ => some .vextF
  | .vinsF _ _ _ _ _ => some .vinsF
  | .vr4FmaA _ _ _ _ _ _ => some .vr4FmaA
  | .vr4FmaS _ _ _ _ _ _ => some .vr4FmaS
  | .vr4FmaNa _ _ _ _ _ _ => some .vr4FmaNa
  | .vr4FmaNs _ _ _ _ _ _ => some .vr4FmaNs
  | .vsel _ _ _ _ _ _ => some .vsel
  | .sysr _ _ _ _ => some .sysr
  | .sysw _ _ _ _ => some .sysw
  | .fence _ _ => some .fence
  | .ifence _ => some .ifence
  | .iofence _ => some .iofence
  | .brk _ => some .brk
  | .ecall _ _ _ => some .ecall
  | .cleanVa _ _ => some .cleanVa
  | .invVa _ _ => some .invVa
  | .clinvVa _ _ => some .clinvVa
  | .clinvSw _ _ => some .clinvSw
  | .zeroVa _ _ => some .zeroVa
  | .wcall _ _ => some .wcall
  | .eret _ _ => some .eret
  | .tlbiAll _ _ _ => some .tlbiAll
  | .tlbiAsid _ _ _ => some .tlbiAsid
  | .tlbiVa _ _ _ => some .tlbiVa
  | .tlbiVaAll _ _ _ => some .tlbiVaAll
  | .tlbiWalk _ _ _ => some .tlbiWalk
  | .tint1 _ _ _ _ => some .tint1
  | .tint2 _ _ _ _ _ => some .tint2
  | .tint3 _ _ _ _ _ => some .tint3
  | .blkcpy _ _ _ _ => some .blkcpy
  | .blkset _ _ _ _ => some .blkset
  | .vdot _ _ _ _ _ => some .vdot
  | .sld _ _ _ _ _ => some .sld
  | .stamp _ _ => some .stamp
  | .frameN _ _ => some .frameN
  | .frameT _ _ => some .frameT
  | .done _ _ => some .done
  | _ => none

/-- A command has an operand that its row does not allow, so that its word is illegal (R240, R243, R250, R254, R255, R265). -/
def sisBad : Instr → Bool
  | .fadd _ _ rnd _ _ _ => decide (5 < rnd.toNat)
  | .fsub _ _ rnd _ _ _ => decide (5 < rnd.toNat)
  | .fmul _ _ rnd _ _ _ => decide (5 < rnd.toNat)
  | .fdiv _ _ rnd _ _ _ => decide (5 < rnd.toNat)
  | .fsqrt _ _ rnd _ _ => decide (5 < rnd.toNat)
  | .ftos64 _ _ rnd _ _ => decide (5 < rnd.toNat)
  | .ftou64 _ _ rnd _ _ => decide (5 < rnd.toNat)
  | .ftos32 _ _ rnd _ _ => decide (5 < rnd.toNat)
  | .ftou32 _ _ rnd _ _ => decide (5 < rnd.toNat)
  | .s64tof _ _ rnd _ _ => decide (5 < rnd.toNat)
  | .u64tof _ _ rnd _ _ => decide (5 < rnd.toNat)
  | .s32tof _ _ rnd _ _ => decide (5 < rnd.toNat)
  | .u32tof _ _ rnd _ _ => decide (5 < rnd.toNat)
  | .fresize _ _ rnd _ _ => decide (5 < rnd.toNat)
  | .fmaA _ _ rnd _ _ _ _ => decide (5 < rnd.toNat)
  | .fmaS _ _ rnd _ _ _ _ => decide (5 < rnd.toNat)
  | .fmaNa _ _ rnd _ _ _ _ => decide (5 < rnd.toNat)
  | .fmaNs _ _ rnd _ _ _ _ => decide (5 < rnd.toNat)
  | .shifti _ _ _ _ w32 sh => w32 && decide (32 ≤ sh.toNat)
  | .vadd _ ty _ _ _ => decide (2 < ty.toNat)
  | .vsub _ ty _ _ _ => decide (2 < ty.toNat)
  | .vmul _ ty _ _ _ => decide (2 < ty.toNat)
  | .vdiv _ ty _ _ _ => decide (1 < ty.toNat)
  | .vmin _ ty _ _ _ => decide (2 < ty.toNat)
  | .vmax _ ty _ _ _ => decide (2 < ty.toNat)
  | .vand _ ty _ _ _ => decide (2 < ty.toNat)
  | .vor _ ty _ _ _ => decide (2 < ty.toNat)
  | .vxor _ ty _ _ _ => decide (2 < ty.toNat)
  | .vcmpeq _ ty _ _ _ => decide (2 < ty.toNat)
  | .vcmplt _ ty _ _ _ => decide (2 < ty.toNat)
  | .vcmple _ ty _ _ _ => decide (2 < ty.toNat)
  | .vshl _ ty _ _ _ => decide (ty.toNat < 2 ∨ 2 < ty.toNat)
  | .vsra _ ty _ _ _ => decide (ty.toNat < 2 ∨ 2 < ty.toNat)
  | .vsqrt _ ty _ _ => decide (1 < ty.toNat)
  | .vsplatX _ ty _ _ => decide (2 < ty.toNat)
  | .vsplatF _ ty _ _ => decide (2 < ty.toNat)
  | .vsumh _ ty _ _ => decide (2 < ty.toNat)
  | .vcvt _ ty _ _ => decide (ty.toNat < 1 ∨ 2 < ty.toNat)
  | .vextX _ ty _ _ lane => decide (ty.toNat < 2 ∨ 2 < ty.toNat ∨ (if ty = 0 then 2 else 4) ≤ lane.toNat)
  | .vinsX _ ty _ _ lane => decide (ty.toNat < 2 ∨ 2 < ty.toNat ∨ (if ty = 0 then 2 else 4) ≤ lane.toNat)
  | .vextF _ ty _ _ lane => decide (1 < ty.toNat ∨ (if ty = 0 then 2 else 4) ≤ lane.toNat)
  | .vinsF _ ty _ _ lane => decide (1 < ty.toNat ∨ (if ty = 0 then 2 else 4) ≤ lane.toNat)
  | .vr4FmaA _ ty _ _ _ _ => decide (1 < ty.toNat)
  | .vr4FmaS _ ty _ _ _ _ => decide (1 < ty.toNat)
  | .vr4FmaNa _ ty _ _ _ _ => decide (1 < ty.toNat)
  | .vr4FmaNs _ ty _ _ _ _ => decide (1 < ty.toNat)
  | .tint3 _ _ _ _ c => c == 31
  | .sld _ d _ _ _ => d == 0 || d.getLsbD 0
  | _ => false

end Sys2Proof.Machine
end

