-- ==== Sys2Proof/Machine/ScSys.lean ====
section
/-! DEFINITION. System instructions of SIS-64: system registers, fences, calls and returns, TLB and cache maintenance (R256, R257, R262 to R264, R305, R321, R353, R381 to R383). -/

namespace Sys2Proof.Machine

/-! ### System registers (R262 to R264, R302) -/

/-- The level a register number needs: 0 any, 1 supervisor, 2 Sealed supervisor; none for the numbers no level reaches (R263). -/
def sysLevel (n : Nat) : Option Nat :=
  if n < 0x400 then some 0
  else if n < 0x800 then some 1
  else if n < 0xc00 then some 2
  else none

/-- The core's level reaches it. -/
def CoreSt.mayReach (c : CoreSt) (lvl : Nat) : Bool :=
  match lvl with
  | 0 => true
  | 1 => c.sup
  | _ => c.sup && c.sealed

/-- The counter that a number reads: EVCNT n, or CNT_U n with its user enable set (R526). -/
def CoreSt.evRead (c : CoreSt) (n : Nat) : Option Nat :=
  if 0x480 ≤ n ∧ n < 0x500 then some (n - 0x480)
  else if 0x080 ≤ n ∧ n < 0x100 ∧ bitAt (c.evselN (n - 0x80)) 11 then some (n - 0x80)
  else none

/-- The sources that the core's world may see (R302). -/
def State.srcSeen (s : State) (k : CoreId) (n : Nat) : Bool := (s.core k).sealed || !s.srcSealed n

/-- The mask of IC_LVL i: four bits for each source seen. -/
def State.lvlMask (s : State) (k : CoreId) (i : Nat) : W64 :=
  (List.range 16).foldl (fun w j => w ||| BitVec.ofNat 64 (if s.srcSeen k (16 * i + j) then 15 * 2 ^ (4 * j) else 0)) 0

/-- IC_TOP (R302): the highest pending enabled source that the world may see. -/
def State.icTop (s : State) (k : CoreId) : W64 :=
  let c := s.core k
  match bestSource c (allSources.filter (fun n => c.srcOn n && s.srcSeen k n && s.srcPend k n)) with
  | some n => BitVec.ofNat 64 (n + c.srcLevel n * 256 + 2 ^ 12)
  | none => 0

/-- CACHE_STAT (R390). -/
def State.cacheStat (s : State) (k : CoreId) : W64 :=
  BitVec.ofNat 64 ((s.cc k).eb.length + bitIf ((s.cc k).mshr.any (·.fallback)) 5)

/-- The value of a register that needs more than the core: none where the number is the core's own or no register (R264, R302, R390). -/
def State.sysOuter (s : State) (k : CoreId) (n : Nat) : Option W64 :=
  let c := s.core k
  if n = 0x000 then some (BitVec.ofNat 64 (k.val + k.val / 2 * 256))
  else if n = 0x001 then some 0x00010b01
  else if n = 0x002 then some (BitVec.ofNat 64 (c.task.val + bitIf c.taskSealed 13))
  else if n = 0x020 then some (BitVec.ofNat 64 (s.coreCycles - c.goAt))
  else if 0x440 ≤ n ∧ n < 0x444 then some (c.icEn.toList.getD (n - 0x440) 0 &&& srcBits (64 * (n - 0x440)) (s.srcSeen k))
  else if 0x444 ≤ n ∧ n < 0x448 then some (srcBits (64 * (n - 0x444)) (fun j => s.srcSeen k j && s.srcPend k j))
  else if 0x448 ≤ n ∧ n < 0x458 then some (c.icLvl.toList.getD (n - 0x448) 0 &&& s.lvlMask k (n - 0x448))
  else if 0x458 ≤ n ∧ n < 0x45c then some (srcBits (64 * (n - 0x458)) (fun j => s.srcSeen k j && s.srcSealed j))
  else if n = 0x45e then some (s.icTop k)
  else if n = 0x682 then some (s.cacheStat k)
  else none

/-- SYSR of a number that its level reaches; a number of no register reads 0 (R263). -/
def State.sysRead (s : State) (k : CoreId) (n : Nat) : W64 × State :=
  let c := s.core k
  match c.evRead n with
  | some i => ((c.evcntN i).zeroExtend 64, s)
  | none =>
    match s.sysOuter k n with
    | some v => (v, s)
    | none => ((c.getReg c.sealed n).getD 0, s)

/-- Registers that a SYSW finds read-only (R263). TR_HOME_ROOT and TR_HOME_ASID have access RL: they ignore it (R12, R358). -/
def sysReadOnly (n : Nat) : Bool :=
  n == 0x000 || n == 0x001 || n == 0x002 || n == 0x020 || (0x080 ≤ n && n < 0x104) || (0x444 ≤ n && n < 0x448) || (0x458 ≤ n && n < 0x45c) ||
    n == 0x45e || (0x604 ≤ n && n < 0x607) || n == 0x682

/-- SYSW of a number that its level reaches; a number of no register ignores it (R263, R302). -/
def State.sysWrite (s : State) (k : CoreId) (n : Nat) (v : W64) : State :=
  let c := s.core k
  if n = 0x45d then s.ringDoor c.sealed v
  else if 0x440 ≤ n ∧ n < 0x444 then
    s.setCore k (c.putReg false c.sealed n (keepBits (c.icEn.toList.getD (n - 0x440) 0) v (srcBits (64 * (n - 0x440)) (s.srcSeen k))))
  else if 0x448 ≤ n ∧ n < 0x458 then
    s.setCore k (c.putReg false c.sealed n (keepBits (c.icLvl.toList.getD (n - 0x448) 0) v (s.lvlMask k (n - 0x448))))
  else s.setCore k (c.putReg false c.sealed n v)

/-- A number whose value turns on what the open counters have counted: a counter, its selector, or the pending sources. -/
def sysCounted (n : Nat) : Bool := (0x080 ≤ n && n < 0x100) || (0x444 ≤ n && n < 0x448) || n == 0x45e || (0x480 ≤ n && n < 0x580)

/-- The open counters brought up to date before a register that shows or sets them. -/
def State.sysSync (s : State) (k : CoreId) (n : Nat) : State := if sysCounted n then s.evDraw k else s

/-- The word of SYSR or SYSW (R262). -/
def sysWord (sub : Nat) (d a : Reg) (n : BitVec 12) : W32 := encI 0x3a d.toNat a.toNat (sub * 4096 + n.toNat)

/-- SYSR: Xd = the register, as the oldest instruction (R262, R263). -/
def execSysr (k : CoreId) (d a : Reg) (n : BitVec 12) (s : State) : Host.Outcome State Fault Refusal :=
  .next (s.instr k (fun s =>
    match sysLevel n.toNat with
    | none => s.illegal k (sysWord 0 d a n)
    | some l =>
      if !(s.core k).mayReach l then s.privilege k (sysWord 0 d a n)
      else
        let r := (s.sysSync k n.toNat).sysRead k n.toNat
        r.2.done k (fun c => c.setX d r.1)))

/-- SYSW: the register = Xa, in force for every later instruction; a read-only register is illegal (R262, R263). -/
def execSysw (k : CoreId) (d a : Reg) (n : BitVec 12) (s : State) : Host.Outcome State Fault Refusal :=
  .next (s.instr k (fun s =>
    match sysLevel n.toNat with
    | none => s.illegal k (sysWord 1 d a n)
    | some l =>
      if !(s.core k).mayReach l then s.privilege k (sysWord 1 d a n)
      else if sysReadOnly n.toNat then s.illegal k (sysWord 1 d a n)
      else ((s.sysSync k n.toNat).sysWrite k n.toNat ((s.core k).xr a)).done k id))

/-! ### Fences (R227, R256, R257) -/

/-- FENCE: earlier stores are performed before later loads where the mask selects both; the core keeps every other order already (R257, R259). -/
def execFence (k : CoreId) (m : BitVec 4) (s : State) : Host.Outcome State Fault Refusal :=
  .next (s.instr k (fun s =>
    if bitAt m 1 && bitAt m 2 then (s.sqDrainAll k).andThen fun _ s => s.done k id else s.done k id))

/-- IFENCE: the whole L1I is invalidated, and the core fetches the next instructions anew (R227). -/
def execIfence (k : CoreId) (s : State) : Host.Outcome State Fault Refusal :=
  .next (s.instr k (fun s => (s.setCc k { s.cc k with l1i := [] }).done k (fun c => c.ev 0x11 1)))

/-- IOFENCE: every older uncached or device-ordered store has reached its target (R256). -/
def execIofence (k : CoreId) (s : State) : Host.Outcome State Fault Refusal :=
  .next (s.instr k (fun s => (s.sqDrain k (sqDepth (·.single) (s.core k).sq)).andThen fun _ s => s.done k id))

/-! ### Calls and returns (R256, R290, R305, R321) -/

/-- The word of a MISC instruction (R256). -/
def miscWord (a b : Reg) (fn : Nat) : W32 := encR 0x3b 0 a.toNat b.toNat fn

/-- ECALL: level 9 of the same world, the next instruction in EPC and the code in EADDR; at supervisor level it raises PRIVILEGE (R256, R290). -/
def execEcall (k : CoreId) (a : Reg) (code : BitVec 5) (s : State) : Host.Outcome State Fault Refusal :=
  .next (s.instr k (fun s =>
    let c := s.core k
    if c.sup then s.privilege k (miscWord a code 0x20)
    else .exc { s.excAt k 0x0b 9 0 (code.zeroExtend 64) with epc := c.pc + 4 } s))

/-- WCALL: the gate that Xa names (R321). -/
def execWcall (k : CoreId) (a : Reg) (s : State) : Host.Outcome State Fault Refusal :=
  .next (s.instr k (fun s => .ok .stay (s.wcall k ((s.core k).xr a) (miscWord a 0 0x21))))

/-- ERET (R305 to R307); at user level it raises PRIVILEGE. -/
def execEret (k : CoreId) (a : Reg) (s : State) : Host.Outcome State Fault Refusal :=
  .next (s.instr k (fun s =>
    let c := s.core k
    if !c.sup then s.privilege k (miscWord a 0 0x22)
    else .ok .stay ((if c.eretCause = 0 then s.setCore k (c.ev 0x01 1) else s).eret k)))

/-- BRK: level 13 (R290). -/
def execBrk (k : CoreId) (s : State) : Host.Outcome State Fault Refusal :=
  .next (s.instr k (fun s => .exc (s.excAt k 0x0d 13 0 0) s))

/-- ILLEGAL_INSTRUCTION (R240): a word that is no instruction reaches retirement. A word that is one raises nothing here. -/
def illegalInstruction (k : CoreId) (w : W32) (s : State) : State :=
  if (sisDecode w).isSome then s else s.instr k (fun s => s.illegal k w)

/-- ILLEGAL_INSTRUCTION (R240). -/
def execIllegalInstruction (k : CoreId) (w : W32) (s : State) : Host.Outcome State Fault Refusal := .next (illegalInstruction k w s)

/-! ### TLBI (R353, R354) -/

/-- A walk-cache entry of a world that a test on its ASID, level and prefix names. -/
def WalkC.isTable (e : WalkC) (w : Bool) (p : W16 → Nat → Nat → Bool) : Bool :=
  match e with
  | .table w' a l x _ => w' == w && p a l x
  | .stage2 _ _ _ => false

/-- A walk-cache entry belongs to a world. -/
def WalkC.ofWorld (e : WalkC) (w : Bool) : Bool :=
  match e with
  | .table w' _ _ _ _ => w' == w
  | .stage2 w' _ _ => w' == w

/-- A TLB entry of a world covers an address: its bits [47:12] lie in the page. -/
def TlbEnt.covers (e : TlbEnt) (va : W64) : Bool := e.vpn == bitsAt va e.size (48 - e.size)

/-- The TLB entries that a TLBI kind removes (R353). -/
def tlbiEntry (kind : Nat) (w : Bool) (asid : W16) (x : W64) (e : TlbEnt) : Bool :=
  e.sealed == w && (match kind with
    | 0 => true
    | 1 => !e.global && e.asid == x.truncate 16
    | 2 => e.covers x && (e.global || e.asid == asid)
    | 3 => e.covers x
    | _ => false)

/-- A walk-cache entry lies on the path to an address: a table descriptor that its indexes reach, and every stage-2 entry of the world.
DESIGN CHOICE (log entry 57): the walk cache does not say on which paths a stage-2 entry lies, so each goes. -/
def WalkC.onPath (e : WalkC) (w : Bool) (x : W64) : Bool :=
  match e with
  | .table w' _ l p _ => w' == w && p == vaPrefix x l
  | .stage2 w' _ _ => w' == w

/-- The walk-cache entries that a TLBI kind removes (R353). -/
def tlbiWalkEntry (kind : Nat) (w : Bool) (x : W64) (e : WalkC) : Bool :=
  match kind with
  | 1 => e.isTable w (fun a _ _ => a == x.truncate 16)
  | 2 => e.onPath w x
  | 3 => e.onPath w x
  | _ => e.ofWorld w

/-- A core drops what a TLBI names. -/
def CoreSt.tlbi (c : CoreSt) (kind : Nat) (w : Bool) (asid : W16) (x : W64) : CoreSt :=
  let keep (l : List TlbEnt) : List TlbEnt := l.filter (fun e => !tlbiEntry kind w asid x e)
  { c with itlb := keep c.itlb, dtlb := keep c.dtlb, tlb := keep c.tlb, walkc := c.walkc.filter (fun e => !tlbiWalkEntry kind w x e) }

/-- TLBI of a kind: supervisor only; after every older store, on this core or on every powered one, within the current world (R353, R354). -/
def tlbiOp (k : CoreId) (kind : Nat) (a : Reg) (bcast : Bool) (s : State) : State :=
  s.instr k (fun s =>
    let c := s.core k
    if !c.sup then s.privilege k (miscWord a (BitVec.ofNat 5 (kind + b2n bcast * 8)) 0x30)
    else (s.sqDrainAll k).andThen fun _ s =>
      let f (c' : CoreSt) : CoreSt := c'.tlbi kind c.sealed (c.tr c.sealed).asid (c.xr a)
      let s := if bcast then
          (List.range 144).foldl (fun s i => if (s.core (coreOf i)).run == .off then s else s.setCore (coreOf i) (f (s.core (coreOf i)))) s
        else s.setCore k (f (s.core k))
      s.done k id)

/-- TLBI ALL (R353). -/
def execTlbiAll (k : CoreId) (a : Reg) (bcast : Bool) (s : State) : Host.Outcome State Fault Refusal := .next (tlbiOp k 0 a bcast s)
/-- TLBI ASID (R353). -/
def execTlbiAsid (k : CoreId) (a : Reg) (bcast : Bool) (s : State) : Host.Outcome State Fault Refusal := .next (tlbiOp k 1 a bcast s)
/-- TLBI VA (R353). -/
def execTlbiVa (k : CoreId) (a : Reg) (bcast : Bool) (s : State) : Host.Outcome State Fault Refusal := .next (tlbiOp k 2 a bcast s)
/-- TLBI VA_ALL (R353). -/
def execTlbiVaAll (k : CoreId) (a : Reg) (bcast : Bool) (s : State) : Host.Outcome State Fault Refusal := .next (tlbiOp k 3 a bcast s)
/-- TLBI WALK (R353). -/
def execTlbiWalk (k : CoreId) (a : Reg) (bcast : Bool) (s : State) : Host.Outcome State Fault Refusal := .next (tlbiOp k 4 a bcast s)

/-! ### Cache maintenance (R256, R363, R381, R383) -/

/-- A cache operation by address; one for supervisors raises PRIVILEGE at user level. -/
def cmoOp (k : CoreId) (a : Reg) (fn : Nat) (supOnly clean inv : Bool) (s : State) : State :=
  s.instr k (fun s =>
    if supOnly && !(s.core k).sup then s.privilege k (miscWord a 0 fn)
    else (s.cmoLine k ((s.core k).xr a) clean inv).andThen fun _ s => s.done k id)

/-- CLEAN.VA (R256, R381). -/
def execCleanVa (k : CoreId) (a : Reg) (s : State) : Host.Outcome State Fault Refusal := .next (cmoOp k a 0x40 false true false s)
/-- INV.VA (R256, R381). -/
def execInvVa (k : CoreId) (a : Reg) (s : State) : Host.Outcome State Fault Refusal := .next (cmoOp k a 0x41 true false true s)
/-- CLINV.VA (R256, R381). -/
def execClinvVa (k : CoreId) (a : Reg) (s : State) : Host.Outcome State Fault Refusal := .next (cmoOp k a 0x42 false true true s)

/-- CLINV.SW (R383). -/
def execClinvSw (k : CoreId) (a : Reg) (s : State) : Host.Outcome State Fault Refusal :=
  .next (s.instr k (fun s =>
    if !(s.core k).sup then s.privilege k (miscWord a 0 0x43)
    else (s.clinvSw k ((s.core k).xr a)).andThen fun _ s => s.done k id))

/-- ZERO.VA (R256, R363). -/
def execZeroVa (k : CoreId) (a : Reg) (s : State) : Host.Outcome State Fault Refusal :=
  .next (s.instr k (fun s => (s.zeroLine k ((s.core k).xr a)).andThen fun _ s => s.done k (fun c => c.ev 0x0c 1)))

/-! ### Ring timeouts (R404) -/

/-- The station of a requester (R392, R545). -/
def askStation (q : CohReq) : Nat :=
  match q with
  | .core k _ => k.val / 2
  | .pcie _ _ => 96
  | .lantern => 103
  | .keeper => 102
  | .debug => 104

/-- A core's instruction that waits on an abandoned transaction takes MACHINE_CHECK with source 0x08 (R290, R404); a block operation that waits has its granules done, and ESTAT.BLK says so (R276, R294). -/
def State.ringCheck (s : State) (k : CoreId) (l : Nat) : State :=
  if (s.core k).run != .running then s
  else s.raise k { s.excAt k 0x0f 14 8 (BitVec.ofNat 64 (l * 64)) with blk := (s.core k).blkWait }

/-- RING_TIMEOUT: a requester gives up a transaction after 2^20 ring cycles, a request for a line or a writeback without an answer, and journals it (R404). The waiting instruction of a core takes MACHINE_CHECK; a unit without caches has none. -/
def ringTimeout (q : CohReq) (line : LineAddr) (s : State) : State :=
  let l := line.toNat
  match s.reqFind q l with
  | some m =>
    if !s.ringLate m.since then s
    else
      let s := (s.reqSet q l none).timeoutLog false (askStation q) l
      match q with
      | .core k _ => (s.outDrop (CohMsg.grants k l)).ringCheck k l
      | _ => s
  | none =>
    match q with
    | .core k _ =>
      if (s.ebFind k l).any (fun e => e.sent && s.ringLate e.since) then ((s.ebFree k l).timeoutLog false (askStation q) l).ringCheck k l
      else s
    | _ => s

def execRingTimeout (q : CohReq) (line : LineAddr) (s : State) : Host.Outcome State Fault Refusal := .next (ringTimeout q line s)

end Sys2Proof.Machine
end

