-- ==== Sys2Proof/Machine/ScControl.lean ====
section
/-! DEFINITION. The control instructions: tables, block operations, samples, stamps, frames and DONE (chapter Control Instructions). -/

namespace Sys2Proof.Machine

/-! ### Table interpolation (R266 to R271) -/

/-- A binary64 load of a TINT (R271). -/
def State.loadF (s : State) (k : CoreId) (va : W64) : MRes Nat := s.load k va 8 false

/-- The words of a descriptor, from an address up. -/
def State.loadWords (s : State) (k : CoreId) (va : W64) : Nat → MRes (List Nat)
  | 0 => .ok [] s
  | n + 1 => (s.load k va 8 false).andThen fun v s => (s.loadWords k (va + 8) n).andThen fun r s => .ok (v :: r) s

/-- A descriptor of 64 B (R266). -/
structure TintDesc where
  words : List Nat
deriving DecidableEq, Repr

/-- The number in n bytes from byte o of a descriptor. -/
def TintDesc.at' (d : TintDesc) (o n : Nat) : Nat := d.words.getD (o / 8) 0 / 2 ^ (8 * (o % 8)) % 2 ^ (8 * n)
/-- N j. -/
def TintDesc.count (d : TintDesc) (j : Nat) : Nat := d.at' (4 + 4 * j) 4
/-- B j. -/
def TintDesc.base (d : TintDesc) (j : Nat) : W64 := BitVec.ofNat 64 (d.at' (16 + 8 * j) 8)
/-- VAL. -/
def TintDesc.values (d : TintDesc) : W64 := BitVec.ofNat 64 (d.at' 40 8)
/-- The edge mode of axis j. -/
def TintDesc.edge (d : TintDesc) (j : Nat) : Nat := d.at' 2 1 / 2 ^ (2 * j) % 4
/-- VTYPE is binary32. -/
def TintDesc.single (d : TintDesc) : Bool := d.at' 1 1 == 1

/-- The failing check of a descriptor for an instruction of a number of axes, as SUB of TABLE_DESC gives it; 0 where none fails (R267, R290). -/
def TintDesc.check (d : TintDesc) (dims : Nat) : Nat :=
  let axes := List.range dims
  if d.at' 3 1 != 0 || 63 < d.at' 2 1 || d.at' 48 8 != 0 || d.at' 56 8 != 0 then 2
  else if d.at' 0 1 != dims then 3
  else if 1 < d.at' 1 1 then 4
  else if axes.any (fun j => d.edge j == 3) then 5
  else if axes.any (fun j => d.count j < 2 || 65536 < d.count j) then 6
  else if axes.any (fun j => (d.base j).toNat % 8 != 0) || d.values.toNat % (if d.single then 4 else 8) != 0 then 7
  else 0

/-- x is less than y, both no NaN. -/
def fLt (x y : Nat) : Bool :=
  let a := fUnpack false x
  let b := fUnpack false y
  !a.isN && !b.isN && decide (fOrder a b < 0)

/-- The segment search of R268, on breakpoints from an address, between lo and hi, in at most fuel steps. -/
def State.search (s : State) (k : CoreId) (b : W64) (x : Nat) : (fuel lo hi : Nat) → MRes Nat
  | 0, lo, _ => .ok lo s
  | f + 1, lo, hi =>
    if hi - lo ≤ 1 then .ok lo s
    else
      let mid := (lo + hi) / 2
      (s.loadF k (b + BitVec.ofNat 64 (8 * mid))).andThen fun v s =>
        if fLt x v then s.search k b x f lo mid else s.search k b x f mid hi

/-- An axis after its search: the segment, its fraction, the flags so far, and whether the result is the canonical NaN (R269). -/
structure Axis where
  seg : Nat
  t : Nat
  flags : Nat
  nan : Bool
deriving DecidableEq, Repr

/-- 1.0 in binary64. -/
def one64 : Nat := 0x3ff0000000000000

/-- The fraction of a coordinate x in the segment [b0, b1], and the edge mode's action beyond the first and last breakpoint (R269). -/
def axisOf (m edge seg x b0 b1 first last : Nat) : Axis :=
  let n := fAddV false m (fUnpack false x) (fUnpack false b0).neg
  let d := fAddV false m (fUnpack false b1) (fUnpack false b0).neg
  let q := fDivV false m (fUnpack false n.bits) (fUnpack false d.bits)
  let fl := n.flags ||| d.flags ||| q.flags
  if (fUnpack false x).isN then ⟨seg, q.bits, fl ||| fInvalid, true⟩
  else if fLt x first then
    (match edge with
     | 0 => ⟨seg, 0, fl, false⟩
     | 1 => ⟨seg, q.bits, fl, false⟩
     | _ => ⟨seg, q.bits, fl ||| fInvalid, true⟩)
  else if fLt last x then
    (match edge with
     | 0 => ⟨seg, one64, fl, false⟩
     | 1 => ⟨seg, q.bits, fl, false⟩
     | _ => ⟨seg, q.bits, fl ||| fInvalid, true⟩)
  else ⟨seg, q.bits, fl, false⟩

/-- Axis j of a table at a coordinate (R268, R269). -/
def State.axis (s : State) (k : CoreId) (m : Nat) (d : TintDesc) (j x : Nat) : MRes Axis :=
  let b := d.base j
  let n := d.count j
  let rd (s : State) (i : Nat) : MRes Nat := s.loadF k (b + BitVec.ofNat 64 (8 * i))
  (s.search k b x 17 0 (n - 1)).andThen fun seg s =>
    (rd s seg).andThen fun b0 s => (rd s (seg + 1)).andThen fun b1 s =>
      (rd s 0).andThen fun lo s => (rd s (n - 1)).andThen fun hi s =>
        .ok (axisOf m (d.edge j) seg x b0 b1 lo hi) s

/-- The axes of a table at its coordinates. -/
def State.axes (s : State) (k : CoreId) (m : Nat) (d : TintDesc) : (j : Nat) → List Nat → MRes (List Axis)
  | _, [] => .ok [] s
  | j, x :: r => (s.axis k m d j x).andThen fun a s => (s.axes k m d (j + 1) r).andThen fun l s => .ok (a :: l) s

/-- The indices of the corners in ascending order, axis 0 fastest: index 0 to 2^axes - 1, then the value index (R266, R270). -/
def cornerIndex (d : TintDesc) (l : List Axis) (c : Nat) : Nat :=
  let i (j : Nat) : Nat := (l.getD j ⟨0, 0, 0, false⟩).seg + c / 2 ^ j % 2
  if l.length = 1 then i 0
  else if l.length = 2 then i 0 + d.count 0 * i 1
  else i 0 + d.count 0 * (i 1 + d.count 1 * i 2)

/-- A table value as binary64: a binary32 value is converted exactly (R270). -/
def State.tableValue (s : State) (k : CoreId) (d : TintDesc) (i : Nat) : MRes FRes :=
  if d.single then
    (s.load k (d.values + BitVec.ofNat 64 (4 * i)) 4 false).andThen fun v s => .ok (fResizeV false 0 (fUnpack true v)) s
  else (s.loadF k (d.values + BitVec.ofNat 64 (8 * i))).andThen fun v s => .ok ⟨v, 0⟩ s

/-- The corner values from corner c, of n left. -/
def State.corners (s : State) (k : CoreId) (d : TintDesc) (l : List Axis) : (n c : Nat) → MRes (List FRes)
  | 0, _ => .ok [] s
  | n + 1, c => (s.tableValue k d (cornerIndex d l c)).andThen fun v s => (s.corners k d l n (c + 1)).andThen fun r s => .ok (v :: r) s

/-- The reduction of a pair with a fraction (R270). -/
def reduce (m t : Nat) (v0 v1 : FRes) : FRes :=
  let fl := v0.flags ||| v1.flags
  if (fUnpack false t) = fUnpack false 0 || t == 2 ^ 63 then ⟨v0.bits, fl⟩
  else if t = one64 then ⟨v1.bits, fl⟩
  else
    let d := fAddV false m (fUnpack false v1.bits) (fUnpack false v0.bits).neg
    let r := fFmaV false m (fUnpack false t) (fUnpack false d.bits) (fUnpack false v0.bits)
    ⟨r.bits, fl ||| d.flags ||| r.flags⟩

/-- Every pair of a list reduced with a fraction. -/
def reducePairs (m t : Nat) : List FRes → List FRes
  | a :: b :: r => reduce m t a b :: reducePairs m t r
  | l => l

/-- Axis by axis, first to last (R270). -/
def reduceAll (m : Nat) : List Axis → List FRes → FRes
  | [], l => l.getD 0 ⟨0, 0⟩
  | a :: r, l => reduceAll m r (reducePairs m a.t l)

/-- A NaN becomes the canonical NaN. -/
def canonNaN (v : Nat) : Nat := if (fUnpack false v).isN then fNaN false else v

/-- The binary64 operations of a TINT of a number of axes: three for each fraction, and three for each pair reduced (R269, R270, R525). -/
def tintOps (dims : Nat) : Nat := 3 * dims + 3 * (2 ^ dims - 1)

/-- The result of a TINT on its axes and corner values. -/
def tintRes (m : Nat) (l : List Axis) (vals : List FRes) : FRes :=
  let fl := l.foldl (fun f a => f ||| a.flags) 0
  if l.any (·.nan) then ⟨fNaN false, fl⟩
  else
    let r := reduceAll m l vals
    ⟨canonNaN r.bits, fl ||| r.flags⟩

/-- TABLE_DESC with its failing check (R267, R290). -/
def State.tableExc (s : State) (k : CoreId) (va : W64) (check : Nat) : Exc := s.excAt k 0x0a 12 check va

/-- What an instruction of several reads answers: where it does not complete after an uncached or device-ordered read, that read has not been performed (R224), and the state is as it was. -/
def State.whole {α : Type} (s : State) (k : CoreId) (r : MRes α) : MRes α :=
  let same (t : State) : State := if (t.core k).devReads = (s.core k).devReads then t else s
  match r with
  | .ok v t => .ok v t
  | .exc e t => .exc e (same t)
  | .wait t => .wait (same t)

/-- TINT with a number of coordinates: it completes, or raises its exception before it writes Fd (R224, R266 to R271). -/
def tintOp (k : CoreId) (d a : Reg) (coords : CoreSt → List Nat) (s : State) : State :=
  s.instr k (fun s =>
    let c := s.core k
    let va := c.xr a
    let xs := coords c
    if va.toNat % 64 != 0 then .exc (s.tableExc k va 1) s
    else s.whole k ((s.loadWords k va 8).andThen fun w s =>
      let t : TintDesc := ⟨w⟩
      let bad := t.check xs.length
      if bad != 0 then .exc (s.tableExc k va bad) s
      else (s.axes k c.rnd t 0 xs).andThen fun l s =>
        (s.corners k t l (2 ^ xs.length) 0).andThen fun vals s =>
          s.done k (fun c => (c.putF d (tintOps xs.length) (tintRes c.rnd l vals)).ev 0x23 1)))

/-- TINT1 (R265). -/
def execTint1 (k : CoreId) (d a b : Reg) (s : State) : Host.Outcome State Fault Refusal :=
  .next (tintOp k d a (fun c => [(c.fr b).toNat]) s)

/-- TINT2 (R265). -/
def execTint2 (k : CoreId) (d a b c : Reg) (s : State) : Host.Outcome State Fault Refusal :=
  .next (tintOp k d a (fun x => [(x.fr b).toNat, (x.fr c).toNat]) s)

/-- TINT3: coordinate 2 in F(c+1); c = 31 is illegal (R265). -/
def execTint3 (k : CoreId) (d a b c : Reg) (s : State) : Host.Outcome State Fault Refusal :=
  .next (if c = 31 then s.instr k (fun s => s.illegal k (encR5 0x3c d.toNat a.toNat b.toNat c.toNat 3))
    else tintOp k d a (fun x => [(x.fr b).toNat, (x.fr c).toNat, (x.fr (c + 1)).toNat]) s)

/-! ### Block operations (R272 to R279) -/

/-- Where a block operation stands: elements or bytes completed, and VDOT's accumulators. -/
structure Blk where
  pos : Nat
  acc0 : Nat
  acc1 : Nat
deriving DecidableEq, Repr

/-- PRG with a record (R275, R276). -/
def prgOf (op : Nat) (b : Blk) : Vector W64 4 :=
  ((((Vector.replicate 4 0).set 0 (BitVec.ofNat 64 op)).set 1 (BitVec.ofNat 64 b.pos)).set 2 (BitVec.ofNat 64 b.acc0)).set 3 (BitVec.ofNat 64 b.acc1)

/-- Where an operation begins: PRG's record where it names the operation and lies within the length, else 0 (R278). -/
def CoreSt.blkStart (c : CoreSt) (op len : Nat) : Blk :=
  let w (i : Nat) : Nat := (c.prg.toList.getD i 0).toNat
  if w 0 % 16 = op ∧ w 1 ≤ len then ⟨w 1, if op = 3 then w 2 else 0, if op = 3 then w 3 else 0⟩ else ⟨0, 0, 0⟩

/-- PRG holds a record. -/
def State.setPrg (s : State) (k : CoreId) (op : Nat) (b : Blk) : State := s.setCore k { s.core k with prg := prgOf op b }

/-- A granule has to wait: the operation stands at its boundary, to go on when it is executed again (R276, R278). -/
def State.blkHold (s : State) (k : CoreId) (op : Nat) (b : Blk) : State :=
  if (s.core k).run != .running then s
  else
    let s := s.setPrg k op b
    s.setCore k { s.core k with blkWait := true }

/-- A stop before the end: PRG written, then the exception; an attribute exception of the operation's first granules comes before any granule and leaves PRG unchanged (R274, R276, R294). -/
def State.blkExc (s : State) (k : CoreId) (op : Nat) (b : Blk) (e : Exc) : MRes Next :=
  if b.pos = 0 && e.cause == 0x04 then .exc e s
  else .exc { e with blk := true } (s.setPrg k op b)

/-- A granule's address range translates, for a block operation: an uncached or device-ordered attribute raises ATTRIBUTE (R274). -/
def State.blkPieces (s : State) (k : CoreId) (va : W64) (n : Nat) (a : Acc) : MRes (List Piece) :=
  (s.translate k va a).andThen fun p s =>
    if p.pol.single then .exc (s.excAt k 0x04 12 p.idx va) s
    else
      let m := 64 - va.toNat % 64
      if n ≤ m then .ok [⟨va, p, n⟩] s
      else
        let va2 := va + BitVec.ofNat 64 m
        (s.translate k va2 a).andThen fun q s =>
          if q.pol.single then .exc (s.excAt k 0x04 12 q.idx va2) s
          else .ok [⟨va, p, m⟩, ⟨va2, q, n - m⟩] s

/-- The source bytes of a granule. -/
def State.blkLoad (s : State) (k : CoreId) (va : W64) (n : Nat) : MRes Nat :=
  (s.blkPieces k va n .load).andThen fun ps s => s.loadQueued k ps

/-- A granule's destination, checked: it lies within one line (R272). -/
def State.blkDest (s : State) (k : CoreId) (va : W64) (n : Nat) : MRes (List Piece) :=
  (s.blkPieces k va n .store).andThen fun ps s =>
    match s.storeBad k ps with
    | some e => .exc e s
    | none => .ok ps s

/-- The bytes of the granule at a destination address with some left: up to the next 64 B boundary (R272). -/
def granule (va : W64) (left : Nat) : Nat := min left (64 - va.toNat % 64)

/-- The bytes of BLKSET from an address: byte (A mod 8) of the pattern at A (R272). -/
def patternAt (x : W64) (a n : Nat) : Nat := leNat ((List.range n).map (fun i => byteAt x ((a + i) % 8)))

/-- One granule of BLKCPY at a position: the destination is checked first, the source read, then the store made. -/
def State.copyGranule (s : State) (k : CoreId) (dst src : W64) (pos len : Nat) : MRes Nat :=
  let va := dst + BitVec.ofNat 64 pos
  let n := granule va (len - pos)
  (s.blkDest k va n).andThen fun ps s =>
    (s.blkLoad k (src + BitVec.ofNat 64 pos) n).andThen fun v s =>
      (s.storePieces k ps v).andThen fun _ s => .ok n s

/-- One granule of BLKSET. -/
def State.setGranule (s : State) (k : CoreId) (dst x : W64) (pos len : Nat) : MRes Nat :=
  let va := dst + BitVec.ofNat 64 pos
  let n := granule va (len - pos)
  (s.blkDest k va n).andThen fun ps s =>
    (s.storePieces k ps (patternAt x va.toNat n)).andThen fun _ s => .ok n s

/-- BLKCPY and BLKSET from a position: granule by granule to the end; a pending interrupt stops the operation at the boundary after a granule that is not the last (R272, R276, R277). A granule that has to wait leaves the operation stopped at its boundary, to go on when it is executed again. -/
def State.blkRun (k : CoreId) (op len : Nat) (g : State → Nat → MRes Nat) : (fuel : Nat) → Nat → State → MRes Next
  | 0, _, s => .ok .stay s
  | f + 1, pos, s =>
    if len ≤ pos then .ok .step (s.setPrg k 0 ⟨0, 0, 0⟩)
    else match g s pos with
      | .wait t => .wait (t.blkHold k op ⟨pos, 0, 0⟩)
      | .exc e t => t.blkExc k op ⟨pos, 0, 0⟩ e
      | .ok n t =>
        let t := t.setCore k ((t.core k).ev 0x22 1)
        if (t.core k).run != .running then .ok .stay t
        else match (if pos + n < len then t.nextIrq k else none) with
          | some i => .ok .stay ((t.setPrg k op ⟨pos + n, 0, 0⟩).irqEntry k i true)
          | none => State.blkRun k op len g f (pos + n) t

/-- A block operation on bytes (R272 to R278). -/
def blkOp (k : CoreId) (op : Nat) (b : Reg) (g : CoreSt → State → Nat → MRes Nat) (s : State) : State :=
  s.instr k (fun s =>
    let c := s.core k
    let len := (c.xr b).toNat
    let start := c.blkStart op len
    State.blkRun k op len (g c) (len + 1) start.pos s)

/-- BLKCPY (R272). -/
def execBlkcpy (k : CoreId) (d a b : Reg) (s : State) : Host.Outcome State Fault Refusal :=
  .next (blkOp k 1 b (fun c s pos => s.copyGranule k (c.xr d) (c.xr a) pos (c.xr b).toNat) s)

/-- BLKSET (R272). -/
def execBlkset (k : CoreId) (d a b : Reg) (s : State) : Host.Outcome State Fault Refusal :=
  .next (blkOp k 2 b (fun c s pos => s.setGranule k (c.xr d) (c.xr a) pos (c.xr b).toNat) s)

/-- One element of VDOT: the accumulator of i mod 2 (R272). -/
def vdotStep (m : Nat) (b : Blk) (x y : Nat) : Blk × Nat :=
  let f (acc : Nat) : FRes := fFmaV false m (fUnpack false x) (fUnpack false y) (fUnpack false acc)
  if b.pos % 2 = 0 then
    let r := f b.acc0
    (⟨b.pos + 1, r.bits, b.acc1⟩, r.flags)
  else
    let r := f b.acc1
    (⟨b.pos + 1, b.acc0, r.bits⟩, r.flags)

/-- VDOT's end: Fd = acc[0] + acc[1], or +0 for no element, and PRG cleared (R273, R278). -/
def State.vdotEnd (s : State) (k : CoreId) (d : Reg) (count : Nat) (b : Blk) : MRes Next :=
  let c := s.core k
  let r : FRes := if count = 0 then ⟨0, 0⟩ else fAddV false c.rnd (fUnpack false b.acc0) (fUnpack false b.acc1)
  (s.setPrg k 0 ⟨0, 0, 0⟩).done k (fun c => c.putF d (if count = 0 then 0 else 1) r)

/-- VDOT from a record; stop is the element number at which a pending interrupt stops it (R272, R277). -/
def State.vdotRun (k : CoreId) (d : Reg) (x y : W64) (count stop : Nat) : (fuel : Nat) → Blk → State → MRes Next
  | 0, _, s => .ok .stay s
  | f + 1, b, s =>
    if count ≤ b.pos then s.vdotEnd k d count b
    else
      let rd (s : State) (p : W64) : MRes Nat := s.blkLoad k (p + BitVec.ofNat 64 (8 * b.pos)) 8
      match (rd s x).andThen fun u s => (rd s y).andThen fun v s => .ok (u, v) s with
      | .wait t => .wait (t.blkHold k 3 b)
      | .exc e t => t.blkExc k 3 b e
      | .ok p t =>
        let r := vdotStep (t.core k).rnd b p.1 p.2
        let t := t.setCore k ((((t.core k).accrue r.2).ev 0x24 2).ev 0x22 1)
        match (if r.1.pos < count ∧ stop ≤ r.1.pos then t.nextIrq k else none) with
        | some i => .ok .stay ((t.setPrg k 3 r.1).irqEntry k i true)
        | none => State.vdotRun k d x y count stop f r.1 t

/-- VDOT (R272 to R278): misaligned bases raise ALIGN; an interrupt stops it within 8 elements, at one the rules leave open. -/
def execVdot (k : CoreId) (d a b c : Reg) (s : State) : Host.Outcome State Fault Refusal :=
  .next (s.instr k (fun s =>
    let x := s.core k
    if (x.xr a).toNat % 8 != 0 then .exc (s.alignExc k (x.xr a)) s
    else if (x.xr b).toNat % 8 != 0 then .exc (s.alignExc k (x.xr b)) s
    else
      let count := (x.xr c).toNat
      let start := x.blkStart 3 count
      let r := s.free 3
      State.vdotRun k d (x.xr a) (x.xr b) count (start.pos + 1 + r.1.toNat) (count + 1) start r.2))

/-! ### Samples, stamps, frames and DONE (R280 to R284) -/

/-- The two reads of an SLD, each translated before either is performed (R224, R282). Where the second has to wait, no uncached or device-ordered first read is performed. -/
def State.sldReads (s : State) (k : CoreId) (p q : W64) : MRes (Nat × Nat) :=
  (s.pieces k p 4 true .load).andThen fun l s => (s.pieces k q 8 true .load).andThen fun m s =>
    (s.loadQueued k l).andThen fun v u =>
      match u.loadQueued k m with
      | .ok st t => .ok (v, st) t
      | .exc e t => .exc e t
      | .wait t =>
        if l.any (fun x => x.ph.pol.single) then
          (match s.loadQueued k m with
           | .wait t => .wait t
           | _ => .wait s)
        else .wait t

/-- SLD: the container at Xa + 4 Xb into Xd, sign-extended, and the stamp at Xc + 8 Xb into X(d+1) (R282); an odd d, or d = 0, is illegal (R265). -/
def execSld (k : CoreId) (d a b c : Reg) (s : State) : Host.Outcome State Fault Refusal :=
  .next (s.instr k (fun s =>
    let x := s.core k
    let p := x.xr a + x.xr b <<< 2
    let q := x.xr c + x.xr b <<< 3
    if d = 0 || d.toNat % 2 != 0 then s.illegal k (encR5 0x3e d.toNat a.toNat b.toNat c.toNat 0)
    else if p.toNat % 4 != 0 then .exc (s.alignExc k p) s
    else if q.toNat % 8 != 0 then .exc (s.alignExc k q) s
    else (s.sldReads k p q).andThen fun r s =>
      s.done k (fun c => ((c.setX d (loadExt 4 true r.1)).setX (d + 1) (BitVec.ofNat 64 r.2)).ev 0x0b 2)))

/-- STAMP: the device's own timebase (R283). -/
def execStamp (k : CoreId) (d : Reg) (s : State) : Host.Outcome State Fault Refusal :=
  .next (s.instr k (fun s => let t := s.now; s.done k (fun c => c.setX d t)))

/-- FRAME.N: the number of the task's frame (R283). -/
def execFrameN (k : CoreId) (d : Reg) (s : State) : Host.Outcome State Fault Refusal :=
  .next (intOp k d (fun c => c.frame) s)

/-- T of the frame of a core's task (R192, R283): as dispatch or an earlier FRAME.T knew it, else the value fixed on a non-holder; none where it is not fixed yet. -/
def State.frameTime (s : State) (k : CoreId) : Option W64 :=
  let c := s.core k
  match c.frameT with
  | some t => some t
  | none => match assoc? s.tw.fixedT c.frame.toNat with
    | some t => some t
    | none => if s.nonHolder then none else some (s.tickOf c.frame)

/-- FRAME.T (R283): on a non-holder it waits as R192 states; every FRAME.T of the task returns the same value. -/
def execFrameT (k : CoreId) (d : Reg) (s : State) : Host.Outcome State Fault Refusal :=
  .next (s.instr k (fun s =>
    match s.frameTime k with
    | some t => s.done k (fun c => ({ c with frameT := some t } : CoreSt).setX d t)
    | none => .wait s))

/-- DONE drains the store queue, and then ends the task (R98, R284). -/
def State.drainDone (s : State) (k : CoreId) (status : Byte) : MRes Next :=
  (s.sqDrainAll k).andThen fun _ s => .ok .stay ((s.setCore k ((s.core k).ev 0x01 1)).taskDoneOn k status)

/-- DONE (R98, R231, R284): at retirement the core drains, and takes no interrupt from then on (R298); a DONE that has waited for the drain goes on when it is executed again. At the stamp of the next tick it waits for the tick, which finds the task running (R45). -/
def execDone (k : CoreId) (status : Byte) (s : State) : Host.Outcome State Fault Refusal :=
  .next (
    if s.tickDue then s
    else if (s.core k).run == .draining then (s.drainDone k status).finish k
    else s.instr k (fun s => (s.setCore k { s.core k with run := .draining }).drainDone k status))

end Sys2Proof.Machine
end

