-- ==== Sys2Proof/Machine/ScInt.lean ====
section
/-! DEFINITION. Integer instructions of SIS-64 (R241 to R243). -/

namespace Sys2Proof.Machine

/-- ADD (R241). -/
def execAdd (k : CoreId) (d a b : Reg) (s : State) : Host.Outcome State Fault Refusal := .next (intOp k d (fun c => c.xr a + c.xr b) s)

/-- SUB (R241). -/
def execSub (k : CoreId) (d a b : Reg) (s : State) : Host.Outcome State Fault Refusal := .next (intOp k d (fun c => c.xr a - c.xr b) s)

/-- AND (R241). -/
def execAnd (k : CoreId) (d a b : Reg) (s : State) : Host.Outcome State Fault Refusal := .next (intOp k d (fun c => c.xr a &&& c.xr b) s)

/-- OR (R241). -/
def execOr (k : CoreId) (d a b : Reg) (s : State) : Host.Outcome State Fault Refusal := .next (intOp k d (fun c => c.xr a ||| c.xr b) s)

/-- XOR (R241). -/
def execXor (k : CoreId) (d a b : Reg) (s : State) : Host.Outcome State Fault Refusal := .next (intOp k d (fun c => c.xr a ^^^ c.xr b) s)

/-- SLL: by Xb[5:0] (R241). -/
def execSll (k : CoreId) (d a b : Reg) (s : State) : Host.Outcome State Fault Refusal := .next (intOp k d (fun c => shiftBy .sll (c.xr a) (bitsAt (c.xr b) 0 6)) s)

/-- SRL (R241). -/
def execSrl (k : CoreId) (d a b : Reg) (s : State) : Host.Outcome State Fault Refusal := .next (intOp k d (fun c => shiftBy .srl (c.xr a) (bitsAt (c.xr b) 0 6)) s)

/-- SRA (R241). -/
def execSra (k : CoreId) (d a b : Reg) (s : State) : Host.Outcome State Fault Refusal := .next (intOp k d (fun c => shiftBy .sra (c.xr a) (bitsAt (c.xr b) 0 6)) s)

/-- SLT (R241). -/
def execSlt (k : CoreId) (d a b : Reg) (s : State) : Host.Outcome State Fault Refusal := .next (intOp k d (fun c => bool64 ((c.xr a).slt (c.xr b))) s)

/-- SLTU (R241). -/
def execSltu (k : CoreId) (d a b : Reg) (s : State) : Host.Outcome State Fault Refusal := .next (intOp k d (fun c => bool64 ((c.xr a).ult (c.xr b))) s)

/-- MIN, signed (R241). -/
def execMin (k : CoreId) (d a b : Reg) (s : State) : Host.Outcome State Fault Refusal := .next (intOp k d (fun c => minI (c.xr a) (c.xr b)) s)

/-- MAX, signed (R241). -/
def execMax (k : CoreId) (d a b : Reg) (s : State) : Host.Outcome State Fault Refusal := .next (intOp k d (fun c => maxI (c.xr a) (c.xr b)) s)

/-- MINU (R241). -/
def execMinu (k : CoreId) (d a b : Reg) (s : State) : Host.Outcome State Fault Refusal := .next (intOp k d (fun c => minUns (c.xr a) (c.xr b)) s)

/-- MAXU (R241). -/
def execMaxu (k : CoreId) (d a b : Reg) (s : State) : Host.Outcome State Fault Refusal := .next (intOp k d (fun c => maxUns (c.xr a) (c.xr b)) s)

/-- MUL (R241). -/
def execMul (k : CoreId) (d a b : Reg) (s : State) : Host.Outcome State Fault Refusal := .next (intOp k d (fun c => c.xr a * c.xr b) s)

/-- MULH (R241). -/
def execMulh (k : CoreId) (d a b : Reg) (s : State) : Host.Outcome State Fault Refusal := .next (intOp k d (fun c => mulHi (c.xr a) (c.xr b)) s)

/-- MULHU (R241). -/
def execMulhu (k : CoreId) (d a b : Reg) (s : State) : Host.Outcome State Fault Refusal := .next (intOp k d (fun c => mulHiU (c.xr a) (c.xr b)) s)

/-- DIV, saturating (R241, R242). -/
def execDiv (k : CoreId) (d a b : Reg) (s : State) : Host.Outcome State Fault Refusal := .next (intOp k d (fun c => divS (c.xr a) (c.xr b)) s)

/-- DIVU (R241, R242). -/
def execDivu (k : CoreId) (d a b : Reg) (s : State) : Host.Outcome State Fault Refusal := .next (intOp k d (fun c => divUns (c.xr a) (c.xr b)) s)

/-- REM (R241, R242). -/
def execRem (k : CoreId) (d a b : Reg) (s : State) : Host.Outcome State Fault Refusal := .next (intOp k d (fun c => remS (c.xr a) (c.xr b)) s)

/-- REMU (R241, R242). -/
def execRemu (k : CoreId) (d a b : Reg) (s : State) : Host.Outcome State Fault Refusal := .next (intOp k d (fun c => remUns (c.xr a) (c.xr b)) s)

/-- CLZ (R241). -/
def execClz (k : CoreId) (d a : Reg) (s : State) : Host.Outcome State Fault Refusal := .next (intOp k d (fun c => BitVec.ofNat 64 (leadZeros (c.xr a) 64)) s)

/-- CTZ (R241). -/
def execCtz (k : CoreId) (d a : Reg) (s : State) : Host.Outcome State Fault Refusal := .next (intOp k d (fun c => BitVec.ofNat 64 (trailZeros (c.xr a) 0 64)) s)

/-- POPC (R241). -/
def execPopc (k : CoreId) (d a : Reg) (s : State) : Host.Outcome State Fault Refusal := .next (intOp k d (fun c => BitVec.ofNat 64 (popCount (c.xr a) 64)) s)

/-- ADDW: 32-bit, sign-extended (R241, R242). -/
def execAddw (k : CoreId) (d a b : Reg) (s : State) : Host.Outcome State Fault Refusal := .next (intOpW k d a b (fun x y => x + y) s)

/-- SUBW: 32-bit, sign-extended (R241, R242). -/
def execSubw (k : CoreId) (d a b : Reg) (s : State) : Host.Outcome State Fault Refusal := .next (intOpW k d a b (fun x y => x - y) s)

/-- SLLW: 32-bit, sign-extended (R241, R242). -/
def execSllw (k : CoreId) (d a b : Reg) (s : State) : Host.Outcome State Fault Refusal := .next (intOpW k d a b (fun x y => shiftBy .sll x (bitsAt y 0 5)) s)

/-- SRLW: 32-bit, sign-extended (R241, R242). -/
def execSrlw (k : CoreId) (d a b : Reg) (s : State) : Host.Outcome State Fault Refusal := .next (intOpW k d a b (fun x y => shiftBy .srl x (bitsAt y 0 5)) s)

/-- SRAW: 32-bit, sign-extended (R241, R242). -/
def execSraw (k : CoreId) (d a b : Reg) (s : State) : Host.Outcome State Fault Refusal := .next (intOpW k d a b (fun x y => shiftBy .sra x (bitsAt y 0 5)) s)

/-- MULW: 32-bit, sign-extended (R241, R242). -/
def execMulw (k : CoreId) (d a b : Reg) (s : State) : Host.Outcome State Fault Refusal := .next (intOpW k d a b (fun x y => x * y) s)

/-- DIVW: 32-bit, sign-extended (R241, R242). -/
def execDivw (k : CoreId) (d a b : Reg) (s : State) : Host.Outcome State Fault Refusal := .next (intOpW k d a b (divS) s)

/-- DIVUW: 32-bit, sign-extended (R241, R242). -/
def execDivuw (k : CoreId) (d a b : Reg) (s : State) : Host.Outcome State Fault Refusal := .next (intOpW k d a b (divUns) s)

/-- REMW: 32-bit, sign-extended (R241, R242). -/
def execRemw (k : CoreId) (d a b : Reg) (s : State) : Host.Outcome State Fault Refusal := .next (intOpW k d a b (remS) s)

/-- REMUW: 32-bit, sign-extended (R241, R242). -/
def execRemuw (k : CoreId) (d a b : Reg) (s : State) : Host.Outcome State Fault Refusal := .next (intOpW k d a b (remUns) s)

/-- ADDI (R243). -/
def execAddi (k : CoreId) (d a : Reg) (imm : BitVec 16) (s : State) : Host.Outcome State Fault Refusal := .next (intOp k d (fun c => c.xr a + simm imm) s)

/-- ANDI (R243). -/
def execAndi (k : CoreId) (d a : Reg) (imm : BitVec 16) (s : State) : Host.Outcome State Fault Refusal := .next (intOp k d (fun c => c.xr a &&& zimm imm) s)

/-- ORI (R243). -/
def execOri (k : CoreId) (d a : Reg) (imm : BitVec 16) (s : State) : Host.Outcome State Fault Refusal := .next (intOp k d (fun c => c.xr a ||| zimm imm) s)

/-- XORI (R243). -/
def execXori (k : CoreId) (d a : Reg) (imm : BitVec 16) (s : State) : Host.Outcome State Fault Refusal := .next (intOp k d (fun c => c.xr a ^^^ zimm imm) s)

/-- SLTI (R243). -/
def execSlti (k : CoreId) (d a : Reg) (imm : BitVec 16) (s : State) : Host.Outcome State Fault Refusal := .next (intOp k d (fun c => bool64 ((c.xr a).slt (simm imm))) s)

/-- SLTIU (R243). -/
def execSltiu (k : CoreId) (d a : Reg) (imm : BitVec 16) (s : State) : Host.Outcome State Fault Refusal := .next (intOp k d (fun c => bool64 ((c.xr a).ult (simm imm))) s)

/-- ADDIW (R243). -/
def execAddiw (k : CoreId) (d a : Reg) (imm : BitVec 16) (s : State) : Host.Outcome State Fault Refusal := .next (intOp k d (fun c => sext32 (lo32 (c.xr a + simm imm))) s)

/-- The word of a SHIFTI (R243). -/
def shiftiWord (d a : Reg) (kind : ShiftKind) (w32 : Bool) (sh : BitVec 6) : W32 :=
  let kd := match kind with
    | .sll => 0
    | .srl => 1
    | .sra => 2
  encI 0x08 d.toNat a.toNat (b2n w32 * 256 + kd * 64 + sh.toNat)

/-- SHIFTI: by imm16[5:0]; the 32-bit form with imm16[5] at 1 is illegal (R243). -/
def execShifti (k : CoreId) (d a : Reg) (kind : ShiftKind) (w32 : Bool) (sh : BitVec 6) (s : State) : Host.Outcome State Fault Refusal :=
  .next (s.instr k (fun s =>
    if w32 && 32 ≤ sh.toNat then s.illegal k (shiftiWord d a kind w32 sh)
    else s.done k (fun c => c.setX d
      (if w32 then sext32 (shiftBy kind (lo32 (c.xr a)) sh.toNat) else shiftBy kind (c.xr a) sh.toNat))))

/-- LUI (R243). -/
def execLui (k : CoreId) (d : Reg) (imm : BitVec 21) (s : State) : Host.Outcome State Fault Refusal := .next (intOp k d (fun _ => uimm imm) s)

/-- AUIPC (R243). -/
def execAuipc (k : CoreId) (d : Reg) (imm : BitVec 21) (s : State) : Host.Outcome State Fault Refusal := .next (intOp k d (fun c => c.pc + uimm imm) s)

end Sys2Proof.Machine
end

