-- ==== Sys2Proof/Machine/ScMem.lean ====
section
/-! DEFINITION. Loads, stores and atomics of SIS-64 (R244 to R247). -/

namespace Sys2Proof.Machine

/-- LD: 8 B (R244). -/
def execLd (k : CoreId) (d a : Reg) (imm : BitVec 16) (s : State) : Host.Outcome State Fault Refusal := .next (loadOp k a imm 8 (fun v c => c.setX d (loadExt 8 false v)) s)

/-- LW: 4 B, sign-extended (R244). -/
def execLw (k : CoreId) (d a : Reg) (imm : BitVec 16) (s : State) : Host.Outcome State Fault Refusal := .next (loadOp k a imm 4 (fun v c => c.setX d (loadExt 4 true v)) s)

/-- LWU: 4 B (R244). -/
def execLwu (k : CoreId) (d a : Reg) (imm : BitVec 16) (s : State) : Host.Outcome State Fault Refusal := .next (loadOp k a imm 4 (fun v c => c.setX d (loadExt 4 false v)) s)

/-- LH: 2 B, sign-extended (R244). -/
def execLh (k : CoreId) (d a : Reg) (imm : BitVec 16) (s : State) : Host.Outcome State Fault Refusal := .next (loadOp k a imm 2 (fun v c => c.setX d (loadExt 2 true v)) s)

/-- LHU: 2 B (R244). -/
def execLhu (k : CoreId) (d a : Reg) (imm : BitVec 16) (s : State) : Host.Outcome State Fault Refusal := .next (loadOp k a imm 2 (fun v c => c.setX d (loadExt 2 false v)) s)

/-- LB: 1 B, sign-extended (R244). -/
def execLb (k : CoreId) (d a : Reg) (imm : BitVec 16) (s : State) : Host.Outcome State Fault Refusal := .next (loadOp k a imm 1 (fun v c => c.setX d (loadExt 1 true v)) s)

/-- LBU: 1 B (R244). -/
def execLbu (k : CoreId) (d a : Reg) (imm : BitVec 16) (s : State) : Host.Outcome State Fault Refusal := .next (loadOp k a imm 1 (fun v c => c.setX d (loadExt 1 false v)) s)

/-- ST: the low 8 B of Xd (R244). -/
def execSt (k : CoreId) (d a : Reg) (imm : BitVec 16) (s : State) : Host.Outcome State Fault Refusal := .next (storeOp k a imm 8 (fun c => (c.xr d).toNat % 2 ^ 64) s)

/-- SW: the low 4 B of Xd (R244). -/
def execSw (k : CoreId) (d a : Reg) (imm : BitVec 16) (s : State) : Host.Outcome State Fault Refusal := .next (storeOp k a imm 4 (fun c => (c.xr d).toNat % 2 ^ 32) s)

/-- SH: the low 2 B of Xd (R244). -/
def execSh (k : CoreId) (d a : Reg) (imm : BitVec 16) (s : State) : Host.Outcome State Fault Refusal := .next (storeOp k a imm 2 (fun c => (c.xr d).toNat % 2 ^ 16) s)

/-- SB: the low 1 B of Xd (R244). -/
def execSb (k : CoreId) (d a : Reg) (imm : BitVec 16) (s : State) : Host.Outcome State Fault Refusal := .next (storeOp k a imm 1 (fun c => (c.xr d).toNat % 2 ^ 8) s)

/-- FLD (R244). -/
def execFld (k : CoreId) (d a : Reg) (imm : BitVec 16) (s : State) : Host.Outcome State Fault Refusal := .next (loadOp k a imm 8 (fun v c => c.setF d (BitVec.ofNat 64 v)) s)

/-- FLW: bits [63:32] become 0 (R236, R244). -/
def execFlw (k : CoreId) (d a : Reg) (imm : BitVec 16) (s : State) : Host.Outcome State Fault Refusal := .next (loadOp k a imm 4 (fun v c => c.setF d (BitVec.ofNat 64 v)) s)

/-- FSD (R244). -/
def execFsd (k : CoreId) (d a : Reg) (imm : BitVec 16) (s : State) : Host.Outcome State Fault Refusal := .next (storeOp k a imm 8 (fun c => (c.fr d).toNat) s)

/-- FSW (R244). -/
def execFsw (k : CoreId) (d a : Reg) (imm : BitVec 16) (s : State) : Host.Outcome State Fault Refusal := .next (storeOp k a imm 4 (fun c => (c.fr d).toNat % 2 ^ 32) s)

/-- VLD (R244). -/
def execVld (k : CoreId) (d a : Reg) (imm : BitVec 16) (s : State) : Host.Outcome State Fault Refusal := .next (loadOp k a imm 16 (fun v c => c.setV d (BitVec.ofNat 128 v)) s)

/-- VST (R244). -/
def execVst (k : CoreId) (d a : Reg) (imm : BitVec 16) (s : State) : Host.Outcome State Fault Refusal := .next (storeOp k a imm 16 (fun c => (c.vr d).toNat) s)

/-- AMO SWAP (R246). Every ordering of R257 holds: the core performs its accesses in program order. -/
def execAmoSwap (k : CoreId) (d a b : Reg) (dbl : Bool) (_ord : BitVec 2) (s : State) : Host.Outcome State Fault Refusal := .next (amoOp k d a b dbl (fun _ _ x _ => some x) s)

/-- AMO ADD (R246). Every ordering of R257 holds: the core performs its accesses in program order. -/
def execAmoAdd (k : CoreId) (d a b : Reg) (dbl : Bool) (_ord : BitVec 2) (s : State) : Host.Outcome State Fault Refusal := .next (amoOp k d a b dbl (fun _ o x _ => some (o + x)) s)

/-- AMO AND (R246). Every ordering of R257 holds: the core performs its accesses in program order. -/
def execAmoAnd (k : CoreId) (d a b : Reg) (dbl : Bool) (_ord : BitVec 2) (s : State) : Host.Outcome State Fault Refusal := .next (amoOp k d a b dbl (fun _ o x _ => some (o &&& x)) s)

/-- AMO OR (R246). Every ordering of R257 holds: the core performs its accesses in program order. -/
def execAmoOr (k : CoreId) (d a b : Reg) (dbl : Bool) (_ord : BitVec 2) (s : State) : Host.Outcome State Fault Refusal := .next (amoOp k d a b dbl (fun _ o x _ => some (o ||| x)) s)

/-- AMO XOR (R246). Every ordering of R257 holds: the core performs its accesses in program order. -/
def execAmoXor (k : CoreId) (d a b : Reg) (dbl : Bool) (_ord : BitVec 2) (s : State) : Host.Outcome State Fault Refusal := .next (amoOp k d a b dbl (fun _ o x _ => some (o ^^^ x)) s)

/-- AMO MIN (R246). Every ordering of R257 holds: the core performs its accesses in program order. -/
def execAmoMin (k : CoreId) (d a b : Reg) (dbl : Bool) (_ord : BitVec 2) (s : State) : Host.Outcome State Fault Refusal := .next (amoOp k d a b dbl (fun _ o x _ => some (minI o x)) s)

/-- AMO MAX (R246). Every ordering of R257 holds: the core performs its accesses in program order. -/
def execAmoMax (k : CoreId) (d a b : Reg) (dbl : Bool) (_ord : BitVec 2) (s : State) : Host.Outcome State Fault Refusal := .next (amoOp k d a b dbl (fun _ o x _ => some (maxI o x)) s)

/-- AMO MINU (R246). Every ordering of R257 holds: the core performs its accesses in program order. -/
def execAmoMinu (k : CoreId) (d a b : Reg) (dbl : Bool) (_ord : BitVec 2) (s : State) : Host.Outcome State Fault Refusal := .next (amoOp k d a b dbl (fun _ o x _ => some (minUns o x)) s)

/-- AMO MAXU (R246). Every ordering of R257 holds: the core performs its accesses in program order. -/
def execAmoMaxu (k : CoreId) (d a b : Reg) (dbl : Bool) (_ord : BitVec 2) (s : State) : Host.Outcome State Fault Refusal := .next (amoOp k d a b dbl (fun _ o x _ => some (maxUns o x)) s)

/-- CAS: if the old value equals Xd the new value is Xb (R246). Every ordering of R257 holds: the core performs its accesses in program order. -/
def execCas (k : CoreId) (d a b : Reg) (dbl : Bool) (_ord : BitVec 2) (s : State) : Host.Outcome State Fault Refusal := .next (amoOp k d a b dbl (fun _ o x y => if o = y then some x else none) s)

/-- LDAQ: a naturally aligned load from Xa, zero-extended, ordered as R257 gives (R247). -/
def execLdaq (k : CoreId) (d a : Reg) (size : BitVec 2) (s : State) : Host.Outcome State Fault Refusal :=
  .next (s.instr k (fun s => (s.load k ((s.core k).xr a) (ordSize size) true).andThen fun v s =>
    s.done k (fun c => (c.setX d (BitVec.ofNat 64 v)).ev 0x0b 1)))

/-- STRL: a naturally aligned store of Xd to Xa, behind every earlier store in the queue (R247, R257). -/
def execStrl (k : CoreId) (d a : Reg) (size : BitVec 2) (s : State) : Host.Outcome State Fault Refusal :=
  .next (s.instr k (fun s => (s.store k ((s.core k).xr a) (ordSize size) true (((s.core k).xr d).toNat % 2 ^ (8 * ordSize size))).andThen fun _ s =>
    s.done k (fun c => c.ev 0x0c 1)))

end Sys2Proof.Machine
end

