-- ==== Sys2Proof/Machine/ScVector.lean ====
section
/-! DEFINITION. Vector instructions of SIS-64 (R254, R255). -/

namespace Sys2Proof.Machine

/-- The width of a lane of a type: 0 binary64, 1 binary32, 2 32-bit integer. -/
def laneW (ty : Nat) : Nat := if ty = 0 then 64 else 32
/-- The number of lanes. -/
def lanes (ty : Nat) : Nat := if ty = 0 then 2 else 4
/-- Lane i of a vector. -/
def lane (ty : Nat) (v : V128) (i : Nat) : Nat := bitsAt v (laneW ty * i) (laneW ty)
/-- The vector with lane i replaced. -/
def setLane (ty : Nat) (v : V128) (i n : Nat) : V128 := putBits v (laneW ty * i) (laneW ty) (n % 2 ^ laneW ty)

/-- The vector of a function of the lane number, and the flags of all lanes. -/
def buildLanes (ty : Nat) (f : Nat → FRes) : V128 × Nat :=
  (List.range (lanes ty)).foldl (fun acc i => (setLane ty acc.1 i (f i).bits, acc.2 ||| (f i).flags)) (0, 0)

/-- The word of a VOP instruction (R254). -/
def vopWord (ty : BitVec 3) (op : Nat) (d a b : Reg) : W32 := encR 0x38 d.toNat a.toNat b.toNat (ty.toNat * 256 + op)

/-- A VOP instruction of the types up to a limit from a first one: any other type is illegal (R254). -/
def vop (k : CoreId) (lo hi : Nat) (ty : BitVec 3) (w : W32) (f : CoreSt → CoreSt) (s : State) : State :=
  s.instr k (fun s => if ty.toNat < lo || hi < ty.toNat then s.illegal k w else s.done k f)

/-- Floating-point operations counted for the lanes of a type (R525). -/
def laneOps (ty n : Nat) : Nat := if ty = 2 then 0 else lanes ty * n

/-- Vd = lane by lane: floating-point lanes round by FPSTAT.RND and OR their flags into FPSTAT, integer lanes wrap (R254). -/
def CoreSt.mapLanes (c : CoreSt) (ty : Nat) (d : Reg) (ops : Nat) (f : Nat → FRes) : CoreSt :=
  let r := buildLanes ty f
  ((c.setV d r.1).accrue r.2).ev 0x24 (laneOps ty ops)

/-- A lane-by-lane operation of two vectors, in each type. -/
def vop2 (k : CoreId) (hi : Nat) (ty : BitVec 3) (op : Nat) (d a b : Reg) (ff : Bool → Nat → Nat → Nat → FRes) (fi : W32 → W32 → W32) (s : State) : State :=
  vop k 0 hi ty (vopWord ty op d a b) (fun c =>
    let t := ty.toNat
    c.mapLanes t d 1 (fun i =>
      let x := lane t (c.vr a) i
      let y := lane t (c.vr b) i
      if t = 2 then ⟨(fi (BitVec.ofNat 32 x) (BitVec.ofNat 32 y)).toNat, 0⟩ else ff (t == 1) c.rnd x y)) s

/-- A floating-point function of values as one of bits. -/
def onBits (f : Bool → Nat → FVal → FVal → FRes) (sgl : Bool) (m x y : Nat) : FRes := f sgl m (fUnpack sgl x) (fUnpack sgl y)

/-- All ones where a comparison's mask meets the relation wanted (R254). -/
def cmpLane (all : Bool) (want : Nat) (sgl : Bool) (_m x y : Nat) : FRes :=
  let r := fCmpV all (fUnpack sgl x) (fUnpack sgl y)
  ⟨if r.bits &&& want = 0 then 0 else 2 ^ fWidth sgl - 1, r.flags⟩

/-- All ones or zeros. -/
def ones32 (b : Bool) : W32 := if b then BitVec.allOnes 32 else 0

/-- A bitwise operation over 128 bits (R254). -/
def vbit (k : CoreId) (ty : BitVec 3) (op : Nat) (d a b : Reg) (f : V128 → V128 → V128) (s : State) : State :=
  vop k 0 2 ty (vopWord ty op d a b) (fun c => c.setV d (f (c.vr a) (c.vr b))) s

/-- A lane number as the field b of a word. -/
def laneReg (l : BitVec 5) : Reg := l

/-- VEXT and VINS: a lane index beyond the lanes of the type is illegal too (R254). -/
def vlane (k : CoreId) (lo hi : Nat) (ty : BitVec 3) (op : Nat) (d a : Reg) (l : BitVec 5) (f : CoreSt → CoreSt) (s : State) : State :=
  s.instr k (fun s =>
    if ty.toNat < lo || hi < ty.toNat || lanes ty.toNat ≤ l.toNat then s.illegal k (vopWord ty op d a l) else s.done k f)

/-- VADD (R254). -/
def execVadd (k : CoreId) (ty : BitVec 3) (d a b : Reg) (s : State) : Host.Outcome State Fault Refusal := .next (vop2 k 2 ty 0x0 d a b (onBits fAddV) (fun x y => x + y) s)

/-- VSUB (R254). -/
def execVsub (k : CoreId) (ty : BitVec 3) (d a b : Reg) (s : State) : Host.Outcome State Fault Refusal := .next (vop2 k 2 ty 0x1 d a b (onBits (fun g m x y => fAddV g m x y.neg)) (fun x y => x - y) s)

/-- VMUL (R254). -/
def execVmul (k : CoreId) (ty : BitVec 3) (d a b : Reg) (s : State) : Host.Outcome State Fault Refusal := .next (vop2 k 2 ty 0x2 d a b (onBits fMulV) (fun x y => x * y) s)

/-- VDIV (R254). -/
def execVdiv (k : CoreId) (ty : BitVec 3) (d a b : Reg) (s : State) : Host.Outcome State Fault Refusal := .next (vop2 k 1 ty 0x3 d a b (onBits fDivV) (fun x _ => x) s)

/-- VMIN (R254). -/
def execVmin (k : CoreId) (ty : BitVec 3) (d a b : Reg) (s : State) : Host.Outcome State Fault Refusal := .next (vop2 k 2 ty 0x5 d a b (fun g _ => fMinMax g false) (minI) s)

/-- VMAX (R254). -/
def execVmax (k : CoreId) (ty : BitVec 3) (d a b : Reg) (s : State) : Host.Outcome State Fault Refusal := .next (vop2 k 2 ty 0x6 d a b (fun g _ => fMinMax g true) (maxI) s)

/-- VCMPEQ (R254). -/
def execVcmpeq (k : CoreId) (ty : BitVec 3) (d a b : Reg) (s : State) : Host.Outcome State Fault Refusal := .next (vop2 k 2 ty 0x10 d a b (cmpLane false 2) (fun x y => ones32 (x == y)) s)

/-- VCMPLT (R254). -/
def execVcmplt (k : CoreId) (ty : BitVec 3) (d a b : Reg) (s : State) : Host.Outcome State Fault Refusal := .next (vop2 k 2 ty 0x11 d a b (cmpLane true 1) (fun x y => ones32 (x.slt y)) s)

/-- VCMPLE (R254). -/
def execVcmple (k : CoreId) (ty : BitVec 3) (d a b : Reg) (s : State) : Host.Outcome State Fault Refusal := .next (vop2 k 2 ty 0x12 d a b (cmpLane true 3) (fun x y => ones32 (!y.slt x)) s)

/-- VSQRT (R254). -/
def execVsqrt (k : CoreId) (ty : BitVec 3) (d a : Reg) (s : State) : Host.Outcome State Fault Refusal :=
  .next (vop k 0 1 ty (vopWord ty 4 d a 0) (fun c =>
    c.mapLanes ty.toNat d 1 (fun i => fSqrtV (ty == 1) c.rnd (fUnpack (ty == 1) (lane ty.toNat (c.vr a) i)))) s)

/-- VAND (R254). -/
def execVand (k : CoreId) (ty : BitVec 3) (d a b : Reg) (s : State) : Host.Outcome State Fault Refusal := .next (vbit k ty 0x8 d a b (fun x y => x &&& y) s)

/-- VOR (R254). -/
def execVor (k : CoreId) (ty : BitVec 3) (d a b : Reg) (s : State) : Host.Outcome State Fault Refusal := .next (vbit k ty 0x9 d a b (fun x y => x ||| y) s)

/-- VXOR (R254). -/
def execVxor (k : CoreId) (ty : BitVec 3) (d a b : Reg) (s : State) : Host.Outcome State Fault Refusal := .next (vbit k ty 0xa d a b (fun x y => x ^^^ y) s)

/-- Every lane of a value. -/
def splat (ty : Nat) (v : Nat) : V128 := (buildLanes ty (fun _ => ⟨v % 2 ^ laneW ty, 0⟩)).1

/-- VSPLAT.X (R254). -/
def execVsplatX (k : CoreId) (ty : BitVec 3) (d a : Reg) (s : State) : Host.Outcome State Fault Refusal := .next (vop k 0 2 ty (vopWord ty 0x20 d a 0) (fun c => c.setV d (splat ty.toNat (c.xr a).toNat)) s)

/-- VSPLAT.F (R254). -/
def execVsplatF (k : CoreId) (ty : BitVec 3) (d a : Reg) (s : State) : Host.Outcome State Fault Refusal := .next (vop k 0 2 ty (vopWord ty 0x21 d a 0) (fun c => c.setV d (splat ty.toNat (c.fr a).toNat)) s)

/-- VEXT.X: Xd = a 32-bit lane, sign-extended (R254). -/
def execVextX (k : CoreId) (ty : BitVec 3) (d a : Reg) (lane : BitVec 5) (s : State) : Host.Outcome State Fault Refusal := .next (vlane k 2 2 ty 0x22 d a lane (fun c => c.setX d (sext32 (BitVec.ofNat 32 (Sys2Proof.Machine.lane 2 (c.vr a) lane.toNat)))) s)

/-- VINS.X (R254). -/
def execVinsX (k : CoreId) (ty : BitVec 3) (d a : Reg) (lane : BitVec 5) (s : State) : Host.Outcome State Fault Refusal := .next (vlane k 2 2 ty 0x23 d a lane (fun c => c.setV d (setLane 2 (c.vr d) lane.toNat (c.xr a).toNat)) s)

/-- VEXT.F (R236, R254). -/
def execVextF (k : CoreId) (ty : BitVec 3) (d a : Reg) (lane : BitVec 5) (s : State) : Host.Outcome State Fault Refusal := .next (vlane k 0 1 ty 0x24 d a lane (fun c => c.setF d (BitVec.ofNat 64 (Sys2Proof.Machine.lane ty.toNat (c.vr a) lane.toNat))) s)

/-- VINS.F (R254). -/
def execVinsF (k : CoreId) (ty : BitVec 3) (d a : Reg) (lane : BitVec 5) (s : State) : Host.Outcome State Fault Refusal := .next (vlane k 0 1 ty 0x25 d a lane (fun c => c.setV d (setLane ty.toNat (c.vr d) lane.toNat (c.fr a).toNat)) s)

/-- Lane i of a vector as a value. -/
def laneVal (ty : Nat) (v : V128) (i : Nat) : FVal := fUnpack (ty == 1) (lane ty v i)

/-- Two results joined: the value of the second, the flags of both. -/
def FRes.also (r : FRes) (fl : Nat) : FRes := ⟨r.bits, r.flags ||| fl⟩

/-- VSUMH of binary32: (l0 + l1) + (l2 + l3) (R254). -/
def sumh32 (m : Nat) (v : V128) : FRes :=
  let p := fAddV true m (laneVal 1 v 0) (laneVal 1 v 1)
  let q := fAddV true m (laneVal 1 v 2) (laneVal 1 v 3)
  (fAddV true m (fUnpack true p.bits) (fUnpack true q.bits)).also (p.flags ||| q.flags)

/-- VSUMH: the sum of the lanes in a fixed order, into Fd, or of integers into Xd (R254, R255). -/
def execVsumh (k : CoreId) (ty : BitVec 3) (d a : Reg) (s : State) : Host.Outcome State Fault Refusal :=
  .next (vop k 0 2 ty (vopWord ty 0x26 d a 0) (fun c =>
    let v := c.vr a
    if ty = 0 then c.putF d 1 (fAddV false c.rnd (laneVal 0 v 0) (laneVal 0 v 1))
    else if ty = 1 then c.putF d 3 (sumh32 c.rnd v)
    else c.setX d (sext32 (BitVec.ofNat 32 (lane 2 v 0 + lane 2 v 1 + lane 2 v 2 + lane 2 v 3)))) s)

/-- One lane of VCVT: type 1 integer to binary32, type 2 binary32 to integer as FTOS32 (R254). -/
def cvtLane (ty : BitVec 3) (m x : Nat) : FRes :=
  if ty = 1 then fFromInt true m (BitVec.ofNat 32 x).toInt
  else
    let r := fToInt m (-(2 ^ 31)) (2 ^ 31 - 1) (fUnpack true x)
    ⟨(BitVec.ofInt 32 r.1).toNat, r.2⟩

/-- VCVT (R254). -/
def execVcvt (k : CoreId) (ty : BitVec 3) (d a : Reg) (s : State) : Host.Outcome State Fault Refusal :=
  .next (vop k 1 2 ty (vopWord ty 0x28 d a 0) (fun c =>
    let r := buildLanes 1 (fun i => cvtLane ty c.rnd (lane 1 (c.vr a) i))
    ((c.setV d r.1).accrue r.2).ev 0x24 4) s)

/-- Lanes of Va shifted by the low 5 bits of the same lanes of Vb (R254). -/
def vshift (k : CoreId) (ty : BitVec 3) (op : Nat) (kind : ShiftKind) (d a b : Reg) (s : State) : State :=
  vop k 2 2 ty (vopWord ty op d a b) (fun c =>
    c.mapLanes 2 d 0 (fun i => ⟨(shiftBy kind (BitVec.ofNat 32 (lane 2 (c.vr a) i)) (lane 2 (c.vr b) i % 32)).toNat, 0⟩)) s

/-- VSHL (R254). -/
def execVshl (k : CoreId) (ty : BitVec 3) (d a b : Reg) (s : State) : Host.Outcome State Fault Refusal := .next (vshift k ty 0x2c .sll d a b s)

/-- VSRA (R254). -/
def execVsra (k : CoreId) (ty : BitVec 3) (d a b : Reg) (s : State) : Host.Outcome State Fault Refusal := .next (vshift k ty 0x2d .sra d a b s)

/-- The word of a VR4 instruction (R255). -/
def vr4Word (op : Nat) (ty : BitVec 2) (d a b c : Reg) : W32 := encR5 0x39 d.toNat a.toNat b.toNat c.toNat (op * 8 + ty.toNat * 2)

/-- A fused multiply-add on every lane, for types 0 and 1 (R255). -/
def vr4Fma (k : CoreId) (op : Nat) (ty : BitVec 2) (d a b c : Reg) (s : State) : State :=
  s.instr k (fun s =>
    if 1 < ty.toNat then s.illegal k (vr4Word op ty d a b c)
    else s.done k (fun x => x.mapLanes ty.toNat d 2 (fun i =>
      fmaRes op (ty == 1) x.rnd (laneVal ty.toNat (x.vr a) i) (laneVal ty.toNat (x.vr b) i) (laneVal ty.toNat (x.vr c) i))))

/-- VR4 FMA operation 0 on every lane (R253, R255). -/
def execVr4FmaA (k : CoreId) (ty : BitVec 2) (d a b c : Reg) (s : State) : Host.Outcome State Fault Refusal := .next (vr4Fma k 0 ty d a b c s)

/-- VR4 FMA operation 1 on every lane (R253, R255). -/
def execVr4FmaS (k : CoreId) (ty : BitVec 2) (d a b c : Reg) (s : State) : Host.Outcome State Fault Refusal := .next (vr4Fma k 1 ty d a b c s)

/-- VR4 FMA operation 2 on every lane (R253, R255). -/
def execVr4FmaNa (k : CoreId) (ty : BitVec 2) (d a b c : Reg) (s : State) : Host.Outcome State Fault Refusal := .next (vr4Fma k 2 ty d a b c s)

/-- VR4 FMA operation 3 on every lane (R253, R255). -/
def execVr4FmaNs (k : CoreId) (ty : BitVec 2) (d a b c : Reg) (s : State) : Host.Outcome State Fault Refusal := .next (vr4Fma k 3 ty d a b c s)

/-- VSEL: Vd = (Va AND Vc) OR (Vb AND NOT Vc), for any type (R255). -/
def execVsel (k : CoreId) (_ty : BitVec 2) (d a b c : Reg) (s : State) : Host.Outcome State Fault Refusal :=
  .next (s.instr k (fun s => s.done k (fun x => x.setV d ((x.vr a &&& x.vr c) ||| (x.vr b &&& ~~~(x.vr c))))))

end Sys2Proof.Machine
end

