-- ==== Sys2Proof/Machine/HiveTick.lean ====
section
/-! DEFINITION. What Hive does at a tick beside dispatch: placement epochs and plans, removal and replacement of cores, reserve parts and berth migration (R101 to R110, R419 to R424). -/

namespace Sys2Proof.Machine

/-! ### Cores (R106, R109, R110) -/

/-- A worn core at a tick (R110): a reserve core is woken at the first tick after the judgment, and the core leaves once it runs no task. -/
def State.wornCore (s : State) (k : CoreId) : State :=
  let gone := (s.cstat k.val).gone
  let drawn := s.drawnFor k
  let s := if !gone && !drawn && s.nextReserve.isSome then s.drawReserve k else s
  let idle := match s.cstat k.val with
    | .idle => true
    | .excluded => true
    | .waking => true
    | _ => false
  if gone then { s with hive := { s.hive with worn := s.hive.worn.filter (· != k) } }
  else if idle then
    let s := s.removeCore k 1
    let s := if drawn || s.hive.replaces.any (fun x => x.removed == k) then s else s.drawReserve k
    { s with hive := { s.hive with worn := s.hive.worn.filter (· != k) } }
  else s

/-- The replacements that may join at this tick: ready, their core gone, two at most (R21, R104, R106). -/
def State.joiners (s : State) : List Replace :=
  (s.hive.replaces.filter (fun x => x.ready && (s.cstat x.removed.val).gone)).take 2

/-- A reserve core joins placement in place of a removed one, whose pins and core sets it takes (R106, R109, R110). -/
def State.coreJoin (s : State) (x : Replace) : State :=
  let s := { s with hive := { s.hive with
    replaces := s.hive.replaces.filter (fun y => y.spare != x.spare)
    pinMoves := s.hive.pinMoves ++ [(x.removed, some x.spare)] } }
  (s.setCstat x.spare.val (if s.excluded x.spare.val then .excluded else .idle)).spareIn 0 x.removed.val x.spare.val 0

/-- Hive gives a task another assigned core of its pool; which one is the firmware's choice (R102, R105). -/
def State.reassign (s : State) (t : TaskId) : State :=
  let p := s.pick (s.pool t)
  match p.1 with
  | some k => p.2.assign t k
  | none => s

/-- The task runs on no core (R105). -/
def State.still (s : State) (t : TaskId) : Bool := (s.rt t).run.isNone

/-- The tasks to be given another core because their own left placement or no longer belongs to their pool; true for those that no limit holds back (R106, R107). -/
def State.strays (s : State) (free : Bool) : List TaskId :=
  s.tasks.filter (fun t =>
    let k := (s.rt t).assigned
    s.tdValid t && s.still t && !(s.pool t).contains k && (s.excluded k.val && !(s.cstat k.val).gone) != free)

/-- Removal, joining and reassignment of a tick; the answer counts the moves that R104 limits. -/
def State.coresTick (s : State) : Nat × State :=
  let s := s.hive.worn.foldl (fun s k => s.wornCore k) s
  let s := s.joiners.foldl (fun s x => s.coreJoin x) s
  let s := (s.strays true).foldl (fun s t => s.reassign t) s
  let l := (s.strays false).take (s.fld R.PL_LIM_TASK 0 8)
  (l.length, l.foldl (fun s t => s.reassign t) s)

/-! ### Migrations (R104, R107, R419, R421, R422, R424) -/

/-- The channel that a berth pin keeps a berth on (R107). -/
def State.berthPin (s : State) (b : Nat) : Option Nat :=
  ((List.range 64).find? (fun i =>
    let h := s.rd (R.BPIN_HI i)
    let lo := s.fld (R.BPIN_LO i) 0 21
    bitAt h 20 && decide (lo ≤ b ∧ b < lo + bitsAt h 0 16))).map (fun i => s.fld (R.BPIN_HI i) 16 4)

/-- A copy may start: fewer in flight than COPIES, and a slot is free (R104). -/
def State.copyRoom (s : State) : Bool := decide (s.mem.copies.length < s.fld R.PL_LIM_BERTH 8 5) && s.copySlot.isSome

/-- A channel that berths may move to: active, or the spare, and not itself worn. -/
def State.chTarget (s : State) (ch : Nat) : Bool :=
  (s.fld (R.MC_STATE ch) 0 3 == 2 || s.fld (R.MC_STATE ch) 0 3 == 3) && !s.mem.wornCh.contains ch

/-- A berth has a place and no copy of it is in flight. -/
def State.movable (s : State) (b : Nat) : Bool := bitAt (s.btEntry b) 27 && !bitAt (s.btEntry b) 28

/-- The spare enters service with the first berth placed on it (R24, R110, R418). -/
def State.spareChannel (s : State) (old ch : Nat) : State :=
  if s.fld (R.MC_STATE ch) 0 3 = 3 then (s.setFld (R.MC_STATE ch) 0 3 2).spareIn 2 old ch 0 else s

/-- A copy starts toward a place (R419). -/
def State.moveStart (s : State) (b ch off : Nat) (cause : MigCause) : State :=
  (s.spareChannel (bitsAt (s.btEntry b) 0 4) ch).copyStart b ch off cause

/-- The spare takes the place of a worn channel, or can take it (R422). -/
def State.spares (s : State) (c : Nat) : Bool := s.mem.sparing == some c || s.fld (R.MC_STATE 12) 0 3 == 3

/-- The channels that take the berths of a worn one, in order: the spare where it takes its place, and then the others (R422). -/
def State.sparingOrder (s : State) (c : Nat) : List Nat :=
  (if s.spares c then 12 :: List.range 12 else List.range 13).filter (fun ch => ch != c && s.chTarget ch)

/-- A free place on the first of several channels that has one. -/
def State.placeOn (s : State) : List Nat → Option (Nat × Nat)
  | [] => none
  | ch :: r =>
    match s.freePlace ch with
    | some o => some (ch, o)
    | none => s.placeOn r

/-- An unused berth gives up its place on a channel that can take others (R422). -/
def State.givePlace (s : State) (c : Nat) : State :=
  match s.mem.bt.reverse.find? (fun p => bitAt p.2 27 && !bitAt p.2 28 && !bitAt p.2 29 && (s.sparingOrder c).contains (bitsAt p.2 0 4)) with
  | some p => s.setBt p.1 (putBits p.2 27 1 0)
  | none => s

/-- One berth of a worn channel starts to move, where a place can be had (R422). -/
def State.spareBerth (s : State) (c b : Nat) : State :=
  if !s.copyRoom then s
  else
    let s := if (s.placeOn (s.sparingOrder c)).isNone then s.givePlace c else s
    match s.placeOn (s.sparingOrder c) with
    | some (ch, o) =>
      let sp := s.spares c
      let s := if sp then { s with mem := { s.mem with sparing := some c } } else s
      s.moveStart b ch o (if sp then .sparing else .retirement)
    | none => s

/-- Copies toward a channel judged worn are abandoned (R421). -/
def State.wornAbandon (s : State) : State :=
  (s.mem.copies.filter (fun p => s.mem.wornCh.contains p.2.dstCh)).foldl (fun s p => s.copyAbandon p.1) s

/-- A worn channel at a tick: its berths move, and with the last of them gone it is retired (R422). -/
def State.wornChannel (s : State) (c : Nat) : State :=
  let mine := s.mem.bt.filter (fun p => bitAt p.2 27 && bitsAt p.2 0 4 == c)
  if mine.isEmpty then
    let s := ((s.setFld (R.MC_STATE c) 0 3 4).setFld R.PV_MEM_HW c 1 0).follow (80 + c) 0
    { s with mem := { s.mem with wornCh := s.mem.wornCh.filter (· != c) } }
  else ((mine.filter (fun p => s.movable p.1)).take 16).foldl (fun s p => s.spareBerth c p.1) s

/-- The berth of a hard place moves to a free place, on its own channel where a pin or room keeps it there (R107, R424). -/
def State.hardMove (s : State) (b : Nat) : State :=
  let c := bitsAt (s.btEntry b) 0 4
  let order := match s.berthPin b with
    | some p => [p]
    | none => c :: (List.range 13).filter (fun ch => ch != c)
  if !s.copyRoom || !s.movable b then s
  else match s.placeOn (order.filter (fun ch => s.fld (R.MC_STATE ch) 0 3 == 2 && s.chTarget ch)) with
    | some (ch, o) => s.copyStart b ch o .placeRetire
    | none => s

/-- Hive's vote for a channel follows what the channel holds: a valid berth, or the place of the spare (R503).
DESIGN CHOICE (log entry 82): a copy toward a channel holds it up as a valid berth does. -/
def State.chanVote (s : State) (c : Nat) : State :=
  let want := !(s.validPlaces c).isEmpty || s.fld (R.MC_STATE c) 0 3 == 3 || s.mem.copies.any (fun p => p.2.dstCh == c)
  if s.flagAt R.PV_MEM_HW c == want then s else (s.setFld R.PV_MEM_HW c 1 (b2n want)).follow (80 + c) 0

/-- Copies toward worn channels are abandoned, completed copies switch, within SWITCH, copies start, and Hive's votes follow (R104, R421, R503). -/
def State.berthsTick (s : State) : State :=
  let s := s.memNotes.wornAbandon
  let due := ((s.mem.copies.filter (fun p => p.2.ready)).take (s.fld R.PL_LIM_BERTH 0 7)).map (·.1)
  let s := due.foldl (fun s i => s.berthSwitch i) s
  let s := s.mem.wornCh.foldl (fun s c => s.wornChannel c) s
  let s := s.mem.hardPlaces.foldl (fun s b => s.hardMove b) s
  (List.range 13).foldl State.chanVote s

/-! ### Plans (R101 to R105) -/

/-- What a tick's share of a plan has used so far: task moves and classes rehomed. -/
structure PlanUse where
  moves : Nat
  homes : Nat
deriving DecidableEq, Repr

/-- A reserve part that a plan names comes first among those waiting to enter service (R102, R110).
DESIGN CHOICE (log entry 72): R110 says when a reserve part enters service, so a plan's choice decides the order of those waiting; a part that nothing waits for, and the one spare channel, are left as they are. -/
def State.sparePart (s : State) : PlanPart → State
  | .core k =>
    let l := s.hive.replaces.filter (fun x => x.spare == k) ++ s.hive.replaces.filter (fun x => x.spare != k)
    { s with hive := { s.hive with replaces := l } }
  | .way t =>
    let l := s.hive.waySpare.filter (fun x => x.1 == t.val) ++ s.hive.waySpare.filter (fun x => x.1 != t.val)
    { s with hive := { s.hive with waySpare := l } }
  | .engine b e =>
    let l := s.hive.antSpare.filter (fun x => x == (b.val, e.val)) ++ s.hive.antSpare.filter (fun x => x != (b.val, e.val))
    { s with hive := { s.hive with antSpare := l } }
  | .channel => s

/-- A change of the plan at a tick: none when it waits for a later tick, else the state after it; a change that a pin, the task's pool or the place it names forbids is dropped (R104, R105, R107).
DESIGN CHOICE (log entry 72): byte 2 of a REHOME record, the home set size, is the SIZE field, the base-2 logarithm of the number of slices. -/
def State.planItem (s : State) (u : PlanUse) : PlanItem → Option (PlanUse × State)
  | .assign t k =>
    if !s.tdValid t || (s.rt t).assigned == k || !(s.pool t).contains k then some (u, s)
    else if !s.still t || decide (s.fld R.PL_LIM_TASK 0 8 ≤ u.moves) then none
    else some ({ u with moves := u.moves + 1 }, s.assign t k)
  | .rehome c first size =>
    if s.flagAt (R.HOME_PIN c.val) 0 || s.homeSet c.val == (first.val, size.val) then some (u, s)
    else if s.fld R.PL_LIM_HOME 0 3 ≤ u.homes then none
    else some ({ u with homes := u.homes + 1 },
      (s.rehome c.val first.val size.val).jlog s.now 97 0 0x0213 [(0, 1, c.val), (1, 1, first.val), (2, 1, size.val)])
  | .move b ch off =>
    let e := s.btEntry b.toNat
    if !bitAt e 27 || bitsAt e 0 4 == ch.val || !s.chTarget ch.val || !s.placeFree ch.val off.toNat ||
        (s.berthPin b.toNat).any (fun p => p != ch.val) then some (u, s)
    else if bitAt e 28 || !s.copyRoom then none
    else some (u, s.moveStart b.toNat ch.val off.toNat .placement)
  | .reserve p => some (u, s.sparePart p)

/-- The plan's changes in its order; those held back wait (R104). -/
def planRun : List PlanItem → PlanUse → State → List PlanItem × State
  | [], _, s => ([], s)
  | x :: r, u, s =>
    match s.planItem u x with
    | some y => planRun r y.1 y.2
    | none =>
      let z := planRun r u s
      (x :: z.1, z.2)

/-- The plan in force at a tick; moves: task moves already made at it. -/
def State.planTick (s : State) (moves : Nat) : State :=
  let r := planRun s.hive.plan ⟨moves, 0⟩ s
  { r.2 with hive := { r.2.hive with plan := r.1 } }

/-- Changes of a plan of each kind, for PLAN_APPLY (R116). -/
def planCounts (l : List PlanItem) : Nat × Nat × Nat :=
  (countIf (fun x => match x with
     | .assign _ _ => true
     | _ => false) l,
   countIf (fun x => match x with
     | .rehome _ _ _ => true
     | _ => false) l,
   countIf (fun x => match x with
     | .move _ _ _ => true
     | _ => false) l)

/-- PLAN_APPLY (R101): a plan complete for epoch e is applied, and what was left of the one before is dropped. -/
def State.planApply (s : State) (e : W32) (l : List PlanItem) : State :=
  let c := planCounts l
  ({ s with hive := { s.hive with plan := l, planReady := none } }).jlog s.now 97 0 0x0210
    [(0, 4, e.toNat), (4, 2, c.1), (6, 1, c.2.1), (7, 2, c.2.2)]

/-- PLAN_LATE (R101): the plan for epoch e is not complete at the end of the next. -/
def State.planLate (s : State) (e : W32) : State :=
  ((s.flag R.HV_STATUS 5).jlog s.now 97 0 0x0211 [(0, 4, e.toNat)])

/-- Counts added to counts, by key. -/
def addCounts (a b : List (Nat × Nat)) : List (Nat × Nat) := b.foldl (fun l p => assocSet l p.1 (assocD l p.1 0 + p.2)) a

/-- The inputs of the epoch that closes (R101): what was gathered, the counts of the samplers, which start anew (R408), and the loads of Sealed tasks (R103). -/
def State.gatherClose (s : State) : State :=
  let rings := (List.range 17).map s.rg
  let g := { s.hive.gather with
    byBerth := rings.foldl (fun l x => addCounts l x.byBerth) []
    bySlice := rings.foldl (fun l x => addCounts l x.bySlice) []
    sealedLoad := (s.tasks.filter (fun t => s.tdValid t && s.taskSealed t)).map (fun t => (t, max (s.tdN t 416 32) (s.tdN t 640 32))) }
  { s with
    hive := { s.hive with gather := {}, gatherLast := g }
    ring := { s.ring with rings := s.ring.rings.map (fun p => (p.1, { p.2 with byBerth := [], bySlice := [] })) } }

/-- EPOCH_OPEN (R101): epoch c opens at tick n; the plan for epoch c - 2 applies or is late, and that for epoch c - 1 is begun. -/
def State.epochOpen (s : State) (n : W64) : State :=
  let p := s.fld R.PL_EPOCH 0 16
  if p = 0 ∨ n.toNat % p ≠ 0 then s
  else
    let c := s.hive.epochs
    let s := match s.hive.planReady with
      | some l => s.planApply (c - 2) l
      | none => if s.hive.planDue then s.planLate (c - 2) else s
    let s := s.gatherClose
    { s with hive := { s.hive with
        epochs := c + 1
        opened := true
        planReady := none
        planDue := s.hive.opened
        loadLast := if s.hive.opened then s.hive.load else []
        gatherLast := if s.hive.opened then s.hive.gatherLast else {}
        load := [] } }

/-- Hive at tick n, before the dispatch of its frame (R101 to R110). -/
def State.hiveTick (s : State) (n : W64) : State :=
  let s := s.epochOpen n
  let m := s.coresTick
  let s := m.2.planTick m.1
  (s.berthsTick.l3Tick).antTick

end Sys2Proof.Machine
end

