-- ==== Sys2Proof/Machine/Tick.lean ====
section
/-! DEFINITION. Tick N: the end of frame N - 1, the flip, and the steps the flip starts (R36). -/

namespace Sys2Proof.Machine

/-! ### What the rules place before T(N) -/

/-- Running tasks whose deadline no command has judged, the earlier deadline first (R42). -/
def State.lateTasks (s : State) : List TaskId :=
  sortBy (fun a b => stampLt (s.rt a).deadline (s.rt b).deadline)
    (s.tasks.filter (fun t => (s.rt t).run.isSome && !(s.rt t).carried && !(s.rt t).lateSeen))

/-- The events of a frame at fixed offsets from its tick have happened before the next tick, also where no command brought them (R33, R35, R37, R39, R42, R44, R189, R192, R194, R196). -/
def State.frameEvents (s : State) : State :=
  if !s.bcn.ticked then s
  else
    let s := (outputEnable (inputFreeze (bcnOutFall s))).edgeJudge
    let s := if s.nonHolder then heartbeatWaitExpire (mirrorMiss s) else s
    let s := s.lateTasks.foldl (fun s t => deadlineLate t s) s
    digestSendDeadline (missed s)

/-! ### Overruns (R45 to R49) -/

/-- OVERRUN of a task at tick n: mode 0 ABORT, 1 CARRY, 2 CARRY_EXPIRED; it counts in the frame that ends (R50, R195). -/
def State.overrunLog (s : State) (n : W64) (t : TaskId) (k : CoreId) (f : W64) (mode : Nat) : State :=
  let s := (((s.setTdN t 672 32 (s.tdN t 672 32 + 1)).flag R.BCN_STATUS 0).bump R.BCN_CNT_OVR).jlogW (s.taskSealed t) (s.tickAt n) 104 0 0x0010
    [(0, 2, t.val), (2, 1, mode), (4, 2, k.val), (8, 4, (lo32 f).toNat)] []
  let s := s.accSet (fun a => { a with noncmp := true, ovr := a.ovr + 1, abort := a.abort || mode != 1, carry := a.carry || mode == 1 })
  s.outcome (n - 1) (mode + 1) t.val (lo32 f)

/-- The pending versions of a task that keeps running are held (R47), or wait for the stop at the end of its handler (R46). -/
def State.holdTask (s : State) (t : TaskId) (k : CoreId) (f : W64) (stop : Bool) : State :=
  let s := s.addWalk { task := t, frame := f, kind := .carry, tlist := s.touchNo k, walked := false }
  s.setRt t { s.rt t with carried := true, stopPending := stop }

/-- The core runs a handler for its task, or a service of the other world that one called (R46, R301). -/
def State.inHandler (s : State) (k : CoreId) : Bool := !(s.core k).taskLevel

/-- A task still running at tick n overruns (R45): a carried one expires (R49), a CARRY task is carried on (R47), any other is stopped (R46). -/
def State.overrun (s : State) (n : W64) (t : TaskId) : State :=
  let r := s.rt t
  match r.run with
  | none => s
  | some (k, f) =>
    if r.stopPending then s
    else if r.carried then
      let s := s.overrunLog n t k f 2
      if s.inHandler k then s.setRt t { s.rt t with stopPending := true } else s.takeOff t .discard
    else if s.taskCarry t then ((s.overrunLog n t k f 1).holdTask t k f false).setCstat k.val .carried
    else
      let s := s.overrunLog n t k f 0
      if s.inHandler k then s.holdTask t k f true else s.takeOff t .abort

/-! ### Late commits (R48, R85, R195) -/

/-- The COMMIT entries of tick n, in ascending frame and task. -/
def State.commits (s : State) (n : W64) : List WalkEnt :=
  sortBy (fun a b => decide (a.frame.toNat < b.frame.toNat ∨ (a.frame = b.frame ∧ a.task.val < b.task.val)))
    (s.su.walks.filter (fun w => w.kind == .commit n))

/-- The lines a walk entry commits: those of its touch list that lost no collision. -/
def State.commitLines (s : State) (w : WalkEnt) : List Nat := ((s.touch w.tlist).filter (fun e => !e.lost)).map (·.line)

/-- LATE_COMMIT of a task (R48). -/
def State.lateLog (s : State) (n : W64) (w : WalkEnt) : State :=
  let s := s.jlogW (s.taskSealed w.task) (s.tickAt n) 104 0 0x0013
    [(0, 2, w.task.val), (2, 4, (s.commitLines w).length), (8, 4, (lo32 w.frame).toNat)] []
  s.outcome (n - 1) 6 w.task.val (lo32 w.frame)

/-- The XOR of g over the lines whose late commit takes effect (R195). -/
def State.lateXor (s : State) (lines : List Nat) : V128 :=
  lines.foldl (fun x l =>
    let m := s.sline l
    if m.late m.committed then x ^^^ s.contribution l m.cdata else x) 0

/-! ### FRAME_CLOSE (R50, R54) -/

/-- FRAME_CLOSE of the frame before tick n, non-comparable also where it was MIXED (R115); late: lines committed late at tick n. -/
def State.frameClose (s : State) (n : W64) (late : Nat) : State :=
  let a := s.bcn.acc
  let noncmp := a.noncmp || s.mixed
  let flags := bitIf a.abort 0 + bitIf a.carry 1 + bitIf a.missed 2 + bitIf s.mixed 3 + bitIf (late != 0) 4 + bitIf noncmp 5
  let s := s.jlog (s.tickAt n) 104 0 0x0002
    [(0, 4, (lo32 (n - 1)).toNat), (4, 2, flags), (6, 2, a.ovr), (8, 2, a.miss), (10, 2, min 65535 late)]
  let s := s.setOwn { s.ownOf (n - 1) with closed := true, noncmp := noncmp }
  { s with bcn := { s.bcn with lateLines := late }, su := { s.su with digOpen := s.su.digOpen ++ [n - 1] } }

/-- Frame n - 1 ends at tick n: stops, overruns, late commits, and its FRAME_CLOSE. -/
def State.frameEnd (s : State) (n : W64) : State :=
  if !s.bcn.ticked then s
  else
    let s := s.tasks.foldl (fun s t => s.overrun n t) s
    let w := s.commits n
    let s := w.foldl (fun s e => s.lateLog n e) s
    s.frameClose n (w.foldl (fun a e => a + (s.commitLines e).length) 0)

/-! ### The flip (R36) -/

/-- T(n-1) at tick n: as it fired, or one period before the first tick. -/
def State.tickBefore (s : State) (n : W64) : Stamp :=
  if s.bcn.ticked then s.bcn.tickStamp else s.tickAt n - BitVec.ofNat 64 s.period

/-- Tick n is the first, or does not fire one period after the tick before it (R34): it is kept to number stamps by. -/
def State.newBase (s : State) (n : W64) : List (W64 × Stamp) :=
  if s.bcn.ticked && s.tickAt n == s.bcn.tickStamp + BitVec.ofNat 64 s.period then s.bcn.bases
  else (n, s.tickAt n) :: s.bcn.bases

/-- The epoch advances to frame n. -/
def State.flip (s : State) (n : W64) : State :=
  { s with
    bcn := { s.bcn with
      frame := n, tickStamp := s.tickAt n, prevTick := s.tickBefore n, bases := s.newBase n, nextN := n + 1, ticked := true, acc := {}, frozen := false
      edgeGot := s.bcn.edgeNext, edgeNext := false, edgeJudged := false }
    tw := { s.tw with mirFrame := n, mirLines := [], localLines := [], mirEnd := false, mirMiss := false } }

/-- The late writes commit after the regular ones (R48), and their contributions go into the outcome digest (R195). -/
def State.lateFlip (s : State) (n : W64) (lines : List Nat) : State :=
  let s := lines.foldl (fun s l => s.settle l) s
  let o := s.ownOf (n - 1)
  if lines.isEmpty then s else s.setOwn { o with lateXor := o.lateXor ^^^ s.lateXor lines }

/-- BCN_OUT rises (R33). -/
def State.outRise (s : State) (n : W64) : State :=
  if s.flagAt R.BCN_CTL 7 then
    let w := (s.rd R.BCN_OUT_W).toNat * (if n.toNat % 4096 = 0 then 2 else 1)
    { s with bcn := { s.bcn with out := true, outEnd := s.tickAt n + BitVec.ofNat 64 w } }
  else s

/-- The flip of tick n with everything that must stand before any other step (R36, R114). -/
def State.tickFlip (s : State) (n : W64) : State :=
  let first := !s.bcn.ticked
  let s := if first then s.swFirst n else s
  let e := s.evalStop n
  let s := { e with sector := { e.sector with evaluated := some (n - 1) } }
  let s := s.frameEnd n
  let late := if first then [] else ((s.commits n).flatMap s.commitLines).eraseDups
  let s := ((s.flip n).lateFlip n late).outRise n
  let s := if first && s.holder then s.outputsSoon s.bcn.tickStamp else s
  s.swTick n

/-! ### What the flip starts -/

/-- Staged rate and epoch of the timebase, and its source (R26 to R28). -/
def State.timeTick (s : State) : State :=
  let s := match s.tb.rateNext with
    | some r => s.rateApply r.1 r.2
    | none => s
  let s := match s.tb.taiNext with
    | some v => s.taiApply v
    | none => s
  s.refTick

/-- TICK (R54). -/
def State.tickLog (s : State) (n : W64) : State :=
  let due := countIf (fun t => (s.rt t).due) s.tasks
  s.jlog s.bcn.tickStamp 104 0 0x0001
    [(0, 4, (hi32 n).toNat), (4, 2, due), (6, 1, s.fld R.PWR_LEVEL 0 3),
     (7, 1, bitIf s.bcn.aligned 0 + bitIf (s.tb.src == 2) 1 + bitIf s.mixed 2)]

/-- Hive posts each parameter input point (R114). -/
def State.paramPosts (s : State) : State :=
  s.hive.params.foldl (fun s p => s.postSample p.1 p.2 (s.bcn.tickStamp - 1) 97 0) s

/-- The output release of tick n (R36, R170, R147, R438, R444). -/
def State.release (s : State) (n : W64) : State :=
  let s := s.sectorRelease n
  let s := { s with sector := { s.sector with freezeDone := none } }
  let s := foldRange (fun b s => s.bayRelease (bayOf b) (s.tickAt n)) 0 8 s
  (s.gclTick n).netRelease.canRelease

/-- Every line settled, where a join needs the versions of this tick (R71, R204). -/
def State.settleAll (s : State) : State := (s.su.lines.map (·.1)).foldl (fun s l => s.settle l) s

/-- The lines of regions 1 to 15 whose committed version changed at tick n. -/
def State.changedLines (s : State) (n : W64) : List Nat :=
  (s.su.lines.filter (fun p => p.2.tag p.2.committed == lo32 (n - 1) && (s.regionOf p.1).any (fun r => decide (1 ≤ r)))).map (·.1)

/-- What a holder that serves a join sends at tick n (R204). -/
def State.joinTick (s : State) (n : W64) : State :=
  if s.tw.host.active then
    let s := s.settleAll
    s.hostTick n (s.changedLines n)
  else s

/-- The steps of tick n after the flip; the answer says that the fabric has failed (R463). -/
def State.tickSteps (s : State) (n : W64) : Bool × State :=
  let s := (s.timeTick).twinTick n
  let s := (s.supplyTick).perfTick
  let s := ((s.hiveTick n).markDue n).tickLog n
  let s := foldRange (fun b s => s.bayTick (bayOf b) (s.tickAt n)) 0 8 s.paramPosts.antDue
  let s := ((s.release n).sweep.wdTick.livenessTick.lanKick).joinTick n
  s.ringTick

/-- TICK (R36): the next tick fires at its stamp. Its period and epoch are read by vote (R430). -/
def tick (s : State) : State :=
  if !s.bcn.started then s
  else
    let s := s.frameEvents
    let p := s.tripVote 2
    if !p.1 then p.2
    else
      let e := p.2.tripVote 1
      if !e.1 then e.2
      else
        let n := e.2.bcn.nextN
        let r := ((e.2.advanceTo (e.2.tickAt n)).linkDrain.tickFlip n).tickSteps n
        if r.1 then r.2.fullReset 5 else r.2

/-- TICK (R36). -/
def execTick (s : State) : Host.Outcome State Fault Refusal := .next (tick s)

end Sys2Proof.Machine
end

