-- ==== Sys2Proof/Machine/Dispatch.lean ====
section
/-! DEFINITION. The meaning of each command: one arm for each row of the table. -/

namespace Sys2Proof.Machine

/-- The effect of a command on everything but the queue. -/
def exec (i : Instr) (s : State) : Host.Outcome State Fault Refusal :=
  match i with
  | .powerOnReset => Sys2Proof.Machine.execPowerOnReset s
  | .resetNLow => Sys2Proof.Machine.execResetNLow s
  | .crystalStable => Sys2Proof.Machine.execCrystalStable s
  | .refStable refB => Sys2Proof.Machine.execRefStable refB s
  | .refLoss refB => Sys2Proof.Machine.execRefLoss refB s
  | .tbRateWrite v => Sys2Proof.Machine.execTbRateWrite v s
  | .taiWrite lo => Sys2Proof.Machine.execTaiWrite lo s
  | .epochWrite lo => Sys2Proof.Machine.execEpochWrite lo s
  | .beaconRun v => Sys2Proof.Machine.execBeaconRun v s
  | .tick => Sys2Proof.Machine.execTick s
  | .bcnOutFall => Sys2Proof.Machine.execBcnOutFall s
  | .bcnInEdge falling => Sys2Proof.Machine.execBcnInEdge falling s
  | .bcnInLost => Sys2Proof.Machine.execBcnInLost s
  | .inputFreeze => Sys2Proof.Machine.execInputFreeze s
  | .samplePost p => Sys2Proof.Machine.execSamplePost p s
  | .deadlineLate t => Sys2Proof.Machine.execDeadlineLate t s
  | .missed => Sys2Proof.Machine.execMissed s
  | .walk t frame => Sys2Proof.Machine.execWalk t frame s
  | .digestFinal frame => Sys2Proof.Machine.execDigestFinal frame s
  | .dbgMetaRead q => Sys2Proof.Machine.execDbgMetaRead q s
  | .taskDispatch t => Sys2Proof.Machine.execTaskDispatch t s
  | .dispatchSteal t => Sys2Proof.Machine.execDispatchSteal t s
  | .planComplete items => Sys2Proof.Machine.execPlanComplete items s
  | .swOpen v => Sys2Proof.Machine.execSwOpen v s
  | .swEntVal v => Sys2Proof.Machine.execSwEntVal v s
  | .swArmLo v => Sys2Proof.Machine.execSwArmLo v s
  | .swCancel v => Sys2Proof.Machine.execSwCancel v s
  | .antEventEntry b e => Sys2Proof.Machine.execAntEventEntry b e s
  | .captureEdge b u rising => Sys2Proof.Machine.execCaptureEdge b u rising s
  | .compareAction b u => Sys2Proof.Machine.execCompareAction b u s
  | .suRx b e data parity framing => Sys2Proof.Machine.execSuRx b e data parity framing s
  | .suTx b e => Sys2Proof.Machine.execSuTx b e s
  | .suIdle b e => Sys2Proof.Machine.execSuIdle b e s
  | .engineTimer b e => Sys2Proof.Machine.execEngineTimer b e s
  | .spareLoadDone b e => Sys2Proof.Machine.execSpareLoadDone b e s
  | .baySafeAll b v => Sys2Proof.Machine.execBaySafeAll b v s
  | .memDataRead b q => Sys2Proof.Machine.execMemDataRead b q s
  | .decimatedSample ch raw => Sys2Proof.Machine.execDecimatedSample ch raw s
  | .modFault ch faulted => Sys2Proof.Machine.execModFault ch faulted s
  | .noSync g => Sys2Proof.Machine.execNoSync g s
  | .interlockEvaluation => Sys2Proof.Machine.execInterlockEvaluation s
  | .supplyWarn => Sys2Proof.Machine.execSupplyWarn s
  | .supplyClear => Sys2Proof.Machine.execSupplyClear s
  | .heartbeatSend => Sys2Proof.Machine.execHeartbeatSend s
  | .heartbeat h => Sys2Proof.Machine.execHeartbeat h s
  | .twinHbDrive => Sys2Proof.Machine.execTwinHbDrive s
  | .twinHbPulse width => Sys2Proof.Machine.execTwinHbPulse width s
  | .listenWindowEnd => Sys2Proof.Machine.execListenWindowEnd s
  | .mirror frame off lines => Sys2Proof.Machine.execMirror frame off lines s
  | .mirrorEnd frame => Sys2Proof.Machine.execMirrorEnd frame s
  | .mirrorMiss => Sys2Proof.Machine.execMirrorMiss s
  | .digest frame dig od flags => Sys2Proof.Machine.execDigest frame dig od flags s
  | .digestSendDeadline => Sys2Proof.Machine.execDigestSendDeadline s
  | .swArm slot set last frame entries => Sys2Proof.Machine.execSwArm slot set last frame entries s
  | .swCancelMsg slot frame => Sys2Proof.Machine.execSwCancelMsg slot frame s
  | .supply warn => Sys2Proof.Machine.execSupply warn s
  | .handoverRequest => Sys2Proof.Machine.execHandoverRequest s
  | .handover h => Sys2Proof.Machine.execHandover h s
  | .handoverAck h => Sys2Proof.Machine.execHandoverAck h s
  | .rejoin => Sys2Proof.Machine.execRejoin s
  | .isolate => Sys2Proof.Machine.execIsolate s
  | .linkLaneFail lane => Sys2Proof.Machine.execLinkLaneFail lane s
  | .laneMap failed => Sys2Proof.Machine.execLaneMap failed s
  | .ack seq => Sys2Proof.Machine.execAck seq s
  | .ackTimer => Sys2Proof.Machine.execAckTimer s
  | .nak seq => Sys2Proof.Machine.execNak seq s
  | .linkSilence => Sys2Proof.Machine.execLinkSilence s
  | .linkRetrain healthy => Sys2Proof.Machine.execLinkRetrain healthy s
  | .linkUp roundTrip hello => Sys2Proof.Machine.execLinkUp roundTrip hello s
  | .journal recs => Sys2Proof.Machine.execJournal recs s
  | .joinReq dig => Sys2Proof.Machine.execJoinReq dig s
  | .joinAccept b => Sys2Proof.Machine.execJoinAccept b s
  | .joinRefuse cause => Sys2Proof.Machine.execJoinRefuse cause s
  | .copy lines => Sys2Proof.Machine.execCopy lines s
  | .copyEnd c => Sys2Proof.Machine.execCopyEnd c s
  | .replay m lines => Sys2Proof.Machine.execReplay m lines s
  | .replayEnd m => Sys2Proof.Machine.execReplayEnd m s
  | .joinAt j => Sys2Proof.Machine.execJoinAt j s
  | .joinGo j => Sys2Proof.Machine.execJoinGo j s
  | .unitState u => Sys2Proof.Machine.execUnitState u s
  | .joinAbort cause => Sys2Proof.Machine.execJoinAbort cause s
  | .storeDrain k => Sys2Proof.Machine.execStoreDrain k s
  | .interruptEntry k => Sys2Proof.Machine.execInterruptEntry k s
  | .timerSource k => Sys2Proof.Machine.execTimerSource k s
  | .doorbell k n => Sys2Proof.Machine.execDoorbell k n s
  | .rdS k line fallback fetch ecc => Sys2Proof.Machine.execRdS k line fallback fetch ecc s
  | .rdX k line fallback x => Sys2Proof.Machine.execRdX k line fallback x s
  | .rdNa q line => Sys2Proof.Machine.execRdNa q line s
  | .wrNa q line first last data keep => Sys2Proof.Machine.execWrNa q line first last data keep s
  | .wb k line data poison => Sys2Proof.Machine.execWb k line data poison s
  | .cmo k line x => Sys2Proof.Machine.execCmo k line x s
  | .reval k line slot tick => Sys2Proof.Machine.execReval k line slot tick s
  | .snpS k line => Sys2Proof.Machine.execSnpS k line s
  | .snpX k line => Sys2Proof.Machine.execSnpX k line s
  | .snpCln k line => Sys2Proof.Machine.execSnpCln k line s
  | .snpRet line ans => Sys2Proof.Machine.execSnpRet line ans s
  | .data k line data grant => Sys2Proof.Machine.execData k line data grant s
  | .grant k line => Sys2Proof.Machine.execGrant k line s
  | .same k line => Sys2Proof.Machine.execSame k line s
  | .memRd c line e => Sys2Proof.Machine.execMemRd c line e s
  | .memData line data poison => Sys2Proof.Machine.execMemData line data poison s
  | .memWr c line first last data poison => Sys2Proof.Machine.execMemWr c line first last data poison s
  | .nack q line => Sys2Proof.Machine.execNack q line s
  | .nackRetry q line => Sys2Proof.Machine.execNackRetry q line s
  | .doneMessage k line => Sys2Proof.Machine.execDoneMessage k line s
  | .wbAck k line => Sys2Proof.Machine.execWbAck k line s
  | .wbStale k line => Sys2Proof.Machine.execWbStale k line s
  | .rhDrain cls => Sys2Proof.Machine.execRhDrain cls s
  | .l3Lock t v q => Sys2Proof.Machine.execL3Lock t v q s
  | .lockFill t way q => Sys2Proof.Machine.execLockFill t way q s
  | .lfDone t => Sys2Proof.Machine.execLfDone t s
  | .rangeClean t force q => Sys2Proof.Machine.execRangeClean t force q s
  | .rangeInv t force q => Sys2Proof.Machine.execRangeInv t force q s
  | .rangeClinv t force q => Sys2Proof.Machine.execRangeClinv t force q s
  | .rngEnd t => Sys2Proof.Machine.execRngEnd t s
  | .ringPass x => Sys2Proof.Machine.execRingPass x s
  | .ringTimeout q line => Sys2Proof.Machine.execRingTimeout q line s
  | .ringHomeTimeout line => Sys2Proof.Machine.execRingHomeTimeout line s
  | .ringLaneFail ring dir lane => Sys2Proof.Machine.execRingLaneFail ring dir lane s
  | .laneTest ring v => Sys2Proof.Machine.execLaneTest ring v s
  | .traceRestart ring => Sys2Proof.Machine.execTraceRestart ring s
  | .mergeDrain c => Sys2Proof.Machine.execMergeDrain c s
  | .patrolRead c e => Sys2Proof.Machine.execPatrolRead c e s
  | .initialisationPass c => Sys2Proof.Machine.execInitialisationPass c s
  | .migrationCopyLine slot e => Sys2Proof.Machine.execMigrationCopyLine slot e s
  | .ringTailWrite u q v => Sys2Proof.Machine.execRingTailWrite u q v s
  | .netTxDescriptor p => Sys2Proof.Machine.execNetTxDescriptor p s
  | .frameTransmit p => Sys2Proof.Machine.execFrameTransmit p s
  | .netRxFrame p bytes fcsOk => Sys2Proof.Machine.execNetRxFrame p bytes fcsOk s
  | .gclEntry p => Sys2Proof.Machine.execGclEntry p s
  | .netLink p up => Sys2Proof.Machine.execNetLink p up s
  | .txsTagPop p q => Sys2Proof.Machine.execTxsTagPop p q s
  | .canFrameReceive c f => Sys2Proof.Machine.execCanFrameReceive c f s
  | .canTransmit c ok => Sys2Proof.Machine.execCanTransmit c ok s
  | .canRecover c => Sys2Proof.Machine.execCanRecover c s
  | .busOffRecovery c => Sys2Proof.Machine.execBusOffRecovery c s
  | .pcieInbound x => Sys2Proof.Machine.execPcieInbound x s
  | .msiDoor h v => Sys2Proof.Machine.execMsiDoor h v s
  | .pcieLink h up gen width => Sys2Proof.Machine.execPcieLink h up gen width s
  | .pcieAer h uncor => Sys2Proof.Machine.execPcieAer h uncor s
  | .perst h v => Sys2Proof.Machine.execPerst h v s
  | .retrain h v => Sys2Proof.Machine.execRetrain h v s
  | .sensorSample rs => Sys2Proof.Machine.execSensorSample rs s
  | .nvmProgram => Sys2Proof.Machine.execNvmProgram s
  | .wdKick k v => Sys2Proof.Machine.execWdKick k v s
  | .wdExpire k => Sys2Proof.Machine.execWdExpire k s
  | .unitWatchdogExpire u => Sys2Proof.Machine.execUnitWatchdogExpire u s
  | .lanternWatchdogExpire => Sys2Proof.Machine.execLanternWatchdogExpire s
  | .wearJudge part => Sys2Proof.Machine.execWearJudge part s
  | .lnDoor m => Sys2Proof.Machine.execLnDoor m s
  | .sensors m => Sys2Proof.Machine.execSensors m s
  | .logRead m => Sys2Proof.Machine.execLogRead m s
  | .ringRead m => Sys2Proof.Machine.execRingRead m s
  | .bookRead m => Sys2Proof.Machine.execBookRead m s
  | .updateOpen m => Sys2Proof.Machine.execUpdateOpen m s
  | .updateWrite m => Sys2Proof.Machine.execUpdateWrite m s
  | .updateCommit m => Sys2Proof.Machine.execUpdateCommit m s
  | .slotInfo m => Sys2Proof.Machine.execSlotInfo m s
  | .reset m => Sys2Proof.Machine.execReset m s
  | .stream src => Sys2Proof.Machine.execStream src s
  | .streamTimeout => Sys2Proof.Machine.execStreamTimeout s
  | .logFetch ip port mac => Sys2Proof.Machine.execLogFetch ip port mac s
  | .lanternDatagram h bytes => Sys2Proof.Machine.execLanternDatagram h bytes s
  | .arpRequest ip src => Sys2Proof.Machine.execArpRequest ip src s
  | .icmpEcho ip src bytes => Sys2Proof.Machine.execIcmpEcho ip src bytes s
  | .mbDoor m q => Sys2Proof.Machine.execMbDoor m q s
  | .random m => Sys2Proof.Machine.execRandom m s
  | .keeperDigest m => Sys2Proof.Machine.execKeeperDigest m s
  | .sign m => Sys2Proof.Machine.execSign m s
  | .verify m => Sys2Proof.Machine.execVerify m s
  | .fuseRead m => Sys2Proof.Machine.execFuseRead m s
  | .keeperSeal m => Sys2Proof.Machine.execKeeperSeal m s
  | .keeperUnseal m => Sys2Proof.Machine.execKeeperUnseal m s
  | .attest m => Sys2Proof.Machine.execAttest m s
  | .keeperFault => Sys2Proof.Machine.execKeeperFault s
  | .bootVerify => Sys2Proof.Machine.execBootVerify s
  | .channelTraining cs => Sys2Proof.Machine.execChannelTraining cs s
  | .bootInitialise => Sys2Proof.Machine.execBootInitialise s
  | .bootLoad => Sys2Proof.Machine.execBootLoad s
  | .clkSrcWrite v q => Sys2Proof.Machine.execClkSrcWrite v q s
  | .clkSwitch ant => Sys2Proof.Machine.execClkSwitch ant s
  | .pllRefSelect v q => Sys2Proof.Machine.execPllRefSelect v q s
  | .perfRequest v => Sys2Proof.Machine.execPerfRequest v s
  | .voltageSettle => Sys2Proof.Machine.execVoltageSettle s
  | .voteWrite q b off v => Sys2Proof.Machine.execVoteWrite q b off v s
  | .domainDropDone d => Sys2Proof.Machine.execDomainDropDone d s
  | .domainReady d => Sys2Proof.Machine.execDomainReady d s
  | .registerWrite q b off v => Sys2Proof.Machine.execRegisterWrite q b off v s
  | .guardPairHold q b off v => Sys2Proof.Machine.execGuardPairHold q b off v s
  | .guardWindowExpire b => Sys2Proof.Machine.execGuardWindowExpire b s
  | .latchedRead q b off => Sys2Proof.Machine.execLatchedRead q b off s
  | .statusRead q b off => Sys2Proof.Machine.execStatusRead q b off s
  | .nop b e => Sys2Proof.Machine.execNop b e s
  | .antAdd b e d ra rb => Sys2Proof.Machine.execAntAdd b e d ra rb s
  | .antSub b e d ra rb => Sys2Proof.Machine.execAntSub b e d ra rb s
  | .antAnd b e d ra rb => Sys2Proof.Machine.execAntAnd b e d ra rb s
  | .antOr b e d ra rb => Sys2Proof.Machine.execAntOr b e d ra rb s
  | .antXor b e d ra rb => Sys2Proof.Machine.execAntXor b e d ra rb s
  | .shl b e d ra rb => Sys2Proof.Machine.execShl b e d ra rb s
  | .shr b e d ra rb => Sys2Proof.Machine.execShr b e d ra rb s
  | .sar b e d ra rb => Sys2Proof.Machine.execSar b e d ra rb s
  | .antSlt b e d ra rb => Sys2Proof.Machine.execAntSlt b e d ra rb s
  | .antSltu b e d ra rb => Sys2Proof.Machine.execAntSltu b e d ra rb s
  | .antMul b e d ra rb => Sys2Proof.Machine.execAntMul b e d ra rb s
  | .antMulh b e d ra rb => Sys2Proof.Machine.execAntMulh b e d ra rb s
  | .crcb b e d ra rb => Sys2Proof.Machine.execCrcb b e d ra rb s
  | .antAddi b e d ra imm => Sys2Proof.Machine.execAntAddi b e d ra imm s
  | .antAndi b e d ra imm => Sys2Proof.Machine.execAntAndi b e d ra imm s
  | .antOri b e d ra imm => Sys2Proof.Machine.execAntOri b e d ra imm s
  | .antXori b e d ra imm => Sys2Proof.Machine.execAntXori b e d ra imm s
  | .shli b e d ra sh => Sys2Proof.Machine.execShli b e d ra sh s
  | .shri b e d ra sh => Sys2Proof.Machine.execShri b e d ra sh s
  | .sari b e d ra sh => Sys2Proof.Machine.execSari b e d ra sh s
  | .antLui b e d imm => Sys2Proof.Machine.execAntLui b e d imm s
  | .antSlti b e d ra imm => Sys2Proof.Machine.execAntSlti b e d ra imm s
  | .ldw b e d ra imm => Sys2Proof.Machine.execLdw b e d ra imm s
  | .ldh b e d ra imm => Sys2Proof.Machine.execLdh b e d ra imm s
  | .ldhu b e d ra imm => Sys2Proof.Machine.execLdhu b e d ra imm s
  | .ldb b e d ra imm => Sys2Proof.Machine.execLdb b e d ra imm s
  | .ldbu b e d ra imm => Sys2Proof.Machine.execLdbu b e d ra imm s
  | .stw b e d ra imm => Sys2Proof.Machine.execStw b e d ra imm s
  | .sth b e d ra imm => Sys2Proof.Machine.execSth b e d ra imm s
  | .stb b e d ra imm => Sys2Proof.Machine.execStb b e d ra imm s
  | .prd b e d u => Sys2Proof.Machine.execPrd b e d u s
  | .pwr b e ra u imm => Sys2Proof.Machine.execPwr b e ra u imm s
  | .capr b e d ra u => Sys2Proof.Machine.execCapr b e d ra u s
  | .cmpw b e d u act => Sys2Proof.Machine.execCmpw b e d u act s
  | .cmpwCancel b e u => Sys2Proof.Machine.execCmpwCancel b e u s
  | .suw b e ra n => Sys2Proof.Machine.execSuw b e ra n s
  | .sutx b e ra => Sys2Proof.Machine.execSutx b e ra s
  | .surx b e d ra => Sys2Proof.Machine.execSurx b e d ra s
  | .post b e d ra ch => Sys2Proof.Machine.execPost b e d ra ch s
  | .antBeq b e n ra rb off => Sys2Proof.Machine.execAntBeq b e n ra rb off s
  | .antBne b e n ra rb off => Sys2Proof.Machine.execAntBne b e n ra rb off s
  | .antBlt b e n ra rb off => Sys2Proof.Machine.execAntBlt b e n ra rb off s
  | .antBge b e n ra rb off => Sys2Proof.Machine.execAntBge b e n ra rb off s
  | .antBltu b e n ra rb off => Sys2Proof.Machine.execAntBltu b e n ra rb off s
  | .antBgeu b e n ra rb off => Sys2Proof.Machine.execAntBgeu b e n ra rb off s
  | .jr b e n ra => Sys2Proof.Machine.execJr b e n ra s
  | .antJalr b e n ra => Sys2Proof.Machine.execAntJalr b e n ra s
  | .antJ b e n off => Sys2Proof.Machine.execAntJ b e n off s
  | .antJal b e n off => Sys2Proof.Machine.execAntJal b e n off s
  | .tsr b e d => Sys2Proof.Machine.execTsr b e d s
  | .frm b e d => Sys2Proof.Machine.execFrm b e d s
  | .evret b e => Sys2Proof.Machine.execEvret b e s
  | .evwait b e => Sys2Proof.Machine.execEvwait b e s
  | .evcfg b e ev prio en => Sys2Proof.Machine.execEvcfg b e ev prio en s
  | .evpend b e d => Sys2Proof.Machine.execEvpend b e d s
  | .tmr b e ra => Sys2Proof.Machine.execTmr b e ra s
  | .door b e n => Sys2Proof.Machine.execDoor b e n s
  | .antSysId b e d => Sys2Proof.Machine.execAntSysId b e d s
  | .antSysStatus b e d => Sys2Proof.Machine.execAntSysStatus b e d s
  | .add k d a b => Sys2Proof.Machine.execAdd k d a b s
  | .sub k d a b => Sys2Proof.Machine.execSub k d a b s
  | .and k d a b => Sys2Proof.Machine.execAnd k d a b s
  | .or k d a b => Sys2Proof.Machine.execOr k d a b s
  | .xor k d a b => Sys2Proof.Machine.execXor k d a b s
  | .sll k d a b => Sys2Proof.Machine.execSll k d a b s
  | .srl k d a b => Sys2Proof.Machine.execSrl k d a b s
  | .sra k d a b => Sys2Proof.Machine.execSra k d a b s
  | .slt k d a b => Sys2Proof.Machine.execSlt k d a b s
  | .sltu k d a b => Sys2Proof.Machine.execSltu k d a b s
  | .min k d a b => Sys2Proof.Machine.execMin k d a b s
  | .max k d a b => Sys2Proof.Machine.execMax k d a b s
  | .minu k d a b => Sys2Proof.Machine.execMinu k d a b s
  | .maxu k d a b => Sys2Proof.Machine.execMaxu k d a b s
  | .mul k d a b => Sys2Proof.Machine.execMul k d a b s
  | .mulh k d a b => Sys2Proof.Machine.execMulh k d a b s
  | .mulhu k d a b => Sys2Proof.Machine.execMulhu k d a b s
  | .div k d a b => Sys2Proof.Machine.execDiv k d a b s
  | .divu k d a b => Sys2Proof.Machine.execDivu k d a b s
  | .rem k d a b => Sys2Proof.Machine.execRem k d a b s
  | .remu k d a b => Sys2Proof.Machine.execRemu k d a b s
  | .clz k d a => Sys2Proof.Machine.execClz k d a s
  | .ctz k d a => Sys2Proof.Machine.execCtz k d a s
  | .popc k d a => Sys2Proof.Machine.execPopc k d a s
  | .addw k d a b => Sys2Proof.Machine.execAddw k d a b s
  | .subw k d a b => Sys2Proof.Machine.execSubw k d a b s
  | .sllw k d a b => Sys2Proof.Machine.execSllw k d a b s
  | .srlw k d a b => Sys2Proof.Machine.execSrlw k d a b s
  | .sraw k d a b => Sys2Proof.Machine.execSraw k d a b s
  | .mulw k d a b => Sys2Proof.Machine.execMulw k d a b s
  | .divw k d a b => Sys2Proof.Machine.execDivw k d a b s
  | .divuw k d a b => Sys2Proof.Machine.execDivuw k d a b s
  | .remw k d a b => Sys2Proof.Machine.execRemw k d a b s
  | .remuw k d a b => Sys2Proof.Machine.execRemuw k d a b s
  | .addi k d a imm => Sys2Proof.Machine.execAddi k d a imm s
  | .andi k d a imm => Sys2Proof.Machine.execAndi k d a imm s
  | .ori k d a imm => Sys2Proof.Machine.execOri k d a imm s
  | .xori k d a imm => Sys2Proof.Machine.execXori k d a imm s
  | .slti k d a imm => Sys2Proof.Machine.execSlti k d a imm s
  | .sltiu k d a imm => Sys2Proof.Machine.execSltiu k d a imm s
  | .shifti k d a kind w32 sh => Sys2Proof.Machine.execShifti k d a kind w32 sh s
  | .addiw k d a imm => Sys2Proof.Machine.execAddiw k d a imm s
  | .lui k d imm => Sys2Proof.Machine.execLui k d imm s
  | .auipc k d imm => Sys2Proof.Machine.execAuipc k d imm s
  | .ld k d a imm => Sys2Proof.Machine.execLd k d a imm s
  | .lw k d a imm => Sys2Proof.Machine.execLw k d a imm s
  | .lwu k d a imm => Sys2Proof.Machine.execLwu k d a imm s
  | .lh k d a imm => Sys2Proof.Machine.execLh k d a imm s
  | .lhu k d a imm => Sys2Proof.Machine.execLhu k d a imm s
  | .lb k d a imm => Sys2Proof.Machine.execLb k d a imm s
  | .lbu k d a imm => Sys2Proof.Machine.execLbu k d a imm s
  | .st k d a imm => Sys2Proof.Machine.execSt k d a imm s
  | .sw k d a imm => Sys2Proof.Machine.execSw k d a imm s
  | .sh k d a imm => Sys2Proof.Machine.execSh k d a imm s
  | .sb k d a imm => Sys2Proof.Machine.execSb k d a imm s
  | .fld k d a imm => Sys2Proof.Machine.execFld k d a imm s
  | .flw k d a imm => Sys2Proof.Machine.execFlw k d a imm s
  | .fsd k d a imm => Sys2Proof.Machine.execFsd k d a imm s
  | .fsw k d a imm => Sys2Proof.Machine.execFsw k d a imm s
  | .vld k d a imm => Sys2Proof.Machine.execVld k d a imm s
  | .vst k d a imm => Sys2Proof.Machine.execVst k d a imm s
  | .amoSwap k d a b dbl ord => Sys2Proof.Machine.execAmoSwap k d a b dbl ord s
  | .amoAdd k d a b dbl ord => Sys2Proof.Machine.execAmoAdd k d a b dbl ord s
  | .amoAnd k d a b dbl ord => Sys2Proof.Machine.execAmoAnd k d a b dbl ord s
  | .amoOr k d a b dbl ord => Sys2Proof.Machine.execAmoOr k d a b dbl ord s
  | .amoXor k d a b dbl ord => Sys2Proof.Machine.execAmoXor k d a b dbl ord s
  | .amoMin k d a b dbl ord => Sys2Proof.Machine.execAmoMin k d a b dbl ord s
  | .amoMax k d a b dbl ord => Sys2Proof.Machine.execAmoMax k d a b dbl ord s
  | .amoMinu k d a b dbl ord => Sys2Proof.Machine.execAmoMinu k d a b dbl ord s
  | .amoMaxu k d a b dbl ord => Sys2Proof.Machine.execAmoMaxu k d a b dbl ord s
  | .cas k d a b dbl ord => Sys2Proof.Machine.execCas k d a b dbl ord s
  | .ldaq k d a size => Sys2Proof.Machine.execLdaq k d a size s
  | .strl k d a size => Sys2Proof.Machine.execStrl k d a size s
  | .beq k a b off => Sys2Proof.Machine.execBeq k a b off s
  | .bne k a b off => Sys2Proof.Machine.execBne k a b off s
  | .blt k a b off => Sys2Proof.Machine.execBlt k a b off s
  | .bge k a b off => Sys2Proof.Machine.execBge k a b off s
  | .bltu k a b off => Sys2Proof.Machine.execBltu k a b off s
  | .bgeu k a b off => Sys2Proof.Machine.execBgeu k a b off s
  | .j k off => Sys2Proof.Machine.execJ k off s
  | .jal k off => Sys2Proof.Machine.execJal k off s
  | .jalr k d a imm => Sys2Proof.Machine.execJalr k d a imm s
  | .fadd k sgl rnd d a b => Sys2Proof.Machine.execFadd k sgl rnd d a b s
  | .fsub k sgl rnd d a b => Sys2Proof.Machine.execFsub k sgl rnd d a b s
  | .fmul k sgl rnd d a b => Sys2Proof.Machine.execFmul k sgl rnd d a b s
  | .fdiv k sgl rnd d a b => Sys2Proof.Machine.execFdiv k sgl rnd d a b s
  | .fsqrt k sgl rnd d a => Sys2Proof.Machine.execFsqrt k sgl rnd d a s
  | .fmin k sgl d a b => Sys2Proof.Machine.execFmin k sgl d a b s
  | .fmax k sgl d a b => Sys2Proof.Machine.execFmax k sgl d a b s
  | .fminnum k sgl d a b => Sys2Proof.Machine.execFminnum k sgl d a b s
  | .fmaxnum k sgl d a b => Sys2Proof.Machine.execFmaxnum k sgl d a b s
  | .fabs k sgl d a => Sys2Proof.Machine.execFabs k sgl d a s
  | .fneg k sgl d a => Sys2Proof.Machine.execFneg k sgl d a s
  | .fcps k sgl d a b => Sys2Proof.Machine.execFcps k sgl d a b s
  | .fcmp k sgl d a b => Sys2Proof.Machine.execFcmp k sgl d a b s
  | .fcmpo k sgl d a b => Sys2Proof.Machine.execFcmpo k sgl d a b s
  | .fkind k sgl d a => Sys2Proof.Machine.execFkind k sgl d a s
  | .ftos64 k sgl rnd d a => Sys2Proof.Machine.execFtos64 k sgl rnd d a s
  | .ftou64 k sgl rnd d a => Sys2Proof.Machine.execFtou64 k sgl rnd d a s
  | .ftos32 k sgl rnd d a => Sys2Proof.Machine.execFtos32 k sgl rnd d a s
  | .ftou32 k sgl rnd d a => Sys2Proof.Machine.execFtou32 k sgl rnd d a s
  | .s64tof k sgl rnd d a => Sys2Proof.Machine.execS64tof k sgl rnd d a s
  | .u64tof k sgl rnd d a => Sys2Proof.Machine.execU64tof k sgl rnd d a s
  | .s32tof k sgl rnd d a => Sys2Proof.Machine.execS32tof k sgl rnd d a s
  | .u32tof k sgl rnd d a => Sys2Proof.Machine.execU32tof k sgl rnd d a s
  | .fresize k sgl rnd d a => Sys2Proof.Machine.execFresize k sgl rnd d a s
  | .fbits k sgl d a => Sys2Proof.Machine.execFbits k sgl d a s
  | .xbits k sgl d a => Sys2Proof.Machine.execXbits k sgl d a s
  | .fmaA k sgl rnd d a b c => Sys2Proof.Machine.execFmaA k sgl rnd d a b c s
  | .fmaS k sgl rnd d a b c => Sys2Proof.Machine.execFmaS k sgl rnd d a b c s
  | .fmaNa k sgl rnd d a b c => Sys2Proof.Machine.execFmaNa k sgl rnd d a b c s
  | .fmaNs k sgl rnd d a b c => Sys2Proof.Machine.execFmaNs k sgl rnd d a b c s
  | .vadd k ty d a b => Sys2Proof.Machine.execVadd k ty d a b s
  | .vsub k ty d a b => Sys2Proof.Machine.execVsub k ty d a b s
  | .vmul k ty d a b => Sys2Proof.Machine.execVmul k ty d a b s
  | .vdiv k ty d a b => Sys2Proof.Machine.execVdiv k ty d a b s
  | .vsqrt k ty d a => Sys2Proof.Machine.execVsqrt k ty d a s
  | .vmin k ty d a b => Sys2Proof.Machine.execVmin k ty d a b s
  | .vmax k ty d a b => Sys2Proof.Machine.execVmax k ty d a b s
  | .vand k ty d a b => Sys2Proof.Machine.execVand k ty d a b s
  | .vor k ty d a b => Sys2Proof.Machine.execVor k ty d a b s
  | .vxor k ty d a b => Sys2Proof.Machine.execVxor k ty d a b s
  | .vcmpeq k ty d a b => Sys2Proof.Machine.execVcmpeq k ty d a b s
  | .vcmplt k ty d a b => Sys2Proof.Machine.execVcmplt k ty d a b s
  | .vcmple k ty d a b => Sys2Proof.Machine.execVcmple k ty d a b s
  | .vsplatX k ty d a => Sys2Proof.Machine.execVsplatX k ty d a s
  | .vsplatF k ty d a => Sys2Proof.Machine.execVsplatF k ty d a s
  | .vextX k ty d a lane => Sys2Proof.Machine.execVextX k ty d a lane s
  | .vinsX k ty d a lane => Sys2Proof.Machine.execVinsX k ty d a lane s
  | .vextF k ty d a lane => Sys2Proof.Machine.execVextF k ty d a lane s
  | .vinsF k ty d a lane => Sys2Proof.Machine.execVinsF k ty d a lane s
  | .vsumh k ty d a => Sys2Proof.Machine.execVsumh k ty d a s
  | .vcvt k ty d a => Sys2Proof.Machine.execVcvt k ty d a s
  | .vshl k ty d a b => Sys2Proof.Machine.execVshl k ty d a b s
  | .vsra k ty d a b => Sys2Proof.Machine.execVsra k ty d a b s
  | .vr4FmaA k ty d a b c => Sys2Proof.Machine.execVr4FmaA k ty d a b c s
  | .vr4FmaS k ty d a b c => Sys2Proof.Machine.execVr4FmaS k ty d a b c s
  | .vr4FmaNa k ty d a b c => Sys2Proof.Machine.execVr4FmaNa k ty d a b c s
  | .vr4FmaNs k ty d a b c => Sys2Proof.Machine.execVr4FmaNs k ty d a b c s
  | .vsel k ty d a b c => Sys2Proof.Machine.execVsel k ty d a b c s
  | .sysr k d a n => Sys2Proof.Machine.execSysr k d a n s
  | .sysw k d a n => Sys2Proof.Machine.execSysw k d a n s
  | .fence k m => Sys2Proof.Machine.execFence k m s
  | .ifence k => Sys2Proof.Machine.execIfence k s
  | .iofence k => Sys2Proof.Machine.execIofence k s
  | .ecall k a code => Sys2Proof.Machine.execEcall k a code s
  | .wcall k a => Sys2Proof.Machine.execWcall k a s
  | .eret k a => Sys2Proof.Machine.execEret k a s
  | .brk k => Sys2Proof.Machine.execBrk k s
  | .tlbiAll k a bcast => Sys2Proof.Machine.execTlbiAll k a bcast s
  | .tlbiAsid k a bcast => Sys2Proof.Machine.execTlbiAsid k a bcast s
  | .tlbiVa k a bcast => Sys2Proof.Machine.execTlbiVa k a bcast s
  | .tlbiVaAll k a bcast => Sys2Proof.Machine.execTlbiVaAll k a bcast s
  | .tlbiWalk k a bcast => Sys2Proof.Machine.execTlbiWalk k a bcast s
  | .cleanVa k a => Sys2Proof.Machine.execCleanVa k a s
  | .invVa k a => Sys2Proof.Machine.execInvVa k a s
  | .clinvVa k a => Sys2Proof.Machine.execClinvVa k a s
  | .clinvSw k a => Sys2Proof.Machine.execClinvSw k a s
  | .zeroVa k a => Sys2Proof.Machine.execZeroVa k a s
  | .tint1 k d a b => Sys2Proof.Machine.execTint1 k d a b s
  | .tint2 k d a b c => Sys2Proof.Machine.execTint2 k d a b c s
  | .tint3 k d a b c => Sys2Proof.Machine.execTint3 k d a b c s
  | .blkcpy k d a b => Sys2Proof.Machine.execBlkcpy k d a b s
  | .blkset k d a b => Sys2Proof.Machine.execBlkset k d a b s
  | .vdot k d a b c => Sys2Proof.Machine.execVdot k d a b c s
  | .sld k d a b c => Sys2Proof.Machine.execSld k d a b c s
  | .stamp k d => Sys2Proof.Machine.execStamp k d s
  | .frameN k d => Sys2Proof.Machine.execFrameN k d s
  | .frameT k d => Sys2Proof.Machine.execFrameT k d s
  | .done k status => Sys2Proof.Machine.execDone k status s
  | .outputEnable => Sys2Proof.Machine.execOutputEnable s
  | .twinHbRelease => Sys2Proof.Machine.execTwinHbRelease s
  | .linkMessageError unknown => Sys2Proof.Machine.execLinkMessageError unknown s
  | .heartbeatWaitExpire => Sys2Proof.Machine.execHeartbeatWaitExpire s
  | .copyWriteAck slot line => Sys2Proof.Machine.execCopyWriteAck slot line s
  | .powerOnResetAssert => Sys2Proof.Machine.execPowerOnResetAssert s
  | .resetNRelease => Sys2Proof.Machine.execResetNRelease s
  | .netFrameEnd p => Sys2Proof.Machine.execNetFrameEnd p s
  | .shiftUnitWordEnd b e => Sys2Proof.Machine.execShiftUnitWordEnd b e s
  | .illegalInstruction k w => Sys2Proof.Machine.execIllegalInstruction k w s
  | .antIllegalOpcode b e => Sys2Proof.Machine.execAntIllegalOpcode b e s

end Sys2Proof.Machine
end

