-- ==== Sys2Proof/Machine/AntWords.lean ====
section
/-! DEFINITION. The words of the Ant instructions: an encoder and a decoder from the tables of R127 and R128. A word the decoder refuses raises the ILLEGAL fault (R128, R135). -/

namespace Sys2Proof.Machine

/-! ### Formats (R127) -/

/-- Format A. -/
def antA (op : BitVec 6) (d a b : AReg) : W32 := op ++ d ++ a ++ b ++ (0 : BitVec 14)
/-- Format B. -/
def antB (op : BitVec 6) (d a : AReg) (imm : BitVec 18) : W32 := op ++ d ++ a ++ imm
/-- Format C. -/
def antC (op : BitVec 6) (n : Bool) (a b : AReg) (off : BitVec 17) : W32 := op ++ BitVec.ofBool n ++ a ++ b ++ off
/-- Format D. -/
def antD (op : BitVec 6) (n : Bool) (off : BitVec 25) : W32 := op ++ BitVec.ofBool n ++ off
/-- Format E. -/
def antE (op : BitVec 6) (d a : AReg) (u : Byte) (imm : BitVec 10) : W32 := op ++ d ++ a ++ u ++ imm

/-- The word of an Ant instruction (R128), with 0 in every field that its row leaves unused; any other command has none. -/
def antWord : Instr → Option W32
  | .nop _ _ => some 0
  | .antAdd _ _ d ra rb => some (antA 0x1 d ra rb)
  | .antSub _ _ d ra rb => some (antA 0x2 d ra rb)
  | .antAnd _ _ d ra rb => some (antA 0x3 d ra rb)
  | .antOr _ _ d ra rb => some (antA 0x4 d ra rb)
  | .antXor _ _ d ra rb => some (antA 0x5 d ra rb)
  | .shl _ _ d ra rb => some (antA 0x6 d ra rb)
  | .shr _ _ d ra rb => some (antA 0x7 d ra rb)
  | .sar _ _ d ra rb => some (antA 0x8 d ra rb)
  | .antSlt _ _ d ra rb => some (antA 0x9 d ra rb)
  | .antSltu _ _ d ra rb => some (antA 0xa d ra rb)
  | .antMul _ _ d ra rb => some (antA 0xb d ra rb)
  | .antMulh _ _ d ra rb => some (antA 0xc d ra rb)
  | .crcb _ _ d ra rb => some (antA 0xd d ra rb)
  | .antAddi _ _ d ra imm => some (antB 0x10 d ra imm)
  | .antAndi _ _ d ra imm => some (antB 0x11 d ra imm)
  | .antOri _ _ d ra imm => some (antB 0x12 d ra imm)
  | .antXori _ _ d ra imm => some (antB 0x13 d ra imm)
  | .antSlti _ _ d ra imm => some (antB 0x18 d ra imm)
  | .ldw _ _ d ra imm => some (antB 0x20 d ra imm)
  | .ldh _ _ d ra imm => some (antB 0x21 d ra imm)
  | .ldhu _ _ d ra imm => some (antB 0x22 d ra imm)
  | .ldb _ _ d ra imm => some (antB 0x23 d ra imm)
  | .ldbu _ _ d ra imm => some (antB 0x24 d ra imm)
  | .stw _ _ d ra imm => some (antB 0x25 d ra imm)
  | .sth _ _ d ra imm => some (antB 0x26 d ra imm)
  | .stb _ _ d ra imm => some (antB 0x27 d ra imm)
  | .shli _ _ d ra sh => some (antB 0x14 d ra ((0 : BitVec 13) ++ sh))
  | .shri _ _ d ra sh => some (antB 0x15 d ra ((0 : BitVec 13) ++ sh))
  | .sari _ _ d ra sh => some (antB 0x16 d ra ((0 : BitVec 13) ++ sh))
  | .antLui _ _ d imm => some (antB 0x17 d 0 imm)
  | .prd _ _ d u => some (antE 0x28 d 0 u 0)
  | .pwr _ _ ra u imm => some (antE 0x29 0 ra u imm)
  | .capr _ _ d ra u => some (antE 0x2a d ra u 0)
  | .cmpw _ _ d u act => some (antE 0x2b d 0 u ((0 : BitVec 8) ++ act))
  | .cmpwCancel _ _ u => some (antE 0x2b 0 0 u 4)
  | .suw _ _ ra n => some (antE 0x2c 0 ra 0 ((0 : BitVec 7) ++ n))
  | .sutx _ _ ra => some (antE 0x2d 0 ra 0 0)
  | .surx _ _ d ra => some (antE 0x2e d ra 0 0)
  | .post _ _ d ra ch => some (antE 0x2f d ra 0 ch)
  | .antBeq _ _ n ra rb off => some (antC 0x30 n ra rb off)
  | .antBne _ _ n ra rb off => some (antC 0x31 n ra rb off)
  | .antBlt _ _ n ra rb off => some (antC 0x32 n ra rb off)
  | .antBge _ _ n ra rb off => some (antC 0x33 n ra rb off)
  | .antBltu _ _ n ra rb off => some (antC 0x34 n ra rb off)
  | .antBgeu _ _ n ra rb off => some (antC 0x35 n ra rb off)
  | .jr _ _ n ra => some (antC 0x36 n ra 0 0)
  | .antJalr _ _ n ra => some (antC 0x37 n ra 0 0)
  | .antJ _ _ n off => some (antD 0x38 n off)
  | .antJal _ _ n off => some (antD 0x39 n off)
  | .tsr _ _ d => some (antE 0x3c d 0 0 0)
  | .frm _ _ d => some (antE 0x3d d 0 0 0)
  | .evret _ _ => some (antE 0x3e 0 0 0 0)
  | .evwait _ _ => some (antE 0x3e 0 0 1 0)
  | .evcfg _ _ ev prio en => some (antE 0x3e 0 0 2 ((0 : BitVec 2) ++ BitVec.ofBool en ++ prio ++ ev))
  | .evpend _ _ d => some (antE 0x3e d 0 3 0)
  | .tmr _ _ ra => some (antE 0x3e 0 ra 4 0)
  | .door _ _ n => some (antE 0x3e 0 0 5 ((0 : BitVec 5) ++ n))
  | .antSysId _ _ d => some (antE 0x3f d 0 0 0)
  | .antSysStatus _ _ d => some (antE 0x3f d 0 1 0)
  | _ => none

/-- The Ant instructions, by their rows (R128). -/
inductive AntOp where
  | nop | antAdd | antSub | antAnd | antOr | antXor | shl | shr | sar | antSlt | antSltu | antMul
  | antMulh | crcb | antAddi | antAndi | antOri | antXori | antSlti | ldw | ldh | ldhu | ldb | ldbu
  | stw | sth | stb | shli | shri | sari | antLui | prd | pwr | capr | cmpw | cmpwCancel
  | suw | sutx | surx | post | antBeq | antBne | antBlt | antBge | antBltu | antBgeu | jr | antJalr
  | antJ | antJal | tsr | frm | evret | evwait | evcfg | evpend | tmr | door | antSysId | antSysStatus
deriving DecidableEq, Repr

/-- The fields of a word in formats A, B and E (R127). -/
structure AntFields where
  op : BitVec 6
  d : AReg
  a : AReg
  b : AReg
  u : Byte
  low : BitVec 14
  imm : BitVec 10
deriving DecidableEq, Repr

/-- The fields of a word. -/
def antFields (w : W32) : AntFields where
  op := w.extractLsb' 26 6
  d := w.extractLsb' 22 4
  a := w.extractLsb' 18 4
  b := w.extractLsb' 14 4
  u := w.extractLsb' 10 8
  low := w.extractLsb' 0 14
  imm := w.extractLsb' 0 10

/-- An instruction under a condition on its fields. -/
def antOk (ok : Bool) (i : AntOp) : Option AntOp := if ok then some i else none

/-- The instruction a word is (R128): none where its opcode or its sub-op is not listed, a field that must be 0 is not, or a pair is odd. -/
def antDecode (w : W32) : Option AntOp :=
  let x := antFields w
  let even := !x.d.getLsbD 0
  let shift := w.extractLsb' 5 13 == 0
  match x.op.toNat with
  | 0x00 => antOk (w == 0) .nop
  | 0x1 => antOk (x.low == 0) .antAdd
  | 0x2 => antOk (x.low == 0) .antSub
  | 0x3 => antOk (x.low == 0) .antAnd
  | 0x4 => antOk (x.low == 0) .antOr
  | 0x5 => antOk (x.low == 0) .antXor
  | 0x6 => antOk (x.low == 0) .shl
  | 0x7 => antOk (x.low == 0) .shr
  | 0x8 => antOk (x.low == 0) .sar
  | 0x9 => antOk (x.low == 0) .antSlt
  | 0xa => antOk (x.low == 0) .antSltu
  | 0xb => antOk (x.low == 0) .antMul
  | 0xc => antOk (x.low == 0) .antMulh
  | 0xd => antOk (x.low == 0) .crcb
  | 0x10 => some .antAddi
  | 0x11 => some .antAndi
  | 0x12 => some .antOri
  | 0x13 => some .antXori
  | 0x18 => some .antSlti
  | 0x20 => some .ldw
  | 0x21 => some .ldh
  | 0x22 => some .ldhu
  | 0x23 => some .ldb
  | 0x24 => some .ldbu
  | 0x25 => some .stw
  | 0x26 => some .sth
  | 0x27 => some .stb
  | 0x14 => antOk shift .shli
  | 0x15 => antOk shift .shri
  | 0x16 => antOk shift .sari
  | 0x17 => antOk (x.a == 0) .antLui
  | 0x28 => some .prd
  | 0x29 => some .pwr
  | 0x2a => antOk even .capr
  | 0x2b => antOk even (if x.imm.getLsbD 2 then .cmpwCancel else .cmpw)
  | 0x2c => some .suw
  | 0x2d => some .sutx
  | 0x2e => some .surx
  | 0x2f => antOk even .post
  | 0x30 => some .antBeq
  | 0x31 => some .antBne
  | 0x32 => some .antBlt
  | 0x33 => some .antBge
  | 0x34 => some .antBltu
  | 0x35 => some .antBgeu
  | 0x36 => antOk (w.extractLsb' 0 21 == 0) .jr
  | 0x37 => antOk (w.extractLsb' 0 21 == 0) .antJalr
  | 0x38 => some .antJ
  | 0x39 => some .antJal
  | 0x3c => antOk even .tsr
  | 0x3d => some .frm
  | 0x3e =>
    match x.u.toNat with
    | 0 => some .evret
    | 1 => some .evwait
    | 2 => some .evcfg
    | 3 => some .evpend
    | 4 => some .tmr
    | 5 => some .door
    | _ => none
  | 0x3f =>
    match x.u.toNat with
    | 0 => some .antSysId
    | 1 => some .antSysStatus
    | _ => none
  | _ => none

/-- The instruction a command names. -/
def antOp : Instr → Option AntOp
  | .nop _ _ => some .nop
  | .antAdd _ _ _ _ _ => some .antAdd
  | .antSub _ _ _ _ _ => some .antSub
  | .antAnd _ _ _ _ _ => some .antAnd
  | .antOr _ _ _ _ _ => some .antOr
  | .antXor _ _ _ _ _ => some .antXor
  | .shl _ _ _ _ _ => some .shl
  | .shr _ _ _ _ _ => some .shr
  | .sar _ _ _ _ _ => some .sar
  | .antSlt _ _ _ _ _ => some .antSlt
  | .antSltu _ _ _ _ _ => some .antSltu
  | .antMul _ _ _ _ _ => some .antMul
  | .antMulh _ _ _ _ _ => some .antMulh
  | .crcb _ _ _ _ _ => some .crcb
  | .antAddi _ _ _ _ _ => some .antAddi
  | .antAndi _ _ _ _ _ => some .antAndi
  | .antOri _ _ _ _ _ => some .antOri
  | .antXori _ _ _ _ _ => some .antXori
  | .antSlti _ _ _ _ _ => some .antSlti
  | .ldw _ _ _ _ _ => some .ldw
  | .ldh _ _ _ _ _ => some .ldh
  | .ldhu _ _ _ _ _ => some .ldhu
  | .ldb _ _ _ _ _ => some .ldb
  | .ldbu _ _ _ _ _ => some .ldbu
  | .stw _ _ _ _ _ => some .stw
  | .sth _ _ _ _ _ => some .sth
  | .stb _ _ _ _ _ => some .stb
  | .shli _ _ _ _ _ => some .shli
  | .shri _ _ _ _ _ => some .shri
  | .sari _ _ _ _ _ => some .sari
  | .antLui _ _ _ _ => some .antLui
  | .prd _ _ _ _ => some .prd
  | .pwr _ _ _ _ _ => some .pwr
  | .capr _ _ _ _ _ => some .capr
  | .cmpw _ _ _ _ _ => some .cmpw
  | .cmpwCancel _ _ _ => some .cmpwCancel
  | .suw _ _ _ _ => some .suw
  | .sutx _ _ _ => some .sutx
  | .surx _ _ _ _ => some .surx
  | .post _ _ _ _ _ => some .post
  | .antBeq _ _ _ _ _ _ => some .antBeq
  | .antBne _ _ _ _ _ _ => some .antBne
  | .antBlt _ _ _ _ _ _ => some .antBlt
  | .antBge _ _ _ _ _ _ => some .antBge
  | .antBltu _ _ _ _ _ _ => some .antBltu
  | .antBgeu _ _ _ _ _ _ => some .antBgeu
  | .jr _ _ _ _ => some .jr
  | .antJalr _ _ _ _ => some .antJalr
  | .antJ _ _ _ _ => some .antJ
  | .antJal _ _ _ _ => some .antJal
  | .tsr _ _ _ => some .tsr
  | .frm _ _ _ => some .frm
  | .evret _ _ => some .evret
  | .evwait _ _ => some .evwait
  | .evcfg _ _ _ _ _ => some .evcfg
  | .evpend _ _ _ => some .evpend
  | .tmr _ _ _ => some .tmr
  | .door _ _ _ => some .door
  | .antSysId _ _ _ => some .antSysId
  | .antSysStatus _ _ _ => some .antSysStatus
  | _ => none

/-- A command names an odd register where its row takes a pair, so that its word is illegal (R128). -/
def antBad : Instr → Bool
  | .capr _ _ d _ _ => d.getLsbD 0
  | .cmpw _ _ d _ _ => d.getLsbD 0
  | .post _ _ d _ _ => d.getLsbD 0
  | .tsr _ _ d => d.getLsbD 0
  | _ => false

end Sys2Proof.Machine
end

