-- ==== Sys2Proof/WellFormed.lean ====
section
/-! DEFINITION. Which commands are well formed: operands that no word, message or request of the spec carries are refused. -/

namespace Sys2Proof

/-- What a command's operands must satisfy beyond their types: masks run upward (R372, R425), and messages of the leading link hold what R186 allows. -/
def Instr.shapeOk : Instr → Bool
  | .wrNa _ _ first last _ _ => decide (first ≤ last)
  | .memWr _ _ first last _ _ => decide (first ≤ last)
  | .mirror _ _ lines => decide (1 ≤ lines.length ∧ lines.length ≤ 64)
  | .journal recs => decide (1 ≤ recs.length ∧ recs.length ≤ 16)
  | .copy lines => decide (1 ≤ lines.length ∧ lines.length ≤ 64)
  | .replay _ lines => decide (1 ≤ lines.length ∧ lines.length ≤ 64)
  | .swArm _ _ _ _ entries => decide (entries.length ≤ 1024)
  | .illegalInstruction _ w => (Machine.sisDecode w).isNone
  | _ => true

/-- The command is well formed: its word, where it has one, is legal (R128, R240), and its operands have the shape their message or request has. -/
def Instr.wf (i : Instr) : Bool := !Machine.sisBad i && !Machine.antBad i && i.shapeOk

end Sys2Proof
end

