-- ==== Sys2Proof/Safety.lean ====
section
/-! DEFINITION. The terms the claims use: a command that completes, an instruction that a core or an engine reaches and executes, and the states they leave. -/

namespace Sys2Proof.Machine

/-! ### Completion -/

/-- The command answers a next state. -/
def Completes (i : Instr) (s : State) : Prop := ∃ t, exec i s = .next t

/-- The state with a command at the front of its queue. -/
def State.before (s : State) (c : Instr) : State := { s with pending := c :: s.pending }

/-! ### Instructions of a Scarab core -/

/-- The state in which the fetch begins: the core's cycle counters are brought up to the device's cycles (R521). -/
def State.synced (s : State) (k : CoreId) : State := s.setCore k ((s.core k).evSync s.coreCycles)

/-- Core k runs a task, or is about to enter one, and the fetch at its PC succeeds; s1 is the state its instruction's body meets (R215, R343). -/
def Fetched (k : CoreId) (s s1 : State) : Prop :=
  ((s.core k).run = .running ∨ (s.core k).run = .entering) ∧ (s1.core k).run = .running ∧ (s.begun k).fetch k = .ok () s1

/-- A core past its instruction: the PC at a target, no block operation waiting, the instruction counted (R215, R276, R525). -/
def CoreSt.goesTo (c : CoreSt) (pc : W64) : CoreSt := ({ c with pc := pc, blkWait := false } : CoreSt).ev 0x01 1

/-- The state in which core k has executed an instruction whose one effect on the core is f, and goes on with the next (R215, R235). -/
def State.retired (s : State) (k : CoreId) (f : CoreSt → CoreSt) : State :=
  s.setCore k ((f (s.core k)).goesTo (canon ((f (s.core k)).pc + 4)))

/-- The instruction, reached by core k, completes; its one effect on the core is f. -/
def Runs (k : CoreId) (i : Instr) (f : CoreSt → CoreSt) : Prop :=
  ∀ s s1, Fetched k s s1 → exec i s = .next (s1.retired k f)

/-- The same, on cores that satisfy P. -/
def RunsWhen (k : CoreId) (i : Instr) (P : CoreSt → Prop) (f : CoreSt → CoreSt) : Prop :=
  ∀ s s1, Fetched k s s1 → P (s1.core k) → exec i s = .next (s1.retired k f)

/-- The instruction, reached by core k, raises an exception. -/
def RaisesWhen (k : CoreId) (i : Instr) (P : CoreSt → Prop) (e : State → Exc) : Prop :=
  ∀ s s1, Fetched k s s1 → P (s1.core k) → exec i s = .next (s1.raise k (e s1))

/-- The illegal-instruction exception of a word (R240, R290). -/
def illegalExc (k : CoreId) (w : W32) (s : State) : Exc := s.excAt k 0x01 12 0 (w.zeroExtend 64)

/-- The privilege exception of a word (R290). -/
def privilegeExc (k : CoreId) (w : W32) (s : State) : Exc := s.excAt k 0x02 12 0 (w.zeroExtend 64)

/-- Whatever rounding or type field is not one, the word the instruction stands for is illegal (R240). -/
def IllegalWhen (k : CoreId) (i : Instr) (P : CoreSt → Prop) : Prop :=
  ∀ w, sisWord i = some w → RaisesWhen k i P (illegalExc k w)

/-- The instruction, reached by core k, loads n bytes at an address. It completes with f of their value, counted by event 0x0B (R244, R525); the access's exception is taken, and an access that waits leaves what it has done (R215). -/
def Loads (k : CoreId) (i : Instr) (addr : CoreSt → W64) (n : Nat) (strict : Bool) (f : Nat → CoreSt → CoreSt) : Prop :=
  ∀ s s1, Fetched k s s1 →
    (∀ s2 v, s1.load k (addr (s1.core k)) n strict = .ok v s2 → (s2.core k).run = .running →
      exec i s = .next (s2.retired k (fun c => (f v c).ev 0x0b 1))) ∧
    (∀ s2 e, s1.load k (addr (s1.core k)) n strict = .exc e s2 → exec i s = .next (s2.raise k e)) ∧
    (∀ s2, s1.load k (addr (s1.core k)) n strict = .wait s2 → exec i s = .next s2)

/-- The instruction, reached by core k, stores n bytes of a value at an address. It completes, counted by event 0x0C (R244, R525); the access's exception is taken, and an access that waits leaves what it has done. -/
def Stores (k : CoreId) (i : Instr) (addr : CoreSt → W64) (n : Nat) (strict : Bool) (value : CoreSt → Nat) : Prop :=
  ∀ s s1, Fetched k s s1 →
    (∀ s2, s1.store k (addr (s1.core k)) n strict (value (s1.core k)) = .ok () s2 → (s2.core k).run = .running →
      exec i s = .next (s2.retired k (fun c => c.ev 0x0c 1))) ∧
    (∀ s2 e, s1.store k (addr (s1.core k)) n strict (value (s1.core k)) = .exc e s2 → exec i s = .next (s2.raise k e)) ∧
    (∀ s2, s1.store k (addr (s1.core k)) n strict (value (s1.core k)) = .wait s2 → exec i s = .next s2)

/-- The instruction, reached by core k, replaces the 4 or 8 bytes at Xa by a function of what they were. It completes with the old value, sign-extended, in Xd; the access's exception is taken (R246). -/
def Swaps (k : CoreId) (i : Instr) (d a : Reg) (dbl : Bool) (new : CoreSt → (n : Nat) → BitVec n → Option (BitVec n)) : Prop :=
  ∀ s s1, Fetched k s s1 →
    let n := if dbl then 8 else 4
    let r := s1.amo k ((s1.core k).xr a) n (fun v => (new (s1.core k) (8 * n) (BitVec.ofNat (8 * n) v)).map (·.toNat))
    (∀ s2 old, r = .ok old s2 → (s2.core k).run = .running →
      exec i s = .next (s2.retired k (fun c => ((c.setX d (loadExt n true old)).ev 0x0b 1).ev 0x0c 1))) ∧
    (∀ s2 e, r = .exc e s2 → exec i s = .next (s2.raise k e)) ∧
    (∀ s2, r = .wait s2 → exec i s = .next s2)

/-- The instruction, reached by core k, goes on from a part of its work that answered ok: f is its one effect on the core after it (R215). -/
def RunsAfter (k : CoreId) (i : Instr) (part : State → MRes Unit) (f : CoreSt → CoreSt) : Prop :=
  ∀ s s1 s2, Fetched k s s1 → part s1 = .ok () s2 → (s2.core k).run = .running → exec i s = .next (s2.retired k f)

/-- The vector lanes of a two-operand operation: fi on integer lanes, ff on floating-point lanes (R254). -/
def CoreSt.lanes2 (c : CoreSt) (ty : BitVec 3) (d a b : Reg) (ff : Bool → Nat → Nat → Nat → FRes) (fi : W32 → W32 → W32) : CoreSt :=
  c.mapLanes ty.toNat d 1 (fun i =>
    if ty = 2 then ⟨(fi (BitVec.ofNat 32 (lane 2 (c.vr a) i)) (BitVec.ofNat 32 (lane 2 (c.vr b) i))).toNat, 0⟩
    else ff (ty == 1) c.rnd (lane ty.toNat (c.vr a) i) (lane ty.toNat (c.vr b) i))

/-- The instruction, reached by core k, transfers control where P holds, having changed the core by f (R248). -/
def Jumps (k : CoreId) (i : Instr) (P : CoreSt → Prop) (target : CoreSt → W64) (f : CoreSt → CoreSt) : Prop :=
  ∀ s s1, Fetched k s s1 → P (s1.core k) → exec i s = .next (s1.setCore k ((f (s1.core k)).goesTo (target (s1.core k))))

/-- The predictor after a conditional branch (R216). -/
def Pred.branched (p : Pred) (pc target : W64) (taken : Bool) : Pred :=
  let q := { p with
    dir := dirTrain p.dir (bitsAt pc 2 14 ^^^ p.hist.toNat) taken
    hist := p.hist <<< 1 ||| BitVec.ofNat 14 (b2n taken) }
  if taken then q.learn pc target .cond else q

/-- A core after the body of a conditional branch: the predictor trained, event 0x05 counted (R216, R525). -/
def CoreSt.branched (c : CoreSt) (off : BitVec 16) (taken : Bool) : CoreSt :=
  ({ c with pred := c.pred.branched c.pc (c.pc + boff off) taken } : CoreSt).ev 0x05 1

/-- A core after the body of a jump: the link register written, the predictor trained, event 0x05 counted (R216, R248, R525). -/
def CoreSt.linked (c : CoreSt) (link : Reg) (target : W64) (kind : BrKind) (ras : List W64) : CoreSt :=
  (({ c with pred := { c.pred.learn c.pc target kind with ras := ras } } : CoreSt).setX link (c.pc + 4)).ev 0x05 1

/-! ### Instructions of an Ant engine -/

/-- An engine executes what it reaches: it runs, its PC names a word of its SRAM, and the word is not an annulled slot (R124, R129, R135). -/
def AntReady (b : BayId) (e : EngId) (s : State) : Prop :=
  (s.eng b e.val).st = .running ∧ s.bayClocked b.val = true ∧ (∀ sl, (s.eng b e.val).slot = some sl → sl.annul = false) ∧
  (s.eng b e.val).pc.toNat % 4 = 0 ∧ (s.eng b e.val).pc.toNat < 0x4000

/-- The same, for an instruction that is not in a delay slot. -/
def AntFree (b : BayId) (e : EngId) (s : State) : Prop := AntReady b e s ∧ (s.eng b e.val).slot = none

/-- An engine past its instruction: at the next word, or after a slot at its branch's target (R129). -/
def Engine.past (x : Engine) : Engine :=
  match x.slot with
  | some sl => { x with pc := sl.target, slot := none, stalled := false }
  | none => { x with pc := x.pc + 4, stalled := false }

/-- The instruction completes on an engine that is ready; its one effect on the engine is f. s: the state r with what time alone has brought about in the bay. -/
def AntRuns (b : BayId) (e : EngId) (i : Instr) (f : State → Engine → Engine) : Prop :=
  ∀ r s, r.bayDue b = s → AntReady b e s → exec i r = .next (s.setEng b e.val (f s (s.eng b e.val)).past)

/-- The instruction completes on an engine that is ready where P holds, as g says before the PC moves. -/
def AntDoes (b : BayId) (e : EngId) (i : Instr) (P : State → Prop) (g : State → State) : Prop :=
  ∀ r s, r.bayDue b = s → AntReady b e s → P s → exec i r = .next ((g s).antNext b e)

/-- The instruction faults on an engine that is ready where P holds (R135). -/
def AntFaults (b : BayId) (e : EngId) (i : Instr) (P : State → Prop) (cause : Nat) : Prop :=
  ∀ r s, r.bayDue b = s → AntReady b e s → P s → exec i r = .next (s.antFault b e cause)

/-- The integer instructions of R241 and R243 on core k. -/
def integerInstr (k : CoreId) : Instr → Bool
  | .add j _ _ _ | .sub j _ _ _ | .and j _ _ _ | .or j _ _ _ | .xor j _ _ _ | .sll j _ _ _ | .srl j _ _ _ | .sra j _ _ _
  | .slt j _ _ _ | .sltu j _ _ _ | .min j _ _ _ | .max j _ _ _ | .minu j _ _ _ | .maxu j _ _ _ | .mul j _ _ _
  | .mulh j _ _ _ | .mulhu j _ _ _ | .div j _ _ _ | .divu j _ _ _ | .rem j _ _ _ | .remu j _ _ _
  | .addw j _ _ _ | .subw j _ _ _ | .sllw j _ _ _ | .srlw j _ _ _ | .sraw j _ _ _ | .mulw j _ _ _
  | .divw j _ _ _ | .divuw j _ _ _ | .remw j _ _ _ | .remuw j _ _ _ => j == k
  | .clz j _ _ | .ctz j _ _ | .popc j _ _ => j == k
  | .addi j _ _ _ | .andi j _ _ _ | .ori j _ _ _ | .xori j _ _ _ | .slti j _ _ _ | .sltiu j _ _ _ | .addiw j _ _ _ => j == k
  | .shifti j _ _ _ _ _ => j == k
  | .lui j _ _ | .auipc j _ _ => j == k
  | _ => false

/-- A branch: the slot at PC + 4 comes next, and the target after it (R129). -/
def Engine.branching (x : Engine) (target : W32) (annul : Bool) : Engine :=
  { x with pc := x.pc + 4, slot := some ⟨x.pc, target, annul⟩ }

end Sys2Proof.Machine
end

