-- ==== Sys2Proof/Certificates/Slice0/Obligations.lean ====
section
/-! DEFINITION. The statements for the provers. -/

open Sys2Proof Sys2Proof.Machine

/-! ### The block as a machine of commands -/

/-- A step with a command at the front of the queue is that command, with the queue's rest. How a command comes to stand there is the model's choice (log entry 1). -/
def Obligations.StepRunsFront : Prop := ∀ (c : Instr) (s : State), step (s.before c) = exec c s

/-- On an empty queue one clock of 2/3 ns passes where the timebase runs, and what it allows happens (the model's choice, log entries 3, 31, 44, 67 and 90): nothing at all while it stands still. The clock moves the timebase never back, by at most 1 ns at the rates R27 allows, and nothing but the two clocks. -/
def Obligations.IdleStep : Prop := ∀ (s : State), s.pending = [] →
  (s.tb.running = false → step s = .next s) ∧
  (s.tb.running = true → step s = .next s.clockPass.linkDrain.discarded.ebSendAll.btChecked.supplyIdle.nvmIdle.lanKick.antDue) ∧
  (let t := s.clockPass
   t = { s with tb := { s.tb with now := t.tb.now, frac := t.tb.frac }, coreSub := t.coreSub } ∧ s.coreSub ≤ t.coreSub ∧
   t.tb.frac < 3 * 2 ^ 40 ∧
   (s.tb.frac < 3 * 2 ^ 40 → s.rateNow ≤ 2 ^ 39 → t.tb.now - s.tb.now = 0 ∨ t.tb.now - s.tb.now = 1))

/-- R13, R25, R234, R295, R471, R473: the machine right after reset: the timebase at 0 ns and stopped on the crystal, no tick, boot step 1 and not locked, every core off and in the Open world, no task, no line cached, no command waiting; fixed-value registers read the value of their Reset column. The registers of the cores, and what no rule gives a value, read 0 by the model's choice (log entries 2, 5 and 11). -/
def Obligations.ResetValues : Prop :=
  let s := State.reset
  s.tb.now = 0 ∧ s.tb.running = false ∧ s.bcn.started = false ∧ s.bcn.ticked = false ∧ s.boot.step = 1 ∧ s.boot.locked = false ∧ s.boot.cause = 0 ∧
  s.tw.role = .listen ∧ s.tw.outputs = false ∧ s.mem.dram = [] ∧ Memory.wf s.mem.dram = true ∧ s.cache.l3 = [] ∧ s.cache.dir = [] ∧ s.pending = [] ∧
  s.sector.supplyLow = false ∧ s.keeper.faulted = false ∧ s.jrn.wptr = 0 ∧ s.jrn.seq = 0 ∧ s.guard = [] ∧
  (∀ k, (s.core k).sealed = false ∧ (s.core k).run = .off ∧ (s.core k).sq = [] ∧ (s.core k).tmr = 0 ∧ (s.core k).bankO.act = 0 ∧ (s.core k).bankS.ml = 0) ∧
  s.rd R.TB_CTL = 6 ∧ s.rd R.BCN_CTL = 0 ∧ s.rd R.SI_CTL = 0 ∧ s.rd R.TB_STATUS = 0

/-- The memory of the device keeps its canonical form at every step, whatever command is at the front; the fuses never change, and no command touches the commands behind it. At reset the memory has the form (the form is the model's, chapter Memory and Berths gives the bytes). The form of the list, and that unwritten DRAM reads 0, is the model's (log entry 5). -/
def Obligations.EveryStepKeepsMemory : Prop := ∀ (s t : State), Memory.wf s.mem.dram = true → step s = .next t →
  Memory.wf t.mem.dram = true ∧ t.pending = s.pending.tail ∧ t.nv.fuses = s.nv.fuses

/-- R127 to R134, R238 to R265, R353: the word of every Scarab and every Ant instruction that the spec allows decodes to that instruction, whatever its operands, and each Scarab format gives its fields back. Which unnamed fields must be 0 is log entry 54; ILLEGAL_INSTRUCTION names no instruction (log entry 7). -/
def Obligations.WordsRoundTrip : Prop := ∀ (i : Instr) (w : W32) (op fn6 : BitVec 6) (d a b c : Reg) (fn : BitVec 11) (imm : BitVec 16),
  (sisWord i = some w → sisBad i = false → (sisOp i).isSome = true ∧ sisDecode w = sisOp i) ∧
  (antWord i = some w → antBad i = false → (antOp i).isSome = true ∧ antDecode w = antOp i) ∧
  (let x := sisFields (wordR op d a b fn)
   x.op = op ∧ x.d = d ∧ x.a = a ∧ x.b = b ∧ x.fn = fn) ∧
  (let x := sisFields (wordR5 op d a b c fn6)
   x.op = op ∧ x.d = d ∧ x.a = a ∧ x.b = b ∧ x.c = c ∧ x.fn6 = fn6) ∧
  (let x := sisFields (wordI op d a imm)
   x.op = op ∧ x.d = d ∧ x.a = a ∧ x.imm = imm) ∧
  (let x := sisFields (wordB op d a imm)
   x.op = op ∧ x.d = d ∧ x.a = a ∧ x.imm = imm)

/-- R127, R128, R239 to R263: words of the spec's tables, field by field: LD X5, 16(X2); ADDI X0, X0, 0; BNE X5, X0, -3; DONE 0; FMA.A F6, F3, F4, F5 of 64 bits in rounding mode 0; TINT2; ORI of the Ant; and a word that no row gives. The rows of the command table carry no bits (log entry 1): the words are those of the instructions the rows name. -/
def Obligations.WordsRight : Prop := ∀ (k : CoreId) (b : BayId) (e : EngId),
  sisWord (.ld k 5 2 16) = some 0x40A20010 ∧ sisWord (.addi k 0 0 0) = some 0x08000000 ∧ sisWord (.bne k 5 0 0xfffd) = some 0xA4A0FFFD ∧
  sisWord (.done k 0) = some 0xFC000300 ∧ sisWord (.fmaA k false 0 6 3 4 5) = some 0xD4C32140 ∧ sisWord (.tint2 k 10 5 3 4) = some 0xF1451902 ∧
  antWord (.antOri b e 5 0 0xffff) = some 0x4940FFFF ∧ antWord (.nop b e) = some 0 ∧
  sisDecode 0xffffffff = none ∧ sisDecode 0x07ffffff = none

/-! ### Reset, timebase, beacon and inputs -/

/-- R463, R471, R534: what resets the device. Power-on is cause 0, the ball cause 1, and the ball held low changes nothing more; its release lets the always-on domain go unless power-on reset holds it. The watchdogs' causes are 6, 7 and 8. Lantern's own expires 100 ms after the last kick, and a unit's once no liveness word has come from it for LN_WD_INT beacons (log entry 44: which words and kicks come is a free value; log entry 8: a watchdog that cannot expire does nothing). -/
def Obligations.ResetCommands : Prop := ∀ (s : State) (u k : Fin 4),
  exec .powerOnReset s = .next (State.fullReset (State.logTorn { s with boot := { s.boot with por := false } }) 0) ∧
  exec .powerOnResetAssert s = .next (State.fullReset (State.logTorn { s with boot := { s.boot with por := true } }) 0) ∧
  (s.boot.rstLow = false → exec .resetNLow s = .next ({ s with boot := { s.boot with rstLow := true } }.fullReset 1)) ∧
  (s.boot.rstLow = true → exec .resetNLow s = .next s) ∧
  (s.boot.rstLow = true → exec .resetNRelease s = .next { s with boot := { s.boot with rstLow := false, aon := !s.boot.por } }) ∧
  (s.lan.kickAt = none → exec .lanternWatchdogExpire s = .next s) ∧
  (∀ t, s.lan.kickAt = some t → exec .lanternWatchdogExpire s = .next ((s.advanceTo (t + 100000000)).fullReset 8)) ∧
  (s.wdIntRun u = false → exec (.unitWatchdogExpire u) s = .next s) ∧
  (s.wdIntRun u = true → exec (.unitWatchdogExpire u) s = .next ((s.jlog s.now 103 0 0x0f02 [(0, 1, 8 + u.val), (1, 1, 1), (2, 1, 2)]).fullReset 7)) ∧
  (s.lan.wdDue.contains k.val = true → s.fld (R.WD_CFG k.val) 16 2 = 2 → exec (.wdExpire k) s =
    .next (State.fullReset (State.jlog { s with lan := { s.lan with wdDue := s.lan.wdDue.filter (· != k.val) } } s.now 103 0 0x0f02
      [(0, 1, k.val), (1, 1, 1), (2, 1, 2)]) 6))

/-- R463, R473: after a full reset the timebase is at 0 ns and stopped, every core, bay, cache, task and DRAM-side unit is as at reset, and the non-volatile storage, the board's straps and the waiting commands stay. The counter of free values stays too (log entry 4), and DRAM, whose contents are undefined, reads 0 (log entry 5). -/
def Obligations.FullResetLeaves : Prop := ∀ (s : State) (c : Nat),
  let t := s.fullReset c
  t.tb.now = 0 ∧ t.tb.running = false ∧ t.boot.cause = c ∧ t.boot.step = 1 ∧ t.boot.locked = false ∧
  t.bcn = .reset ∧ t.su = .reset ∧ t.cores = [] ∧ t.cache = .reset ∧ t.regs = [] ∧ t.guard = [] ∧ t.latch = [] ∧
  t.sector = .reset ∧ t.tw.role = .listen ∧ t.tw.outputs = false ∧ t.tw.sideB = Config.twinSide ∧
  t.nv.fuses = s.nv.fuses ∧ t.nv.slotA = s.nv.slotA ∧ t.nv.slotB = s.nv.slotB ∧ t.nv.period = s.nv.period + 1 ∧ t.pending = s.pending

/-- R25, R26, R491, R501, R534: the timebase starts at the crystal, and boot holds there; a reference that turns stable at step 3 enters the boot defaults, and from step 4 on it comes back. A lost one is marked lost and the timebase moves only if it ran from it. A device in reset, and an oscillator or reference that boot does not look at yet, changes nothing (log entry 8). -/
def Obligations.ReferenceCommands : Prop := ∀ (s : State) (refB : Bool),
  (s.boot.step = 1 → s.boot.aon = true → exec .crystalStable s = .next
    (((State.retireCopies { s with tb := { s.tb with running := true, src := 2, locked := true }, lan := { s.lan with holdBoot := true, holdTemp := s.boot.cause == 9 } }).wr R.LN_RESET_CAUSE (BitVec.ofNat 32 s.boot.cause)).setFld R.CLK_LOCK 1 1 1 |>.bootStep 2)) ∧
  (s.boot.step ≠ 1 ∨ s.boot.aon = false → exec .crystalStable s = .next s) ∧
  (s.boot.step < 2 ∨ s.boot.aon = false → exec (.refStable refB) s = .next s) ∧
  (s.boot.aon = true → s.boot.step = 2 → s.lan.holdBoot = false → exec (.refStable refB) s =
    .next (State.bootClocks { s with tb := if refB then { s.tb with refB := true } else { s.tb with refA := true } })) ∧
  (s.boot.aon = true → s.boot.step = 3 → exec (.refStable refB) s =
    .next (State.bootDefaults { s with tb := if refB then { s.tb with refB := true } else { s.tb with refA := true } })) ∧
  (s.boot.aon = true → 4 ≤ s.boot.step → exec (.refStable refB) s = .next (s.refBack refB)) ∧
  (let lost := ((State.flag { s with tb := if refB then { s.tb with refB := false } else { s.tb with refA := false } }
      R.TB_STATUS (b2n refB)).pllLoss (b2n refB))
   (s.boot.aon = false → exec (.refLoss refB) s = .next s) ∧ (s.boot.aon = true →
   (lost.tb.src.val ≠ b2n refB → exec (.refLoss refB) s = .next lost) ∧
   (∀ r, lost.tb.src.val = b2n refB → lost.refChoice = some r → exec (.refLoss refB) s = .next (lost.refMove r 1)) ∧
   (lost.tb.src.val = b2n refB → lost.refChoice = none → exec (.refLoss refB) s = .next lost.holdover)))

/-- R27: a write of TB_RATE breaks a pending guard pair of its block (R517); a device in reset takes none (R471). TB_RATE holds a signed fraction of 2^-40, clamped to ±219,902,325 with RATE_CLAMP set; TB_RATE reads the clamped value at once; while the beacon runs the rate waits for the next tick, before the first tick it takes effect at once and is journaled RATE_SET. A device in reset answers with the state before (log entry 8). -/
def Obligations.RateWrite : Prop := ∀ (s0 : State) (v : W32),
  (s0.boot.aon = false → exec (.tbRateWrite v) s0 = .next s0) ∧
  (s0.boot.aon = true →
  let s := s0.guardBreak 1
  let lim : Int := 219902325
  let c : W32 := if v.toInt < -lim then BitVec.ofInt 32 (-lim) else if lim < v.toInt then BitVec.ofInt 32 lim else v
  let u := if c = v then s.wr R.TB_RATE c else (s.wr R.TB_RATE c).flag R.TB_STATUS 3
  let t := if s.bcn.ticked then { u with tb := { u.tb with rateNext := some (c, c != v) } }
    else State.jlog { u with tb := { u.tb with rate := c, rateNext := none } } s.now 104 0 0x0033 [(0, 4, c.toNat), (4, 1, b2n (c != v))]
  exec (.tbRateWrite v) s0 = .next t ∧ t.rd R.TB_RATE = c ∧
    (s.bcn.ticked = true → t.tb.rate = s.tb.rate ∧ t.tb.rateNext = some (c, c != v) ∧ t.tb.now = s.tb.now ∧
      (c ≠ v → t.flagAt R.TB_STATUS 3 = true) ∧ (c = v → t.rd R.TB_STATUS = s.rd R.TB_STATUS)) ∧
    (s.bcn.ticked = false → t.tb.rate = c ∧ t.tb.now = s.tb.now))

/-- R28, R30, R31, R190, R479: the epoch words of the timebase and the beacon, and what setting RUN does: in boot failure nothing starts. Each write breaks a pending guard pair of its block (R517), and a device in reset takes none (R471). A device in reset answers with the state before (log entry 8). -/
def Obligations.BeaconSettings : Prop := ∀ (s0 : State) (v : W32),
  (s0.boot.aon = false → exec (.taiWrite v) s0 = .next s0 ∧ exec (.epochWrite v) s0 = .next s0 ∧ exec (.beaconRun v) s0 = .next s0) ∧
  (s0.boot.aon = true →
  (let s := s0.guardBreak 1
   (s.bcn.ticked = true → exec (.taiWrite v) s0 = .next
     { s.wr R.TB_TAI_LO v with tb := { s.tb with taiNext := some (join32 (s.rd R.TB_TAI_HI) v) } }) ∧
   (s.bcn.ticked = false → exec (.taiWrite v) s0 = .next ((s.wr R.TB_TAI_LO v).taiApply (join32 (s.rd R.TB_TAI_HI) v)))) ∧
  (let s := s0.guardBreak 2
   (s.runSet = true → exec (.epochWrite v) s0 = .next (s.flag R.BCN_STATUS 10)) ∧
   (s.runSet = false → exec (.epochWrite v) s0 = .next ((s.wr R.BCN_EPOCH_LO v).tripPut 1 (join32 (s.rd R.BCN_EPOCH_HI) v).toNat)) ∧
   (let t := s.wr R.BCN_CTL (ctlValue (s.rd R.BCN_CTL) v)
    (s.runSet = true ∨ v.getLsbD 0 = false ∨ t.boot.step = 15 → exec (.beaconRun v) s0 = .next t) ∧
    (s.runSet = false → v.getLsbD 0 = true → t.boot.step ≠ 15 → t.flagAt R.TW_CFG 0 = false → exec (.beaconRun v) s0 = .next t.startBeacon) ∧
    (s.runSet = false → v.getLsbD 0 = true → t.boot.step ≠ 15 → t.flagAt R.TW_CFG 0 = true → exec (.beaconRun v) s0 =
      .next { t with tw := { t.tw with listenFrom := some t.now, listenPulse := false } }))))

/-- R10, R32, R36: a started beacon whose period and epoch are read by vote ticks at T(N) = epoch_offset + N * P, whatever the load; the steps of the tick follow in their order. One that has not started ticks never (log entry 8). -/
def Obligations.TickFires : Prop := ∀ (s s1 s2 : State),
  (s.bcn.started = false → exec .tick s = .next s) ∧
  (s.bcn.started = true → s.frameEvents.tripVote 2 = (true, s1) → s1.tripVote 1 = (true, s2) →
    let n := s2.bcn.nextN
    let r := ((s2.advanceTo (s2.epoch + n * BitVec.ofNat 64 s2.period)).linkDrain.tickFlip n).tickSteps n
    (r.1 = false → exec .tick s = .next r.2) ∧ (r.1 = true → exec .tick s = .next (r.2.fullReset 5)))

/-- R33 to R35, R31: the pulses of BCN_OUT and BCN_IN. An edge within P/2 of an expected tick steers, one farther away only shows in BCN_IN_LAST; the third expected edge missed in a row is BCN_IN_LOST. A pulse that has ended and an edge that is not missed change nothing (log entry 8). -/
def Obligations.BeaconPins : Prop := ∀ (s : State) (falling : Bool),
  (s.bcn.out = true → exec .bcnOutFall s = .next { s.advanceTo s.bcn.outEnd with bcn := { s.bcn with out := false } }) ∧
  (s.bcn.out = false → exec .bcnOutFall s = .next s) ∧
  (falling ≠ s.flagAt R.BCN_CTL 2 → exec (.bcnInEdge falling) s = .next s) ∧
  (let t := { s with bcn := { s.bcn with inLast := s.now } }
   falling = s.flagAt R.BCN_CTL 2 → s.flagAt R.BCN_CTL 1 = true → s.nonHolder = false → s.period ≠ 0 →
   (∀ m e, s.bcn.started = true → t.edgeErr s.now = some (m, e) → exec (.bcnInEdge falling) s = .next (t.edgeTaken m e)) ∧
   (s.bcn.started = true → t.edgeErr s.now = none → exec (.bcnInEdge falling) s = .next t) ∧
   (s.bcn.started = false → s.runSet = true → s.boot.step ≠ 15 → s.flagAt R.TW_CFG 0 = false → exec (.bcnInEdge falling) s =
     .next ((State.tripPut { t with bcn := { t.bcn with aligned := true } } 1 (t.now + BitVec.ofNat 64 (t.inDiv * t.period)).toNat).firstTick 0))) ∧
  (s.edgeDue = true → s.bcn.edgeGot = false → s.bcn.inLost = false → s.bcn.edgeMiss = 2 →
    let u := s.advanceTo s.edgeEnd
    exec .bcnInLost s = .next ((State.flag { u with bcn := { u.bcn with edgeJudged := true, edgeMiss := 3, inLost := true, aligned := false } }
      R.BCN_STATUS 4).jlog s.edgeEnd 104 0 0x0031 [(0, 8, s.bcn.inLast.toNat)])) ∧
  (s.edgeDue = false ∨ s.bcn.edgeGot = true ∨ s.bcn.inLost = true ∨ s.bcn.edgeMiss ≠ 2 → exec .bcnInLost s = .next s)

/-- R38, R39, R545: the freeze closes the running frame's inputs at T(N) + grace, once; a sample goes from its bay's post queue to input staging, and from a bay that is not up, or in a device in reset, no sample goes (R507, R471; log entry 8). -/
def Obligations.InputCommands : Prop := ∀ (s : State) (p : Post),
  (s.bcn.frozen = true → exec .inputFreeze s = .next s) ∧
  (s.bcn.ticked = true → s.bcn.frozen = false → s.nonHolder = false → s.tw.localLines = [] → s.flagAt R.TW_CFG 0 = false →
    let t := s.advanceTo (s.bcn.tickStamp + BitVec.ofNat 64 (s.rd R.BCN_GRACE).toNat)
    let u := t.unstage s.bcn.frame
    u.nonHolder = false →
    let v := u.freezeLines s.bcn.frame (t.freezeImage s.bcn.frame)
    v.flagAt R.TW_CFG 0 = false → exec .inputFreeze s = .next v.freezeEnd) ∧
  (s.boot.aon = false → exec (.samplePost p) s = .next s) ∧
  (s.boot.aon = true → p.station < 80 ∨ 88 ≤ p.station → exec (.samplePost p) s = .next (s.stage p)) ∧
  (s.boot.aon = true → 80 ≤ p.station → p.station < 88 →
    let b := bayOf (p.station - 80)
    ((s.bay b).posts.head? = some p → s.dom (72 + b.val) = .up → exec (.samplePost p) s =
      .next (((s.bump (R.CNT_POST b.val)).setBay b { s.bay b with posts := (s.bay b).posts.drop 1 }).stage p)) ∧
    ((s.bay b).posts.head? ≠ some p ∨ s.dom (72 + b.val) ≠ .up → exec (.samplePost p) s = .next s))

/-- R9, R10: the period, the epoch and the frame grid: T(N + 1) is one period after T(N), and moving the timebase to a stamp less than half the circle away never moves it back and reaches the stamp. Stamps are compared modulo 2^64 by the shorter way round (log entry 71). -/
def Obligations.FrameGrid : Prop := ∀ (s : State) (n : W64) (t : Stamp),
  s.tickAt (n + 1) = s.tickAt n + BitVec.ofNat 64 s.period ∧
  (s.advanceTo t).tb.now = (if stampDiff s.tb.now t < 0 then t else s.tb.now) ∧
  ((stampDiff s.tb.now t).natAbs < 2 ^ 63 → 0 ≤ stampDiff (s.advanceTo t).tb.now s.tb.now ∧ 0 ≤ stampDiff (s.advanceTo t).tb.now t) ∧
  s.coreSub ≤ (s.advanceTo t).coreSub ∧ (s.advanceTo t).regs = s.regs ∧ (s.advanceTo t).cores = s.cores ∧ (s.advanceTo t).mem = s.mem

/-! ### Tasks, state lines and switch groups -/

/-- R42, R44, R69, R86, R89, R96, R97, R101: a late deadline is journaled once; a waiting task is missed at the guard; a walk runs the entry that names it; an ended frame's digest is latched and journaled once its DONE walks are complete; a read of a Sealed line's metadata from the Open world is 0, and of a line outside every region a free value; a ready task goes to its assigned core, or after PL_STEAL_NS to the lowest-numbered free core of its pool; a plan waits for the next epoch. A task that does not run is not late, and a plan that is not due changes nothing (log entry 8); which tasks a pool holds after retirements is log entry 87. -/
def Obligations.TaskCommands : Prop := ∀ (s : State) (t : TaskId) (frame : W64) (q : Requester) (items : List PlanItem),
  (∀ k f, (s.rt t).run = some (k, f) → (s.rt t).lateSeen = false → (s.rt t).carried = false → exec (.deadlineLate t) s = .next
    ((((s.advanceTo (s.rt t).deadline).setRt t { s.rt t with lateSeen := true }).flag R.BCN_STATUS 1).jlogW
      ((s.advanceTo (s.rt t).deadline).taskSealed t) (s.rt t).deadline 104 0 0x0011 [(0, 2, t.val), (2, 2, k.val), (8, 4, (lo32 f).toNat)] [])) ∧
  ((s.rt t).run = none → exec (.deadlineLate t) s = .next s) ∧
  (s.bcn.ticked = true → exec .missed s = .next
    (let g := s.guardStart
     let u := s.advanceTo g
     (u.tasks.filter (fun x => u.waits x && !(u.boundPreds x).any u.waits)).foldl
      (fun (v : State) x => v.missTask g (if (v.rt x).prevCarried then 2 else 0) x) u)) ∧
  (∀ e, s.su.walks.find? (fun w => w.task == t && w.frame == frame) = some e → exec (.walk t frame) s = .next (s.walkRun e).digestsTry) ∧
  (s.su.digOpen.contains frame = true → s.su.walks.all (fun w => !(w.frame == frame && w.kind == .done)) = true →
    let d := s.digest frame
    let u := (s.digestLatch frame d).digestLog (lo32 frame) (d.extractLsb' 0 64) (d.extractLsb' 64 64)
    let late := u.digestLateNow frame
    let v := if late then (u.flag R.ST_STATUS 4).jlog u.now 98 0 0x0102 [(0, 4, (lo32 frame).toNat)] else u
    exec (.digestFinal frame) s = .next ((v.setOwn { v.ownOf frame with dig := some d, late := late }).digestTry frame)) ∧
  (s.boot.aon = false → exec (.dbgMetaRead q) s = .next s) ∧
  (s.boot.aon = true →
   let s0 := s
   let s := s.guardBreak 8
   let line := (s.rd64 R.DBG_ADDR_LO R.DBG_ADDR_HI).toNat % 2 ^ 46 / 64
   ((s.regionOf line).isSome = true → exec (.dbgMetaRead q) s0 = .next
    (State.flag { s with su := { s.su with dbgMeta := if s.lineSealed line = true ∧ q.sealed = false then 0 else (s.sline line).meta } } R.ST_STATUS 7)) ∧
   (s.regionOf line = none → exec (.dbgMetaRead q) s0 = .next
    (State.flag { (s.free 128).2 with su := { (s.free 128).2.su with dbgMeta := (s.free 128).1 } } R.ST_STATUS 7))) ∧
  (s.taskReady t = true → s.beforeGuard = true → s.coreFree (s.rt t).assigned = true → s.usable (s.rt t).assigned = true →
    (s.pool t).contains (s.rt t).assigned = true → exec (.taskDispatch t) s = .next (s.dispatchTo t (s.rt t).assigned)) ∧
  (∀ j, s.taskReady t = true → s.beforeGuard = true → s.coreFree (s.rt t).assigned = false →
    stampLe (s.readyStamp t + BitVec.ofNat 64 (s.fld R.PL_STEAL_NS 0 24)) s.now = true → (s.taskPlace t = 2 → s.pool t ≠ [(s.rt t).assigned]) →
    (sortBy (fun a b => decide (a.val < b.val)) (s.pool t)).find? s.coreFree = some j → exec (.dispatchSteal t) s = .next (s.dispatchTo t j)) ∧
  (s.hive.planDue = true → exec (.planComplete items) s = .next { s with hive := { s.hive with planReady := some items, planDue := false } }) ∧
  (s.hive.planDue = false → exec (.planComplete items) s = .next s)

/-- R111, R113, R114, R198: opening a slot empties it, an entry goes to the open slot and a 1,025th sets bit 2 of SW_STATUS, arming closes the slot, is ignored while none is open, and is told to the twin when it is accepted, a group that is armed and not yet inside its guard is cancelled; on a non-holder every write only sets bit 11 of TW_STATUS. Each of the four is a write of its block, which breaks a guard pair pending there (R517), and a device in reset takes none (R471).
An entry or an arm while no slot is open is ignored by R111, and the fields a group is checked against are those of log entry 87. -/
def Obligations.SwitchCommands : Prop := ∀ (s0 : State) (v : W32) (i : Nat),
  (s0.boot.aon = false → exec (.swOpen v) s0 = .next s0 ∧ exec (.swEntVal v) s0 = .next s0 ∧
    exec (.swArmLo v) s0 = .next s0 ∧ exec (.swCancel v) s0 = .next s0) ∧
  (s0.boot.aon = true →
  let s := s0.guardBreak 7
  (s.holder = false → exec (.swOpen v) s0 = .next (s.flag R.TW_STATUS 11) ∧ exec (.swEntVal v) s0 = .next (s.flag R.TW_STATUS 11) ∧
    exec (.swArmLo v) s0 = .next (s.flag R.TW_STATUS 11) ∧ exec (.swCancel v) s0 = .next (s.flag R.TW_STATUS 11)) ∧
  (s.holder = true →
    (let t := (s.wr R.SW_OPEN (v &&& 0xff0f)).setSlot (v.toNat % 8) { st := 1, setTag := v.extractLsb' 8 8, last := v.getLsbD 3 }
     exec (.swOpen v) s0 = .next { t with hive := { t.hive with lastOpen := v.toNat % 8 } }) ∧
    (s.openSlot = none → exec (.swEntVal v) s0 = .next s) ∧
    (s.openSlot = some i → (s.slot i).entries.length < 1024 → exec (.swEntVal v) s0 = .next
      (s.setSlot i { s.slot i with entries := (s.slot i).entries ++ [⟨s.rd R.SW_ENT_TGT, v⟩] })) ∧
    (s.openSlot = some i → 1024 ≤ (s.slot i).entries.length → exec (.swEntVal v) s0 = .next (s.flag R.SW_STATUS 2)) ∧
    (let u := s.wr R.SW_ARM_LO v
     let a := u.swArm i (join32 (u.rd R.SW_ARM_HI) v)
     (s.openSlot = none → exec (.swArmLo v) s0 = .next s) ∧
     (s.openSlot = some i → a.1 = false → exec (.swArmLo v) s0 = .next a.2) ∧
     (s.openSlot = some i → a.1 = true → u.twin = false → exec (.swArmLo v) s0 = .next a.2) ∧
     (s.openSlot = some i → a.1 = true → u.twin = true → exec (.swArmLo v) s0 = .next
      (a.2.linkSend (.swArm ⟨i % 8, Nat.mod_lt i (by decide)⟩ (a.2.slot i).setTag (a.2.slot i).last (a.2.slot i).frame (a.2.slot i).entries)))) ∧
    (let c := v.toNat % 8
     let u := s.wr R.SW_CANCEL (BitVec.ofNat 32 c)
     let done := (u.setSlot c { u.slot c with st := 5 }).cancelLog c 0
     ((u.slot c).st ≠ 2 → exec (.swCancel v) s0 = .next (u.cancelLog c 2)) ∧
     ((u.slot c).st = 2 → u.cancellable c = false → exec (.swCancel v) s0 = .next (u.cancelLog c 1)) ∧
     ((u.slot c).st = 2 → u.cancellable c = true → done.twin = false → exec (.swCancel v) s0 = .next done) ∧
     ((u.slot c).st = 2 → u.cancellable c = true → done.twin = true → exec (.swCancel v) s0 = .next
      (done.linkSend (.swCancel ⟨c % 8, Nat.mod_lt c (by decide)⟩ (u.slot c).frame))))))
/-! ### Device events of the bays, the grid front end and the sector interlock -/

/-- R131, R141 to R145, R148, R151: an edge of the kind CAP_EDGE selects is stamped into the unit's queue of four and raises event 4, finding it full counts an overflow, and with the filter on a level has to last first; a pending compare acts at its target; the shift unit's FIFO holds 16 words, the seventeenth sets OVERRUN, and a UART that asserts DE receives nothing and releases it DE_TAIL bit times after its last word; the events 6 to 9 of the engine; the image a spare engine is loaded with; SAFE_ALL judges the bay, after its UARTs whose DE time is over have released DE; a read of a Sealed bay's memory from the Open world returns 0. An edge at a bay that is down, a compare that is not pending and a timer that is off change nothing (log entry 8), nor does a write or a read while the device is in reset (R471).
The word being shifted out keeps its place in the FIFO, and a UART without a DE pin counts DE as asserted while it sends (log entry 88). -/
def Obligations.BayEvents : Prop := ∀ (s : State) (b : BayId) (e : EngId) (u : PinId) (rising : Bool) (d v : W32) (par frm : Bool) (q : Requester),
  (s.dom (72 + b.val) ≠ .up → exec (.captureEdge b u rising) s = .next s) ∧
  (s.dom (72 + b.val) = .up →
   let v := s.pinSettle b u.val
   let pad := rising != (v.pinCfg b u.val).getLsbD 24
   let x := v.pin b u.val
   (v.pinFilt b u.val ≠ 0 → exec (.captureEdge b u rising) s = .next
     (v.setPin b u.val { x with pad := pad, glitch := if pad = x.flt then none else some (x.glitch.getD v.clockNow) })) ∧
   (v.pinFilt b u.val = 0 →
    let t := v.setPin b u.val { x with pad := pad, flt := pad, glitch := none }
    ((v.pinCfg b u.val).getLsbD (if rising then 22 else 23) = false → exec (.captureEdge b u rising) s = .next t) ∧
    ((v.pinCfg b u.val).getLsbD (if rising then 22 else 23) = true → x.cap.length < 4 → exec (.captureEdge b u rising) s = .next
      ((t.setPin b u.val { t.pin b u.val with cap := x.cap ++ [(v.now, rising)] }).raiseOwner b u.val 4 v.now)) ∧
    ((v.pinCfg b u.val).getLsbD (if rising then 22 else 23) = true → 4 ≤ x.cap.length → exec (.captureEdge b u rising) s = .next
      (let w := (t.flag (R.BAY_STATUS b.val) 4).bump (R.CNT_CAP_OVF b.val)
       w.jlogW (t.baySealed b.val) t.now (80 + b.val) (t.pinUnit b u.val) 0x0310 [(0, 1, b.val), (1, 1, u.val), (4, 8, v.now.toNat)] [])))) ∧
  ((s.pin b u.val).cmp = none → exec (.compareAction b u) s = .next s) ∧
  (∀ t a, (s.pin b u.val).cmp = some (t, a) → exec (.compareAction b u) s = .next
    (((s.advanceTo t).setPin b u.val { s.pin b u.val with cmp := none }).compareDo b u.val a)) ∧
  (let w := s.suTail b e.val
   let x := w.eng b e.val
   let y : ShiftUnit := { x.su with sampled := true }
   x.st = .running ∨ x.st = .waiting →
   (x.su.mode.toNat % 4 = 1 → x.su.de = false →
     (16 ≤ x.su.rx.length → exec (.suRx b e d par frm) s = .next (w.setSu b e.val { x.su with overrun := true })) ∧
     (x.su.rx.length < 16 → exec (.suRx b e d par frm) s = .next
       ((w.setSu b e.val { x.su with rx := x.su.rx ++ [(suData x.su d, (par, frm))] }).raiseEv b e.val 6 w.now))) ∧
   (x.su.mode.toNat % 4 = 2 → x.su.busy = true → x.su.sampled = false →
     (16 ≤ x.su.rx.length → exec (.suRx b e d par frm) s = .next ((w.setSu b e.val y).setSu b e.val { y with overrun := true })) ∧
     (x.su.rx.length < 16 → exec (.suRx b e d par frm) s = .next
       (((w.setSu b e.val y).setSu b e.val { y with rx := y.rx ++ [(suData y d, (false, false))] }).raiseEv b e.val 6 w.now))) ∧
   (x.su.mode.toNat % 4 = 1 → x.su.de = true → exec (.suRx b e d par frm) s = .next w)) ∧
  (let w := s.suSample b e.val
   let y := (w.eng b e.val).su
   let t := w.setSu b e.val { y with tx := [], busy := false, go := false }
   (s.eng b e.val).su.busy = true → (s.eng b e.val).su.tx.length = 1 →
   (y.mode.toNat % 4 ≠ 1 → exec (.suTx b e) s = .next (t.raiseEv b e.val 7 s.now)) ∧
   (y.mode.toNat % 4 = 1 → y.tail.toNat % 16 = 0 → exec (.suTx b e) s = .next ((t.suDe b e.val false).raiseEv b e.val 7 s.now)) ∧
   (y.mode.toNat % 4 = 1 → y.tail.toNat % 16 ≠ 0 → exec (.suTx b e) s = .next
     ((t.setSu b e.val { (t.eng b e.val).su with
        deEnd := some (w.now + BitVec.ofNat 64 (y.tail.toNat % 16 * (y.div.toNat % 2 ^ 24) * 2 / 3)) }).raiseEv b e.val 7 s.now))) ∧
  ((s.eng b e.val).su.busy = true → 2 ≤ (s.eng b e.val).su.tx.length →
    let w := s.suSample b e.val
    exec (.shiftUnitWordEnd b e) s = .next (w.setSu b e.val
      { (w.eng b e.val).su with tx := (w.eng b e.val).su.tx.tail, wordAt := w.clockNow, sampled := false })) ∧
  ((s.eng b e.val).su.mode.toNat % 4 = 1 → (s.eng b e.val).su.idle.toNat % 256 ≠ 0 →
    exec (.suIdle b e) s = .next (s.raiseEv b e.val 8 s.now)) ∧
  ((s.eng b e.val).timer ≠ 0 → exec (.engineTimer b e) s = .next (s.raiseEv b e.val 9 s.now)) ∧
  ((s.eng b e.val).timer = 0 → exec (.engineTimer b e) s = .next s) ∧
  ((s.eng b e.val).st = .loading →
    let r := s.antImage (s.fld (R.ANT_IMG b.val) 0 21 * 2 ^ 21 + 16384 * (s.eng b e.val).logical) [] 0 256
    exec (.spareLoadDone b e) s = .next ((r.2.setEng b e.val { r.2.eng b e.val with sram := r.1 }).engStart b e.val true)) ∧
  (s.boot.aon = false → exec (.baySafeAll b v) s = .next s ∧ exec (.memDataRead b q) s = .next s) ∧
  (s.boot.aon = true → exec (.baySafeAll b v) s = .next ((((s.guardBreak (0x10 + b.val)).bayTails b).wr (R.BAY_CTL b.val) (v &&& 1)).judgeBay b)) ∧
  (s.boot.aon = true → s.baySealed b.val = true → q.sealed = false → exec (.memDataRead b q) s = .next { s with readVal := 0 }) ∧
  (s.boot.aon = true → (s.baySealed b.val = false ∨ q.sealed = true) → exec (.memDataRead b q) s = .next
    { s.setFld (R.MEM_ADDR b.val) 0 16 (s.fld (R.MEM_ADDR b.val) 0 16 + 4) with readVal := s.memWord b })

/-- R153 to R157, R163, R177, R460, R530: a sample of a channel that is on is scaled, stamped, kept for the windows and offered to its groups, with a modulator in fault too; a fault that clears discards three outputs; a group two nominal periods past its last positive crossing loses sync and measures at the nominal period from it; the rules of a frame are evaluated once, before its tick; the supply warning is taken 200 ns after its edge, begins the flush of Lantern's records, and ends 10 ms after the end of the last low that counted (log entry 31: that end is a free value). A sample while the unit is off, a fault that stands, a sync that is not over and an evaluation that is not due change nothing (log entry 8), nor does a command to a device in reset (R471). The filter, the phasor and the roundings are those of log entry 36. -/
def Obligations.GridAndSector : Prop := ∀ (s : State) (i : InputId) (raw : BitVec 34) (g : GroupId),
  (s.flagAt R.GS_CTL 0 = false → exec (.decimatedSample i raw) s = .next s) ∧
  (s.flagAt R.GS_CTL 0 = true → s.flagAt (R.CH_CFG i.val) 2 = true → s.flagAt (R.MCLK_CFG (s.mclk i.val)) 21 = true →
    let x := s.gin i.val
    let good := if x.faulted = true then 0 else x.good + 1
    (0 < x.discard → exec (.decimatedSample i raw) s = .next (s.setGin i.val { x with discard := x.discard - 1, good := good })) ∧
    (x.discard = 0 →
      let a := gridX raw.toNat (s.fld (R.MCLK_CFG (s.mclk i.val)) 9 12)
      let y := gridY a.1 (s.fld (R.CH_CAL i.val) 0 16) (signed 16 (s.fld (R.CH_CAL i.val) 16 16))
      let sat := a.2 || y.2
      let smp : GsSample := ⟨s.sampleStamp i.val, gridValue y.1 (s.fld (R.CH_SCALE i.val) 0 24), sat⟩
      let t := s.setGin i.val { x with good := good, hist := smp :: x.hist.filter (fun z => decide ((smp.stamp - z.stamp).toNat < 1000000000)) }
      exec (.decimatedSample i raw) s = .next
        (foldRange (fun n u => u.groupSample i.val n smp.stamp) 0 16 (if sat = true then t.flag R.GS_STATUS 4 else t)))) ∧
  (s.boot.aon = false → (∀ x, exec (.modFault i x) s = .next s) ∧ exec .supplyWarn s = .next s ∧ exec .supplyClear s = .next s) ∧
  ((s.gin i.val).faulted = true → exec (.modFault i true) s = .next s) ∧
  ((s.gin i.val).faulted = false → exec (.modFault i false) s = .next s) ∧
  (s.boot.aon = true → (s.gin i.val).faulted = false → exec (.modFault i true) s = .next
    ((((s.setGin i.val { s.gin i.val with faulted := true, good := 0 }).flag R.GS_STATUS 1).bump R.CNT_MODF).jlog s.now 99 0 0x0400
      [(0, 1, i.val), (1, 1, 1)])) ∧
  (s.boot.aon = true → (s.gin i.val).faulted = true → exec (.modFault i false) s = .next
    ((s.setGin i.val { s.gin i.val with faulted := false, discard := 3, good := 0 }).jlog s.now 99 0 0x0400 [(0, 1, i.val), (1, 1, 0)])) ∧
  (s.flagAt (R.GRP_V g.val) 18 = false ∨ s.syncOver g.val s.now = false → exec (.noSync g) s = .next s) ∧
  (s.flagAt (R.GRP_V g.val) 18 = true → s.syncOver g.val s.now = true →
    (let o := (s.grp g.val).lastPos.getD s.now
     (s.grp g.val).sync = true → exec (.noSync g) s = .next
      ((s.setGrp g.val { s.grp g.val with sync := false, nominal := 0, origin := o, ends := [o, o - s.nominalNs 1] }).flag R.GS_STATUS 2)) ∧
    ((s.grp g.val).sync = false → exec (.noSync g) s = .next (s.flag R.GS_STATUS 2))) ∧
  (∀ t, s.sector.freezeDone = some t → s.bcn.ticked = true → s.sector.evaluated ≠ some s.bcn.frame → s.evaluates s.bcn.frame = true →
    stampLe (s.tickAt s.bcn.nextN) s.now = false →
    let u := s.evaluate (s.siRules + s.ruled.length)
    exec .interlockEvaluation s = .next
      (State.wr { u with sector := { u.sector with evaluated := some u.bcn.frame } } R.SI_EVAL_NS (lo32 (u.now - t)))) ∧
  (s.sector.freezeDone = none → exec .interlockEvaluation s = .next s) ∧
  (s.boot.aon = true → exec .supplyWarn s = .next
    { s.supplyFall (s.now - 200) with lan := { (s.supplyFall (s.now - 200)).lan with flush := true } }) ∧
  (s.sector.supplyLow = false → exec .supplyClear s = .next s) ∧
  (s.boot.aon = true → s.sector.supplyLow = true →
    let u : State := { s.advanceTo (s.supplyHigh + 10000000) with sector := { s.sector with supplyLow := false, supplyRise := none, supplyBack := true } }
    let back := max (u.fld R.PWR_PERF 0 3) (if u.flagAt R.PWR_LEVEL 8 then 2 else 0)
    let w := ((u.supplyPost 0 u.now).flag R.SI_STATUS 6)
    let x := w.jlog w.now 100 0 0x0431 [(0, 1, back)]
    exec .supplyClear s = .next (if x.flagAt R.TW_CFG 0 = true then x.linkSend (.supply false x.now) else x))
/-! ### The twin and its link -/

/-- R186, R189 to R192, R199, R201, R202, R207, R531: the heartbeat goes out 1 us after a tick; a heartbeat that announces the device's own side is discarded; the heartbeat line is driven in the side's slot and let go 2 us later, and a low over 4 us only sets bit 8 of TW_STATUS, one in the device's own slot is its own, and one in the other side's slot shows a holder two tokens, of which side B loses its own; a LISTEN window without a pulse ends ALONE with token generation 1; the outputs are enabled at their stamp on the holder; REJOIN and ISOLATE leave DIVERGED; a handover is asked of a STANDBY partner that does not warn. These three are writes of TWIN's block, which break a guard pair pending there (R517), and a device in reset takes none. A device that does not hear the link, a LISTEN window with a pulse and a pulse that is its own or short change nothing (log entry 8). A heartbeat's fields at a role change, and how a non-holder takes its acknowledgement as in time, are log entry 76. -/
def Obligations.TwinRoles : Prop := ∀ (s : State) (h : Heartbeat) (w : W32) (f : W64),
  (s.twin = true → s.bcn.ticked = true → s.tw.role ≠ .listen →
    exec .heartbeatSend s = .next (s.advanceTo (s.bcn.tickStamp + 1000)).sendHeartbeat) ∧
  (s.hears = true → h.side = s.tw.sideB → exec (.heartbeat h) s = .next s.rx) ∧
  (s.hears = true → h.side ≠ s.tw.sideB → exec (.heartbeat h) s = .next (s.rx.hbTaken h)) ∧
  (s.hears = false → exec (.heartbeat h) s = .next s) ∧
  (s.twin = true → s.holder = true → s.bcn.ticked = true → s.tw.hbDone = false → exec .twinHbDrive s = .next
    (let t := s.advanceTo (s.bcn.tickStamp + BitVec.ofNat 64 (hbSlot s.tw.sideB))
     { t with tw := { t.tw with hbLow := true, hbDone := true } })) ∧
  (s.tw.hbLow = true → exec .twinHbRelease s = .next
    (let t := s.advanceTo (s.bcn.tickStamp + BitVec.ofNat 64 (hbSlot s.tw.sideB + 2000))
     { t with tw := { t.tw with hbLow := false } })) ∧
  (s.twin = true →
    let fall := s.now - w.setWidth 64
    (w.toNat < 1000 → exec (.twinHbPulse w) s = .next s) ∧
    (4000 < w.toNat → exec (.twinHbPulse w) s = .next (s.flag R.TW_STATUS 8)) ∧
    (1000 ≤ w.toNat → w.toNat ≤ 4000 → s.inSlot fall s.tw.sideB = true → exec (.twinHbPulse w) s = .next s) ∧
    (1000 ≤ w.toNat → w.toNat ≤ 4000 → s.inSlot fall s.tw.sideB = false →
      let t : State := { s with tw := { s.tw with heardLine := true, listenPulse := s.tw.listenPulse || s.tw.listenFrom.isSome } }
      (s.tw.role = .listen ∨ s.holder = false ∨ s.inSlot fall (!s.tw.sideB) = false → exec (.twinHbPulse w) s = .next t) ∧
      (s.tw.role ≠ .listen → s.holder = true → s.inSlot fall (!s.tw.sideB) = true →
        let g := t.free 32
        (s.tw.sideB = true → exec (.twinHbPulse w) s = .next (g.2.dualLog g.1 false true 1).dualLost) ∧
        (s.tw.sideB = false → exec (.twinHbPulse w) s = .next (g.2.dualLog g.1 true false 1))))) ∧
  (∀ t, s.tw.listenFrom = some t → s.tw.role = .listen → s.tw.listenPulse = false →
    let n := if s.tw.sideB = true then 2 * s.twinK + 2 else s.twinK + 1
    let u := s.advanceTo (t + BitVec.ofNat 64 (n * s.period))
    let v : State := { u with tw := { u.tw with listenFrom := none, g := 1 } }
    exec .listenWindowEnd s = .next (v.startBeacon.setRole .alone 0)) ∧
  (s.tw.listenPulse = true → exec .listenWindowEnd s = .next s) ∧
  (∀ t, s.tw.outputsAt = some t → exec .outputEnable s = .next
    { s.advanceTo t with tw := { (s.advanceTo t).tw with outputs := (s.advanceTo t).holder, outputsAt := none } }) ∧
  (s.nonHolder = true → s.bcn.ticked = true → (∀ p ∈ s.tw.fixedT, p.1 ≠ s.bcn.frame.toNat) → exec .heartbeatWaitExpire s = .next
    (let t := s.advanceTo s.mirDeadline
     (t.fixT t.bcn.frame (t.bcn.tickStamp + t.tw.pairOff)).localInput t.bcn.frame)) ∧
  (s.boot.aon = false → exec .rejoin s = .next s ∧ exec .isolate s = .next s ∧ exec .handoverRequest s = .next s) ∧
  (s.boot.aon = true →
   let v := s.guardBreak 0x1a
   (v.tw.role = .diverged → exec .rejoin s = .next (v.setRole .joining 12) ∧ exec .isolate s = .next (v.setRole .isolated 13)) ∧
   (v.tw.role ≠ .diverged → exec .rejoin s = .next v ∧ exec .isolate s = .next v) ∧
   (v.twin = true → v.holder = true → v.tw.handH = none →
    (v.tw.role = .active → v.tw.partnerRole = .standby → v.tw.partnerVer = true → v.tw.partnerWarn = false → exec .handoverRequest s = .next
      ((State.linkSend { v with tw := { v.tw with handH := some (v.bcn.frame + 2), handAck := false } } (.handover (v.bcn.frame + 2))).handLog 0 (v.bcn.frame + 2))) ∧
    ((v.tw.role ≠ .active ∨ v.tw.partnerRole ≠ .standby ∨ v.tw.partnerVer = false ∨ v.tw.partnerWarn = true) →
      exec .handoverRequest s = .next ((v.flag R.TW_STATUS 13).handLog 2 (v.bcn.frame + 2))))) ∧
  (s.hears = true → s.rx.tw.role = .standby → exec (.handover f) s = .next
    (State.linkSend { s.rx with tw := { s.rx.tw with handH := some f, handAck := stampLt (s.rx.now + s.rx.tw.linkDly.setWidth 64) (s.rx.tickAt (f - 1)) } } (.handoverAck f))) ∧
  (s.hears = true → s.rx.tw.role ≠ .standby → exec (.handover f) s = .next s.rx) ∧
  (s.hears = true → s.rx.holder = true → s.rx.tw.handH = some f → stampLt s.rx.now (s.rx.tickAt (f - 1)) = true →
    exec (.handoverAck f) s = .next { s.rx with tw := { s.rx.tw with handAck := true } }) ∧
  (s.hears = true → (s.rx.holder = false ∨ s.rx.tw.handH ≠ some f ∨ stampLt s.rx.now (s.rx.tickAt (f - 1)) = false) →
    exec (.handoverAck f) s = .next s.rx)

/-- R55, R182, R184, R185, R193, R194, R196, R198, R208, R329: messages of the link and the link's own events. A device that does not hear the link takes none (log entry 8). A retrain takes eight or four of the lanes that are found, and a lane not found counts as failed from then on (log entry 76). The link comes up for a partner whose hello is valid, and the device makes its own (R329). -/
def Obligations.TwinMessages : Prop := ∀ (s : State) (f : W64) (off : BitVec 26) (lines : List Line) (dg od : V128) (fl : Byte)
    (sl : Fin 8) (tag : Byte) (last : Bool) (ents : List SwEntry) (warn : Bool) (ln : Fin 9) (m : BitVec 9) (q : W32) (recs : List JRec) (key share sig : List Byte),
  (s.hears = false → ∀ i ∈ [Instr.mirror f off lines, .mirrorEnd f, .digest f dg od fl, .swArm sl tag last f ents, .swCancelMsg sl f, .supply warn,
    .laneMap m, .ack q, .ackTimer, .nak q, .linkSilence, .journal recs, .linkMessageError warn], exec i s = .next s) ∧
  (s.hears = true →
    exec (.mirror f off lines) s = .next (s.rx.mirrorTake f off lines) ∧ exec (.mirrorEnd f) s = .next (s.rx.mirrorFull f) ∧
    exec (.digest f dg od fl) s = .next { s.rx with tw := { s.rx.tw with
      peer := s.rx.tw.peer.filter (fun p => !(p.frame == f)) ++ [{ frame := f, dig := dg, od := od, flags := fl }] } } ∧
    (s.holder = true → exec (.swArm sl tag last f ents) s = .next s.rx ∧ exec (.swCancelMsg sl f) s = .next s.rx) ∧
    (let u := s.rx.setSlot sl.val { st := 1, setTag := tag, last := last, entries := ents.take 1024 }
     let a := u.swArm sl.val f
     let r := a.2.resyncLog a.2.bcn.frame 3 0
     (s.holder = false → a.1 = true → exec (.swArm sl tag last f ents) s = .next a.2) ∧
     (s.holder = false → a.1 = false → r.tw.role = .standby → exec (.swArm sl tag last f ents) s = .next (r.setRole .joining 6)) ∧
     (s.holder = false → a.1 = false → r.tw.role ≠ .standby → exec (.swArm sl tag last f ents) s = .next r)) ∧
    (s.holder = false → (s.slot sl.val).frame = f → s.cancellable sl.val = true → exec (.swCancelMsg sl f) s = .next
      ((s.rx.setSlot sl.val { s.slot sl.val with st := 5 }).cancelLog sl.val 0)) ∧
    (let u : State := { s.rx with tw := { s.rx.tw with partnerWarn := warn } }
     let v := if warn = true then u.flag R.TW_STATUS 10 else u
     exec (.supply warn) s = .next (v.jlog v.now 95 0 0x0509 [(0, 1, b2n warn)])) ∧
    exec (.ack q) s = .next { s.rx with tw := { s.rx.tw with sent := s.rx.tw.sent.filter (fun x => decide (2 ^ 31 ≤ (q - x.1).toNat)) } } ∧
    exec .ackTimer s = .next (s.linkSend (.ack (s.tw.rxSeq - 1))) ∧ exec .linkSilence s = .next ((s.advanceTo (s.tw.lastRx + 100000)).linkLost 2) ∧
    exec (.journal recs) s = .next ((recs.take 16).foldl (fun u r => u.pjrnWrite r) s.rx) ∧
    exec (.linkMessageError true) s = .next (s.linkLost 1) ∧ exec (.linkMessageError false) s = .next (s.linkSend (.nak s.tw.rxSeq)) ∧
    (let n := if s.rx.tw.nakSeq = q ∧ s.rx.tw.nakCount ≠ 0 then s.rx.tw.nakCount + 1 else 1
     let u : State := { s.rx with tw := { s.rx.tw with nakSeq := q, nakCount := n } }
     (3 ≤ n ∨ (∀ x ∈ u.tw.sent, x.1 ≠ q) → exec (.nak q) s = .next (u.linkLost 1)) ∧
     (n < 3 → (∃ x ∈ u.tw.sent, x.1 = q) → exec (.nak q) s = .next (let v := u.handLate (u.sentFrom q); { v with tw := { v.tw with txPos := q } }))) ∧
    (let j := s.rx.tw.failed ||| m
     let u := if s.rx.tw.mapSent = true then s.rx else s.rx.linkSend (.laneMap j)
     let v : State := { u with tw := { u.tw with failed := j, mapRcvd := true, mapSent := true } }
     exec (.laneMap m) s = .next (if v.healthyLanes.length < 4 then v.linkLost 3 else v))) ∧
  (s.nonHolder = true → s.bcn.ticked = true → s.bcn.frozen = false → exec .mirrorMiss s = .next
    (let u := (inputFreeze s)
     let t := u.advanceTo (u.bcn.tickStamp + BitVec.ofNat 64 (u.fld R.TW_MIR_WAIT 0 24))
     let l := t.tw.localLines
     let w := t.freezeLines t.bcn.frame l
     let x : State := { w with tw := { w.tw with mirMiss := true, localLines := [] } }
     let y := (x.flag R.TW_STATUS 5).bump R.TW_CNT_MISS
     ((y.jlog y.now 95 0 0x0504 [(0, 4, (lo32 t.bcn.frame).toNat), (4, 4, l.length)]).localInput t.bcn.frame).freezeEnd)) ∧
  (s.twin = true → s.tw.role ≠ .isolated → s.bcn.ticked = true → s.bcn.frame ≠ s.bcn.first → exec .digestSendDeadline s = .next
    (let t := s.advanceTo s.guardStart
     if (t.ownOf (t.bcn.frame - 1)).sent = true then t else t.digestSend (t.ownOf (t.bcn.frame - 1)))) ∧
  (s.twin = true → s.tw.failed.getLsbD ln.val = false → exec (.linkLaneFail ln) s = .next
    (let j := s.tw.failed ||| (1 <<< ln.val)
     let t := State.linkSend { s with tw := { s.tw with failed := j } } (.laneMap j)
     let u : State := { t with tw := { t.tw with mapSent := true } }
     if u.healthyLanes.length < 4 then u.linkLost 3 else u)) ∧
  (s.twin = true → s.tw.linkUp = false →
    let l := s.healthyLanes.filter (fun i => m.getLsbD i)
    (l.length < 4 → exec (.linkRetrain m) s = .next s) ∧
    (4 ≤ l.length → exec (.linkRetrain m) s = .next
      (let use := s.retrainUse l
       let gone := (List.range 9).filter (fun i => s.tw.inUse.getLsbD i && !l.contains i)
       let come := use.filter (fun i => !s.tw.inUse.getLsbD i)
       let u : State := { s with tw := { s.tw with inUse := laneMask use, x4 := decide (l.length < 8), failed := ~~~(laneMask l) } }
       (gone.zip (List.range 9)).foldl (fun (t : State) p => t.laneLog p.1 (if s.tw.x4 = false ∧ l.length < 8 then 0xff else listAt come p.2 0xff)) u))) ∧
  (s.tw.linkUp = true → exec (.linkRetrain m) s = .next s ∧ exec (.linkUp q ⟨key, share, sig⟩) s = .next s) ∧
  (s.twin = true → s.tw.linkUp = false → 4 ≤ s.healthyLanes.length →
    (s.keeper.faulted = true → exec (.linkUp q ⟨key, share, sig⟩) s = .next (s.linkState false 3)) ∧
    (s.keeper.faulted = false →
     let r := ((s.free 384).2.free 384).2
     let t : State := { r with keeper := { r.keeper with hello := some (r.ownHello s.freeCtr) } }
     (t.helloValid ⟨key, share, sig⟩ = false → exec (.linkUp q ⟨key, share, sig⟩) s = .next (t.linkState false 3)) ∧
     (t.helloValid ⟨key, share, sig⟩ = true → exec (.linkUp q ⟨key, share, sig⟩) s = .next (State.linkState { t with
       tw := { t.tw with linkUp := true, linkDly := BitVec.ofNat 24 (q.toNat / 2), lastRx := t.now, nakCount := 0, txFree := t.now, copyFree := t.now },
       keeper := { t.keeper with linkKey := some (Config.ecdhKey s.freeCtr share) } } true 0))))

/-- R202, R204 to R206: the steps of a join, at the holder and at the joiner. A message that the device hears but its role does not take is received and nothing more (R182); one it does not hear changes nothing (log entry 8). The layout of UNIT_STATE is the model's (log entry 76). -/
def Obligations.JoinMessages : Prop := ∀ (s : State) (dg : BitVec 384) (f : W64) (c : Byte) (lines : List CopyLine) (u : UnitState),
  (s.hears = true → s.holder = true →
    (dg ≠ s.rx.cfgDigest → exec (.joinReq dg) s = .next (s.rx.linkSend (.joinRefuse 0))) ∧
    (dg = s.rx.cfgDigest → s.rx.tw.host.active = true → exec (.joinReq dg) s = .next (s.rx.linkSend (.joinRefuse 1))) ∧
    (dg = s.rx.cfgDigest → s.rx.tw.host.active = false →
      let b := s.rx.bcn.frame + 2
      exec (.joinReq dg) s = .next ((State.linkSend { s.rx with tw := { s.rx.tw with host := { active := true, base := b } } } (.joinAccept b)).joinStep 2 0 b))) ∧
  (s.hears = true → s.tw.role = .joining →
    exec (.joinAccept f) s = .next ((s.rx.joinSet (fun j => { j with step := 2, base := f, askAt := none })).joinStep 2 0 f) ∧
    (c = 0 → exec (.joinRefuse c) s = .next (s.rx.setRole .isolated 15)) ∧
    (c ≠ 0 → exec (.joinRefuse c) s = .next (s.rx.joinSet (fun j => { j with askAt := some (s.bcn.frame + 64) })))) ∧
  (s.hears = true → s.holder = false → exec (.joinReq dg) s = .next s.rx) ∧
  (s.hears = true → s.tw.role ≠ .joining → exec (.joinAccept f) s = .next s.rx ∧ exec (.joinRefuse c) s = .next s.rx) ∧
  (s.hears = false → ∀ i ∈ [Instr.joinReq dg, .joinAccept f, .joinRefuse c, .copy lines, .copyEnd f, .replay f lines, .replayEnd f, .joinAt f, .joinGo f,
    .unitState u, .joinAbort c], exec i s = .next s) ∧
  (s.hears = true → s.accepted = false → ∀ i ∈ [Instr.copy lines, .copyEnd f, .replay f lines, .replayEnd f, .joinAt f, .joinGo f, .unitState u],
    exec i s = .next s.rx) ∧
  (s.hears = true → s.accepted = true →
    exec (.copy lines) s = .next ((s.rx.joinLines lines).joinSet (fun j => { j with lines := j.lines + lines.length })) ∧
    exec (.copyEnd f) s = .next ((s.rx.joinSet (fun j => { j with step := 3, endTick := f })).joinStep 5 0 f) ∧
    exec (.replay f lines) s = .next (s.rx.joinLines (lines.map (fun x => { x with tick := f }))) ∧
    exec (.replayEnd f) s = .next (s.rx.joinSet (fun j => { j with replayEnd := j.replayEnd || j.at_ == some f })).joinReady ∧
    exec (.joinAt f) s = .next ((s.rx.joinSet (fun x => { x with step := 3, at_ := some f, go := false, replayEnd := false })).joinStep 6 0 f) ∧
    exec (.joinGo f) s = .next (s.rx.joinSet (fun x => { x with at_ := some f, go := true })).joinReady ∧
    (let v : State := State.pendRegs { s.rx with
      sector := { s.rx.sector with results := u.ruleResults, latches := u.ruleLatches, timerSt := u.timerCounts, chanSt := u.channels, queue := u.queue, holds := u.holds }
      hive := { s.rx.hive with slots := u.slots, openSets := u.openSets } }
     exec (.unitState u) s = .next (((u.live.foldl (fun (w : State) e => w.swEntry e) v).exclFollow s.rx.exclWord).joinSet (fun j => { j with unitSeen := true })).joinReady)) ∧
  (s.hears = true →
    (s.rx.holder = true → exec (.joinAbort c) s = .next { s.rx with tw := { s.rx.tw with host := {} } }) ∧
    (s.rx.holder = false → s.rx.tw.role = .joining → exec (.joinAbort c) s = .next (s.rx.joinFailed 7 c.toNat)) ∧
    (s.rx.holder = false → s.rx.tw.role ≠ .joining → exec (.joinAbort c) s = .next s.rx))
/-! ### Homes, rings and memory -/

/-- R363, R365, R369, R372 to R377, R380 to R382, R385: requests reach their home and are admitted; messages of the homes and of the cores change the transaction, the directory and the core's copies that they name, and a message that nothing waits for is a protocol error where the home gets it, and changes nothing where a core gets it (log entry 8), as no message does that meets a device in reset (R471). A request for a line that no slice homes goes nowhere, and one that R315 or R413 refuses is answered with zeros. Which retries an agent without caches makes, and what the check bits of the L3 find, is log entry 90; writebacks of state lines are log entry 73. -/
def Obligations.CoherenceCommands : Prop := ∀ (s : State) (k : CoreId) (l : LineAddr) (fb fetch keep : Bool) (ecc : L3Ecc) (x : XAsk) (qa : CohAsk) (cm : CmoAsk) (q : CohReq)
    (a z : Fin 64) (d : Line) (slot : Bool) (tick v : W32) (ans : SnpAns) (g : Grant) (sub : Byte) (po : Bool) (mp : Fin 3) (t : TileId) (w : Requester) (way : BitVec 4),
  let n := l.toNat
  (s.boot.aon = false → ∀ i ∈ [Instr.rdS k l fb fetch ecc, .rdX k l fb x, .rdNa qa l, .wrNa qa l a z d keep, .wb k l d po, .cmo k l cm, .reval k l slot tick,
    .snpRet l ans, .same k l, .memData l d mp, .doneMessage k l, .l3Lock t v w, .lockFill t way w,
    .rangeClean t fb w, .rangeInv t fb w, .rangeClinv t fb w], exec i s = .next s) ∧
  (s.boot.aon = true →
    let asks := fun (i : Instr) (r : Txn) (zero : Bool) (e : L3Ecc) =>
      let u := s.reqOpen r.who n r.kind r.fallback zero
      (homed n = false → exec i s = .next s) ∧
      (homed n = true → windowLine ≤ n → exec i s = .next (u.windowAsk r)) ∧
      (homed n = true → n < windowLine → exec i s = .next ((if u.lineBlocked n = true then u else u.l3Check n e).homeAdmit r))
    let me := CohReq.core k (s.core k).sealed
    asks (.rdS k l fb fetch ecc) { s.txnOf n .rdS me with flag := fetch, fallback := fb } false ecc ∧
    asks (.rdX k l fb x) { s.txnOf n .rdX me with zero := x.zero, fallback := fb } x.zero x.ecc ∧
    (∀ u, s.refuseAsk qa.who n false = some u → exec (.rdNa qa l) s = .next u) ∧
    (s.refuseAsk qa.who n false = none → asks (.rdNa qa l) { s.txnOf n .rdNa qa.who with fallback := qa.fallback } false qa.ecc) ∧
    (∀ u, s.refuseAsk qa.who n true = some u → exec (.wrNa qa l a z d keep) s = .next u) ∧
    (s.refuseAsk qa.who n true = none → asks (.wrNa qa l a z d keep) { s.txnOf n .wrNa qa.who with
      first := a, last := z, data := d, zero := keep, fallback := qa.fallback, poison := if qa.poison = true then 9 else 0 } false qa.ecc) ∧
    (cm.op = 0 → exec (.cmo k l cm) s = .next s) ∧
    (cm.op ≠ 0 →
      let r := { s.txnOf n .cmo me with first := ⟨cm.op.val, by omega⟩, fallback := cm.fallback }
      (n < windowLine → s.rangeBars (s.core k).sealed (n / 32768) = true → exec (.cmo k l cm) s = .next (s.txnReply r (0, 0))) ∧
      (windowLine ≤ n ∨ s.rangeBars (s.core k).sealed (n / 32768) = false → asks (.cmo k l cm) r false cm.ecc)) ∧
    (let r := s.ebSend k n
     (windowLine ≤ n →
       ((r.ebFind k n).any (fun e => pendOf (r.core k).task e.key) = true →
         let h := r.windowHome k n fullMask d
         exec (.wb k l d po) s = .next ((h.2.sendCoh (.wbAck k n)).fullStops h.1)) ∧
       ((r.ebFind k n).any (fun e => pendOf (r.core k).task e.key) = false → exec (.wb k l d po) s = .next
         ((r.bump (R.CNT_WB_STALE (r.homeOf n).val)).sendCoh (.wbStale k n)))) ∧
     (n < windowLine →
       (∀ e, r.txnFind n = none → r.dirFind n = some e → e.excl = true → e.owner = k → exec (.wb k l d po) s = .next
        (((r.homeWrite n fullMask d true (if po then 9 else 0)).setDir n none).sendCoh (.wbAck k n)).homeNext) ∧
       (∀ e, r.txnFind n = none → r.dirFind n = some e → (e.excl = false ∨ e.owner ≠ k) → exec (.wb k l d po) s = .next
        ((r.bump (R.CNT_WB_STALE e.home.val)).sendCoh (.wbStale k n))) ∧
       (r.txnFind n = none → r.dirFind n = none → exec (.wb k l d po) s = .next ((r.bump (R.CNT_WB_STALE (r.homeOf n).val)).sendCoh (.wbStale k n))) ∧
       (∀ y, r.txnFind n = some y → y.st ≠ .mem → y.st ≠ .ack → exec (.wb k l d po) s = .next (r.setTxn n (some { y with heldWb := y.heldWb ++ [k] }))) ∧
       (∀ y, r.txnFind n = some y → (y.st = .mem ∨ y.st = .ack) → exec (.wb k l d po) s = .next
        ((r.bump (R.CNT_WB_STALE y.home.val)).sendCoh (.wbStale k n))))) ∧
    (let u := (s.settle n).count k 0x26 1
     let m := u.sline n
     exec (.reval k l slot tick) s = .next (u.sendCoh (if m.committed = slot ∧ m.tag m.committed + 1 = tick then .same k n
       else .version k n m.cdata m.committed (m.tag m.committed + 1)))) ∧
    (s.txnFind n = none → exec (.snpRet l ans) s = .next (s.protoErr n) ∧ exec (.memData l d mp) s = .next (s.protoErr n) ∧
      exec (.doneMessage k l) s = .next (s.protoErr n)) ∧
    (∀ y, s.txnFind n = some y → y.rings ≠ 0 →
      let y := match ans with
        | .dirty d p => { y with dirty := some (d, p.toNat), ownerSent := y.ownerSent || y.kind == .rdS, rings := y.rings - 1 }
        | .sent => { y with ownerSent := true, rings := y.rings - 1 }
        | _ => { y with rings := y.rings - 1 }
      exec (.snpRet l ans) s = .next (if y.rings = 0 then (s.snoopsBack y).homeNext else s.setTxn y.line (some y))) ∧
    (∀ y, s.l2Find k n = some y →
      (∀ key, y.key = some key → key.task = none → exec (.same k l) s = .next (s.l2Set' k { y with key := some { key with filled := s.bcn.frame } })) ∧
      (∀ key, y.key = some key → key.task ≠ none → exec (.same k l) s = .next s) ∧ (y.key = none → exec (.same k l) s = .next s)) ∧
    (∀ y, s.txnFind n = some y → y.st = .mem →
      let u := if y.kind = .rdS ∨ y.kind = .rdX then s.l3Alloc y.line d false (if mp = 0 then 0 else 2) else s
      exec (.memData l d mp) s = .next (u.txnMemory y (d, mp.val)).homeNext) ∧
    (∀ y, s.txnFind n = some y → y.st = .snpm → exec (.memData l d mp) s = .next
      ((s.l3Alloc n d false (if mp = 0 then 0 else 2)).txnSet { y with heldMem := some (d, mp.val) } .snp)) ∧
    (∀ y, s.txnFind n = some y → y.st ≠ .mem → y.st ≠ .snpm → exec (.memData l d mp) s = .next s) ∧
    (∀ y j b, s.txnFind n = some y → y.st = .ack → y.who = .core j b → j = k →
      let ring : BitVec 9 := (1 : BitVec 9) <<< ringOf k
      let old := ((s.dirFind n).map (·.mask)).getD 0
      exec (.doneMessage k l) s = .next
        ((s.setTxn n none).putDir (if y.grant = .s then s.dirEnt n false (old ||| ring) k else s.dirEnt n true ring k)).homeNext) ∧
    (let h := s.guardBreak (0x50 + t.val)
     (12 < countIf (fun i => bitAt v i) (List.range 16) → exec (.l3Lock t v w) s = .next (h.flag (R.L3_STATUS t.val) 4)) ∧
     (countIf (fun i => bitAt v i) (List.range 16) ≤ 12 →
       exec (.l3Lock t v w) s = .next (h.wr (R.L3_LOCK t.val) (BitVec.ofNat 32 (v.toNat % 2 ^ 16)))) ∧
     (let u := h.wr (R.LF_CTL t.val) (BitVec.ofNat 32 (way.toNat * 2))
      let ok := homed (u.lfLine t) = true ∧ u.homeOf (u.lfLine t) = t ∧ u.flagAt (R.HOME_PIN (u.classOf (u.lfLine t))) 0 = true ∧
        u.flagAt (R.L3_LOCK t.val) way.toNat = true ∧ (assocD u.cache.deadWays t.val []).contains way.toNat = false
      (ok → exec (.lockFill t way w) s = .next
        { u with cache := { u.cache with lockFill := u.cache.lockFill ++ [({ tile := t, line := u.lfLine t, way := way.toNat } : LockFill)] } }) ∧
      (¬ok → exec (.lockFill t way w) s = .next (u.flag (R.L3_STATUS t.val) 4))) ∧
     (let go := fun (o : Fin 4) (i : Instr) =>
        let u := h.wr (R.RNG_CTL 0) (BitVec.ofNat 32 (o.val * 2 + bitIf fb 3))
        let lo := (u.fld (R.RNG_BASE_HI 0) 0 14 * 2 ^ 32 + (u.rd (R.RNG_BASE_LO 0)).toNat) / 64
        let hi := (u.fld (R.RNG_END_HI 0) 0 14 * 2 ^ 32 + (u.rd (R.RNG_END_LO 0)).toNat) / 64
        (u.cache.range ≠ none → exec i s = .next (u.flag (R.L3_STATUS t.val) 7)) ∧
        (u.cache.range = none → exec i s = .next { u with cache := { u.cache with range := some ⟨t, o, fb, w.sealed, lo, hi, lo, 0, 0⟩ } })
      go 1 (.rangeClean t fb w) ∧ go 2 (.rangeInv t fb w) ∧ go 3 (.rangeClinv t fb w)))) ∧
  exec (.snpS k l) s = .next (s.snoopMsg k n .rdS) ∧ exec (.snpX k l) s = .next (s.snoopMsg k n .rdX) ∧
  exec (.snpCln k l) s = .next (s.snoopMsg k n .rdNa) ∧
  (windowLine ≤ n → exec (.data k l ⟨d, sub⟩ g) s = .next (s.versionIn k n d)) ∧
  (n < windowLine → (s.mshrFind k n = none ∨ s.noRoom k n = true → exec (.data k l ⟨d, sub⟩ g) s = .next s) ∧
    (∀ m, s.mshrFind k n = some m → s.noRoom k n = false → exec (.data k l ⟨d, sub⟩ g) s = .next
      (let u := (s.setMshr k n none).l2Fill k n (match g with | .s => .s | .e => .e | .m => .m) d sub.toNat
       ((u.count k (s.fillEvent k n) 1).outDrop (CohMsg.grants k n)).sendCoh (.done k n)))) ∧
  (∀ m, s.mshrFind k n = some m → m.zero = true → s.noRoom k n = false → exec (.grant k l) s = .next
    ((((s.setMshr k n none).l2Fill k n .m 0 0).outDrop (CohMsg.grants k n)).sendCoh (.done k n))) ∧
  ((s.mshrFind k n).any (·.zero) = false ∨ s.noRoom k n = true → exec (.grant k l) s = .next s) ∧
  (s.reqFind q n = none → exec (.nack q l) s = .next s ∧ exec (.nackRetry q l) s = .next s) ∧
  (∀ m, s.reqFind q n = some m →
    let u := s.reqSet q n (some { m with
      nacks := m.nacks + 1, waiting := true, fallback := false, due := s.now + BitVec.ofNat 64 (nackDelay (m.nacks + 1)) })
    exec (.nack q l) s = .next (match q with | .core j _ => u.count j 0x18 1 | _ => u) ∧
    (m.waiting = false ∨ s.fallbackOut q m.line = true → exec (.nackRetry q l) s = .next s) ∧
    (m.waiting = true → s.fallbackOut q m.line = false →
      let u := s.advanceTo m.due
      exec (.nackRetry q l) s = .next (match q with
        | .core j _ => ((u.reqSet q m.line (some { m with waiting := false, fallback := decide (16 ≤ m.nacks) })).count j 0x19
            (b2n (decide (16 ≤ m.nacks)))).sendCoh (.request q m.kind m.line (decide (16 ≤ m.nacks)))
        | _ => (u.reqSet q m.line (some { m with waiting := false })).sendCoh (.request q m.kind m.line false)))) ∧
  (∀ e, s.ebFind k n = some e →
    exec (.wbAck k l) s = .next (if e.sent = true then s.ebFree k n else s) ∧
    exec (.wbStale k l) s = .next (if e.sent = true then s.ebFree k n else s)) ∧
  (s.ebFind k n = none → exec (.wbAck k l) s = .next s ∧ exec (.wbStale k l) s = .next s) ∧
  (s.cache.range = none → exec (.rngEnd t) s = .next s) ∧
  (∀ r, s.cache.range = some r → (r.tile ≠ t ∨ ∃ j ∈ s.rangeHeld r, s.lineBusy j = true) → exec (.rngEnd t) s = .next s) ∧
  (∀ r, s.cache.range = some r → r.tile = t → (∀ j ∈ s.rangeHeld r, s.lineBusy j = false) →
    let c := r.op.val = 1 ∨ r.op.val = 3
    let i := r.op.val = 2 ∨ r.op.val = 3
    let x := (s.rangeHeld r).foldl (fun (acc : Nat × State) j =>
      let y := acc.2.cohCmo j (decide c) (decide i) r.force
      (acc.1 + b2n y.1, y.2)) (0, s)
    let u : State := { x.2 with cache := { x.2.cache with range := none } }
    let y := u.flag (R.L3_STATUS t.val) 6
    exec (.rngEnd t) s = .next (y.jlog y.now t.val 2 0x0b10 [(0, 1, r.op.val), (1, 1, b2n r.force), (2, 4, s.rangeLines r), (6, 4, x.1)]))

/-- R221, R233, R296, R298, R302, R369, R380: a lock fill that is done has cleaned and dropped what its way held and put the line there; neither that nor the drain of a class goes on while a transaction is open on a line it takes; a drained class has no directory entry, its lines written back and its recalls counted; a core's oldest store leaves its queue, and a core that is stopping is idle with its last; at an instruction boundary the core takes the interrupt that comes first; the timebase reaches the core's timer; a supervisor rings a doorbell. A fill, a drain, a store, a timer or a doorbell that is not there changes nothing (log entry 8). What the open event counters have gained is a free value (log entry 53), and what a drain waits for is log entry 90. -/
def Obligations.HomeAndCoreEvents : Prop := ∀ (s : State) (t : TileId) (c : Fin 64) (f : LockFill) (dr : Drain) (k : CoreId) (n : W64),
  (s.cache.lockFill.find? (fun x => x.tile == t) = some f →
    let olds := (s.cache.l3.filter (fun x => x.home == t && x.way == f.way && x.line % 2048 == f.line % 2048 && x.line != f.line)).map (·.line)
    ((∃ j ∈ f.line :: olds, s.lineBusy j = true) → exec (.lfDone t) s = .next s) ∧
    ((∀ j ∈ f.line :: olds, s.lineBusy j = false) →
      let u : State := { s with cache := { s.cache with lockFill := s.cache.lockFill.erase f } }
      let v := olds.foldl (fun (w : State) j => (w.cohCmo j true true true).2) u
      let r := v.memoryRead f.line
      exec (.lfDone t) s = .next ((v.l3PutWay t f.line f.way r.1 (((v.l3Find f.line).map (·.dirty)).getD false) r.2).flag (R.L3_STATUS t.val) 5))) ∧
  (s.cache.lockFill.find? (fun x => x.tile == t) = none → exec (.lfDone t) s = .next s) ∧
  (s.cache.drains.find? (fun d => d.cls == c.val) = none → exec (.rhDrain c) s = .next s) ∧
  (s.cache.drains.find? (fun d => d.cls == c.val) = some dr → (∃ x ∈ s.cache.txns, s.classOf x.line = c.val) → exec (.rhDrain c) s = .next s) ∧
  (s.cache.drains.find? (fun d => d.cls == c.val) = some dr → (∀ x ∈ s.cache.txns, s.classOf x.line ≠ c.val) →
    let ls := ((s.cache.dir.filter (fun e => e.cls == c.val)).map (·.line) ++ (s.cache.l3.filter (fun x => x.cls == c.val)).map (·.line)).eraseDups
    let u := ls.foldl (fun (w : State) j => (((match w.dirFind j with
      | some e => w.bump (R.CNT_DIR_EVICT e.home.val)
      | none => w) : State).cohCmo j true true true).2) s
    let v : State := { u with cache := { u.cache with drains := u.cache.drains.erase dr } }
    let y := (v.free 8).2
    let w := y.jlog y.now ((dr.first + (v.free 8).1.toNat % 2 ^ dr.size) % 72) 2 0x0b11 [(0, 1, c.val), (1, 4, dr.lines + ls.length)]
    exec (.rhDrain c) s = .next (w.cache.queue.foldl (fun (x : State) _ => x.homeNext) w)) ∧
  ((s.core k).sq = [] → exec (.storeDrain k) s = .next s) ∧
  (∀ u, (s.sqOne k = .ok () u ∨ s.sqOne k = .wait u ∨ ∃ x, s.sqOne k = .exc x u) → exec (.storeDrain k) s = .next u) ∧
  (s.boot.aon = false → exec (.interruptEntry k) s = .next s) ∧
  (s.boot.aon = true →
   let u := (s.setCore k ((s.core k).evSync s.coreCycles)).evDraw k
   (u.nextIrq k = none → exec (.interruptEntry k) s = .next u) ∧
   (∀ j, u.nextIrq k = some j → exec (.interruptEntry k) s = .next (u.irqEntry k j (u.core k).blkWait))) ∧
  ((s.core k).tmr = 0 → exec (.timerSource k) s = .next s) ∧
  ((s.core k).tmr ≠ 0 → exec (.timerSource k) s = .next (s.advanceTo (s.core k).tmr)) ∧
  ((s.core k).run = .running → (s.core k).sup = true → exec (.doorbell k n) s = .next (s.ringDoor (s.core k).sealed n)) ∧
  ((s.core k).run ≠ .running ∨ (s.core k).sup = false → exec (.doorbell k n) s = .next s)

/-- R400, R404, R406, R409, R411, R420, R425, R426, R428, R481: a slot that reaches its destination is taken or goes round, a parity error drops it, an empty slot takes an escaped packet; a transaction that times out at its home writes its dirty data back; a lane is retired by a failure or by the lane test; a memory controller reads, merges, drains, patrols, initialises and copies. A slot of a type never sent is dropped where it arrives, and a packet for a controller whose input entry is taken goes round unless it has priority; a controller whose domain is down gives no data. A requester that times out is a core, which takes a machine check where it runs, or an agent.
A command that names nothing there, a controller that is down and a device in reset change nothing (log entry 8). HOLD, the emptied slot and TAG are log entry 37, the counts of a read corrected in several codewords log entry 86. -/
def Obligations.RingAndMemory : Prop := ∀ (s : State) (p : RingPass) (k : CoreId) (q : CohReq) (l : LineAddr) (ring : Fin 17) (dir : Bool) (lane : Fin 3) (v : W32)
    (c : Fin 13) (line : BitVec 32) (e : EccOutcome) (a z : Fin 64) (d : Line) (po : Bool) (slot : Fin 16) (cl : BitVec 15),
  (s.boot.aon = false → ∀ i ∈ [Instr.ringPass p, .ringLaneFail ring dir lane, .laneTest ring v, .traceRestart ring, .memRd c line e, .memWr c line a z d po],
    exec i s = .next s) ∧
  (ringLen p.ring.val ≤ p.pos.val → exec (.ringPass p) s = .next s) ∧
  (s.boot.aon = true → p.pos.val < ringLen p.ring.val →
    let st := stationAt p.ring.val p.pos.val
    let u := s.offered st p.offer
    let g := u.rg p.ring.val
    (p.hpar = true → exec (.ringPass p) s = .next ((u.hparDrop p).emptyOn p)) ∧
    (p.hpar = false → p.pkt.type.val = 0 →
      (∀ x, assoc? g.esc (passKey p) = some x → exec (.ringPass p) s = .next
        ((u.setRg p.ring.val { g with esc := assocDel g.esc (passKey p) }).hopOn p x)) ∧
      (∀ x, assoc? g.esc (passKey p) = none → assoc? g.turning (passKey p * 4 + p.lane.val) = some x → exec (.ringPass p) s = .next
        ((u.setRg p.ring.val { g with turning := assocDel g.turning (passKey p * 4 + p.lane.val) }).hopOn p x)) ∧
      (assoc? g.esc (passKey p) = none → assoc? g.turning (passKey p * 4 + p.lane.val) = none →
        let mayInject := (g.dir p.dir).inUse.getLsbD p.lane.val = true ∧ u.holdOut p = false ∧ (u.holdSt p).quiet = 0
        (¬ mayInject → exec (.ringPass p) s = .next (u.emptyOn p)) ∧
        (mayInject → u.ring.waiting.find? (u.fits p) = none → exec (.ringPass p) s = .next (u.emptyOn p)) ∧
        (∀ x, mayInject → u.ring.waiting.find? (u.fits p) = some x → exec (.ringPass p) s = .next
          (let w : State := { u with ring := { u.ring with waiting := u.ring.waiting.erase x } }
           ((w.tokenTake st x.cls.val).sampled p.ring.val x).hopOn p x)))) ∧
    (p.hpar = false → 30 ≤ p.pkt.type.val → exec (.ringPass p) s = .next ((u.bump (R.CNT_HPAR p.ring.val)).emptyOn p)) ∧
    (p.hpar = false → p.pkt.type.val ≠ 0 → p.pkt.type.val < 30 → p.pkt.dst.val = st →
      let full := ∃ ch, memcAt st = some ch ∧ (u.memc ch).input ≠ none
      ((p.room = true ∧ ¬ full) ∨ p.pkt.prio = true → exec (.ringPass p) s = .next ((u.eject p).emptyOn p)) ∧
      ((p.room = false ∨ full) → p.pkt.prio = false → exec (.ringPass p) s = .next (u.deflect p))) ∧
    (p.hpar = false → p.pkt.type.val ≠ 0 → p.pkt.type.val < 30 → p.pkt.dst.val ≠ st →
      (hasNextLeg p.pkt = false ∨ nextRing p.pkt = none → exec (.ringPass p) s = .next (u.hopOn p p.pkt)) ∧
      (∀ nr, nextRing p.pkt = some nr → posOn nr st = none → exec (.ringPass p) s = .next (u.hopOn p p.pkt)) ∧
      (∀ nr np, hasNextLeg p.pkt = true → nextRing p.pkt = some nr → posOn nr st = some np →
        exec (.ringPass p) s = .next (u.turn p nr np)))) ∧
  (∀ m, s.reqFind q l.toNat = some m → s.ringLate m.since = false → exec (.ringTimeout q l) s = .next s) ∧
  (∀ m, s.reqFind q l.toNat = some m → s.ringLate m.since = true →
    let u := (s.reqSet q l.toNat none).timeoutLog false (askStation q) l.toNat
    (∀ j b, q = .core j b →
      let r := u.outDrop (CohMsg.grants j l.toNat)
      ((r.core j).run ≠ .running → exec (.ringTimeout q l) s = .next r) ∧
      ((r.core j).run = .running → exec (.ringTimeout q l) s = .next
        (r.raise j { r.excAt j 0x0f 14 8 (BitVec.ofNat 64 (l.toNat * 64)) with blk := (r.core j).blkWait }))) ∧
    ((∀ j b, q ≠ .core j b) → exec (.ringTimeout q l) s = .next u)) ∧
  (s.reqFind q l.toNat = none → (∀ j b, q ≠ .core j b) → exec (.ringTimeout q l) s = .next s) ∧
  (∀ b, s.mshrFind k l.toNat = none → (∀ e, s.ebFind k l.toNat = some e → (e.sent && s.ringLate e.since) = false) →
    exec (.ringTimeout (.core k b) l) s = .next s) ∧
  (∀ b e, s.mshrFind k l.toNat = none → s.ebFind k l.toNat = some e → (e.sent && s.ringLate e.since) = true →
    exec (.ringTimeout (.core k b) l) s = .next (((s.ebFree k l.toNat).timeoutLog false (k.val / 2) l.toNat).ringCheck k l.toNat)) ∧
  (s.txnFind l.toNat = none → exec (.ringHomeTimeout l) s = .next s) ∧
  (∀ x, s.txnFind l.toNat = some x → s.ringLate x.since = false → exec (.ringHomeTimeout l) s = .next s) ∧
  (∀ x, s.txnFind l.toNat = some x → s.ringLate x.since = true →
    let u := match x.dirty with
      | some d => s.homeWrite l.toNat fullMask d.1 true d.2
      | none => s
    exec (.ringHomeTimeout l) s = .next
      ((((((u.wbStales x).setTxn l.toNat none).setDir l.toNat none).unpark l.toNat).timeoutLog true x.home.val l.toNat).homeNext)) ∧
  (s.boot.aon = true → exec (.ringLaneFail ring dir lane) s = .next (s.laneFail ring.val dir lane.val)) ∧
  (s.boot.aon = true →
   let u := (s.guardBreak (0x38 + ring.val)).wr (R.RG_LANE_TEST ring.val) (v &&& 7)
   exec (.laneTest ring v) s = .next (if v.getLsbD 3 = true then u.laneFail ring.val (v.getLsbD 2) (v.toNat % 4) else u)) ∧
  (s.boot.aon = true → exec (.traceRestart ring) s = .next ((s.guardBreak (0x38 + ring.val)).wr (R.TRC_WPTR ring.val) 0)) ∧
  (s.chanUp c.val = false → exec (.memRd c line e) s = .next s ∧ exec (.memWr c line a z d po) s = .next s) ∧
  (s.boot.aon = true → s.chanUp c.val = true →
   (let r := s.eccRead c.val line.toNat .demand e
    let pa := r.2.addrOf c.val line.toNat
    (r.2.berthAt c.val line.toNat = none → exec (.memRd c line e) s = .next (r.2.memNotes.sendCoh (.memData (pa / 64) r.1.1 r.1.2))) ∧
    (∀ b, r.2.berthAt c.val line.toNat = some b → exec (.memRd c line e) s = .next
      (r.2.memNotes.sendCoh (.memData (pa / 64) (r.2.cipher xtsOpen pa r.1.1) r.1.2)))) ∧
   (let m := maskOf a.val z.val
    let pa := s.addrOf c.val line.toNat
    (s.berthAt c.val line.toNat = none ∨ s.sealedAt pa = none →
       exec (.memWr c line a z d po) s = .next (s.chanWrite c.val line.toNat m d po (m == fullMask)).memNotes) ∧
    (∀ b r, s.berthAt c.val line.toNat = some b → s.sealedAt pa = some r → m = fullMask →
       exec (.memWr c line a z d po) s = .next (s.chanWrite c.val line.toNat fullMask (s.cipher xtsSeal pa d) po true).memNotes) ∧
    (∀ b r, s.berthAt c.val line.toNat = some b → s.sealedAt pa = some r → m ≠ fullMask →
       let old := s.openChan pa c.val line.toNat
       exec (.memWr c line a z d po) s = .next
         (s.chanWrite c.val line.toNat fullMask (s.cipher xtsSeal pa (mergeLine old.1 d m)) (po || old.2) false).memNotes))) ∧
  exec (.mergeDrain c) s = .next (s.drainOne c.val).memNotes ∧
  (s.flagAt (R.PATROL_CTL c.val) 0 = false ∨ s.boot.step ≠ 14 → exec (.patrolRead c e) s = .next s) ∧
  (s.boot.step = 14 → s.flagAt (R.PATROL_CTL c.val) 0 = true → assoc? s.boot.initPass c.val = none →
    (s.patrolNext c.val = none → exec (.patrolRead c e) s = .next (if s.validPlaces c.val = [] then s else s.patrolEnd c.val)) ∧
    (∀ o n, s.patrolNext c.val = some (o, n) →
      let u := ((s.advanceTo ((s.memc c.val).patrolAt + BitVec.ofNat 64 (s.patrolGap c.val))).eccRead c.val (o * 32768 + n) .patrol e).2
      let w := u.setMemc c.val { u.memc c.val with
        patrolAt := u.now, patrolOff := if n + 1 < 32768 then o else o + 1, patrolLine := if n + 1 < 32768 then n + 1 else 0 }
      exec (.patrolRead c e) s = .next (if w.patrolNext c.val = none then w.patrolEnd c.val else w))) ∧
  (assoc? s.boot.initPass c.val = none → exec (.initialisationPass c) s = .next s) ∧
  (∀ pos, assoc? s.boot.initPass c.val = some pos →
    (s.initPlace c.val (pos / 32768) (s.placesOf c.val - pos / 32768) = none → exec (.initialisationPass c) s = .next
      { s with boot := { s.boot with initPass := assocDel s.boot.initPass c.val } }) ∧
    (∀ o, s.initPlace c.val (pos / 32768) (s.placesOf c.val - pos / 32768) = some o →
      let x := if o = pos / 32768 then pos else o * 32768
      let t := s.advanceTo ((s.memc c.val).patrolAt + 32)
      let u := (t.setMemc c.val { t.memc c.val with patrolAt := t.now }).arrayWrite c.val x fullMask 0 false
      let w : State := { u with boot := { u.boot with initPass := assocSet u.boot.initPass c.val (x + 1) } }
      exec (.initialisationPass c) s = .next
        (if w.initPlace c.val ((x + 1) / 32768) (w.placesOf c.val - (x + 1) / 32768) = none then
          { w with boot := { w.boot with initPass := assocDel w.boot.initPass c.val } } else w))) ∧
  (assoc? s.mem.copies slot.val = none → exec (.migrationCopyLine slot e) s = .next s ∧ exec (.copyWriteAck slot cl) s = .next s) ∧
  (∀ x y, assoc? s.mem.copies slot.val = some x → x.readSent = false → x.ptr < 32768 →
    let r := s.migPace.eccRead x.srcCh (x.srcOff * 32768 + x.ptr) .copy e
    let u := r.2.arrayWrite x.dstCh (x.dstOff * 32768 + x.ptr) fullMask r.1.1 (r.1.2 != 0)
    assoc? u.mem.copies slot.val = some y → exec (.migrationCopyLine slot e) s = .next (u.setCopy slot.val { y with readSent := true })) ∧
  (∀ x, assoc? s.mem.copies slot.val = some x →
    (cl.toNat = x.ptr → x.readSent = true →
      let u := s.setCopy slot.val { x with ptr := x.ptr + 1, readSent := false }
      exec (.copyWriteAck slot cl) s = .next ((if x.ptr + 1 = 32768 then (u.flag R.BT_STATUS 1).bump R.CNT_COPY else u).releaseHeld slot.val cl.toNat)) ∧
    ((cl.toNat ≠ x.ptr ∨ x.readSent = false) → x.unacked.contains cl.toNat = true → exec (.copyWriteAck slot cl) s = .next
      ((s.setCopy slot.val { x with unacked := x.unacked.erase cl.toNat }).releaseHeld slot.val cl.toNat)) ∧
    ((cl.toNat ≠ x.ptr ∨ x.readSent = false) → x.unacked.contains cl.toNat = false → exec (.copyWriteAck slot cl) s = .next s))
/-! ### Ports, Lantern, the Keeper, boot, clocks and registers -/

/-- R434 to R437, R439 to R445, R447 to R450, R452: descriptors, frames and links of the ports. A ring tail counts modulo 4,096; a port takes its next descriptor when the ring holds one, answers a length outside 60 to 9,212 with result 8 and a buffer it cannot read with 16; a frame sent is stamped after its preamble; a received PAUSE frame or one of a wrong size only counts, one with an FCS error completes its receive entry with that flag and moves nothing (log entry 41); without the token no CAN frame is sent and a ring entry completes as not sent; an error raises the receive count by the steps of log entry 42; bus-off needs recovery; an inbound PCIe request outside what it may reach is unsupported, and one that addresses no range is recorded (R413).
A port, controller or half that is not used and a device in reset take nothing (log entry 8). -/
def Obligations.PortCommands : Prop := ∀ (s : State) (p : Fin 8) (c : Fin 16) (q : Fin 2) (v : W32) (bs : List Byte) (ok up : Bool) (w : Requester)
    (f : CanFrame) (rid : W16) (addr : W64) (len : Fin 4097) (gen : Fin 8) (width : Fin 16) (wb : List (Option Byte)),
  let b := p.val / 4
  let i := p.val % 4
  (s.boot.aon = false → exec (.ringTailWrite (.net p) q v) s = .next s ∧ exec (.ringTailWrite (.can c) q v) s = .next s) ∧
  (s.boot.aon = true →
    exec (.ringTailWrite (.net p) q v) s = .next ((s.guardBreak (0x1c + b)).wr (R.net_RING_TAIL b i q.val) (BitVec.ofNat 32 (v.toNat % 4096))) ∧
    exec (.ringTailWrite (.can c) q v) s = .next ((s.guardBreak 0x1f).wr (R.can_RING_TAIL c.val q.val) (BitVec.ofNat 32 (v.toNat % 4096)))) ∧
  (let size := ringSize (s.rd (netCtl p.val 0))
   let n := (s.port p.val).taken % size
   let take := fun (u : State) => u.setPort p.val { u.port p.val with taken := (n + 1) % size }
   (s.portMode p.val = 0 ∨ ringGap size n (s.netTail p.val 0) = 0 → exec (.netTxDescriptor p) s = .next s) ∧
   (s.portMode p.val ≠ 0 → ringGap size n (s.netTail p.val 0) ≠ 0 → ∀ d u, s.bufRead .port (s.portSealed p.val) (s.netEntry p.val 0 n) 32 = some (d, u) →
     (descNum d 8 2 < 60 ∨ 9212 < descNum d 8 2 → exec (.netTxDescriptor p) s = .next ((take u).txComplete p.val n 8 none)) ∧
     (60 ≤ descNum d 8 2 → descNum d 8 2 ≤ 9212 →
       (u.bufRead .port (s.portSealed p.val) (descNum d 0 8) (descNum d 8 2) = none →
         exec (.netTxDescriptor p) s = .next ((take u).txComplete p.val n 16 none)) ∧
       (∀ fb x, u.bufRead .port (s.portSealed p.val) (descNum d 0 8) (descNum d 8 2) = some (fb, x) →
         (64 ≤ ((x.port p.val).queue (descNum d 10 1 % 8)).length → exec (.netTxDescriptor p) s = .next x) ∧
         (((x.port p.val).queue (descNum d 10 1 % 8)).length < 64 → exec (.netTxDescriptor p) s = .next
           (take (x.setPort p.val ((x.port p.val).enq (descNum d 10 1 % 8)
             { bytes := fb, entry := some n, stamp := descNum d 11 1 % 2 == 1, tag := BitVec.ofNat 32 (descNum d 12 4) })))))))) ∧
  (let r := s.gclCatch p.val 256
   let x := r.port p.val
   (x.sending ≠ none ∨ r.portMode p.val = 0 ∨ r.flagAt (R.PORT_STATE b i) 0 = false ∨ r.txClass p.val = none → exec (.frameTransmit p) s = .next r) ∧
   (∀ k g, x.sending = none → r.portMode p.val ≠ 0 → r.flagAt (R.PORT_STATE b i) 0 = true → r.txClass p.val = some (k, g) →
    let t := r.now + BitVec.ofNat 64 (64 * bitTime (r.portMode p.val) / 50 + r.fld (R.PORT_DLY b i) 0 16)
    let u := r.setPort p.val { x with queues := assocSet x.queues k ((x.queue k).drop 1), sending := some (g, t), out := g.bytes :: x.out }
    exec (.frameTransmit p) s = .next (if g.stamp = true then u.txStamp p.val g.tag t else u))) ∧
  ((s.port p.val).sending = none → exec (.netFrameEnd p) s = .next s) ∧
  (∀ g t, (s.port p.val).sending = some (g, t) →
    let u := (s.setPort p.val { s.port p.val with sending := none }).bump (R.CNT_TX b i)
    (g.entry = none → exec (.netFrameEnd p) s = .next u) ∧
    (∀ n, g.entry = some n → exec (.netFrameEnd p) s = .next (u.txComplete p.val n 0 (if g.stamp = true then some t else none)))) ∧
  (s.portMode p.val = 0 → exec (.netRxFrame p bs ok) s = .next s) ∧
  (s.portMode p.val ≠ 0 →
    (isPause bs = true ∨ bs.length < 60 ∨ 9212 < bs.length → exec (.netRxFrame p bs ok) s = .next (s.bump (R.CNT_RX_DROP b i))) ∧
    (isPause bs = false → 60 ≤ bs.length → bs.length ≤ 9212 →
      let t := s.now + BitVec.ofNat 64 (s.fld (R.PORT_DLY b i) 16 16)
      (ok = false → exec (.netRxFrame p bs ok) s = .next ((s.bump (R.CNT_RX_DROP b i)).netToRing p.val bs false t)) ∧
      (ok = true → exec (.netRxFrame p bs ok) s = .next (((s.bump (R.CNT_RX b i)).netMatches p.val bs t).netToRing p.val bs true t)))) ∧
  (let x := s.port p.val
   let t := x.gclAt + BitVec.ofNat 64 (x.gclEntry x.gclIdx).2
   ((s.gclCtl p.val).getLsbD 0 = true → x.gclIdx + 1 < (s.gclCtl p.val).toNat / 32 % 512 →
     exec (.gclEntry p) s = .next ((s.advanceTo t).setPort p.val { x with gclIdx := x.gclIdx + 1, gclAt := t })) ∧
   ((s.gclCtl p.val).getLsbD 0 = false ∨ (s.gclCtl p.val).toNat / 32 % 512 ≤ x.gclIdx + 1 → exec (.gclEntry p) s = .next s)) ∧
  (up = true → s.portMode p.val = 0 → exec (.netLink p up) s = .next s) ∧
  (let cfg := s.rd (R.PORT_CFG b i)
   s.boot.aon = true → up = false ∨ s.portMode p.val ≠ 0 → exec (.netLink p up) s = .next ((((s.setFld (R.PORT_STATE b i) 0 1 (b2n up)).flag (R.PORT_STATUS b i) (if up then 0 else 1))).jlogW
     (s.portSealed p.val) s.now (netStation p.val) p.val 0x0e00 [(0, 1, p.val), (1, 1, b2n up), (2, 1, cfg.toNat % 4), (3, 1, cfg.toNat / 4 % 4)] [])) ∧
  ((s.portSealed p.val = true ∧ w.sealed = false) ∨ (s.port p.val).txs = [] → exec (.txsTagPop p w) s = .next { s with readVal := 0 }) ∧
  (∀ tag t r, (s.portSealed p.val = false ∨ w.sealed = true) → (s.port p.val).txs = (tag, t) :: r → exec (.txsTagPop p w) s = .next
    { s.setPort p.val { s.port p.val with txs := r, txsLatch := t } with readVal := BitVec.ofNat 32 (tag.toNat + 2 ^ 31) }) ∧
  (s.canOn c.val = false ∨ (s.canc c.val).busOff = true ∨ s.canRxOn c.val = false → exec (.canFrameReceive c f) s = .next s) ∧
  (s.canOn c.val = false ∨ (s.holder = true ∧ (s.canc c.val).busOff = true) → exec (.canTransmit c ok) s = .next s) ∧
  (s.canOn c.val = true → (s.canc c.val).busOff = false → s.canRxOn c.val = true → f.error ≠ 0 → exec (.canFrameReceive c f) s = .next
    ((s.setCanc c.val { s.canc c.val with rxErr := min 255 ((s.canc c.val).rxErr + (if f.error = 1 then 1 else 9)) }).canFollow c.val)) ∧
  (s.canOn c.val = true →
    (let y := (s.setCanc c.val { s.canc c.val with rxErr := recDown (s.canc c.val).rxErr }).canFollow c.val
     let u := y.canMatches c.val f s.now
     let r := u.canRing c.val 1
     (s.canc c.val).busOff = false → s.canRxOn c.val = true → f.error = 0 →
     (ringGap r.2.2 r.1 r.2.1 = 0 → exec (.canFrameReceive c f) s = .next (u.flag (R.CC_STATUS c.val) 5)) ∧
     (ringGap r.2.2 r.1 r.2.1 ≠ 0 →
       let x := (u.bufWrite .port (u.canSealed c.val) (u.canEntry c.val 1 r.1) (canRecord f s.now)).getD u
       exec (.canFrameReceive c f) s = .next ((x.setFld (R.can_RING_CTL c.val 1) 16 12 ((r.1 + 1) % r.2.2)).flag (R.CC_STATUS c.val) 3))) ∧
    (s.holder = false → s.canRingRecs c.val = [] → exec (.canTransmit c ok) s = .next s) ∧
    (∀ n r, s.holder = false → s.canRingRecs c.val = n :: r → exec (.canTransmit c ok) s = .next (s.canComplete c.val n 4 none)) ∧
    (s.holder = true → (s.canc c.val).busOff = false → lowestOffer (s.canOffers c.val).1 = none → exec (.canTransmit c ok) s = .next s) ∧
    (∀ g, s.holder = true → (s.canc c.val).busOff = false → lowestOffer (s.canOffers c.val).1 = some g →
      let u := (s.canOffers c.val).2
      let x := u.canc c.val
      let good := ok = true ∧ u.canTxOn c.val = true ∧ u.canRxOn c.val = true
      (¬ good → exec (.canTransmit c ok) s = .next ((u.setCanc c.val { x with txErr := x.txErr + 8, busOff := decide (255 < x.txErr + 8), recovering := false }).canFollow c.val)) ∧
      (let y := (u.setCanc c.val { x with
          txErr := x.txErr - 1, out := g.bytes :: x.out
          pend := if g.isSlot then x.pend.filter (fun o => o.slot != g.index) else x.pend
          relTags := if g.isSlot then assocSet x.relTags g.index (BitVec.ofNat 16 (leNat ((g.bytes.drop 6).take 2))) else x.relTags }).canFollow c.val
       good → exec (.canTransmit c ok) s = .next (if g.isSlot = true then y else y.canComplete c.val g.index 0 (some y.now))))) ∧
  (s.boot.aon = false → exec (.canRecover c) s = .next s ∧ exec (.netLink p up) s = .next s ∧ exec (.msiDoor p v) s = .next s ∧
    exec (.pcieAer p ok) s = .next s ∧ exec (.perst p v) s = .next s ∧ exec (.retrain p v) s = .next s) ∧
  (s.boot.aon = true →
   let h := s.guardBreak 0x1f
   ((h.canc c.val).busOff = true → h.flagAt (R.CC_CFG c.val) 1 = false →
     exec (.canRecover c) s = .next (h.setCanc c.val { h.canc c.val with recovering := true })) ∧
   ((h.canc c.val).busOff = false ∨ h.flagAt (R.CC_CFG c.val) 1 = true → exec (.canRecover c) s = .next h)) ∧
  ((s.canc c.val).busOff = false → exec (.busOffRecovery c) s = .next s) ∧
  ((s.canc c.val).busOff = true → ((s.canc c.val).recovering = true ∨ s.flagAt (R.CC_CFG c.val) 1 = true) → exec (.busOffRecovery c) s = .next
    (((s.setCanc c.val { s.canc c.val with busOff := false, recovering := false, txErr := 0, rxErr := 0, last := 0 }).flag (R.CC_STATUS c.val) 2).canLog c.val 0)) ∧
  (s.halfOn p.val = false → exec (.pcieInbound (.read p rid addr len)) s = .next s ∧ exec (.pcieInbound (.write p rid addr wb)) s = .next s) ∧
  (s.halfOn p.val = true →
    (let door := doorOnly addr.toNat len.val = true
     let goes := ¬door ∧ rangeOf addr.toNat ≠ .nothing
     let ur := Host.Outcome.next (φ := Fault) (ρ := Refusal) ((s.pcieUr p.val false rid addr).pcieSend (.unsupported p.val))
     (door → exec (.pcieInbound (.read p rid addr len)) s = .next (s.pcieSend (.completion p.val (List.replicate len.val 0)))) ∧
     (¬door → rangeOf addr.toNat = .nothing → exec (.pcieInbound (.read p rid addr len)) s = .next
       ((s.requestNotes .pcie (s.pcieSealed p.val) false [addr.toNat]).pcieSend (.completion p.val (List.replicate len.val 0)))) ∧
     (goes → pcieAllowed addr.toNat = false → exec (.pcieInbound (.read p rid addr len)) s = ur) ∧
     (goes → pcieAllowed addr.toNat = true → s.bufRead .pcie (s.pcieSealed p.val) addr.toNat len.val = none →
       exec (.pcieInbound (.read p rid addr len)) s = ur) ∧
     (∀ d u, goes → pcieAllowed addr.toNat = true → s.bufRead .pcie (s.pcieSealed p.val) addr.toNat len.val = some (d, u) →
       exec (.pcieInbound (.read p rid addr len)) s = .next (u.pcieSend (.completion p.val d)))) ∧
    (let door := doorOnly addr.toNat wb.length = true
     let goes := ¬door ∧ rangeOf addr.toNat ≠ .nothing
     let w := s.pcieSealed p.val
     (door → wb.length = 4 → (∀ x ∈ wb, x ≠ none) →
       exec (.pcieInbound (.write p rid addr wb)) s = .next (s.msi p.val (leNat (wb.map (·.getD 0)) % 256))) ∧
     (door → (wb.length ≠ 4 ∨ none ∈ wb) → exec (.pcieInbound (.write p rid addr wb)) s = .next (s.guardBreak 0x1e)) ∧
     (¬door → rangeOf addr.toNat = .nothing → exec (.pcieInbound (.write p rid addr wb)) s = .next (s.requestNotes .pcie w true [addr.toNat])) ∧
     (goes → pcieAllowed addr.toNat = false → exec (.pcieInbound (.write p rid addr wb)) s = .next (s.pcieUr p.val true rid addr)) ∧
     (goes → pcieAllowed addr.toNat = true →
       (wb = [] → exec (.pcieInbound (.write p rid addr wb)) s = .next s) ∧
       (wb ≠ [] → s.mapped w true addr.toNat wb.length = false → exec (.pcieInbound (.write p rid addr wb)) s = .next (s.pcieUr p.val true rid addr)) ∧
       (wb ≠ [] → s.mapped w true addr.toNat wb.length = true → exec (.pcieInbound (.write p rid addr wb)) s = .next
         ((byteRuns 0 [] wb).foldl (fun (u : State) r => u.wpaWrites .pcie w (addr.toNat + r.1) r.2 (r.2.length / 2 ^ 21 + 2))
           (s.bufNotes .pcie w true addr.toNat wb.length)))))) ∧
  (s.halfOn p.val = false → exec (.msiDoor p v) s = .next s ∧ exec (.pcieAer p ok) s = .next s) ∧
  (s.boot.aon = true → s.halfOn p.val = true → exec (.msiDoor p v) s = .next (s.msi p.val (v.toNat % 256))) ∧
  (up = true → s.linkFits p.val gen.val width.val = false → exec (.pcieLink p up gen width) s = .next s) ∧
  (up = false ∨ s.linkFits p.val gen.val width.val = true → exec (.pcieLink p up gen width) s = .next
    (((s.wr (R.PH_STATE p.val) (BitVec.ofNat 32 (if up then 1 + gen.val * 2 + width.val * 16 else 0))).flag (R.PH_STATUS p.val) (if up then 0 else 1)).jlogW
      (s.pcieSealed p.val) s.now 96 p.val 0x0e20 [(0, 1, p.val), (1, 1, b2n up), (2, 1, gen.val), (3, 1, width.val)] [])) ∧
  (s.boot.aon = true → s.halfOn p.val = true → exec (.pcieAer p ok) s = .next
    ((((s.free 32).2.flag (R.PH_STATUS p.val) (if ok then 4 else 3)).bump (R.CNT_AER p.val)).jlogW ((s.free 32).2.pcieSealed p.val) (s.free 32).2.now 96 p.val 0x0e22
      [(0, 1, p.val), (1, 1, b2n ok), (4, 4, (Config.freeBits 32 s.freeCtr).toNat)] [])) ∧
  (s.boot.aon = true → exec (.perst p v) s = .next ((s.guardBreak 0x1e).phCtl p.val v) ∧ exec (.retrain p v) s = .next ((s.guardBreak 0x1e).phCtl p.val v))

/-- R454 to R467: sensors, the log, the watchdogs, wear, and Lantern's services. A kick loads an enabled watchdog; one that has reached 0 is journaled and acts by its field; a doorbell to a BUSY mailbox is dropped; the services answer the request of the mailbox that is next, with result 3 for a bad parameter, 4 for a bad buffer, 7 without an open update and 8 without the confirm word. A service of a mailbox that is not next, a watchdog that has not reached 0, a part that the book holds, and a datagram to another address or port, of another length or while one is pending, change nothing (log entries 8 and 44); nor does a device in reset take a kick or a doorbell (R471). -/
def Obligations.LanternCommands : Prop := ∀ (s : State) (rs : List SensorReading) (k : Fin 4) (v : W32) (m : LnMbox) (r : Fin 8) (src : UdpSrc) (hd : UdpHead)
    (bs : List Byte) (core : CoreId) (ch : Fin 13) (bay : BayId) (eng : EngId),
  (s.boot.step < 2 → exec (.sensorSample rs) s = .next s) ∧
  (let u := s.sampleDue.sampleTaken rs
   let hot := u.thermals.any (fun p => decide (u.tripPoint ≤ p.2))
   2 ≤ s.boot.step →
   (rs.any u.stopsDevice = true → exec (.sensorSample rs) s = .next (u.fullReset 4)) ∧
   (rs.any u.stopsDevice = false → hot = true → u.lan.tripSeen = true → exec (.sensorSample rs) s = .next (u.fullReset 9)) ∧
   (rs.any u.stopsDevice = false → (hot = false ∨ u.lan.tripSeen = false) → exec (.sensorSample rs) s = .next { u with lan := { u.lan with tripSeen := hot } })) ∧
  exec .nvmProgram s = .next s.logFlush ∧
  (s.boot.aon = false → exec (.wdKick k v) s = .next s ∧ exec (.lnDoor r) s = .next s) ∧
  (s.boot.aon = true →
   let h := s.guardBreak 0x22
   (v.getLsbD 0 = true → h.flagAt (R.WD_CFG k.val) 18 = true → exec (.wdKick k v) s = .next
     (h.wr (R.WD_LEFT k.val) (BitVec.ofNat 32 (h.fld (R.WD_CFG k.val) 0 16)))) ∧
   (v.getLsbD 0 = false ∨ h.flagAt (R.WD_CFG k.val) 18 = false → exec (.wdKick k v) s = .next h)) ∧
  (s.lan.wdDue.contains k.val = false → exec (.wdExpire k) s = .next s) ∧
  (s.lan.wdDue.contains k.val = true → s.fld (R.WD_CFG k.val) 16 2 ≠ 2 →
    let a := s.fld (R.WD_CFG k.val) 16 2
    let u := State.jlog { s with lan := { s.lan with wdDue := s.lan.wdDue.filter (· != k.val) } } s.now 103 0 0x0f02 [(0, 1, k.val), (1, 1, 1), (2, 1, a)]
    exec (.wdExpire k) s = .next (if a = 1 then u.safeAll else u)) ∧
  (s.inBook 1 core.val 0 = false → s.fld R.LN_WEAR 0 16 < assocD s.lan.agingMean (core.val / 2) 0 →
    exec (.wearJudge (.core core)) s = .next ((s.judgeWorn 1 core.val 0 0).coreWorn core)) ∧
  (s.inBook 1 core.val 0 = true → exec (.wearJudge (.core core)) s = .next s) ∧
  (s.inBook 3 ch.val ch.val = false → (s.fld R.LN_WEAR 16 8 ≤ (s.rd (R.CNT_HARD ch.val)).toNat ∨ s.fld R.LN_WEAR 24 8 ≤ (s.rd (R.memc_CNT_UE ch.val)).toNat) →
    let u := s.judgeWorn 3 ch.val ch.val 0
    exec (.wearJudge (.channel ch)) s = .next { u with mem := { u.mem with wornCh := u.mem.wornCh ++ [ch.val] } }) ∧
  (s.inBook 5 eng.val bay.val = false → s.haltedTwice 8 eng.val bay.val = true →
    let u := s.judgeWorn 5 eng.val bay.val 0
    exec (.wearJudge (.engine bay eng)) s = .next { u with hive := { u.hive with antWorn := u.hive.antWorn ++ [(bay.val, eng.val)] } }) ∧
  (s.boot.aon = true → ((s.guardBreak 0x22).lnMb r.val).st = 1 → exec (.lnDoor r) s = .next ((s.guardBreak 0x22).flag R.LN_STATUS 9)) ∧
  (s.boot.aon = true → ((s.guardBreak 0x22).lnMb r.val).st ≠ 1 →
    let h := s.guardBreak 0x22
    let u : State := { h with lan := { h.lan with mbox := assocSet h.lan.mbox r.val { h.lnMb r.val with st := 1 } } }
    exec (.lnDoor r) s = .next (u.lnUnknown 8) ∧
    (∀ j, allMb.find? (fun x => (u.lnMb x.val).st == 1) = some j → lnKnown (descNum (u.lnReq (.reg j)) 0 1) = true → u.lnUnknown 8 = u)) ∧
  (let req := s.lnReq m
   let asks := fun (code : Nat) => s.lnNext m = true ∧ descNum req 0 1 = code
   (s.lnNext m = false → ∀ i ∈ [Instr.sensors m, .logRead m, .ringRead m, .bookRead m, .updateOpen m, .updateWrite m, .updateCommit m, .slotInfo m, .reset m],
     exec i s = .next s) ∧
   (asks 1 → (1 ≤ descNum req 9 1 ∧ descNum req 9 1 ≤ 14 ∧ descNum req 8 1 + descNum req 9 1 ≤ 224) → exec (.sensors m) s = .next
     (s.lnDone m 0 ((rangeFrom (descNum req 8 1) (descNum req 9 1)).flatMap (fun i => toBytes (s.sensWord i) 4)) [])) ∧
   (asks 1 → (descNum req 9 1 < 1 ∨ 14 < descNum req 9 1 ∨ 224 < descNum req 8 1 + descNum req 9 1) → exec (.sensors m) s = .next (s.lnDone m 3 [] [])) ∧
   (asks 2 → exec (.logRead m) s = .next (s.copyRecs m req s.logOldest s.nv.logIndex.toNat s.logAt)) ∧
   (asks 3 → let o := s.lan.ramNext - s.lan.ram.length
     exec (.ringRead m) s = .next (s.copyRecs m req o s.lan.ramNext (fun i => s.lan.ram[i - o]?))) ∧
   (asks 4 → s.svcBuf false true (descNum req 8 8) 65536 = false → exec (.bookRead m) s = .next (s.lnDone m 4 [] [])) ∧
   (asks 4 → s.svcBuf false true (descNum req 8 8) 65536 = true →
     let l := s.nv.book.take 2048
     let u := (s.bufWrite .lantern false (descNum req 8 8) (l.flatMap recBytes)).getD s
     exec (.bookRead m) s = .next (u.lnDone m 0 (leBytes 4 l.length) [])) ∧
   (asks 5 → 2 ^ 28 < descNum req 8 4 → exec (.updateOpen m) s = .next (s.lnDone m 3 [] [])) ∧
   (asks 5 → descNum req 8 4 ≤ 2 ^ 28 →
     let x := !s.boot.slotB
     let u := s.slotWrite x 12 [0]
     let w := u.setSlotCells x ((u.slotCells x).filter (fun o => decide ((descNum req 8 4 + 65535) / 65536 * 65536 ≤ o.1)))
     let y : State := { w with lan := { w.lan with upd := some { slot := x, len := descNum req 8 4, seq := BitVec.ofNat 32 (descNum req 12 4) } } }
     exec (.updateOpen m) s = .next ((y.updLog 0 x (BitVec.ofNat 32 (descNum req 12 4))).lnDone m 0 [] [])) ∧
   (s.lan.upd = none → (asks 6 → exec (.updateWrite m) s = .next (s.lnDone m 7 [] [])) ∧ (asks 7 → exec (.updateCommit m) s = .next (s.lnDone m 7 [] []))) ∧
   (∀ u d x, asks 6 → s.lan.upd = some u → descNum req 16 4 ≤ 2 ^ 21 → descNum req 20 4 + descNum req 16 4 ≤ u.len →
     s.svcBuf false false (descNum req 8 8) (descNum req 16 4) = true → s.bufRead .lantern false (descNum req 8 8) (descNum req 16 4) = some (d, x) →
     exec (.updateWrite m) s = .next ((x.program u.slot (descNum req 20 4) d).lnDone m 0 (leBytes 4 (descNum req 16 4)) [])) ∧
   (∀ u, asks 7 → s.lan.upd = some u →
     let h := toBytes (Config.sha384 (s.slotBody u.slot)) 48
     let w : State := { s with lan := { s.lan with upd := none } }
     (Config.ecdsaValid (s.slotRead s.boot.slotB 256 96) h (s.slotRead u.slot 352 96) = false →
       exec (.updateCommit m) s = .next ((w.updLog 2 u.slot u.seq).lnDone m 5 [0] [])) ∧
     (Config.ecdsaValid (s.slotRead s.boot.slotB 256 96) h (s.slotRead u.slot 352 96) = true →
       let x := (((w.slotWrite u.slot 0 [0x53, 0x43, 0x31, 0x38]).slotWrite u.slot 4 (toBytes u.seq 4)).slotWrite u.slot 16 h).slotWrite u.slot 12 [0xa5]
       let y := x.slotWrite u.slot 448 (toBytes (crc32c (x.slotRead u.slot 0 448)) 4)
       exec (.updateCommit m) s = .next ((y.updLog 1 u.slot u.seq).lnDone m 0 [1] []))) ∧
   (asks 8 → exec (.slotInfo m) s = .next (s.lnDone m 0 ([BitVec.ofNat 8 (b2n s.boot.slotB), BitVec.ofNat 8 (b2n (s.slotValid false)),
     BitVec.ofNat 8 (b2n (s.slotValid true)), 0] ++ s.slotRead false 4 4 ++ s.slotRead true 4 4) [])) ∧
   (asks 9 → descNum req 8 4 = 0x52535421 → exec (.reset m) s = .next ((s.lnDone m 0 [] []).fullReset 2)) ∧
   (asks 9 → descNum req 8 4 ≠ 0x52535421 → exec (.reset m) s = .next (s.lnDone m 8 [] []))) ∧
  (let req := s.lnReq .port
   s.lan.portSrc = some src → s.lnNext .port = true →
   (descNum req 0 1 = 10 →
     let x : Stream := { src := src, last := s.now, hdr := mbReply req 0 [], buf := ((s.lan.streams.find? (fun (y : Stream) => y.src == src)).map (·.buf)).getD [] }
     exec (.stream src) s = .next
       (State.lnDone { s with lan := { s.lan with streams := s.lan.streams.filter (fun (y : Stream) => y.src != src) ++ [x] } } .port 0 [] [])) ∧
   (descNum req 0 1 = 11 →
     let a := max (descNum req 8 8) s.logOldest
     let l := (rangeFrom a (min 32 (s.nv.logIndex.toNat - a))).filterMap s.logAt
     exec (.logFetch src.ip src.port src.mac) s = .next (s.lnDone .port 0 (leBytes 8 a ++ leBytes 4 l.length) (l.flatMap recBytes)))) ∧
  exec .streamTimeout s = .next { s with lan := { s.lan with streams := s.lan.streams.filter s.streamLive } } ∧
  (let mine := hd.ip = s.rd R.LN_IP ∧ hd.port.toNat = s.fld R.LN_PORT 16 16
   (s.lnPortOn = true → mine → s.lan.portSrc = none → bs.length = 64 →
     let u : State := { s with lan := { s.lan with portMb := BitVec.ofNat 512 (leNat bs), portSrc := some hd.src } }
     exec (.lanternDatagram hd bs) s = .next (if [1, 8, 10, 11].contains (descNum bs 0 1) then u else u.lnDone .port 2 [] [])) ∧
   (s.lnPortOn = false ∨ ¬mine ∨ s.lan.portSrc ≠ none ∨ bs.length ≠ 64 → exec (.lanternDatagram hd bs) s = .next s)) ∧
  (s.lnPortOn = true → v = s.rd R.LN_IP →
    exec (.arpRequest v src) s = .next { s with lan := { s.lan with portOut := s.lan.portOut ++ [(src, toBytes v 4)] } } ∧
    exec (.icmpEcho v src bs) s = .next { s with lan := { s.lan with portOut := s.lan.portOut ++ [(src, bs)] } }) ∧
  (s.lnPortOn = false ∨ v ≠ s.rd R.LN_IP → exec (.arpRequest v src) s = .next s ∧ exec (.icmpEcho v src bs) s = .next s)

/-- R325, R327, R328, R335, R475 to R481, R488: an Open doorbell to a Sealed mailbox does nothing and one to a BUSY mailbox is dropped; the Keeper's services answer result 6 under a fault where they need entropy or a key, 3 for a bad parameter, 4 for a bad buffer, 2 where only a Sealed mailbox may ask, and 5 where a box does not open; each boot step is taken from its own step only. A service of a mailbox that is not next, and a boot step out of turn, change nothing (log entry 8), and a device in reset takes no doorbell and no fault (R471). The cause of an image wrong in two ways, and the index of BOOT_FAIL, are log entry 46. -/
def Obligations.KeeperAndBoot : Prop := ∀ (s : State) (m : Fin 16) (q : Requester) (cs : List ChanTrain),
  (s.boot.aon = false → exec (.mbDoor m q) s = .next s ∧ exec .keeperFault s = .next s) ∧
  (s.boot.aon = true → (s.guardBreak 0x20).kpSealed m.val = true → q.sealed = false → exec (.mbDoor m q) s = .next (s.guardBreak 0x20)) ∧
  (s.boot.aon = true → ((s.guardBreak 0x20).kpSealed m.val = false ∨ q.sealed = true) →
    let h := s.guardBreak 0x20
    ((h.kpMb m.val).st = 1 → exec (.mbDoor m q) s = .next (h.flag R.KP_STATUS 16)) ∧
    ((h.kpMb m.val).st ≠ 1 →
      let enc := ((requesterCore q).map (fun k => (h.core k).encCur.toNat)).getD 0
      let u : State := { h with keeper := { h.keeper with mbox := assocSet h.keeper.mbox m.val { h.kpMb m.val with st := 1, enclave := enc } } }
      exec (.mbDoor m q) s = .next (u.kpUnknown 16) ∧
      (∀ j, (List.range 16).find? (fun i => (u.kpMb i).st == 1) = some j → 1 ≤ descNum (u.kpReq j) 0 1 → descNum (u.kpReq j) 0 1 ≤ 8 → u.kpUnknown 16 = u))) ∧
  (let req := s.kpReq m.val
   let next := (s.kpMb m.val).st = 1 ∧ (∀ j, j < m.val → (s.kpMb j).st ≠ 1)
   let asks := fun (code : Nat) => next ∧ descNum req 0 1 = code
   let w := s.kpSealed m.val = true
   let ok := s.keeper.faulted = false
   let answers := fun (i : Instr) (r : Nat) => exec i s = .next (s.kpDone m.val r [])
   (¬next → ∀ i ∈ [Instr.random m, .keeperDigest m, .sign m, .verify m, .fuseRead m, .keeperSeal m, .keeperUnseal m, .attest m], exec i s = .next s) ∧
   (asks 1 → (¬ok → answers (.random m) 6) ∧ (ok → (descNum req 8 1 < 1 ∨ 48 < descNum req 8 1) → answers (.random m) 3) ∧
     (ok → 1 ≤ descNum req 8 1 → descNum req 8 1 ≤ 48 →
       exec (.random m) s = .next ((s.free 384).2.kpDone m.val 0 (toBytes (Config.freeBits 384 s.freeCtr) (descNum req 8 1))))) ∧
   (asks 2 → (2 ^ 21 < descNum req 16 4 → answers (.keeperDigest m) 3) ∧
     (descNum req 16 4 ≤ 2 ^ 21 → s.kpRead m.val (descNum req 8 8) (descNum req 16 4) = none → answers (.keeperDigest m) 4) ∧
     (∀ b u, descNum req 16 4 ≤ 2 ^ 21 → s.kpRead m.val (descNum req 8 8) (descNum req 16 4) = some (b, u) →
       exec (.keeperDigest m) s = .next (u.kpDone m.val 0 (toBytes (Config.sha384 b) 48)))) ∧
   (asks 3 → (¬ok → answers (.sign m) 6) ∧ (ok → s.kpRead m.val (descNum req 8 8) 48 = none → answers (.sign m) 4) ∧
     (∀ h u, ok → s.kpRead m.val (descNum req 8 8) 48 = some (h, u) →
       (u.kpOut m.val (descNum req 16 8) 96 = false → exec (.sign m) s = .next (u.kpDone m.val 4 [])) ∧
       (u.kpOut m.val (descNum req 16 8) 96 = true → exec (.sign m) s = .next
         ((State.kpWrite { u with freeCtr := u.freeCtr + 1 } m.val (descNum req 16 8)
           ((Config.ecdsaSign h u.freeCtr ++ List.replicate 96 0).take 96)).kpDone m.val 0 [])))) ∧
   (asks 4 → (1 < descNum req 24 1 → answers (.verify m) 3) ∧
     (descNum req 24 1 ≤ 1 → s.kpRead m.val (descNum req 8 8) 48 = none → answers (.verify m) 4) ∧
     (∀ h u, descNum req 24 1 ≤ 1 → s.kpRead m.val (descNum req 8 8) 48 = some (h, u) →
       (u.kpRead m.val (descNum req 16 8) 96 = none → exec (.verify m) s = .next (u.kpDone m.val 4 [])) ∧
       (∀ g x, u.kpRead m.val (descNum req 16 8) 96 = some (g, x) → exec (.verify m) s = .next (x.kpDone m.val 0
         [BitVec.ofNat 8 (b2n (Config.ecdsaValid (x.slotRead x.boot.slotB (if descNum req 24 1 = 0 then 64 else 256) 96) h g))])))) ∧
   (asks 5 → (15 < descNum req 8 1 → answers (.fuseRead m) 3) ∧
     (descNum req 8 1 ≤ 15 → exec (.fuseRead m) s = .next (s.kpDone m.val 0 (toBytes (assocD s.nv.fuses (descNum req 8 1) (0 : W64)) 8)))) ∧
   (asks 6 → (¬w → answers (.keeperSeal m) 2) ∧ (w → 65536 < descNum req 24 4 → answers (.keeperSeal m) 3) ∧
     (w → descNum req 24 4 ≤ 65536 → ¬ok → answers (.keeperSeal m) 6) ∧
     (w → descNum req 24 4 ≤ 65536 → ok → s.kpRead m.val (descNum req 8 8) (descNum req 24 4) = none → answers (.keeperSeal m) 4) ∧
     (∀ p u, w → descNum req 24 4 ≤ 65536 → ok → s.kpRead m.val (descNum req 8 8) (descNum req 24 4) = some (p, u) →
       u.kpOut m.val (descNum req 16 8) (descNum req 24 4 + 28) = true →
       let nonce := toBytes (u.free 96).1 12
       let x := Config.gcmSeal ((u.free 96).2.kpMeasure m.val) nonce p
       exec (.keeperSeal m) s = .next (((u.free 96).2.kpWrite m.val (descNum req 16 8) (nonce ++ (x.1 ++ List.replicate 16 0).take 16 ++
         (x.2 ++ List.replicate (descNum req 24 4) 0).take (descNum req 24 4))).kpDone m.val 0 []))) ∧
   (asks 7 → (¬w → answers (.keeperUnseal m) 2) ∧ (w → 65536 < descNum req 24 4 → answers (.keeperUnseal m) 3) ∧
     (∀ b u, w → descNum req 24 4 ≤ 65536 → s.kpRead m.val (descNum req 8 8) (descNum req 24 4 + 28) = some (b, u) →
       u.kpOut m.val (descNum req 16 8) (descNum req 24 4) = true →
       exec (.keeperUnseal m) s = .next (match Config.gcmOpen (u.kpMeasure m.val) (b.take 12) ((b.drop 12).take 16) (b.drop 28) with
         | none => u.kpDone m.val 5 []
         | some p => (u.kpWrite m.val (descNum req 16 8) ((p ++ List.replicate (descNum req 24 4) 0).take (descNum req 24 4))).kpDone m.val 0 []))) ∧
   (asks 8 → (¬ok → answers (.attest m) 6) ∧ (ok → ¬w → answers (.attest m) 2) ∧
     (∀ d u, w → ok → s.kpRead m.val (descNum req 8 8) 48 = some (d, u) → u.kpOut m.val (descNum req 16 8) 192 = true →
       let r := Config.attest (assocD u.nv.fuses 0 0) (u.kpMb m.val).enclave (u.kpMeasure m.val) d u.freeCtr
       exec (.attest m) s = .next ((State.kpWrite { u with freeCtr := u.freeCtr + 1 } m.val (descNum req 16 8) (toBytes r 192)).kpDone m.val 0 [])))) ∧
  (s.boot.aon = true → exec .keeperFault s = .next ((State.flag { s with keeper := { s.keeper with faulted := true } } R.KP_STATUS 17).jlog s.now 102 0 0x0a04 [(0, 1, 1)])) ∧
  (s.boot.step < 2 ∨ 4 < s.boot.step ∨ s.boot.aon = false → exec .bootVerify s = .next s) ∧
  (s.boot.step = 4 → s.lan.holdBoot = false → s.boot.aon = true →
    exec .bootVerify s = .next (match s.verifyCause s.boot.slotB with
      | some c => s.bootFail c 0 0 false
      | none => ((s.tripPut 4 (leNat (s.slotRead s.boot.slotB 16 48))).wr R.IMG_SEQ
        (BitVec.ofNat 32 ((s.tripPut 4 (leNat (s.slotRead s.boot.slotB 16 48))).slotSeq s.boot.slotB))).bootFirmware)) ∧
  (s.boot.step ≠ 6 → exec (.channelTraining cs) s = .next s) ∧
  (s.boot.step = 6 →
    let body := s.bootBody
    let u := (((s.bootStep 7).train cs).regsBoot (fun b => b == 0x1a) (regList (secBytes body 2))).bootStep 8
    exec (.channelTraining cs) s = .next (match (dirFail body).or (listFail body), u.checkFail body (12 * u.places), u.bootPlace body with
      | some f, _, _ => u.bootFail f.cause f.sec f.idx false
      | none, some f, _ => if f.1 = 2 ∨ f.1 = 0x10 then (u.free 32).2.bootFail 6 f.1 (u.free 32).1.toNat false else u.bootFail 6 f.1 f.2 false
      | none, none, none => u.bootFail 7 0 0 false
      | none, none, some x => x.bootApply body)) ∧
  (s.boot.step ≠ 10 → exec .bootInitialise s = .next s) ∧
  (s.boot.step = 10 →
    let u := s.bootInit s.bootBody
    exec .bootInitialise s = .next (if u.keeper.faulted = true then u.bootFail 8 0 0 true else u.bootAssign s.bootBody)) ∧
  (s.boot.step ≠ 12 → exec .bootLoad s = .next s) ∧
  (s.boot.step = 12 →
    let body := s.bootBody
    let mode := numAt (secBytes body 1) 0 1
    let u := ((((recsOf (secBytes body 0x31)).foldl (fun (x : State) r => x.loadRec false r) (s.bootStep 13)).loadEnclaves body).bootBays body).bootPlacement.bootTasks.bootStep 14
    let v := State.bootDone { u with boot := { u.boot with locked := true, initPass := u.healthyCh.map (fun c => (c, 0)) } } mode
    (mode = 0 → exec .bootLoad s = .next (beaconRun (v.rd R.BCN_CTL ||| 1) v)) ∧ (mode ≠ 0 → exec .bootLoad s = .next v))

/-- R12, R493 to R500, R504 to R506, R510, R511, R515, R517 to R519: a clock multiplexer that is switching sets bit 2 of CLK_STATUS for another request, and completes to its target unless its clock is stopped; a PLL field of 3 is written as 0; a performance request is held at 4; the level changes when the voltage has settled; a domain is down when its drop is done and up when it is ready; a write to a register is performed by its access code, a guard-pair half is held for 64 core cycles and then fails with cause 2. Every software write breaks a guard pair pending in its block (R517), and a device in reset takes none (R471). A switch, a level or a domain that is not under way changes nothing (log entry 8); which multiplexer hangs and what a regulator acknowledges are free values (log entry 49), and an Open write that would change ANT's clock under a Sealed bay is log entry 82. -/
def Obligations.ClocksAndRegisters : Prop := ∀ (s : State) (v : W32) (q : Requester) (ant : Bool) (b : Byte) (off : W16) (o : BitVec 12) (d : Fin 95),
  (s.boot.aon = false → exec (.clkSrcWrite v q) s = .next s ∧ exec (.pllRefSelect v q) s = .next s ∧ exec (.perfRequest v) s = .next s ∧
    exec (.voteWrite q b o v) s = .next s ∧ exec (.registerWrite q b off v) s = .next s ∧ exec (.guardPairHold q b off v) s = .next s ∧
    exec (.latchedRead q b off) s = .next s ∧ exec (.statusRead q b off) s = .next s) ∧
  (s.boot.aon = true →
   let u := s.guardBreak 0x24
   ((u.flagAt R.CLK_LOCK 8 = true ∨ u.flagAt R.CLK_LOCK 9 = true) → exec (.clkSrcWrite v q) s = .next (u.flag R.CLK_STATUS 2)) ∧
   (u.flagAt R.CLK_LOCK 8 = false → u.flagAt R.CLK_LOCK 9 = false →
     (∀ x, v.getLsbD 1 ≠ (u.rd R.CLK_SRC).getLsbD 1 → q.sealed = false → (List.range 8).find? u.baySealed = some x →
       exec (.clkSrcWrite v q) s = .next (u.denyVote 0 x true)) ∧
     ((v.getLsbD 1 = (u.rd R.CLK_SRC).getLsbD 1 ∨ q.sealed = true ∨ (List.range 8).find? u.baySealed = none) → exec (.clkSrcWrite v q) s = .next
       (((u.wr R.CLK_SRC (BitVec.ofNat 32 (v.toNat % 4))).switchStart 0 (v.getLsbD 0)).switchStart 1 (v.getLsbD 1))))) ∧
  ((if ant then s.clk.swAnt else s.clk.swCore) = none ∨ s.muxHung ant = true → exec (.clkSwitch ant) s = .next s) ∧
  (∀ x, (if ant then s.clk.swAnt else s.clk.swCore) = some x → s.muxHung ant = false →
    let old := if ant then s.clk.srcAnt else s.clk.srcCore
    let u : State := { s with clk := if ant then { s.clk with srcAnt := x, swAnt := none } else { s.clk with srcCore := x, swCore := none } }
    exec (.clkSwitch ant) s = .next ((((u.setFld R.CLK_LOCK (8 + b2n ant) 1 0).flag R.CLK_STATUS 1).bump R.clock_CNT_SWITCH).jlog u.now 104 0 0x0701
      [(0, 1, b2n ant), (1, 1, b2n old), (2, 1, b2n x), (3, 1, 1)])) ∧
  (let sane := fun (p : Nat) => if v.toNat / 2 ^ p % 4 = 3 then 0 else v.toNat / 2 ^ p % 4
   let h := s.guardBreak 0x24
   s.boot.aon = true → exec (.pllRefSelect v q) s = .next ((pllFields.filter (fun f => h.fld R.CLK_REF f.2 2 != sane f.2)).foldl
     (fun (u : State) f => u.pllTake f.1 (sane f.2))
     (h.wr R.CLK_REF (BitVec.ofNat 32 (sane 0 + sane 2 * 4 + sane 4 * 16 + sane 6 * 64 + sane 8 * 256))))) ∧
  (s.boot.aon = true → exec (.perfRequest v) s = .next (((s.guardBreak 0x25).wr R.PWR_PERF (BitVec.ofNat 32 (min 4 (v.toNat % 8)))).perfFollow 0)) ∧
  (s.flagAt R.PWR_LEVEL 6 = false → exec .voltageSettle s = .next s) ∧
  (s.flagAt R.PWR_LEVEL 6 = true →
    let u := (s.advanceTo s.clk.moveEnd).setFld R.PWR_LEVEL 6 1 0
    exec .voltageSettle s = .next (u.levelSet (u.fld R.PWR_LEVEL 3 3) u.clk.moveCause).perfMove) ∧
  (s.boot.aon = true →
    (∀ t, (s.guardBreak b.toNat).voteTo (b.toNat * 0x1000 + o.toNat / 4 * 4) v q = some t → exec (.voteWrite q b o v) s = .next t) ∧
    ((s.guardBreak b.toNat).voteTo (b.toNat * 0x1000 + o.toNat / 4 * 4) v q = none → exec (.voteWrite q b o v) s = .next (s.guardBreak b.toNat))) ∧
  (let log := fun (u w : State) (on : Nat) (x : Fin 3) => w.jlogW (u.domSealed d) u.now 104 0 0x0702
      [(0, 1, (domName d).1), (1, 1, (domName d).2), (2, 1, on), (3, 1, x.val)] []
   (∀ x, s.dom d.val = .dropping x → let u := s.setDom d.val .down
     exec (.domainDropDone d) s = .next (log u (u.flag R.PWR_STATUS 3) 0 x)) ∧
   (∀ x y, s.dom d.val = .dropWake x y → let u := s.wakeStart d.val y
     exec (.domainDropDone d) s = .next (log u (u.flag R.PWR_STATUS 3) 0 x)) ∧
   (s.dom d.val = .up ∨ s.dom d.val = .down → exec (.domainDropDone d) s = .next s ∧ exec (.domainReady d) s = .next s) ∧
   (∀ x, s.dom d.val = .waking x →
     let a := ((s.advanceTo (s.wakeEnd d.val)).setDom d.val .up).flag R.PWR_STATUS 2
     let u := log a (a.bump R.CNT_WAKE) 1 x
     (80 ≤ d.val → exec (.domainReady d) s = .next u) ∧
     (72 ≤ d.val → d.val < 80 → exec (.domainReady d) s = .next (u.judgeBay (bayOf (d.val - 72)))) ∧
     (d.val < 72 → exec (.domainReady d) s = .next ((tileCores d.val).foldl (fun (y : State) k =>
       (y.setCore k ((y.core k).powered y.coreCycles (if y.cstat k.val = .halted then .halted else .idle))).coreReady k) u)))) ∧
  (s.boot.aon = true → exec (.registerWrite q b off v) s = .next (s.regStore q b.toNat off.toNat v).2) ∧
  (∀ r, s.boot.aon = true → rowAt b.toNat (off.toNat % 0x1000 / 4 * 4) = some r → r.gp ≠ 0 → exec (.guardPairHold q b off v) s = .next (s.regStore q b.toNat off.toNat v).2) ∧
  (rowAt b.toNat (off.toNat % 0x1000 / 4 * 4) = none → exec (.guardPairHold q b off v) s = .next s) ∧
  (∀ r, rowAt b.toNat (off.toNat % 0x1000 / 4 * 4) = some r → r.gp = 0 → exec (.guardPairHold q b off v) s = .next s) ∧
  (assoc? s.guard b.toNat = none → exec (.guardWindowExpire b) s = .next s) ∧
  (∀ p, assoc? s.guard b.toNat = some p → exec (.guardWindowExpire b) s = .next
    (((s.advanceTo p.ends).guardClear b.toNat).guardFail b.toNat 2 p.off p.who p.value)) ∧
  (let a := s.regRead q b.toNat off.toNat
   s.boot.aon = true →
   (a.stall = true → exec (.latchedRead q b off) s = .next a.st ∧ exec (.statusRead q b off) s = .next a.st) ∧
   (a.stall = false → exec (.latchedRead q b off) s = .next { a.st with readVal := a.val } ∧ exec (.statusRead q b off) s = .next { a.st with readVal := a.val }))
/-! ### The Ant engines -/

/-- R127, R128: the Ant register operations; A0 reads 0 and keeps no write. The command names the instruction that the engine executes (log entry 7). -/
def Obligations.AntRegisterForms : Prop := ∀ (b : BayId) (e : EngId) (d ra rb : AReg) (imm : BitVec 18) (sh : BitVec 5),
  let op := fun (i : Instr) (f : W32 → W32 → W32) => AntRuns b e i (fun _ x => x.setReg d (f (x.reg ra) (x.reg rb)))
  let one := fun (i : Instr) (f : W32 → W32) => AntRuns b e i (fun _ x => x.setReg d (f (x.reg ra)))
  AntRuns b e (.nop b e) (fun _ x => x) ∧
  op (.antAdd b e d ra rb) (fun x y => x + y) ∧ op (.antSub b e d ra rb) (fun x y => x - y) ∧
  op (.antAnd b e d ra rb) (fun x y => x &&& y) ∧ op (.antOr b e d ra rb) (fun x y => x ||| y) ∧
  op (.antXor b e d ra rb) (fun x y => x ^^^ y) ∧
  op (.shl b e d ra rb) (fun x y => x <<< (y.toNat % 32)) ∧ op (.shr b e d ra rb) (fun x y => x >>> (y.toNat % 32)) ∧
  op (.sar b e d ra rb) (fun x y => x.sshiftRight (y.toNat % 32)) ∧
  op (.antSlt b e d ra rb) (fun x y => if x.toInt < y.toInt then 1 else 0) ∧
  op (.antSltu b e d ra rb) (fun x y => if x.toNat < y.toNat then 1 else 0) ∧
  op (.antMul b e d ra rb) (fun x y => BitVec.ofInt 32 (x.toInt * y.toInt)) ∧
  op (.antMulh b e d ra rb) (fun x y => BitVec.ofInt 32 (x.toInt * y.toInt / 2 ^ 32)) ∧
  AntRuns b e (.crcb b e d ra rb) (fun s x => x.setReg d (crcb16 ((s.rd (R.CRC_POLY b.val)).truncate 16) (x.reg ra) (x.reg rb))) ∧
  one (.antAddi b e d ra imm) (fun x => x + imm.signExtend 32) ∧ one (.antAndi b e d ra imm) (fun x => x &&& imm.zeroExtend 32) ∧
  one (.antOri b e d ra imm) (fun x => x ||| imm.zeroExtend 32) ∧ one (.antXori b e d ra imm) (fun x => x ^^^ imm.zeroExtend 32) ∧
  one (.antSlti b e d ra imm) (fun x => if x.toInt < imm.toInt then 1 else 0) ∧
  one (.shli b e d ra sh) (fun x => x <<< sh.toNat) ∧ one (.shri b e d ra sh) (fun x => x >>> sh.toNat) ∧
  one (.sari b e d ra sh) (fun x => x.sshiftRight sh.toNat) ∧
  AntRuns b e (.antLui b e d imm) (fun _ x => x.setReg d (imm.zeroExtend 32 <<< 14)) ∧
  AntRuns b e (.frm b e d) (fun s x => x.setReg d (lo32 s.bcn.frame)) ∧
  AntRuns b e (.antSysId b e d) (fun _ x => x.setReg d (BitVec.ofNat 32 (x.logical + 256 * b.val + bitIf x.takeover 16))) ∧
  AntRuns b e (.antSysStatus b e d) (fun _ x => x.setReg d (BitVec.ofNat 32 x.status)) ∧
  AntRuns b e (.tmr b e ra) (fun _ x => { x with timer := x.reg ra }) ∧
  AntRuns b e (.evpend b e d) (fun s x => x.setReg d
    (BitVec.ofNat 32 ((s.ownedPins b x.logical).foldl (fun acc u => acc + bitIf (!(s.pin b u).cap.isEmpty) u) 0))) ∧
  (d.getLsbD 0 = false → AntRuns b e (.tsr b e d) (fun s x => (x.setReg d (lo32 s.tb.now)).setReg (d + 1) (hi32 s.tb.now))) ∧
  (d.getLsbD 0 = true → AntFaults b e (.tsr b e d) (fun _ => True) 1) ∧
  AntFaults b e (.antIllegalOpcode b e) (fun _ => True) 1

/-- R124, R128, R135: loads and stores of an engine, from its own SRAM and from the bay's; an address outside both, or not aligned to its width, faults. The order of the checks, ADDR, ALIGN, STORE_RO, is log entry 32. -/
def Obligations.AntMemory : Prop := ∀ (b : BayId) (e : EngId) (d ra : AReg) (imm : BitVec 18) (c : Nat),
  let load := fun (i : Instr) (n : Nat) (ext : Nat → W32) =>
    AntDoes b e i (fun s => accessFault (s.antAddr b e ra imm) n false = none)
      (fun s => s.setAreg b e d (ext (s.antRead b e (s.antAddr b e ra imm) n))) ∧
    AntFaults b e i (fun s => accessFault (s.antAddr b e ra imm) n false = some c) c
  let store := fun (i : Instr) (n : Nat) =>
    AntDoes b e i (fun s => accessFault (s.antAddr b e ra imm) n true = none)
      (fun s => s.antWrite b e (s.antAddr b e ra imm) n ((s.areg b e d).toNat % 2 ^ (8 * n))) ∧
    AntFaults b e i (fun s => accessFault (s.antAddr b e ra imm) n true = some c) c
  load (.ldw b e d ra imm) 4 (BitVec.ofNat 32) ∧
  load (.ldh b e d ra imm) 2 (fun v => (BitVec.ofNat 16 v).signExtend 32) ∧ load (.ldhu b e d ra imm) 2 (BitVec.ofNat 32) ∧
  load (.ldb b e d ra imm) 1 (fun v => (BitVec.ofNat 8 v).signExtend 32) ∧ load (.ldbu b e d ra imm) 1 (BitVec.ofNat 32) ∧
  store (.stw b e d ra imm) 4 ∧ store (.sth b e d ra imm) 2 ∧ store (.stb b e d ra imm) 1

/-- R124, R125, R128: a store of an engine changes the bytes at its address and no other byte of either SRAM, and keeps both in canonical form; a byte of the bay's SRAM that a higher logical engine wrote in the same engine clock stays. Which stores share an engine clock is log entry 88. -/
def Obligations.AntStoreFrame : Prop := ∀ (b : BayId) (e : EngId) (s : State) (a n v j : Nat),
  Memory.wf (s.eng b e.val).sram = true → Memory.wf (s.bay b).sram = true →
  let t := s.antWrite b e a n v
  let own := fun (x : State) (o : Nat) => cellGet 0 (x.eng b e.val).sram o
  let shared := fun (x : State) (o : Nat) => cellGet 0 (x.bay b).sram o
  let higher := fun i : Nat => (s.bay b).wrAt == s.clockNow && (s.bay b).wrBy.any (fun q => q.1 == a - 0x10000 + i && decide ((s.eng b e.val).logical < q.2))
  Memory.wf (t.eng b e.val).sram = true ∧ Memory.wf (t.bay b).sram = true ∧
  (a < 0x4000 → shared t j = shared s j ∧ (j < a ∨ a + n ≤ j → own t j = own s j)) ∧
  (0x10000 ≤ a → own t j = own s j ∧ (j + 0x10000 < a ∨ a + n ≤ j + 0x10000 → shared t j = shared s j)) ∧
  (a < 0x4000 → j < n → own t (a + j) = BitVec.ofNat 8 (v / 2 ^ (8 * j))) ∧
  (0x10000 ≤ a → j < n → higher j = false → shared t (a - 0x10000 + j) = BitVec.ofNat 8 (v / 2 ^ (8 * j))) ∧
  (0x10000 ≤ a → j < n → higher j = true → shared t (a - 0x10000 + j) = shared s (a - 0x10000 + j)) ∧
  (t.eng b e.val).a = (s.eng b e.val).a ∧ (t.eng b e.val).pc = (s.eng b e.val).pc ∧ t.mem = s.mem ∧ t.regs = s.regs

/-- R129, R130: every branch and jump is followed by its slot; N annuls the slot of a branch not taken and of every jump; JAL and JALR link past the slot; one in a slot faults with cause 5. -/
def Obligations.AntBranches : Prop := ∀ (b : BayId) (e : EngId) (n : Bool) (ra rb : AReg) (off : BitVec 17) (far : BitVec 25),
  let goes := fun (i : Instr) (f : Engine → Engine) =>
    (∀ r s, r.bayDue b = s → AntFree b e s → exec i r = .next (s.setEng b e.val (f (s.eng b e.val)))) ∧
    (∀ r s, r.bayDue b = s → AntReady b e s → (s.eng b e.val).slot ≠ none → exec i r = .next (s.antFault b e 5))
  let cond := fun (i : Instr) (P : W32 → W32 → Bool) => goes i (fun x =>
    if P (x.reg ra) (x.reg rb) then x.branching (x.pc + (off.signExtend 32 <<< 2)) false else x.branching (x.pc + 8) n)
  cond (.antBeq b e n ra rb off) (fun x y => x == y) ∧ cond (.antBne b e n ra rb off) (fun x y => x != y) ∧
  cond (.antBlt b e n ra rb off) (fun x y => decide (x.toInt < y.toInt)) ∧
  cond (.antBge b e n ra rb off) (fun x y => decide (y.toInt ≤ x.toInt)) ∧
  cond (.antBltu b e n ra rb off) (fun x y => decide (x.toNat < y.toNat)) ∧
  cond (.antBgeu b e n ra rb off) (fun x y => decide (y.toNat ≤ x.toNat)) ∧
  goes (.jr b e n ra) (fun x => x.branching (x.reg ra) n) ∧
  goes (.antJalr b e n ra) (fun x => (x.setReg 14 (x.pc + 8)).branching (x.reg ra) n) ∧
  goes (.antJ b e n far) (fun x => x.branching (x.pc + (far.signExtend 32 <<< 2)) n) ∧
  goes (.antJal b e n far) (fun x => (x.setReg 14 (x.pc + 8)).branching (x.pc + (far.signExtend 32 <<< 2)) n)

/-- R128, R138, R142 to R146: instructions on pins, the shift unit and the post queue; a pin the engine does not own faults with cause 4. The word in shift keeps its place in the TX FIFO (log entry 88), CAPR and SURX write the flag word last (log entry 74), a released pin's toggle and a word of an empty unit are free values, and a port index of 6 or 7 has no effect (log entry 32). -/
def Obligations.AntPinsAndPosts : Prop := ∀ (b : BayId) (e : EngId) (d ra : AReg) (u : Byte) (imm ch : BitVec 10) (act : BitVec 2) (n : BitVec 3),
  let own := fun s : State => s.engOwns b e u.toNat = true
  let not := fun s : State => s.engOwns b e u.toNat = false
  AntDoes b e (.prd b e d u) own (fun s => s.setAreg b e d (if s.pinLevel b u.toNat then 1 else 0)) ∧
  (imm.getLsbD 2 = true → AntDoes b e (.pwr b e ra u imm) own (fun s => s.pwrPin b u.toNat none)) ∧
  (imm.getLsbD 2 = false → imm.toNat % 4 = 0 →
    AntDoes b e (.pwr b e ra u imm) own (fun s => s.pwrPin b u.toNat (some ((s.areg b e ra).getLsbD 0)))) ∧
  (imm.getLsbD 2 = false → imm.toNat % 4 = 1 → AntDoes b e (.pwr b e ra u imm) own (fun s => s.pwrPin b u.toNat (some true))) ∧
  (imm.getLsbD 2 = false → imm.toNat % 4 = 2 → AntDoes b e (.pwr b e ra u imm) own (fun s => s.pwrPin b u.toNat (some false))) ∧
  (imm.getLsbD 2 = false → imm.toNat % 4 = 3 → AntDoes b e (.pwr b e ra u imm) own
    (fun s => (s.toggled b u.toNat).2.pwrPin b u.toNat (some (s.toggled b u.toNat).1))) ∧
  (d.getLsbD 0 = false → AntDoes b e (.capr b e d ra u) (fun s => own s ∧ (s.pin b u.toNat).cap = []) (fun s => s.setAreg b e ra 2)) ∧
  (d.getLsbD 0 = false → ∀ t r rest, AntDoes b e (.capr b e d ra u) (fun s => own s ∧ (s.pin b u.toNat).cap = (t, r) :: rest)
    (fun s => ((s.setPin b u.toNat { s.pin b u.toNat with cap := rest }).setPair b e d t).setAreg b e ra (if r then 1 else 0))) ∧
  (d.getLsbD 0 = false → AntDoes b e (.cmpw b e d u act) (fun s => own s ∧ stampLe (s.pairOf b e d) s.now = false)
    (fun s => s.setPin b u.toNat { s.pin b u.toNat with cmp := some (s.pairOf b e d, act.toFin) })) ∧
  (d.getLsbD 0 = false → AntDoes b e (.cmpw b e d u act) (fun s => own s ∧ stampLe (s.pairOf b e d) s.now = true)
    (fun s => ((((s.setPin b u.toNat { s.pin b u.toNat with cmp := none }).flag (R.BAY_STATUS b.val) 5).jlogW (s.baySealed b.val) s.now
      (80 + b.val) (s.pinUnit b u.toNat) 0x0311
      [(0, 1, b.val), (1, 1, u.toNat), (4, 8, (s.pairOf b e d).toNat)] []).compareDo b u.toNat act.toFin))) ∧
  AntDoes b e (.cmpwCancel b e u) own (fun s => s.setPin b u.toNat { s.pin b u.toNat with cmp := none }) ∧
  AntDoes b e (.suw b e ra n)
    (fun s => (unitPins (suPut (s.eng b e.val).su n.toNat (s.areg b e ra)).pins).all (fun p => s.engOwns b e p) = true)
    (fun s => ((s.setSu b e.val (suPut (s.eng b e.val).su n.toNat (s.areg b e ra))).suDriven b e.val).suStart b e.val) ∧
  AntDoes b e (.sutx b e ra) (fun s => (s.eng b e.val).su.tx.length < 16)
    (fun s => (s.setSu b e.val { (s.eng b e.val).su with tx := (s.eng b e.val).su.tx ++ [s.areg b e ra] }).suStart b e.val) ∧
  (∀ w p fr rest, AntDoes b e (.surx b e d ra) (fun s => (s.eng b e.val).su.rx = (w, (p, fr)) :: rest)
    (fun s => ((s.setSu b e.val { (s.eng b e.val).su with rx := rest, overrun := false }).setAreg b e d w).setAreg b e ra
      (BitVec.ofNat 32 (bitIf p 0 + bitIf fr 1 + bitIf (s.eng b e.val).su.overrun 2)))) ∧
  (d.getLsbD 0 = false → ∀ pt, AntDoes b e (.post b e d ra ch)
    (fun s => s.postPoint b (s.eng b e.val).logical ch.toNat = some pt ∧ (s.bay b).posts.length < 64)
    (fun s => s.setBay b { s.bay b with posts := (s.bay b).posts ++
      [⟨pt, s.areg b e ra &&& 0xffffffb7, if d = 0 then s.now else s.pairOf b e d, 80 + b.val, (s.eng b e.val).logical, false⟩] })) ∧
  AntDoes b e (.surx b e d ra) (fun s => (s.eng b e.val).su.rx = [])
    (fun s => (((s.setSu b e.val { (s.eng b e.val).su with rx := [], overrun := false }).free 32).2.setAreg b e d
      (Config.freeBits 32 s.freeCtr)).setAreg b e ra (BitVec.ofNat 32 (bitIf (s.eng b e.val).su.overrun 2 + 2 ^ 31))) ∧
  (∀ r s, r.bayDue b = s → AntReady b e s → 16 ≤ (s.eng b e.val).su.tx.length →
    exec (.sutx b e ra) r = .next (s.setEng b e.val { s.eng b e.val with stalled := true })) ∧
  (d.getLsbD 0 = false → ∀ r s pt, r.bayDue b = s → AntReady b e s → s.postPoint b (s.eng b e.val).logical ch.toNat = some pt → 64 ≤ (s.bay b).posts.length →
    (s.eng b e.val).stalled = true → exec (.post b e d ra ch) r = .next (s.setEng b e.val { s.eng b e.val with stalled := true })) ∧
  (d.getLsbD 0 = false → ∀ r s pt, r.bayDue b = s → AntReady b e s → s.postPoint b (s.eng b e.val).logical ch.toNat = some pt → 64 ≤ (s.bay b).posts.length →
    (s.eng b e.val).stalled = false → exec (.post b e d ra ch) r =
      .next (((s.flag (R.BAY_STATUS b.val) 6).bump (R.CNT_STALL b.val)).setEng b e.val { s.eng b e.val with stalled := true })) ∧
  AntFaults b e (.suw b e ra n)
    (fun s => (unitPins (suPut (s.eng b e.val).su n.toNat (s.areg b e ra)).pins).any (fun p => !s.engOwns b e p) = true) 4 ∧
  AntFaults b e (.prd b e d u) not 4 ∧ AntFaults b e (.pwr b e ra u imm) not 4 ∧ AntFaults b e (.cmpwCancel b e u) not 4 ∧
  (d.getLsbD 0 = false → AntFaults b e (.capr b e d ra u) not 4 ∧ AntFaults b e (.cmpw b e d u act) not 4) ∧
  (d.getLsbD 0 = true → AntFaults b e (.capr b e d ra u) (fun _ => True) 1 ∧ AntFaults b e (.cmpw b e d u act) (fun _ => True) 1 ∧
    AntFaults b e (.post b e d ra ch) (fun _ => True) 1) ∧
  (d.getLsbD 0 = false → AntFaults b e (.post b e d ra ch) (fun s => s.postPoint b (s.eng b e.val).logical ch.toNat = none) 7)

/-- R132 to R134: EVRET chains to a pending enabled event above the stacked LEVEL without popping, or restores the frame and adds 32 to A15; EVWAIT sleeps past itself; EVCFG sets events 2 to 10; DOOR raises event 10 of the engine named. The stack is checked before a chain too, and what a failed EVRET saves, is log entry 74; DOOR reaches the engine itself too (log entry 88); where nothing can be taken the state stays (log entry 8). -/
def Obligations.AntEvents : Prop := ∀ (b : BayId) (e : EngId) (ev : BitVec 4) (prio : BitVec 3) (en : Bool) (l : BitVec 5),
  (∀ r s n p t, r.bayDue b = s → AntFree b e s → s.stackOk b e ((s.eng b e.val).reg 15).toNat = true →
    let x := s.eng b e.val
    let st := x.word ((x.reg 15).toNat + 4)
    x.takeable (st % 16) = some (n, p, t) →
    exec (.evret b e) r = .next (s.setEng b e.val { x with
      level := BitVec.ofNat 4 p, event := BitVec.ofNat 4 n, pc := BitVec.ofNat 32 (x.word (0x40 + 4 * n)), pend := assocDel x.pend n })) ∧
  (∀ r s, r.bayDue b = s → AntFree b e s → s.stackOk b e ((s.eng b e.val).reg 15).toNat = true →
    let x := s.eng b e.val
    let sp := (x.reg 15).toNat
    let w := fun o => BitVec.ofNat 32 (x.word (sp + o))
    x.takeable (x.word (sp + 4) % 16) = none →
    exec (.evret b e) r = .next (s.setEng b e.val
      { (((((x.setReg 1 (w 8)).setReg 2 (w 12)).setReg 3 (w 16)).setReg 4 (w 20)).setReg 14 (w 24)).setReg 15 (x.reg 15 + 32) with
        pc := w 0, level := (w 4).extractLsb' 0 4, event := (w 4).extractLsb' 4 4, cause := (w 4).extractLsb' 8 4, ds := (w 4).getLsbD 12 })) ∧
  (∀ r s, r.bayDue b = s → AntFree b e s → s.stackOk b e ((s.eng b e.val).reg 15).toNat = false →
    exec (.evret b e) r = .next ((if ((s.eng b e.val).reg 15).toNat % 4 = 0 then s else s.faultNote b e 3).engHalt b e.val 1 (s.eng b e.val).pc.toNat 0)) ∧
  (∀ r s, r.bayDue b = s → AntFree b e s → exec (.evwait b e) r = .next (s.setEng b e.val { s.eng b e.val with st := .waiting, pc := (s.eng b e.val).pc + 4 })) ∧
  (∀ r s, r.bayDue b = s → AntReady b e s → (s.eng b e.val).slot ≠ none →
    exec (.evret b e) r = .next (s.antFault b e 5) ∧ exec (.evwait b e) r = .next (s.antFault b e 5)) ∧
  (2 ≤ ev.toNat → ev.toNat ≤ 10 →
    AntRuns b e (.evcfg b e ev prio en) (fun _ x => { x with evcfg := assocSet x.evcfg ev.toNat (prio.toNat, en) })) ∧
  (ev.toNat < 2 ∨ 10 < ev.toNat → AntRuns b e (.evcfg b e ev prio en) (fun _ x => x)) ∧
  AntDoes b e (.door b e l) (fun _ => True) (fun s => s.raiseLog b l.toNat 10 s.now) ∧
  (∀ r s n p t, r.bayDue b = s → ((s.eng b e.val).st = .running ∨ (s.eng b e.val).st = .waiting) → s.bayClocked b.val = true → (s.eng b e.val).slot = none →
    (s.eng b e.val).takeable (s.eng b e.val).level.toNat = some (n, p, t) →
    exec (.antEventEntry b e) r = .next (s.antEnter b e n p t (s.eng b e.val).pc.toNat (s.eng b e.val).status)) ∧
  (∀ r s, r.bayDue b = s → ((s.eng b e.val).slot ≠ none ∨ (s.eng b e.val).takeable (s.eng b e.val).level.toNat = none) → exec (.antEventEntry b e) r = .next s)

/-- R130, R135, R136: a fault is taken as event 1 at priority 8 with the address of the instruction, or of the branch of the slot it stands in, and the engine at LEVEL 8 halts; A0 keeps no write and the other registers are the engine's. The return address and the stacked STATUS are log entry 32, the address in the record log entry 88. -/
def Obligations.AntFaultEntry : Prop := ∀ (b : BayId) (e : EngId) (s : State) (cause : Nat),
  let x := s.eng b e.val
  let y := { x with cause := BitVec.ofNat 4 cause, ds := x.slot.isSome }
  let ret := match x.slot with
    | some sl => sl.branchPc
    | none => x.pc
  let s0 := (((s.setEng b e.val y).flag (R.BAY_STATUS b.val) 7).bump (R.CNT_FAULT b.val)).jlogW (s.baySealed b.val) s.now (80 + b.val)
    x.logical 0x0302 [(0, 1, b.val), (1, 1, x.logical), (2, 1, cause)] [(4, 2, x.pc.toNat)]
  let s1 := s0.setEng b e.val { s0.eng b e.val with slot := none }
  s.faultNote b e cause = s0 ∧ s1.eng b e.val = { y with slot := none } ∧
  (x.level = 8 → s.antFault b e cause = s1.engHalt b e.val 2 ret.toNat 1) ∧
  (x.level ≠ 8 → s.antFault b e cause = s1.antEnter b e 1 8 s.now ret.toNat x.status) ∧
  x.setReg 0 5 = x ∧ x.reg 0 = 0

/-! ### The Scarab core -/

/-- R241 (chapter The SIS-64 Instruction Set): the register forms that are not divisions. The command names the instruction that the core executes (log entry 7); its counted events are log entry 53. -/
def Obligations.IntegerRegisterForms : Prop := ∀ (k : CoreId) (d a b : Reg),
  Runs k (.add k d a b) (fun c => c.setX d (c.xr a + c.xr b)) ∧
  Runs k (.sub k d a b) (fun c => c.setX d (c.xr a - c.xr b)) ∧
  Runs k (.and k d a b) (fun c => c.setX d (c.xr a &&& c.xr b)) ∧
  Runs k (.or k d a b) (fun c => c.setX d (c.xr a ||| c.xr b)) ∧
  Runs k (.xor k d a b) (fun c => c.setX d (c.xr a ^^^ c.xr b)) ∧
  Runs k (.sll k d a b) (fun c => c.setX d (c.xr a <<< ((c.xr b).toNat % 64))) ∧
  Runs k (.srl k d a b) (fun c => c.setX d (c.xr a >>> ((c.xr b).toNat % 64))) ∧
  Runs k (.sra k d a b) (fun c => c.setX d ((c.xr a).sshiftRight ((c.xr b).toNat % 64))) ∧
  Runs k (.slt k d a b) (fun c => c.setX d (if (c.xr a).toInt < (c.xr b).toInt then 1 else 0)) ∧
  Runs k (.sltu k d a b) (fun c => c.setX d (if (c.xr a).toNat < (c.xr b).toNat then 1 else 0)) ∧
  Runs k (.min k d a b) (fun c => c.setX d (if (c.xr a).toInt < (c.xr b).toInt then c.xr a else c.xr b)) ∧
  Runs k (.max k d a b) (fun c => c.setX d (if (c.xr a).toInt < (c.xr b).toInt then c.xr b else c.xr a)) ∧
  Runs k (.minu k d a b) (fun c => c.setX d (if (c.xr a).toNat < (c.xr b).toNat then c.xr a else c.xr b)) ∧
  Runs k (.maxu k d a b) (fun c => c.setX d (if (c.xr a).toNat < (c.xr b).toNat then c.xr b else c.xr a)) ∧
  Runs k (.mul k d a b) (fun c => c.setX d (BitVec.ofInt 64 ((c.xr a).toInt * (c.xr b).toInt))) ∧
  Runs k (.mulh k d a b) (fun c => c.setX d (BitVec.ofInt 64 ((c.xr a).toInt * (c.xr b).toInt / 2 ^ 64))) ∧
  Runs k (.mulhu k d a b) (fun c => c.setX d (BitVec.ofNat 64 ((c.xr a).toNat * (c.xr b).toNat / 2 ^ 64))) ∧
  Runs k (.clz k d a) (fun c => c.setX d (BitVec.ofNat 64 (if c.xr a = 0 then 64 else 63 - Nat.log2 (c.xr a).toNat))) ∧
  Runs k (.ctz k d a) (fun c => c.setX d (BitVec.ofNat 64 ((List.range 64).takeWhile (fun i => !(c.xr a).getLsbD i)).length)) ∧
  Runs k (.popc k d a) (fun c => c.setX d (BitVec.ofNat 64 ((List.range 64).filter (fun i => (c.xr a).getLsbD i)).length)) ∧
  Runs k (.addw k d a b) (fun c => c.setX d ((lo32 (c.xr a) + lo32 (c.xr b)).signExtend 64)) ∧
  Runs k (.subw k d a b) (fun c => c.setX d ((lo32 (c.xr a) - lo32 (c.xr b)).signExtend 64)) ∧
  Runs k (.sllw k d a b) (fun c => c.setX d ((lo32 (c.xr a) <<< ((c.xr b).toNat % 32)).signExtend 64)) ∧
  Runs k (.srlw k d a b) (fun c => c.setX d ((lo32 (c.xr a) >>> ((c.xr b).toNat % 32)).signExtend 64)) ∧
  Runs k (.sraw k d a b) (fun c => c.setX d (((lo32 (c.xr a)).sshiftRight ((c.xr b).toNat % 32)).signExtend 64)) ∧
  Runs k (.mulw k d a b) (fun c => c.setX d ((lo32 (c.xr a) * lo32 (c.xr b)).signExtend 64))

/-- R242: division saturates, in 64-bit and in 32-bit forms; no integer instruction raises an exception. The command names the instruction that the core executes (log entry 7). -/
def Obligations.DivisionSaturates : Prop := ∀ (k : CoreId) (d a b : Reg),
  Runs k (.div k d a b) (fun c => c.setX d
    (if c.xr b = 0 then (if (c.xr a).toInt < 0 then BitVec.intMin 64 else BitVec.intMax 64)
     else if c.xr a = BitVec.intMin 64 ∧ (c.xr b).toInt = -1 then BitVec.intMax 64
     else BitVec.ofInt 64 ((c.xr a).toInt.tdiv (c.xr b).toInt))) ∧
  Runs k (.divu k d a b) (fun c => c.setX d
    (if c.xr b = 0 then BitVec.allOnes 64 else BitVec.ofNat 64 ((c.xr a).toNat / (c.xr b).toNat))) ∧
  Runs k (.rem k d a b) (fun c => c.setX d
    (if c.xr b = 0 then 0 else if c.xr a = BitVec.intMin 64 ∧ (c.xr b).toInt = -1 then 0
     else BitVec.ofInt 64 ((c.xr a).toInt.tmod (c.xr b).toInt))) ∧
  Runs k (.remu k d a b) (fun c => c.setX d (if c.xr b = 0 then 0 else BitVec.ofNat 64 ((c.xr a).toNat % (c.xr b).toNat))) ∧
  Runs k (.divw k d a b) (fun c =>
    let x := lo32 (c.xr a)
    let y := lo32 (c.xr b)
    c.setX d ((if y = 0 then (if x.toInt < 0 then BitVec.intMin 32 else BitVec.intMax 32)
      else if x = BitVec.intMin 32 ∧ y.toInt = -1 then BitVec.intMax 32
      else BitVec.ofInt 32 (x.toInt.tdiv y.toInt)).signExtend 64)) ∧
  Runs k (.divuw k d a b) (fun c =>
    let x := lo32 (c.xr a)
    let y := lo32 (c.xr b)
    c.setX d ((if y = 0 then BitVec.allOnes 32 else BitVec.ofNat 32 (x.toNat / y.toNat)).signExtend 64)) ∧
  Runs k (.remw k d a b) (fun c =>
    let x := lo32 (c.xr a)
    let y := lo32 (c.xr b)
    c.setX d ((if y = 0 then 0 else if x = BitVec.intMin 32 ∧ y.toInt = -1 then 0
      else BitVec.ofInt 32 (x.toInt.tmod y.toInt)).signExtend 64)) ∧
  Runs k (.remuw k d a b) (fun c =>
    let x := lo32 (c.xr a)
    let y := lo32 (c.xr b)
    c.setX d ((if y = 0 then 0 else BitVec.ofNat 32 (x.toNat % y.toNat)).signExtend 64)) ∧
  (∀ i s s1, integerInstr k i = true → i.wf = true → Fetched k s s1 → ∃ f, exec i s = .next (s1.retired k f))

/-- R243: the immediate forms, and the SHIFTI whose word is illegal (R240). The command names the instruction that the core executes (log entry 7). -/
def Obligations.IntegerImmediateForms : Prop := ∀ (k : CoreId) (d a : Reg) (imm : BitVec 16) (up : BitVec 21) (kind : ShiftKind) (sh : BitVec 6),
  Runs k (.addi k d a imm) (fun c => c.setX d (c.xr a + imm.signExtend 64)) ∧
  Runs k (.andi k d a imm) (fun c => c.setX d (c.xr a &&& imm.zeroExtend 64)) ∧
  Runs k (.ori k d a imm) (fun c => c.setX d (c.xr a ||| imm.zeroExtend 64)) ∧
  Runs k (.xori k d a imm) (fun c => c.setX d (c.xr a ^^^ imm.zeroExtend 64)) ∧
  Runs k (.slti k d a imm) (fun c => c.setX d (if (c.xr a).toInt < imm.toInt then 1 else 0)) ∧
  Runs k (.sltiu k d a imm) (fun c => c.setX d (if (c.xr a).toNat < (imm.signExtend 64).toNat then 1 else 0)) ∧
  Runs k (.shifti k d a kind false sh) (fun c => c.setX d (match kind with
    | .sll => c.xr a <<< sh.toNat
    | .srl => c.xr a >>> sh.toNat
    | .sra => (c.xr a).sshiftRight sh.toNat)) ∧
  (sh.toNat < 32 → Runs k (.shifti k d a kind true sh) (fun c => c.setX d ((match kind with
    | .sll => lo32 (c.xr a) <<< sh.toNat
    | .srl => lo32 (c.xr a) >>> sh.toNat
    | .sra => (lo32 (c.xr a)).sshiftRight sh.toNat).signExtend 64))) ∧
  (32 ≤ sh.toNat → IllegalWhen k (.shifti k d a kind true sh) (fun _ => True)) ∧
  Runs k (.addiw k d a imm) (fun c => c.setX d ((lo32 (c.xr a) + imm.signExtend 32).signExtend 64)) ∧
  Runs k (.lui k d up) (fun c => c.setX d (up.signExtend 64 <<< 16)) ∧
  Runs k (.auipc k d up) (fun c => c.setX d (c.pc + (up.signExtend 64 <<< 16)))

/-- R235, R236: a write of X0 is discarded and X0 reads 0; every other register reads as it was written, and no other register changes. -/
def Obligations.RegisterFiles : Prop := ∀ (c : CoreSt) (d r : Reg) (v : W64) (w : V128),
  c.setX 0 v = c ∧ c.xr 0 = 0 ∧
  (d ≠ 0 → (c.setX d v).xr d = v) ∧ (r ≠ d → (c.setX d v).xr r = c.xr r) ∧
  (c.setF d v).fr d = v ∧ (r ≠ d → (c.setF d v).fr r = c.fr r) ∧
  (c.setV d w).vr d = w ∧ (r ≠ d → (c.setV d w).vr r = c.vr r) ∧
  (c.setX d v).fr r = c.fr r ∧ (c.setX d v).vr r = c.vr r ∧ (c.setF d v).xr r = c.xr r ∧ (c.setF d v).vr r = c.vr r ∧
  (c.setV d w).xr r = c.xr r ∧ (c.setV d w).fr r = c.fr r ∧
  (c.setX d v).pc = c.pc ∧ (c.setF d v).pc = c.pc ∧ (c.setV d w).pc = c.pc ∧
  (c.setX d v).fpstat = c.fpstat ∧ (c.setF d v).fpstat = c.fpstat ∧ (c.setV d w).fpstat = c.fpstat ∧
  (c.setX d v).sq = c.sq ∧ (c.setX d v).bankO = c.bankO ∧ (c.setX d v).bankS = c.bankS ∧
  (c.setX d v).run = c.run ∧ (c.setX d v).sealed = c.sealed ∧ (c.setX d v).sup = c.sup

/-- What a completed instruction of one effect leaves alone (R215): every other core, memory, the caches, the registers of control space and every unit; of its own core all but the effect, the PC and the event counters. Which event counters move is log entry 53. -/
def Obligations.RetiredFrame : Prop := ∀ (s : State) (k j : CoreId) (f : CoreSt → CoreSt),
  let t := s.retired k f
  let c := f (s.core k)
  (j ≠ k → t.core j = s.core j) ∧
  (t.core k).pc = canon (c.pc + 4) ∧ (t.core k).blkWait = false ∧ (t.core k).x = c.x ∧ (t.core k).f = c.f ∧ (t.core k).v = c.v ∧ (t.core k).fpstat = c.fpstat ∧
  (t.core k).prg = c.prg ∧ (t.core k).sq = c.sq ∧ (t.core k).bankO = c.bankO ∧ (t.core k).bankS = c.bankS ∧
  (t.core k).trO = c.trO ∧ (t.core k).trS = c.trS ∧ (t.core k).tlb = c.tlb ∧ (t.core k).itlb = c.itlb ∧ (t.core k).dtlb = c.dtlb ∧
  (t.core k).walkc = c.walkc ∧ (t.core k).pred = c.pred ∧ (t.core k).icEn = c.icEn ∧ (t.core k).icLvl = c.icLvl ∧ (t.core k).tmr = c.tmr ∧
  (t.core k).frameT = c.frameT ∧ (t.core k).run = c.run ∧
  (t.core k).sealed = c.sealed ∧ (t.core k).sup = c.sup ∧ (t.core k).task = c.task ∧ (t.core k).frame = c.frame ∧
  (∀ a, cellGet 0 t.mem.dram a = cellGet 0 s.mem.dram a) ∧
  t.mem = s.mem ∧ t.cache = s.cache ∧ t.regs = s.regs ∧ t.su = s.su ∧ t.hive = s.hive ∧ t.bcn = s.bcn ∧ t.tb = s.tb ∧
  t.tw = s.tw ∧ t.lan = s.lan ∧ t.keeper = s.keeper ∧ t.bays = s.bays ∧ t.ports = s.ports ∧ t.jrn = s.jrn ∧ t.ring = s.ring ∧ t.grid = s.grid ∧ t.sector = s.sector ∧ t.clk = s.clk ∧
  t.boot = s.boot ∧ t.pending = s.pending

/-- R244, R245: loads; the value a load of n bytes gives is extended as its mnemonic says. An access that must wait is sent again (log entry 52), and the order of two parts is log entry 52. -/
def Obligations.LoadInstructions : Prop := ∀ (k : CoreId) (d a : Reg) (imm : BitVec 16) (size : BitVec 2),
  let at' := fun c : CoreSt => c.xr a + imm.signExtend 64
  Loads k (.ld k d a imm) at' 8 false (fun v c => c.setX d (BitVec.ofNat 64 v)) ∧
  Loads k (.lw k d a imm) at' 4 false (fun v c => c.setX d ((BitVec.ofNat 32 v).signExtend 64)) ∧
  Loads k (.lwu k d a imm) at' 4 false (fun v c => c.setX d (BitVec.ofNat 64 v)) ∧
  Loads k (.lh k d a imm) at' 2 false (fun v c => c.setX d ((BitVec.ofNat 16 v).signExtend 64)) ∧
  Loads k (.lhu k d a imm) at' 2 false (fun v c => c.setX d (BitVec.ofNat 64 v)) ∧
  Loads k (.lb k d a imm) at' 1 false (fun v c => c.setX d ((BitVec.ofNat 8 v).signExtend 64)) ∧
  Loads k (.lbu k d a imm) at' 1 false (fun v c => c.setX d (BitVec.ofNat 64 v)) ∧
  Loads k (.fld k d a imm) at' 8 false (fun v c => c.setF d (BitVec.ofNat 64 v)) ∧
  Loads k (.flw k d a imm) at' 4 false (fun v c => c.setF d (BitVec.ofNat 64 v)) ∧
  Loads k (.vld k d a imm) at' 16 false (fun v c => c.setV d (BitVec.ofNat 128 v)) ∧
  Loads k (.ldaq k d a size) (fun c => c.xr a) (2 ^ size.toNat) true (fun v c => c.setX d (BitVec.ofNat 64 v))

/-- R244, R245, R247: stores; the low bytes of the register go to Xa + imm16, or Xa of a release. A store enters the store queue of log entry 52. -/
def Obligations.StoreInstructions : Prop := ∀ (k : CoreId) (d a : Reg) (imm : BitVec 16) (size : BitVec 2),
  let at' := fun c : CoreSt => c.xr a + imm.signExtend 64
  Stores k (.st k d a imm) at' 8 false (fun c => (c.xr d).toNat) ∧
  Stores k (.sw k d a imm) at' 4 false (fun c => (c.xr d).toNat % 2 ^ 32) ∧
  Stores k (.sh k d a imm) at' 2 false (fun c => (c.xr d).toNat % 2 ^ 16) ∧
  Stores k (.sb k d a imm) at' 1 false (fun c => (c.xr d).toNat % 2 ^ 8) ∧
  Stores k (.fsd k d a imm) at' 8 false (fun c => (c.fr d).toNat) ∧
  Stores k (.fsw k d a imm) at' 4 false (fun c => (c.fr d).toNat % 2 ^ 32) ∧
  Stores k (.vst k d a imm) at' 16 false (fun c => (c.vr d).toNat) ∧
  Stores k (.strl k d a size) (fun c => c.xr a) (2 ^ size.toNat) true (fun c => (c.xr d).toNat % 2 ^ (8 * 2 ^ size.toNat))

/-- R246: the atomic operations, 4 and 8 bytes wide, whatever the ordering bits. An AMO is whole in one command, after the stores that it drains (log entry 52), and counts a load and a store (log entry 53). -/
def Obligations.AtomicInstructions : Prop := ∀ (k : CoreId) (d a b : Reg) (dbl : Bool) (ord : BitVec 2),
  Swaps k (.amoSwap k d a b dbl ord) d a dbl (fun c n _ => some ((c.xr b).truncate n)) ∧
  Swaps k (.amoAdd k d a b dbl ord) d a dbl (fun c n old => some (old + (c.xr b).truncate n)) ∧
  Swaps k (.amoAnd k d a b dbl ord) d a dbl (fun c n old => some (old &&& (c.xr b).truncate n)) ∧
  Swaps k (.amoOr k d a b dbl ord) d a dbl (fun c n old => some (old ||| (c.xr b).truncate n)) ∧
  Swaps k (.amoXor k d a b dbl ord) d a dbl (fun c n old => some (old ^^^ (c.xr b).truncate n)) ∧
  Swaps k (.amoMin k d a b dbl ord) d a dbl (fun c n old => some (if old.toInt < ((c.xr b).truncate n).toInt then old else (c.xr b).truncate n)) ∧
  Swaps k (.amoMax k d a b dbl ord) d a dbl (fun c n old => some (if old.toInt < ((c.xr b).truncate n).toInt then (c.xr b).truncate n else old)) ∧
  Swaps k (.amoMinu k d a b dbl ord) d a dbl (fun c n old => some (if old.toNat < ((c.xr b).truncate n).toNat then old else (c.xr b).truncate n)) ∧
  Swaps k (.amoMaxu k d a b dbl ord) d a dbl (fun c n old => some (if old.toNat < ((c.xr b).truncate n).toNat then (c.xr b).truncate n else old)) ∧
  Swaps k (.cas k d a b dbl ord) d a dbl (fun c n old => if old = (c.xr d).truncate n then some ((c.xr b).truncate n) else none)

/-- R248, R249, R216: conditional branches are taken exactly where their condition holds; jumps link and go to their targets; a JALR to an address that is no word's raises ALIGN. The predictor, which changes no result, learns as log entry 51 says. -/
def Obligations.Branches : Prop := ∀ (k : CoreId) (d a b : Reg) (off imm : BitVec 16) (joff : BitVec 26),
  let cond := fun (i : Instr) (P : CoreSt → Prop) =>
    Jumps k i P (fun c => c.pc + (off.signExtend 64 <<< 2)) (fun c => c.branched off true) ∧
    Jumps k i (fun c => ¬ P c) (fun c => canon (c.pc + 4)) (fun c => c.branched off false)
  cond (.beq k a b off) (fun c => c.xr a = c.xr b) ∧
  cond (.bne k a b off) (fun c => c.xr a ≠ c.xr b) ∧
  cond (.blt k a b off) (fun c => (c.xr a).toInt < (c.xr b).toInt) ∧
  cond (.bge k a b off) (fun c => (c.xr b).toInt ≤ (c.xr a).toInt) ∧
  cond (.bltu k a b off) (fun c => (c.xr a).toNat < (c.xr b).toNat) ∧
  cond (.bgeu k a b off) (fun c => (c.xr b).toNat ≤ (c.xr a).toNat) ∧
  Jumps k (.j k joff) (fun _ => True) (fun c => c.pc + (joff.signExtend 64 <<< 2))
    (fun c => c.linked 0 (c.pc + (joff.signExtend 64 <<< 2)) .jump c.pred.ras) ∧
  Jumps k (.jal k joff) (fun _ => True) (fun c => c.pc + (joff.signExtend 64 <<< 2))
    (fun c => c.linked 31 (c.pc + (joff.signExtend 64 <<< 2)) .call (((c.pc + 4) :: c.pred.ras).take 32)) ∧
  Jumps k (.jalr k d a imm) (fun c => (c.xr a + imm.signExtend 64).toNat % 4 = 0) (fun c => c.xr a + imm.signExtend 64)
    (fun c => c.linked d (c.xr a + imm.signExtend 64) (if d = 31 then .call else if d = 0 ∧ a = 31 then .ret else .indirect)
      (if d = 31 then ((c.pc + 4) :: c.pred.ras).take 32 else if d = 0 ∧ a = 31 then c.pred.ras.drop 1 else c.pred.ras)) ∧
  RaisesWhen k (.jalr k d a imm) (fun c => (c.xr a + imm.signExtend 64).toNat % 4 ≠ 0)
    (fun s => s.excAt k 0x03 12 0 ((s.core k).xr a + imm.signExtend 64))

/-- R250, R252: the floating-point operations that round, in the rounding mode their field or FPSTAT gives; a field of 6 or 7 is illegal. The sign of a zero result and the conversions of a NaN are log entry 55; FSQRT's unnamed field is log entry 54. -/
def Obligations.FloatRounding : Prop := ∀ (k : CoreId) (sgl : Bool) (rnd : BitVec 3) (d a b : Reg) (m : Nat),
  let ok := fun c : CoreSt => c.roundOf rnd = some m
  let bad := fun c : CoreSt => c.roundOf rnd = none
  RunsWhen k (.fadd k sgl rnd d a b) ok (fun c => c.putF d 1 (fAddV sgl m (c.fval sgl a) (c.fval sgl b))) ∧
  RunsWhen k (.fsub k sgl rnd d a b) ok (fun c => c.putF d 1 (fAddV sgl m (c.fval sgl a) (c.fval sgl b).neg)) ∧
  RunsWhen k (.fmul k sgl rnd d a b) ok (fun c => c.putF d 1 (fMulV sgl m (c.fval sgl a) (c.fval sgl b))) ∧
  RunsWhen k (.fdiv k sgl rnd d a b) ok (fun c => c.putF d 1 (fDivV sgl m (c.fval sgl a) (c.fval sgl b))) ∧
  RunsWhen k (.fsqrt k sgl rnd d a) ok (fun c => c.putF d 1 (fSqrtV sgl m (c.fval sgl a))) ∧
  RunsWhen k (.fresize k sgl rnd d a) ok (fun c => c.putF d 1 (fResizeV sgl m (c.fval (!sgl) a))) ∧
  RunsWhen k (.s64tof k sgl rnd d a) ok (fun c => c.putF d 1 (fFromInt sgl m (c.xr a).toInt)) ∧
  RunsWhen k (.u64tof k sgl rnd d a) ok (fun c => c.putF d 1 (fFromInt sgl m (c.xr a).toNat)) ∧
  RunsWhen k (.s32tof k sgl rnd d a) ok (fun c => c.putF d 1 (fFromInt sgl m (lo32 (c.xr a)).toInt)) ∧
  RunsWhen k (.u32tof k sgl rnd d a) ok (fun c => c.putF d 1 (fFromInt sgl m (lo32 (c.xr a)).toNat)) ∧
  RunsWhen k (.ftos64 k sgl rnd d a) ok (fun c =>
    let r := fToInt m (-(2 ^ 63)) (2 ^ 63 - 1) (c.fval sgl a)
    c.putX d 1 (BitVec.ofInt 64 r.1) r.2) ∧
  RunsWhen k (.ftou64 k sgl rnd d a) ok (fun c =>
    let r := fToInt m 0 (2 ^ 64 - 1) (c.fval sgl a)
    c.putX d 1 (BitVec.ofInt 64 r.1) r.2) ∧
  RunsWhen k (.ftos32 k sgl rnd d a) ok (fun c =>
    let r := fToInt m (-(2 ^ 31)) (2 ^ 31 - 1) (c.fval sgl a)
    c.putX d 1 ((BitVec.ofInt 32 r.1).signExtend 64) r.2) ∧
  RunsWhen k (.ftou32 k sgl rnd d a) ok (fun c =>
    let r := fToInt m 0 (2 ^ 32 - 1) (c.fval sgl a)
    c.putX d 1 ((BitVec.ofInt 32 r.1).signExtend 64) r.2) ∧
  IllegalWhen k (.fadd k sgl rnd d a b) bad ∧ IllegalWhen k (.fsub k sgl rnd d a b) bad ∧
  IllegalWhen k (.fmul k sgl rnd d a b) bad ∧ IllegalWhen k (.fdiv k sgl rnd d a b) bad ∧
  IllegalWhen k (.fsqrt k sgl rnd d a) bad ∧ IllegalWhen k (.fresize k sgl rnd d a) bad ∧
  IllegalWhen k (.s64tof k sgl rnd d a) bad ∧ IllegalWhen k (.u64tof k sgl rnd d a) bad ∧
  IllegalWhen k (.s32tof k sgl rnd d a) bad ∧ IllegalWhen k (.u32tof k sgl rnd d a) bad ∧
  IllegalWhen k (.ftos64 k sgl rnd d a) bad ∧ IllegalWhen k (.ftou64 k sgl rnd d a) bad ∧
  IllegalWhen k (.ftos32 k sgl rnd d a) bad ∧ IllegalWhen k (.ftou32 k sgl rnd d a) bad

/-- R253: the fused multiply-adds round once: a * b + c, a * b - c, -(a * b) - c and -(a * b) + c. That FMA.NA and FMA.NS round once, to -(a * b) - c and -(a * b) + c, is log entry 55; the count of their operations is log entry 53. -/
def Obligations.FusedMultiplyAdd : Prop := ∀ (k : CoreId) (sgl : Bool) (rnd : BitVec 3) (d a b c : Reg) (m : Nat),
  let ok := fun x : CoreSt => x.roundOf rnd = some m
  let bad := fun x : CoreSt => x.roundOf rnd = none
  RunsWhen k (.fmaA k sgl rnd d a b c) ok (fun x => x.putF d 2 (fFmaV sgl m (x.fval sgl a) (x.fval sgl b) (x.fval sgl c))) ∧
  RunsWhen k (.fmaS k sgl rnd d a b c) ok (fun x => x.putF d 2 (fFmaV sgl m (x.fval sgl a) (x.fval sgl b) (x.fval sgl c).neg)) ∧
  RunsWhen k (.fmaNa k sgl rnd d a b c) ok (fun x => x.putF d 2 (fFmaV sgl m (x.fval sgl a).neg (x.fval sgl b) (x.fval sgl c).neg)) ∧
  RunsWhen k (.fmaNs k sgl rnd d a b c) ok (fun x => x.putF d 2 (fFmaV sgl m (x.fval sgl a).neg (x.fval sgl b) (x.fval sgl c))) ∧
  IllegalWhen k (.fmaA k sgl rnd d a b c) bad ∧ IllegalWhen k (.fmaS k sgl rnd d a b c) bad ∧
  IllegalWhen k (.fmaNa k sgl rnd d a b c) bad ∧ IllegalWhen k (.fmaNs k sgl rnd d a b c) bad

/-- R252, R236: the floating-point operations that do not round. FABS, FNEG and FKIND ask 0 of their unnamed field (log entry 54). -/
def Obligations.FloatPlain : Prop := ∀ (k : CoreId) (sgl : Bool) (d a b : Reg),
  Runs k (.fmin k sgl d a b) (fun c => c.putF d 1 (fMinMax sgl false (c.fop sgl a) (c.fop sgl b))) ∧
  Runs k (.fmax k sgl d a b) (fun c => c.putF d 1 (fMinMax sgl true (c.fop sgl a) (c.fop sgl b))) ∧
  Runs k (.fminnum k sgl d a b) (fun c => c.putF d 1 (fMinMaxNum sgl false (c.fop sgl a) (c.fop sgl b))) ∧
  Runs k (.fmaxnum k sgl d a b) (fun c => c.putF d 1 (fMinMaxNum sgl true (c.fop sgl a) (c.fop sgl b))) ∧
  Runs k (.fabs k false d a) (fun c => c.setF d (c.fr a &&& 0x7fffffffffffffff)) ∧
  Runs k (.fneg k false d a) (fun c => c.setF d (c.fr a ^^^ 0x8000000000000000)) ∧
  Runs k (.fcps k false d a b) (fun c => c.setF d ((c.fr a &&& 0x7fffffffffffffff) ||| (c.fr b &&& 0x8000000000000000))) ∧
  Runs k (.fabs k true d a) (fun c => c.setF d (c.fr a &&& 0x7fffffff)) ∧
  Runs k (.fneg k true d a) (fun c => c.setF d ((c.fr a &&& 0xffffffff) ^^^ 0x80000000)) ∧
  Runs k (.fcps k true d a b) (fun c => c.setF d ((c.fr a &&& 0x7fffffff) ||| (c.fr b &&& 0x80000000))) ∧
  Runs k (.fcmp k sgl d a b) (fun c =>
    let r := fCmpV false (c.fval sgl a) (c.fval sgl b)
    c.putX d 1 (BitVec.ofNat 64 r.bits) r.flags) ∧
  Runs k (.fcmpo k sgl d a b) (fun c =>
    let r := fCmpV true (c.fval sgl a) (c.fval sgl b)
    c.putX d 1 (BitVec.ofNat 64 r.bits) r.flags) ∧
  Runs k (.fkind k sgl d a) (fun c => c.setX d (BitVec.ofNat 64 (fKind sgl (c.fop sgl a)))) ∧
  Runs k (.fbits k false d a) (fun c => c.setX d (c.fr a)) ∧
  Runs k (.fbits k true d a) (fun c => c.setX d (c.fr a &&& 0xffffffff)) ∧
  Runs k (.xbits k false d a) (fun c => c.setF d (c.xr a)) ∧
  Runs k (.xbits k true d a) (fun c => c.setF d (c.xr a &&& 0xffffffff))

/-- R251, R252: a NaN operand of a rounding operation gives the canonical NaN of the format, and INVALID exactly where an operand is signalling; it sets no other flag. Which flags a NaN leaves alone is read from the rule (log entry 55). -/
def Obligations.NaNResults : Prop := ∀ (sgl : Bool) (m : Nat) (x y : FVal),
  (x.isN || y.isN) = true →
    (∀ r, r = fAddV sgl m x y ∨ r = fMulV sgl m x y ∨ r = fDivV sgl m x y →
      r.bits = (if sgl then 0x7fc00000 else 0x7ff8000000000000) ∧ r.flags = (if x.isS || y.isS then 1 else 0)) ∧
    (x.isN = true → fSqrtV sgl m x = fNanRes sgl x.isS ∧ fResizeV sgl m x = fNanRes sgl x.isS)

/-- R254: the two-operand vector operations lane by lane, and the types that are illegal. Integer comparisons are signed (log entry 55). -/
def Obligations.VectorLaneOperations : Prop := ∀ (k : CoreId) (ty : BitVec 3) (d a b : Reg),
  let any := fun _ : CoreSt => True
  (ty.toNat ≤ 2 →
    Runs k (.vadd k ty d a b) (fun c => c.lanes2 ty d a b (onBits fAddV) (fun x y => x + y)) ∧
    Runs k (.vsub k ty d a b) (fun c => c.lanes2 ty d a b (onBits (fun g m x y => fAddV g m x y.neg)) (fun x y => x - y)) ∧
    Runs k (.vmul k ty d a b) (fun c => c.lanes2 ty d a b (onBits fMulV) (fun x y => x * y)) ∧
    Runs k (.vmin k ty d a b) (fun c => c.lanes2 ty d a b (fun g _ => fMinMax g false) (fun x y => if x.toInt < y.toInt then x else y)) ∧
    Runs k (.vmax k ty d a b) (fun c => c.lanes2 ty d a b (fun g _ => fMinMax g true) (fun x y => if x.toInt < y.toInt then y else x)) ∧
    Runs k (.vand k ty d a b) (fun c => c.setV d (c.vr a &&& c.vr b)) ∧
    Runs k (.vor k ty d a b) (fun c => c.setV d (c.vr a ||| c.vr b)) ∧
    Runs k (.vxor k ty d a b) (fun c => c.setV d (c.vr a ^^^ c.vr b)) ∧
    Runs k (.vcmpeq k ty d a b) (fun c => c.lanes2 ty d a b (cmpLane false 2) (fun x y => if x = y then 0xffffffff else 0)) ∧
    Runs k (.vcmplt k ty d a b) (fun c => c.lanes2 ty d a b (cmpLane true 1) (fun x y => if x.toInt < y.toInt then 0xffffffff else 0)) ∧
    Runs k (.vcmple k ty d a b) (fun c => c.lanes2 ty d a b (cmpLane true 3) (fun x y => if x.toInt ≤ y.toInt then 0xffffffff else 0))) ∧
  (ty.toNat ≤ 1 →
    Runs k (.vdiv k ty d a b) (fun c => c.lanes2 ty d a b (onBits fDivV) (fun x _ => x)) ∧
    Runs k (.vsqrt k ty d a) (fun c => c.mapLanes ty.toNat d 1 (fun i => fSqrtV (ty == 1) c.rnd (laneVal ty.toNat (c.vr a) i)))) ∧
  (2 < ty.toNat →
    IllegalWhen k (.vadd k ty d a b) any ∧ IllegalWhen k (.vsub k ty d a b) any ∧ IllegalWhen k (.vmul k ty d a b) any ∧
    IllegalWhen k (.vmin k ty d a b) any ∧ IllegalWhen k (.vmax k ty d a b) any ∧ IllegalWhen k (.vand k ty d a b) any ∧
    IllegalWhen k (.vor k ty d a b) any ∧ IllegalWhen k (.vxor k ty d a b) any ∧ IllegalWhen k (.vcmpeq k ty d a b) any ∧
    IllegalWhen k (.vcmplt k ty d a b) any ∧ IllegalWhen k (.vcmple k ty d a b) any) ∧
  (1 < ty.toNat → IllegalWhen k (.vdiv k ty d a b) any ∧ IllegalWhen k (.vsqrt k ty d a) any)

/-- R254, R255: the vector operations that move, sum, convert, shift, multiply and select lanes. VSEL selects for any type (log entry 54). -/
def Obligations.VectorOtherOperations : Prop := ∀ (k : CoreId) (ty : BitVec 3) (t2 : BitVec 2) (d a b c : Reg) (l : BitVec 5),
  (ty.toNat ≤ 2 →
    Runs k (.vsplatX k ty d a) (fun x => x.setV d (splat ty.toNat (x.xr a).toNat)) ∧
    Runs k (.vsplatF k ty d a) (fun x => x.setV d (splat ty.toNat (x.fr a).toNat))) ∧
  (l.toNat < 4 →
    Runs k (.vextX k 2 d a l) (fun x => x.setX d (((x.vr a).extractLsb' (32 * l.toNat) 32).signExtend 64)) ∧
    Runs k (.vinsX k 2 d a l) (fun x => x.setV d (setLane 2 (x.vr d) l.toNat (x.xr a).toNat)) ∧
    Runs k (.vextF k 1 d a l) (fun x => x.setF d (((x.vr a).extractLsb' (32 * l.toNat) 32).zeroExtend 64)) ∧
    Runs k (.vinsF k 1 d a l) (fun x => x.setV d (setLane 1 (x.vr d) l.toNat (x.fr a).toNat))) ∧
  (l.toNat < 2 →
    Runs k (.vextF k 0 d a l) (fun x => x.setF d ((x.vr a).extractLsb' (64 * l.toNat) 64)) ∧
    Runs k (.vinsF k 0 d a l) (fun x => x.setV d (setLane 0 (x.vr d) l.toNat (x.fr a).toNat))) ∧
  Runs k (.vsumh k 0 d a) (fun x => x.putF d 1 (fAddV false x.rnd (laneVal 0 (x.vr a) 0) (laneVal 0 (x.vr a) 1))) ∧
  Runs k (.vsumh k 1 d a) (fun x => x.putF d 3 (sumh32 x.rnd (x.vr a))) ∧
  Runs k (.vsumh k 2 d a) (fun x => x.setX d (((x.vr a).extractLsb' 0 32 + (x.vr a).extractLsb' 32 32 +
    (x.vr a).extractLsb' 64 32 + (x.vr a).extractLsb' 96 32).signExtend 64)) ∧
  (ty = 1 ∨ ty = 2 → Runs k (.vcvt k ty d a) (fun x =>
    let r := buildLanes 1 (fun i => cvtLane ty x.rnd (lane 1 (x.vr a) i))
    ((x.setV d r.1).accrue r.2).ev 0x24 4)) ∧
  Runs k (.vshl k 2 d a b) (fun x => x.mapLanes 2 d 0 (fun i => ⟨(BitVec.ofNat 32 (lane 2 (x.vr a) i) <<< (lane 2 (x.vr b) i % 32)).toNat, 0⟩)) ∧
  Runs k (.vsra k 2 d a b) (fun x => x.mapLanes 2 d 0 (fun i => ⟨((BitVec.ofNat 32 (lane 2 (x.vr a) i)).sshiftRight (lane 2 (x.vr b) i % 32)).toNat, 0⟩)) ∧
  (t2.toNat ≤ 1 →
    let fma := fun (op : Nat) (x : CoreSt) => x.mapLanes t2.toNat d 2 (fun i =>
      fmaRes op (t2 == 1) x.rnd (laneVal t2.toNat (x.vr a) i) (laneVal t2.toNat (x.vr b) i) (laneVal t2.toNat (x.vr c) i))
    Runs k (.vr4FmaA k t2 d a b c) (fma 0) ∧ Runs k (.vr4FmaS k t2 d a b c) (fma 1) ∧
    Runs k (.vr4FmaNa k t2 d a b c) (fma 2) ∧ Runs k (.vr4FmaNs k t2 d a b c) (fma 3)) ∧
  (Runs k (.vsel k t2 d a b c) (fun x => x.setV d ((x.vr a &&& x.vr c) ||| (x.vr b &&& ~~~(x.vr c))))) ∧
  (1 < t2.toNat → IllegalWhen k (.vr4FmaA k t2 d a b c) (fun _ => True) ∧ IllegalWhen k (.vr4FmaS k t2 d a b c) (fun _ => True) ∧
    IllegalWhen k (.vr4FmaNa k t2 d a b c) (fun _ => True) ∧ IllegalWhen k (.vr4FmaNs k t2 d a b c) (fun _ => True)) ∧
  (4 ≤ l.toNat → IllegalWhen k (.vextX k 2 d a l) (fun _ => True) ∧ IllegalWhen k (.vinsX k 2 d a l) (fun _ => True) ∧
    IllegalWhen k (.vextF k 1 d a l) (fun _ => True) ∧ IllegalWhen k (.vinsF k 1 d a l) (fun _ => True)) ∧
  (2 ≤ l.toNat → IllegalWhen k (.vextF k 0 d a l) (fun _ => True) ∧ IllegalWhen k (.vinsF k 0 d a l) (fun _ => True)) ∧
  (ty ≠ 2 → IllegalWhen k (.vextX k ty d a l) (fun _ => True) ∧ IllegalWhen k (.vinsX k ty d a l) (fun _ => True) ∧
    IllegalWhen k (.vshl k ty d a b) (fun _ => True) ∧ IllegalWhen k (.vsra k ty d a b) (fun _ => True)) ∧
  (ty ≠ 1 ∧ ty ≠ 2 → IllegalWhen k (.vcvt k ty d a) (fun _ => True)) ∧
  (2 < ty.toNat → IllegalWhen k (.vsplatX k ty d a) (fun _ => True) ∧ IllegalWhen k (.vsplatF k ty d a) (fun _ => True) ∧
    IllegalWhen k (.vsumh k ty d a) (fun _ => True)) ∧
  (1 < ty.toNat → IllegalWhen k (.vextF k ty d a l) (fun _ => True) ∧ IllegalWhen k (.vinsF k ty d a l) (fun _ => True))

/-- R262, R263, R240: SYSR and SYSW reach a register where the level allows it, raise PRIVILEGE where it does not, and are illegal for the numbers no level reaches and for a write of a read-only register. A counter that is read or written first gains what the model cannot see, a free amount (log entry 53). -/
def Obligations.SystemRegisters : Prop := ∀ (k : CoreId) (d a : Reg) (n : BitVec 12) (s s1 : State), Fetched k s s1 →
  let u := if sysCounted n.toNat = true then s1.evDraw k else s1
  let r := u.sysRead k n.toNat
  let w := u.sysWrite k n.toNat ((s1.core k).xr a)
  (∀ l, sysLevel n.toNat = some l → (s1.core k).mayReach l = true →
    ((r.2.core k).run = .running → exec (.sysr k d a n) s = .next (r.2.retired k (fun c => c.setX d r.1))) ∧
    (sysReadOnly n.toNat = false → (w.core k).run = .running → exec (.sysw k d a n) s = .next (w.retired k id)) ∧
    (sysReadOnly n.toNat = true → ∀ x, sisWord (.sysw k d a n) = some x → exec (.sysw k d a n) s = .next (s1.raise k (illegalExc k x s1)))) ∧
  (∀ l, sysLevel n.toNat = some l → (s1.core k).mayReach l = false →
    (∀ x, sisWord (.sysr k d a n) = some x → exec (.sysr k d a n) s = .next (s1.raise k (privilegeExc k x s1))) ∧
    (∀ x, sisWord (.sysw k d a n) = some x → exec (.sysw k d a n) s = .next (s1.raise k (privilegeExc k x s1)))) ∧
  (0xc00 ≤ n.toNat →
    (∀ x, sisWord (.sysr k d a n) = some x → exec (.sysr k d a n) s = .next (s1.raise k (illegalExc k x s1))) ∧
    (∀ x, sisWord (.sysw k d a n) = some x → exec (.sysw k d a n) s = .next (s1.raise k (illegalExc k x s1))))

/-- R227, R256, R257, R290, R305, R321: fences, calls, the breakpoint, the return and the world call. An ERET that is refused enters EVEC at its own level, and a refused WCALL goes by the order of log entry 59; the fetched lines are log entry 7 and the counted redirects log entry 53. -/
def Obligations.FencesAndCalls : Prop := ∀ (k : CoreId) (a : Reg) (m : BitVec 4) (code : BitVec 5),
  (m.getLsbD 1 && m.getLsbD 2 = false → Runs k (.fence k m) id) ∧
  (m.getLsbD 1 && m.getLsbD 2 = true → RunsAfter k (.fence k m) (fun s => s.sqDrainAll k) id) ∧
  (∀ s s1, Fetched k s s1 → exec (.ifence k) s =
    .next ((s1.setCc k { s1.cc k with l1i := [] }).retired k (fun c => c.ev 0x11 1))) ∧
  RunsAfter k (.iofence k) (fun s => s.sqDrain k (sqDepth (fun e => e.parts.any (fun p => p.pol.single)) (s.core k).sq)) id ∧
  RaisesWhen k (.ecall k a code) (fun c => c.sup = false)
    (fun s => { s.excAt k 0x0b 9 0 (code.zeroExtend 64) with epc := (s.core k).pc + 4 }) ∧
  (∀ w, sisWord (.ecall k a code) = some w → RaisesWhen k (.ecall k a code) (fun c => c.sup = true) (privilegeExc k w)) ∧
  RaisesWhen k (.brk k) (fun _ => True) (fun s => s.excAt k 0x0d 13 0 0) ∧
  (∀ w, sisWord (.wcall k a) = some w → ∀ s s1, Fetched k s s1 → exec (.wcall k a) s = .next (s1.wcall k ((s1.core k).xr a) w)) ∧
  (∀ s s1, Fetched k s s1 → (s1.core k).sup = true → (s1.core k).eretCause = 0 →
    exec (.eret k a) s = .next ((s1.setCore k ((s1.core k).ev 0x01 1)).eret k)) ∧
  (∀ s s1, Fetched k s s1 → (s1.core k).sup = true → (s1.core k).eretCause ≠ 0 → exec (.eret k a) s = .next (s1.eret k)) ∧
  (∀ w, sisWord (.eret k a) = some w → RaisesWhen k (.eret k a) (fun c => c.sup = false) (privilegeExc k w))

/-- R353, R354, R256, R363, R383: translation and cache maintenance: performed after every older store, for supervisors where the rules say so. An operation that must wait is sent again (log entry 52); what else reaches the homes, and the lines' L3 errors, is log entry 90. -/
def Obligations.Maintenance : Prop := ∀ (k : CoreId) (a : Reg) (bcast : Bool),
  let tlbi := fun (kind : Nat) (i : Instr) =>
    (∀ s s1 s2, Fetched k s s1 → (s1.core k).sup = true → s1.sqDrainAll k = .ok () s2 → (s2.core k).run = .running →
      let c := s1.core k
      let f := fun c' : CoreSt => c'.tlbi kind c.sealed (c.tr c.sealed).asid (c.xr a)
      let t := if bcast then (List.range 144).foldl (fun s i =>
          if (s.core (coreOf i)).run == .off then s else s.setCore (coreOf i) (f (s.core (coreOf i)))) s2
        else s2.setCore k (f (s2.core k))
      (t.core k).run = .running → exec i s = .next (t.retired k id)) ∧
    (∀ w, sisWord i = some w → RaisesWhen k i (fun c => c.sup = false) (privilegeExc k w))
  let line := fun (i : Instr) (supOnly clean inv : Bool) =>
    (∀ s s1 s2, Fetched k s s1 → (supOnly = true → (s1.core k).sup = true) →
      s1.cmoLine k ((s1.core k).xr a) clean inv = .ok () s2 → (s2.core k).run = .running → exec i s = .next (s2.retired k id)) ∧
    (supOnly = true → ∀ w, sisWord i = some w → RaisesWhen k i (fun c => c.sup = false) (privilegeExc k w))
  tlbi 0 (.tlbiAll k a bcast) ∧ tlbi 1 (.tlbiAsid k a bcast) ∧ tlbi 2 (.tlbiVa k a bcast) ∧
  tlbi 3 (.tlbiVaAll k a bcast) ∧ tlbi 4 (.tlbiWalk k a bcast) ∧
  line (.cleanVa k a) false true false ∧ line (.invVa k a) true false true ∧ line (.clinvVa k a) false true true ∧
  (∀ s s1 s2, Fetched k s s1 → (s1.core k).sup = true → s1.clinvSw k ((s1.core k).xr a) = .ok () s2 → (s2.core k).run = .running →
    exec (.clinvSw k a) s = .next (s2.retired k id)) ∧
  (∀ w, sisWord (.clinvSw k a) = some w → RaisesWhen k (.clinvSw k a) (fun c => c.sup = false) (privilegeExc k w)) ∧
  (∀ s s1 s2, Fetched k s s1 → s1.zeroLine k ((s1.core k).xr a) = .ok () s2 → (s2.core k).run = .running →
    exec (.zeroVa k a) s = .next (s2.retired k (fun c => c.ev 0x0c 1)))

/-- R266 to R271: a TINT whose descriptor passes its checks interpolates and writes Fd; one at an address that is not a line's raises TABLE_DESC. The counts of operations are log entry 53, comparisons that set no flags log entry 55, and a read that must wait, with the uncached reads of a table that is refused, log entry 52. -/
def Obligations.TableInterpolation : Prop := ∀ (k : CoreId) (d a b c : Reg),
  let tint := fun (i : Instr) (xs : CoreSt → List Nat) =>
    (∀ s s1 w s2 l s3 vals s4, Fetched k s s1 → ((s1.core k).xr a).toNat % 64 = 0 →
      s1.loadWords k ((s1.core k).xr a) 8 = .ok w s2 →
      (TintDesc.check ⟨w⟩ (xs (s1.core k)).length) = 0 →
      s2.axes k (s1.core k).rnd ⟨w⟩ 0 (xs (s1.core k)) = .ok l s3 →
      s3.corners k ⟨w⟩ l (2 ^ (xs (s1.core k)).length) 0 = .ok vals s4 → (s4.core k).run = .running →
      exec i s = .next (s4.retired k (fun x =>
        (x.putF d (tintOps (xs (s1.core k)).length) (tintRes (s1.core k).rnd l vals)).ev 0x23 1))) ∧
    (∀ s s1, Fetched k s s1 → ((s1.core k).xr a).toNat % 64 ≠ 0 →
      exec i s = .next (s1.raise k (s1.tableExc k ((s1.core k).xr a) 1))) ∧
    (∀ s s1 w s2, Fetched k s s1 → ((s1.core k).xr a).toNat % 64 = 0 → s1.loadWords k ((s1.core k).xr a) 8 = .ok w s2 →
      TintDesc.check ⟨w⟩ (xs (s1.core k)).length ≠ 0 →
      exec i s = .next ((if (s2.core k).devReads = (s1.core k).devReads then s2 else s1).raise k
        (s2.tableExc k ((s1.core k).xr a) (TintDesc.check ⟨w⟩ (xs (s1.core k)).length))))
  tint (.tint1 k d a b) (fun x => [(x.fr b).toNat]) ∧
  tint (.tint2 k d a b c) (fun x => [(x.fr b).toNat, (x.fr c).toNat]) ∧
  (c ≠ 31 → tint (.tint3 k d a b c) (fun x => [(x.fr b).toNat, (x.fr c).toNat, (x.fr (c + 1)).toNat])) ∧
  (c = 31 → IllegalWhen k (.tint3 k d a b c) (fun _ => True))

/-- R272 to R279: the block operations go on from PRG's record, granule by granule, and VDOT element by element; VDOT's operands are aligned to 8 bytes. VDOT stops for an interrupt after a free number of 1 to 8 elements (log entry 59), and one that must wait keeps its whole granules (log entry 52). -/
def Obligations.BlockOperations : Prop := ∀ (k : CoreId) (d a b c : Reg) (s s1 : State), Fetched k s s1 →
  let x := s1.core k
  exec (.blkcpy k d a b) s = .next ((State.blkRun k 1 (x.xr b).toNat
    (fun s pos => s.copyGranule k (x.xr d) (x.xr a) pos (x.xr b).toNat) ((x.xr b).toNat + 1) (x.blkStart 1 (x.xr b).toNat).pos s1).finish k) ∧
  exec (.blkset k d a b) s = .next ((State.blkRun k 2 (x.xr b).toNat
    (fun s pos => s.setGranule k (x.xr d) (x.xr a) pos (x.xr b).toNat) ((x.xr b).toNat + 1) (x.blkStart 2 (x.xr b).toNat).pos s1).finish k) ∧
  ((x.xr a).toNat % 8 = 0 → (x.xr b).toNat % 8 = 0 →
    exec (.vdot k d a b c) s = .next ((State.vdotRun k d (x.xr a) (x.xr b) (x.xr c).toNat
      ((x.blkStart 3 (x.xr c).toNat).pos + 1 + (Config.freeBits 3 s1.freeCtr).toNat) ((x.xr c).toNat + 1)
      (x.blkStart 3 (x.xr c).toNat) (s1.free 3).2).finish k)) ∧
  ((x.xr a).toNat % 8 ≠ 0 → exec (.vdot k d a b c) s = .next (s1.raise k (s1.alignExc k (x.xr a)))) ∧
  ((x.xr a).toNat % 8 = 0 → (x.xr b).toNat % 8 ≠ 0 → exec (.vdot k d a b c) s = .next (s1.raise k (s1.alignExc k (x.xr b))))

/-- R282 to R284, R98: SLD, STAMP, FRAME.N, FRAME.T and DONE; a word that is no instruction is illegal (R240). An ILLEGAL_INSTRUCTION of a legal word does nothing (log entry 7); a DONE at the stamp of a due tick waits for it (R45), a FRAME.T without its tick waits for that (R192); SLD counts two loads (log entry 53), and DONE's last drain waits as log entry 52 says. -/
def Obligations.SamplesAndDone : Prop := ∀ (k : CoreId) (d a b c : Reg) (status : Byte) (w : W32),
  (d ≠ 0 → d.toNat % 2 = 0 → ∀ s s1 v st s2, Fetched k s s1 →
    let x := s1.core k
    let p := x.xr a + x.xr b * 4
    let q := x.xr c + x.xr b * 8
    p.toNat % 4 = 0 → q.toNat % 8 = 0 → s1.sldReads k p q = .ok (v, st) s2 → (s2.core k).run = .running →
    exec (.sld k d a b c) s = .next (s2.retired k (fun y =>
      ((y.setX d ((BitVec.ofNat 32 v).signExtend 64)).setX (d + 1) (BitVec.ofNat 64 st)).ev 0x0b 2))) ∧
  (∀ (s t u w z : State) p q v st l m, s.pieces k p 4 true .load = .ok l t → t.pieces k q 8 true .load = .ok m u →
    u.loadQueued k l = .ok v w → w.loadQueued k m = .ok st z → s.sldReads k p q = .ok (v, st) z) ∧
  (d = 0 ∨ d.toNat % 2 = 1 → IllegalWhen k (.sld k d a b c) (fun _ => True)) ∧
  (∀ s s1, Fetched k s s1 → exec (.stamp k d) s = .next (s1.retired k (fun x => x.setX d s1.tb.now))) ∧
  Runs k (.frameN k d) (fun x => x.setX d x.frame) ∧
  (∀ s s1 t, Fetched k s s1 → s1.frameTime k = some t →
    exec (.frameT k d) s = .next (s1.retired k (fun x => ({ x with frameT := some t } : CoreSt).setX d t))) ∧
  (∀ s s1, Fetched k s s1 → s1.frameTime k = none → exec (.frameT k d) s = .next s1) ∧
  (∀ s s1 s2, s.tickDue = false → Fetched k s s1 →
    (s1.setCore k { s1.core k with run := .draining }).sqDrainAll k = .ok () s2 →
    exec (.done k status) s = .next ((s2.setCore k ((s2.core k).ev 0x01 1)).taskDoneOn k status)) ∧
  (∀ s s1, s.tickDue = false → (s.core k).run = .draining → s.sqDrainAll k = .ok () s1 →
    exec (.done k status) s = .next ((s1.setCore k ((s1.core k).ev 0x01 1)).taskDoneOn k status)) ∧
  (∀ s, s.tickDue = true → exec (.done k status) s = .next s) ∧
  (sisDecode w = none → RaisesWhen k (.illegalInstruction k w) (fun _ => True) (illegalExc k w)) ∧
  (sisDecode w ≠ none → ∀ s, exec (.illegalInstruction k w) s = .next s)

/-! ### Exceptions, worlds and the journal -/

/-- R303: an escalation writes bank 15 of the current world with CAUSE 0x10, SUB the original cause and OLVL its level, and EPC and EADDR as for the original cause; it is journaled with type ESCALATE. What R332 masks in the record of a Sealed context is log entry 60. -/
def Obligations.EscalationEntry : Prop := ∀ (s : State) (k : CoreId) (e : Exc),
  (s.core k).here.act ≠ 15 → e.level ≤ (s.core k).here.ml.toNat →
  let t := s.take k e
  let b := (t.core k).here
  let st := (assocD b.estat 15 0).toNat
  (t.core k).sealed = (s.core k).sealed ∧ st % 256 = 0x10 ∧ st / 2 ^ 8 % 256 = e.cause % 256 ∧ st / 2 ^ 27 % 16 = e.level % 16 ∧
  assocD b.epc 15 0 = e.epc &&& 0xfffffffffffffffc ∧ assocD b.eaddr 15 0 = e.eaddr ∧
  (∃ r ∈ t.lan.ram, r.type = 0x0900 ∧ r.seq = s.jrn.seq)

/-- R292, R295, R334: entry at a level into a world writes EPC, ESTAT and EADDR of that level in that world's bank, with the context being left; ACT and ML are the level, the world is that world and the privilege is supervisor; execution goes on at EVEC + 0x80 x L (on a running core); the predictor is flushed exactly when the world changes; no other register of the core, no store waiting in its queue and no other core changes, and within one world nothing else at all. What the event counters gain as the world changes is a free value (log entry 53). -/
def Obligations.ExceptionEntry : Prop := ∀ (s : State) (k : CoreId) (w : Bool) (lvl cause sub olvl : Nat) (epc eaddr : W64) (blk : Bool),
  lvl < 16 → (s.core k).run = .running →
  let t := s.enter k w lvl cause sub olvl epc eaddr blk
  let c := s.core k
  let d := t.core k
  let b := d.bank w
  let st := (assocD b.estat lvl 0).toNat
  d.sealed = w ∧ d.sup = true ∧ b.act.toNat = lvl ∧ b.ml.toNat = lvl ∧ d.pc = (c.bank w).evec + BitVec.ofNat 64 (0x80 * lvl) ∧
  assocD b.epc lvl 0 = epc &&& 0xfffffffffffffffc ∧ assocD b.eaddr lvl 0 = eaddr ∧
  st % 256 = cause % 256 ∧ st / 2 ^ 8 % 256 = sub % 256 ∧ st / 2 ^ 16 % 16 = c.here.ml.toNat ∧ st / 2 ^ 20 % 16 = c.here.act.toNat ∧
  st / 2 ^ 24 % 2 = b2n c.sealed ∧ st / 2 ^ 25 % 2 = b2n c.sup ∧ st / 2 ^ 26 % 2 = b2n blk ∧ st / 2 ^ 27 % 16 = olvl % 16 ∧
  b.evec = (c.bank w).evec ∧ d.bank (!w) = c.bank (!w) ∧ (∀ j, j ≠ lvl → assocD b.epc j 0 = assocD (c.bank w).epc j 0) ∧
  (w = c.sealed → d.pred = c.pred) ∧ (w ≠ c.sealed → d.pred = {}) ∧
  d.x = c.x ∧ d.f = c.f ∧ d.v = c.v ∧ d.sq = c.sq ∧ d.tlb = c.tlb ∧ d.itlb = c.itlb ∧ d.dtlb = c.dtlb ∧ d.walkc = c.walkc ∧ d.prg = c.prg ∧ d.fpstat = c.fpstat ∧ d.run = c.run ∧
  (∀ j, j ≠ k → t.core j = s.core j) ∧ t.mem.dram = s.mem.dram ∧ t.pending = s.pending ∧
  (w = c.sealed → t = s.setCore k d)

/-- R462, R314, R141: SAFE_ALL sets bit 0 of BAY_CTL of every Open bay and bit 0 of SI_CTL, puts every pin of an Open bay in its safe state, reaches no Sealed bay, and changes no other register, no pad level and no memory; an engine's DE whose time is over is released first (R145), and otherwise no engine changes. A DE that is due is released with the next command of its bay (log entry 33). -/
def Obligations.SafeAllReach : Prop := ∀ (s : State) (b : BayId) (u : PinId) (key : Nat),
  (s.baySealed b.val = false → s.safeAll.flagAt (R.BAY_CTL b.val) 0 = true) ∧ s.safeAll.flagAt R.SI_CTL 0 = true ∧
  (s.baySealed b.val = true → s.safeAll.rd (R.BAY_CTL b.val) = s.rd (R.BAY_CTL b.val)) ∧
  (key ≠ R.SI_CTL → (∀ c : BayId, key ≠ R.BAY_CTL c.val) → s.safeAll.rd key = s.rd key) ∧
  (s.baySealed b.val = false → (s.safeAll.pin b u.val).safe = true) ∧ (s.baySealed b.val = true → s.safeAll.bay b = s.bay b) ∧
  (s.safeAll.pin b u.val).pad = (s.pin b u.val).pad ∧
  (s.baySealed b.val = false → (s.safeAll.pin b u.val).drive = ((s.bayTails b).pin b u.val).drive ∧ (s.safeAll.bay b).eng = ((s.bayTails b).bay b).eng) ∧
  ((∀ e, (s.eng b e).su.deEnd.any (fun t => stampLe t s.now) = false) → s.bayTails b = s) ∧
  (s.safeAll.bay b).sram = (s.bay b).sram ∧ (s.safeAll.bay b).posts = (s.bay b).posts ∧ s.safeAll.mem = s.mem ∧ s.safeAll.cores = s.cores
end

