-- ==== Sys2Proof/Laws/Bits.lean ====
section
/-! SUPPORT. Laws of the sparse maps and of the byte cells. -/

namespace Sys2Proof.Machine

/-! ### Sparse maps -/

@[simp] theorem assoc?_set_same {α : Type} (l : List (Nat × α)) (k : Nat) (v : α) : assoc? (assocSet l k v) k = some v := by
  induction l with
  | nil => simp [assocSet, assoc?]
  | cons p r ih =>
    obtain ⟨a, w⟩ := p
    simp only [assocSet]
    split
    · simp [assoc?]
    · split
      · simp [assoc?]
      · rename_i h1 h2
        have h : ¬ a = k := fun e => h2 e.symm
        simp [assoc?, h, ih]

theorem assoc?_set_other {α : Type} (l : List (Nat × α)) (k j : Nat) (v : α) (h : j ≠ k) : assoc? (assocSet l k v) j = assoc? l j := by
  have hk : ¬ k = j := fun e => h e.symm
  induction l with
  | nil => simp [assocSet, assoc?, hk]
  | cons p r ih =>
    obtain ⟨a, w⟩ := p
    simp only [assocSet]
    split
    · simp [assoc?, hk]
    · split
      · rename_i e
        subst e
        simp [assoc?, hk]
      · simp [assoc?, ih]

@[simp] theorem assocD_set_same {α : Type} (l : List (Nat × α)) (k : Nat) (v d : α) : assocD (assocSet l k v) k d = v := by
  simp [assocD]

theorem assocD_set_other {α : Type} (l : List (Nat × α)) (k j : Nat) (v d : α) (h : j ≠ k) : assocD (assocSet l k v) j d = assocD l j d := by
  simp [assocD, assoc?_set_other l k j v h]

/-- A second write of a key replaces the first. -/
@[simp] theorem assocSet_set {α : Type} (l : List (Nat × α)) (k : Nat) (v w : α) : assocSet (assocSet l k v) k w = assocSet l k w := by
  induction l with
  | nil => simp [assocSet]
  | cons p r ih =>
    obtain ⟨a, u⟩ := p
    by_cases h1 : k < a
    · simp [assocSet, h1]
    · by_cases h2 : k = a
      · subst h2
        simp [assocSet]
      · simp [assocSet, h1, h2, ih]

theorem assoc?_del_other {α : Type} (l : List (Nat × α)) (k j : Nat) (h : j ≠ k) : assoc? (assocDel l k) j = assoc? l j := by
  induction l with
  | nil => rfl
  | cons p r ih =>
    obtain ⟨a, w⟩ := p
    simp only [assocDel, List.filter] at ih ⊢
    by_cases e : a = k
    · subst e
      have hj : ¬ a = j := fun e => h e.symm
      simp [assoc?, hj, ih]
    · have e' : (a != k) = true := by simpa using e
      simp [e', assoc?, ih]

theorem assoc?_del_same {α : Type} (l : List (Nat × α)) (k : Nat) : assoc? (assocDel l k) k = none := by
  induction l with
  | nil => rfl
  | cons p r ih =>
    obtain ⟨a, w⟩ := p
    simp only [assocDel, List.filter] at ih ⊢
    by_cases e : a = k
    · subst e
      simp [ih]
    · have e' : (a != k) = true := by simpa using e
      simp [e', assoc?, ih, e]

/-! ### Byte cells -/

theorem cellsFrom_mono (d : Byte) {lo lo' : Nat} (h : lo' ≤ lo) : ∀ m : List Host.Cell, cellsFrom d lo m = true → cellsFrom d lo' m = true
  | [], _ => rfl
  | (k, v) :: r, hm => by
    simp only [cellsFrom, Bool.and_eq_true, decide_eq_true_eq] at hm ⊢
    exact ⟨⟨Nat.le_trans h hm.1.1, hm.1.2⟩, hm.2⟩

/-- A write keeps the canonical form. -/
theorem cellSet_wf (d : Byte) (a : Nat) (v : Byte) : ∀ (m : List Host.Cell) (lo : Nat), lo ≤ a → cellsFrom d lo m = true → cellsFrom d lo (cellSet d m a v) = true
  | [], lo, h, _ => by
    simp only [cellSet]
    split
    · rfl
    · rename_i hv
      simp [cellsFrom, h, hv]
  | (k, w) :: r, lo, h, hm => by
    have hm' := hm
    simp only [cellsFrom, Bool.and_eq_true, decide_eq_true_eq] at hm
    obtain ⟨⟨h1, h2⟩, h3⟩ := hm
    simp only [cellSet]
    split
    · rename_i hlt
      split
      · exact hm'
      · rename_i hv
        simp [cellsFrom, h, hv, h2, h3]
        omega
    · split
      · rename_i hk
        subst hk
        split
        · exact cellsFrom_mono d (by omega) r h3
        · rename_i hv
          simp [cellsFrom, h, hv, h3]
      · have ih := cellSet_wf d a v r (k + 1) (by omega) h3
        simp [cellsFrom, h1, h2, ih]

theorem cellGet_below (d : Byte) : ∀ (m : List Host.Cell) (lo a : Nat), cellsFrom d lo m = true → a < lo → cellGet d m a = d
  | [], _, _, _, _ => rfl
  | (k, v) :: r, lo, a, hm, h => by
    simp only [cellsFrom, Bool.and_eq_true, decide_eq_true_eq] at hm
    have h1 : ¬ k = a := by omega
    have h2 : a < k := by omega
    simp [cellGet, h1, h2]

/-- A byte reads as it was written. -/
theorem cellGet_set_same (d : Byte) (a : Nat) (v : Byte) : ∀ (m : List Host.Cell) (lo : Nat), cellsFrom d lo m = true → cellGet d (cellSet d m a v) a = v
  | [], lo, _ => by
    simp only [cellSet]
    split
    · rename_i hv
      simp [cellGet, hv]
    · simp [cellGet]
  | (k, w) :: r, lo, hm => by
    simp only [cellsFrom, Bool.and_eq_true, decide_eq_true_eq] at hm
    obtain ⟨⟨h1, h2⟩, h3⟩ := hm
    simp only [cellSet]
    split
    · rename_i hlt
      split
      · rename_i hv
        have hk : ¬ k = a := by omega
        simp [cellGet, hk, hlt, hv]
      · simp [cellGet]
    · split
      · rename_i hk
        subst hk
        split
        · rename_i hv
          rw [cellGet_below d r (a + 1) a h3 (by omega), hv]
        · simp [cellGet]
      · rename_i hlt hk
        have hk' : ¬ k = a := fun e => hk e.symm
        have ih := cellGet_set_same d a v r (k + 1) h3
        simp [cellGet, hk', hlt, ih]

/-- A write leaves every other byte alone. -/
theorem cellGet_set_other (d : Byte) (a j : Nat) (v : Byte) (hj : j ≠ a) : ∀ (m : List Host.Cell) (lo : Nat), cellsFrom d lo m = true → cellGet d (cellSet d m a v) j = cellGet d m j
  | [], lo, _ => by
    have ha : ¬ a = j := fun e => hj e.symm
    simp only [cellSet]
    split
    · rfl
    · by_cases h : j < a <;> simp [cellGet, ha, h]
  | (k, w) :: r, lo, hm => by
    have ha : ¬ a = j := fun e => hj e.symm
    simp only [cellsFrom, Bool.and_eq_true, decide_eq_true_eq] at hm
    obtain ⟨⟨h1, h2⟩, h3⟩ := hm
    simp only [cellSet]
    split
    · rename_i hlt
      split
      · rfl
      · by_cases h : j < a
        · have e1 : ¬ k = j := by omega
          have e2 : j < k := by omega
          simp [cellGet, ha, h, e1, e2]
        · simp [cellGet, ha, h]
    · split
      · rename_i hk
        subst hk
        split
        · by_cases h : j < a
          · rw [cellGet_below d r (a + 1) j h3 (by omega)]
            simp [cellGet, ha, h]
          · simp [cellGet, ha, h]
        · simp [cellGet, ha]
      · have ih := cellGet_set_other d a j v hj r (k + 1) h3
        simp [cellGet, ih]

/-- A write of bytes keeps the canonical form. -/
theorem cellWrite_wf (d : Byte) : ∀ (bs : List Byte) (m : List Host.Cell) (a : Nat), cellsFrom d 0 m = true → cellsFrom d 0 (cellWrite d m a bs) = true
  | [], _, _, h => h
  | b :: bs, m, a, h => cellWrite_wf d bs _ (a + 1) (cellSet_wf d a b m 0 (Nat.zero_le _) h)

/-- A write of bytes leaves every byte outside them alone. -/
theorem cellGet_write_other (d : Byte) (j : Nat) : ∀ (bs : List Byte) (m : List Host.Cell) (a : Nat), cellsFrom d 0 m = true →
    (j < a ∨ a + bs.length ≤ j) → cellGet d (cellWrite d m a bs) j = cellGet d m j
  | [], _, _, _, _ => rfl
  | b :: bs, m, a, h, hj => by
    simp only [List.length_cons] at hj
    have hw := cellSet_wf d a b m 0 (Nat.zero_le _) h
    have ih := cellGet_write_other d j bs (cellSet d m a b) (a + 1) hw (by omega)
    simp only [cellWrite]
    rw [ih, cellGet_set_other d a j b (by omega) m 0 h]

/-- A write of the masked bytes of a line keeps the canonical form. -/
theorem cellWriteMask_wf (d : Byte) (a : Nat) (mask : BitVec 64) (data : Line) : ∀ (n : Nat) (m : List Host.Cell) (i : Nat), cellsFrom d 0 m = true → cellsFrom d 0 (cellWriteMask d m a mask data i n) = true
  | 0, _, _, h => h
  | n + 1, m, i, h => by
    simp only [cellWriteMask]
    split
    · exact cellWriteMask_wf d a mask data n _ (i + 1) (cellSet_wf d (a + i) _ m 0 (Nat.zero_le _) h)
    · exact cellWriteMask_wf d a mask data n m (i + 1) h

/-- A write of the masked bytes of a line leaves every byte outside it alone. -/
theorem cellGet_writeMask_other (d : Byte) (a : Nat) (mask : BitVec 64) (data : Line) (j : Nat) : ∀ (n : Nat) (m : List Host.Cell) (i : Nat), cellsFrom d 0 m = true →
    (j < a + i ∨ a + i + n ≤ j) → cellGet d (cellWriteMask d m a mask data i n) j = cellGet d m j
  | 0, _, _, _, _ => rfl
  | n + 1, m, i, h, hj => by
    simp only [cellWriteMask]
    split
    · rw [cellGet_writeMask_other d a mask data j n _ (i + 1) (cellSet_wf d (a + i) _ m 0 (Nat.zero_le _) h) (by omega)]
      exact cellGet_set_other d (a + i) j _ (by omega) m 0 h
    · exact cellGet_writeMask_other d a mask data j n m (i + 1) h (by omega)

end Sys2Proof.Machine
end

