-- ==== Sys2Proof/Laws/State.lean ====
section
/-! SUPPORT. What each small update of the state leaves alone, one lemma for each field, and what reading an updated part gives. -/

namespace Sys2Proof.Machine

/-! ### wr -/

@[simp] theorem State.wr_tb (s : State) (key : Nat) (v : W32) : (s.wr key v).tb = s.tb := rfl
@[simp] theorem State.wr_trip (s : State) (key : Nat) (v : W32) : (s.wr key v).trip = s.trip := rfl
@[simp] theorem State.wr_bcn (s : State) (key : Nat) (v : W32) : (s.wr key v).bcn = s.bcn := rfl
@[simp] theorem State.wr_jrn (s : State) (key : Nat) (v : W32) : (s.wr key v).jrn = s.jrn := rfl
@[simp] theorem State.wr_su (s : State) (key : Nat) (v : W32) : (s.wr key v).su = s.su := rfl
@[simp] theorem State.wr_hive (s : State) (key : Nat) (v : W32) : (s.wr key v).hive = s.hive := rfl
@[simp] theorem State.wr_mem (s : State) (key : Nat) (v : W32) : (s.wr key v).mem = s.mem := rfl
@[simp] theorem State.wr_tw (s : State) (key : Nat) (v : W32) : (s.wr key v).tw = s.tw := rfl
@[simp] theorem State.wr_lan (s : State) (key : Nat) (v : W32) : (s.wr key v).lan = s.lan := rfl
@[simp] theorem State.wr_nv (s : State) (key : Nat) (v : W32) : (s.wr key v).nv = s.nv := rfl
@[simp] theorem State.wr_cores (s : State) (key : Nat) (v : W32) : (s.wr key v).cores = s.cores := rfl
@[simp] theorem State.wr_coreSub (s : State) (key : Nat) (v : W32) : (s.wr key v).coreSub = s.coreSub := rfl
@[simp] theorem State.wr_cache (s : State) (key : Nat) (v : W32) : (s.wr key v).cache = s.cache := rfl
@[simp] theorem State.wr_ring (s : State) (key : Nat) (v : W32) : (s.wr key v).ring = s.ring := rfl
@[simp] theorem State.wr_bays (s : State) (key : Nat) (v : W32) : (s.wr key v).bays = s.bays := rfl
@[simp] theorem State.wr_ports (s : State) (key : Nat) (v : W32) : (s.wr key v).ports = s.ports := rfl
@[simp] theorem State.wr_grid (s : State) (key : Nat) (v : W32) : (s.wr key v).grid = s.grid := rfl
@[simp] theorem State.wr_sector (s : State) (key : Nat) (v : W32) : (s.wr key v).sector = s.sector := rfl
@[simp] theorem State.wr_clk (s : State) (key : Nat) (v : W32) : (s.wr key v).clk = s.clk := rfl
@[simp] theorem State.wr_boot (s : State) (key : Nat) (v : W32) : (s.wr key v).boot = s.boot := rfl
@[simp] theorem State.wr_keeper (s : State) (key : Nat) (v : W32) : (s.wr key v).keeper = s.keeper := rfl
@[simp] theorem State.wr_ranges (s : State) (key : Nat) (v : W32) : (s.wr key v).ranges = s.ranges := rfl
@[simp] theorem State.wr_guard (s : State) (key : Nat) (v : W32) : (s.wr key v).guard = s.guard := rfl
@[simp] theorem State.wr_latch (s : State) (key : Nat) (v : W32) : (s.wr key v).latch = s.latch := rfl
@[simp] theorem State.wr_readVal (s : State) (key : Nat) (v : W32) : (s.wr key v).readVal = s.readVal := rfl
@[simp] theorem State.wr_freeCtr (s : State) (key : Nat) (v : W32) : (s.wr key v).freeCtr = s.freeCtr := rfl
@[simp] theorem State.wr_pending (s : State) (key : Nat) (v : W32) : (s.wr key v).pending = s.pending := rfl

/-! ### setFld -/

@[simp] theorem State.setFld_tb (s : State) (key lo w v : Nat) : (s.setFld key lo w v).tb = s.tb := rfl
@[simp] theorem State.setFld_trip (s : State) (key lo w v : Nat) : (s.setFld key lo w v).trip = s.trip := rfl
@[simp] theorem State.setFld_bcn (s : State) (key lo w v : Nat) : (s.setFld key lo w v).bcn = s.bcn := rfl
@[simp] theorem State.setFld_jrn (s : State) (key lo w v : Nat) : (s.setFld key lo w v).jrn = s.jrn := rfl
@[simp] theorem State.setFld_su (s : State) (key lo w v : Nat) : (s.setFld key lo w v).su = s.su := rfl
@[simp] theorem State.setFld_hive (s : State) (key lo w v : Nat) : (s.setFld key lo w v).hive = s.hive := rfl
@[simp] theorem State.setFld_mem (s : State) (key lo w v : Nat) : (s.setFld key lo w v).mem = s.mem := rfl
@[simp] theorem State.setFld_tw (s : State) (key lo w v : Nat) : (s.setFld key lo w v).tw = s.tw := rfl
@[simp] theorem State.setFld_lan (s : State) (key lo w v : Nat) : (s.setFld key lo w v).lan = s.lan := rfl
@[simp] theorem State.setFld_nv (s : State) (key lo w v : Nat) : (s.setFld key lo w v).nv = s.nv := rfl
@[simp] theorem State.setFld_cores (s : State) (key lo w v : Nat) : (s.setFld key lo w v).cores = s.cores := rfl
@[simp] theorem State.setFld_coreSub (s : State) (key lo w v : Nat) : (s.setFld key lo w v).coreSub = s.coreSub := rfl
@[simp] theorem State.setFld_cache (s : State) (key lo w v : Nat) : (s.setFld key lo w v).cache = s.cache := rfl
@[simp] theorem State.setFld_ring (s : State) (key lo w v : Nat) : (s.setFld key lo w v).ring = s.ring := rfl
@[simp] theorem State.setFld_bays (s : State) (key lo w v : Nat) : (s.setFld key lo w v).bays = s.bays := rfl
@[simp] theorem State.setFld_ports (s : State) (key lo w v : Nat) : (s.setFld key lo w v).ports = s.ports := rfl
@[simp] theorem State.setFld_grid (s : State) (key lo w v : Nat) : (s.setFld key lo w v).grid = s.grid := rfl
@[simp] theorem State.setFld_sector (s : State) (key lo w v : Nat) : (s.setFld key lo w v).sector = s.sector := rfl
@[simp] theorem State.setFld_clk (s : State) (key lo w v : Nat) : (s.setFld key lo w v).clk = s.clk := rfl
@[simp] theorem State.setFld_boot (s : State) (key lo w v : Nat) : (s.setFld key lo w v).boot = s.boot := rfl
@[simp] theorem State.setFld_keeper (s : State) (key lo w v : Nat) : (s.setFld key lo w v).keeper = s.keeper := rfl
@[simp] theorem State.setFld_ranges (s : State) (key lo w v : Nat) : (s.setFld key lo w v).ranges = s.ranges := rfl
@[simp] theorem State.setFld_guard (s : State) (key lo w v : Nat) : (s.setFld key lo w v).guard = s.guard := rfl
@[simp] theorem State.setFld_latch (s : State) (key lo w v : Nat) : (s.setFld key lo w v).latch = s.latch := rfl
@[simp] theorem State.setFld_readVal (s : State) (key lo w v : Nat) : (s.setFld key lo w v).readVal = s.readVal := rfl
@[simp] theorem State.setFld_freeCtr (s : State) (key lo w v : Nat) : (s.setFld key lo w v).freeCtr = s.freeCtr := rfl
@[simp] theorem State.setFld_pending (s : State) (key lo w v : Nat) : (s.setFld key lo w v).pending = s.pending := rfl

/-! ### flag -/

@[simp] theorem State.flag_tb (s : State) (key i : Nat) : (s.flag key i).tb = s.tb := rfl
@[simp] theorem State.flag_trip (s : State) (key i : Nat) : (s.flag key i).trip = s.trip := rfl
@[simp] theorem State.flag_bcn (s : State) (key i : Nat) : (s.flag key i).bcn = s.bcn := rfl
@[simp] theorem State.flag_jrn (s : State) (key i : Nat) : (s.flag key i).jrn = s.jrn := rfl
@[simp] theorem State.flag_su (s : State) (key i : Nat) : (s.flag key i).su = s.su := rfl
@[simp] theorem State.flag_hive (s : State) (key i : Nat) : (s.flag key i).hive = s.hive := rfl
@[simp] theorem State.flag_mem (s : State) (key i : Nat) : (s.flag key i).mem = s.mem := rfl
@[simp] theorem State.flag_tw (s : State) (key i : Nat) : (s.flag key i).tw = s.tw := rfl
@[simp] theorem State.flag_lan (s : State) (key i : Nat) : (s.flag key i).lan = s.lan := rfl
@[simp] theorem State.flag_nv (s : State) (key i : Nat) : (s.flag key i).nv = s.nv := rfl
@[simp] theorem State.flag_cores (s : State) (key i : Nat) : (s.flag key i).cores = s.cores := rfl
@[simp] theorem State.flag_coreSub (s : State) (key i : Nat) : (s.flag key i).coreSub = s.coreSub := rfl
@[simp] theorem State.flag_cache (s : State) (key i : Nat) : (s.flag key i).cache = s.cache := rfl
@[simp] theorem State.flag_ring (s : State) (key i : Nat) : (s.flag key i).ring = s.ring := rfl
@[simp] theorem State.flag_bays (s : State) (key i : Nat) : (s.flag key i).bays = s.bays := rfl
@[simp] theorem State.flag_ports (s : State) (key i : Nat) : (s.flag key i).ports = s.ports := rfl
@[simp] theorem State.flag_grid (s : State) (key i : Nat) : (s.flag key i).grid = s.grid := rfl
@[simp] theorem State.flag_sector (s : State) (key i : Nat) : (s.flag key i).sector = s.sector := rfl
@[simp] theorem State.flag_clk (s : State) (key i : Nat) : (s.flag key i).clk = s.clk := rfl
@[simp] theorem State.flag_boot (s : State) (key i : Nat) : (s.flag key i).boot = s.boot := rfl
@[simp] theorem State.flag_keeper (s : State) (key i : Nat) : (s.flag key i).keeper = s.keeper := rfl
@[simp] theorem State.flag_ranges (s : State) (key i : Nat) : (s.flag key i).ranges = s.ranges := rfl
@[simp] theorem State.flag_guard (s : State) (key i : Nat) : (s.flag key i).guard = s.guard := rfl
@[simp] theorem State.flag_latch (s : State) (key i : Nat) : (s.flag key i).latch = s.latch := rfl
@[simp] theorem State.flag_readVal (s : State) (key i : Nat) : (s.flag key i).readVal = s.readVal := rfl
@[simp] theorem State.flag_freeCtr (s : State) (key i : Nat) : (s.flag key i).freeCtr = s.freeCtr := rfl
@[simp] theorem State.flag_pending (s : State) (key i : Nat) : (s.flag key i).pending = s.pending := rfl

/-! ### bump -/

@[simp] theorem State.bump_tb (s : State) (key : Nat) : (s.bump key).tb = s.tb := rfl
@[simp] theorem State.bump_trip (s : State) (key : Nat) : (s.bump key).trip = s.trip := rfl
@[simp] theorem State.bump_bcn (s : State) (key : Nat) : (s.bump key).bcn = s.bcn := rfl
@[simp] theorem State.bump_jrn (s : State) (key : Nat) : (s.bump key).jrn = s.jrn := rfl
@[simp] theorem State.bump_su (s : State) (key : Nat) : (s.bump key).su = s.su := rfl
@[simp] theorem State.bump_hive (s : State) (key : Nat) : (s.bump key).hive = s.hive := rfl
@[simp] theorem State.bump_mem (s : State) (key : Nat) : (s.bump key).mem = s.mem := rfl
@[simp] theorem State.bump_tw (s : State) (key : Nat) : (s.bump key).tw = s.tw := rfl
@[simp] theorem State.bump_lan (s : State) (key : Nat) : (s.bump key).lan = s.lan := rfl
@[simp] theorem State.bump_nv (s : State) (key : Nat) : (s.bump key).nv = s.nv := rfl
@[simp] theorem State.bump_cores (s : State) (key : Nat) : (s.bump key).cores = s.cores := rfl
@[simp] theorem State.bump_coreSub (s : State) (key : Nat) : (s.bump key).coreSub = s.coreSub := rfl
@[simp] theorem State.bump_cache (s : State) (key : Nat) : (s.bump key).cache = s.cache := rfl
@[simp] theorem State.bump_ring (s : State) (key : Nat) : (s.bump key).ring = s.ring := rfl
@[simp] theorem State.bump_bays (s : State) (key : Nat) : (s.bump key).bays = s.bays := rfl
@[simp] theorem State.bump_ports (s : State) (key : Nat) : (s.bump key).ports = s.ports := rfl
@[simp] theorem State.bump_grid (s : State) (key : Nat) : (s.bump key).grid = s.grid := rfl
@[simp] theorem State.bump_sector (s : State) (key : Nat) : (s.bump key).sector = s.sector := rfl
@[simp] theorem State.bump_clk (s : State) (key : Nat) : (s.bump key).clk = s.clk := rfl
@[simp] theorem State.bump_boot (s : State) (key : Nat) : (s.bump key).boot = s.boot := rfl
@[simp] theorem State.bump_keeper (s : State) (key : Nat) : (s.bump key).keeper = s.keeper := rfl
@[simp] theorem State.bump_ranges (s : State) (key : Nat) : (s.bump key).ranges = s.ranges := rfl
@[simp] theorem State.bump_guard (s : State) (key : Nat) : (s.bump key).guard = s.guard := rfl
@[simp] theorem State.bump_latch (s : State) (key : Nat) : (s.bump key).latch = s.latch := rfl
@[simp] theorem State.bump_readVal (s : State) (key : Nat) : (s.bump key).readVal = s.readVal := rfl
@[simp] theorem State.bump_freeCtr (s : State) (key : Nat) : (s.bump key).freeCtr = s.freeCtr := rfl
@[simp] theorem State.bump_pending (s : State) (key : Nat) : (s.bump key).pending = s.pending := rfl

/-! ### wr64 -/

@[simp] theorem State.wr64_tb (s : State) (lo hi : Nat) (v : W64) : (s.wr64 lo hi v).tb = s.tb := rfl
@[simp] theorem State.wr64_trip (s : State) (lo hi : Nat) (v : W64) : (s.wr64 lo hi v).trip = s.trip := rfl
@[simp] theorem State.wr64_bcn (s : State) (lo hi : Nat) (v : W64) : (s.wr64 lo hi v).bcn = s.bcn := rfl
@[simp] theorem State.wr64_jrn (s : State) (lo hi : Nat) (v : W64) : (s.wr64 lo hi v).jrn = s.jrn := rfl
@[simp] theorem State.wr64_su (s : State) (lo hi : Nat) (v : W64) : (s.wr64 lo hi v).su = s.su := rfl
@[simp] theorem State.wr64_hive (s : State) (lo hi : Nat) (v : W64) : (s.wr64 lo hi v).hive = s.hive := rfl
@[simp] theorem State.wr64_mem (s : State) (lo hi : Nat) (v : W64) : (s.wr64 lo hi v).mem = s.mem := rfl
@[simp] theorem State.wr64_tw (s : State) (lo hi : Nat) (v : W64) : (s.wr64 lo hi v).tw = s.tw := rfl
@[simp] theorem State.wr64_lan (s : State) (lo hi : Nat) (v : W64) : (s.wr64 lo hi v).lan = s.lan := rfl
@[simp] theorem State.wr64_nv (s : State) (lo hi : Nat) (v : W64) : (s.wr64 lo hi v).nv = s.nv := rfl
@[simp] theorem State.wr64_cores (s : State) (lo hi : Nat) (v : W64) : (s.wr64 lo hi v).cores = s.cores := rfl
@[simp] theorem State.wr64_coreSub (s : State) (lo hi : Nat) (v : W64) : (s.wr64 lo hi v).coreSub = s.coreSub := rfl
@[simp] theorem State.wr64_cache (s : State) (lo hi : Nat) (v : W64) : (s.wr64 lo hi v).cache = s.cache := rfl
@[simp] theorem State.wr64_ring (s : State) (lo hi : Nat) (v : W64) : (s.wr64 lo hi v).ring = s.ring := rfl
@[simp] theorem State.wr64_bays (s : State) (lo hi : Nat) (v : W64) : (s.wr64 lo hi v).bays = s.bays := rfl
@[simp] theorem State.wr64_ports (s : State) (lo hi : Nat) (v : W64) : (s.wr64 lo hi v).ports = s.ports := rfl
@[simp] theorem State.wr64_grid (s : State) (lo hi : Nat) (v : W64) : (s.wr64 lo hi v).grid = s.grid := rfl
@[simp] theorem State.wr64_sector (s : State) (lo hi : Nat) (v : W64) : (s.wr64 lo hi v).sector = s.sector := rfl
@[simp] theorem State.wr64_clk (s : State) (lo hi : Nat) (v : W64) : (s.wr64 lo hi v).clk = s.clk := rfl
@[simp] theorem State.wr64_boot (s : State) (lo hi : Nat) (v : W64) : (s.wr64 lo hi v).boot = s.boot := rfl
@[simp] theorem State.wr64_keeper (s : State) (lo hi : Nat) (v : W64) : (s.wr64 lo hi v).keeper = s.keeper := rfl
@[simp] theorem State.wr64_ranges (s : State) (lo hi : Nat) (v : W64) : (s.wr64 lo hi v).ranges = s.ranges := rfl
@[simp] theorem State.wr64_guard (s : State) (lo hi : Nat) (v : W64) : (s.wr64 lo hi v).guard = s.guard := rfl
@[simp] theorem State.wr64_latch (s : State) (lo hi : Nat) (v : W64) : (s.wr64 lo hi v).latch = s.latch := rfl
@[simp] theorem State.wr64_readVal (s : State) (lo hi : Nat) (v : W64) : (s.wr64 lo hi v).readVal = s.readVal := rfl
@[simp] theorem State.wr64_freeCtr (s : State) (lo hi : Nat) (v : W64) : (s.wr64 lo hi v).freeCtr = s.freeCtr := rfl
@[simp] theorem State.wr64_pending (s : State) (lo hi : Nat) (v : W64) : (s.wr64 lo hi v).pending = s.pending := rfl

/-! ### tripPut -/

@[simp] theorem State.tripPut_tb (s : State) (i v : Nat) : (s.tripPut i v).tb = s.tb := rfl
@[simp] theorem State.tripPut_bcn (s : State) (i v : Nat) : (s.tripPut i v).bcn = s.bcn := rfl
@[simp] theorem State.tripPut_jrn (s : State) (i v : Nat) : (s.tripPut i v).jrn = s.jrn := rfl
@[simp] theorem State.tripPut_su (s : State) (i v : Nat) : (s.tripPut i v).su = s.su := rfl
@[simp] theorem State.tripPut_hive (s : State) (i v : Nat) : (s.tripPut i v).hive = s.hive := rfl
@[simp] theorem State.tripPut_mem (s : State) (i v : Nat) : (s.tripPut i v).mem = s.mem := rfl
@[simp] theorem State.tripPut_tw (s : State) (i v : Nat) : (s.tripPut i v).tw = s.tw := rfl
@[simp] theorem State.tripPut_lan (s : State) (i v : Nat) : (s.tripPut i v).lan = s.lan := rfl
@[simp] theorem State.tripPut_nv (s : State) (i v : Nat) : (s.tripPut i v).nv = s.nv := rfl
@[simp] theorem State.tripPut_cores (s : State) (i v : Nat) : (s.tripPut i v).cores = s.cores := rfl
@[simp] theorem State.tripPut_coreSub (s : State) (i v : Nat) : (s.tripPut i v).coreSub = s.coreSub := rfl
@[simp] theorem State.tripPut_cache (s : State) (i v : Nat) : (s.tripPut i v).cache = s.cache := rfl
@[simp] theorem State.tripPut_ring (s : State) (i v : Nat) : (s.tripPut i v).ring = s.ring := rfl
@[simp] theorem State.tripPut_bays (s : State) (i v : Nat) : (s.tripPut i v).bays = s.bays := rfl
@[simp] theorem State.tripPut_ports (s : State) (i v : Nat) : (s.tripPut i v).ports = s.ports := rfl
@[simp] theorem State.tripPut_grid (s : State) (i v : Nat) : (s.tripPut i v).grid = s.grid := rfl
@[simp] theorem State.tripPut_sector (s : State) (i v : Nat) : (s.tripPut i v).sector = s.sector := rfl
@[simp] theorem State.tripPut_clk (s : State) (i v : Nat) : (s.tripPut i v).clk = s.clk := rfl
@[simp] theorem State.tripPut_boot (s : State) (i v : Nat) : (s.tripPut i v).boot = s.boot := rfl
@[simp] theorem State.tripPut_keeper (s : State) (i v : Nat) : (s.tripPut i v).keeper = s.keeper := rfl
@[simp] theorem State.tripPut_ranges (s : State) (i v : Nat) : (s.tripPut i v).ranges = s.ranges := rfl
@[simp] theorem State.tripPut_regs (s : State) (i v : Nat) : (s.tripPut i v).regs = s.regs := rfl
@[simp] theorem State.tripPut_guard (s : State) (i v : Nat) : (s.tripPut i v).guard = s.guard := rfl
@[simp] theorem State.tripPut_latch (s : State) (i v : Nat) : (s.tripPut i v).latch = s.latch := rfl
@[simp] theorem State.tripPut_readVal (s : State) (i v : Nat) : (s.tripPut i v).readVal = s.readVal := rfl
@[simp] theorem State.tripPut_freeCtr (s : State) (i v : Nat) : (s.tripPut i v).freeCtr = s.freeCtr := rfl
@[simp] theorem State.tripPut_pending (s : State) (i v : Nat) : (s.tripPut i v).pending = s.pending := rfl

/-! ### setCore -/

@[simp] theorem State.setCore_tb (s : State) (k : CoreId) (c : CoreSt) : (s.setCore k c).tb = s.tb := rfl
@[simp] theorem State.setCore_trip (s : State) (k : CoreId) (c : CoreSt) : (s.setCore k c).trip = s.trip := rfl
@[simp] theorem State.setCore_bcn (s : State) (k : CoreId) (c : CoreSt) : (s.setCore k c).bcn = s.bcn := rfl
@[simp] theorem State.setCore_jrn (s : State) (k : CoreId) (c : CoreSt) : (s.setCore k c).jrn = s.jrn := rfl
@[simp] theorem State.setCore_su (s : State) (k : CoreId) (c : CoreSt) : (s.setCore k c).su = s.su := rfl
@[simp] theorem State.setCore_hive (s : State) (k : CoreId) (c : CoreSt) : (s.setCore k c).hive = s.hive := rfl
@[simp] theorem State.setCore_mem (s : State) (k : CoreId) (c : CoreSt) : (s.setCore k c).mem = s.mem := rfl
@[simp] theorem State.setCore_tw (s : State) (k : CoreId) (c : CoreSt) : (s.setCore k c).tw = s.tw := rfl
@[simp] theorem State.setCore_lan (s : State) (k : CoreId) (c : CoreSt) : (s.setCore k c).lan = s.lan := rfl
@[simp] theorem State.setCore_nv (s : State) (k : CoreId) (c : CoreSt) : (s.setCore k c).nv = s.nv := rfl
@[simp] theorem State.setCore_coreSub (s : State) (k : CoreId) (c : CoreSt) : (s.setCore k c).coreSub = s.coreSub := rfl
@[simp] theorem State.setCore_cache (s : State) (k : CoreId) (c : CoreSt) : (s.setCore k c).cache = s.cache := rfl
@[simp] theorem State.setCore_ring (s : State) (k : CoreId) (c : CoreSt) : (s.setCore k c).ring = s.ring := rfl
@[simp] theorem State.setCore_bays (s : State) (k : CoreId) (c : CoreSt) : (s.setCore k c).bays = s.bays := rfl
@[simp] theorem State.setCore_ports (s : State) (k : CoreId) (c : CoreSt) : (s.setCore k c).ports = s.ports := rfl
@[simp] theorem State.setCore_grid (s : State) (k : CoreId) (c : CoreSt) : (s.setCore k c).grid = s.grid := rfl
@[simp] theorem State.setCore_sector (s : State) (k : CoreId) (c : CoreSt) : (s.setCore k c).sector = s.sector := rfl
@[simp] theorem State.setCore_clk (s : State) (k : CoreId) (c : CoreSt) : (s.setCore k c).clk = s.clk := rfl
@[simp] theorem State.setCore_boot (s : State) (k : CoreId) (c : CoreSt) : (s.setCore k c).boot = s.boot := rfl
@[simp] theorem State.setCore_keeper (s : State) (k : CoreId) (c : CoreSt) : (s.setCore k c).keeper = s.keeper := rfl
@[simp] theorem State.setCore_ranges (s : State) (k : CoreId) (c : CoreSt) : (s.setCore k c).ranges = s.ranges := rfl
@[simp] theorem State.setCore_regs (s : State) (k : CoreId) (c : CoreSt) : (s.setCore k c).regs = s.regs := rfl
@[simp] theorem State.setCore_guard (s : State) (k : CoreId) (c : CoreSt) : (s.setCore k c).guard = s.guard := rfl
@[simp] theorem State.setCore_latch (s : State) (k : CoreId) (c : CoreSt) : (s.setCore k c).latch = s.latch := rfl
@[simp] theorem State.setCore_readVal (s : State) (k : CoreId) (c : CoreSt) : (s.setCore k c).readVal = s.readVal := rfl
@[simp] theorem State.setCore_freeCtr (s : State) (k : CoreId) (c : CoreSt) : (s.setCore k c).freeCtr = s.freeCtr := rfl
@[simp] theorem State.setCore_pending (s : State) (k : CoreId) (c : CoreSt) : (s.setCore k c).pending = s.pending := rfl

/-! ### setCc -/

@[simp] theorem State.setCc_tb (s : State) (k : CoreId) (c : CoreCache) : (s.setCc k c).tb = s.tb := rfl
@[simp] theorem State.setCc_trip (s : State) (k : CoreId) (c : CoreCache) : (s.setCc k c).trip = s.trip := rfl
@[simp] theorem State.setCc_bcn (s : State) (k : CoreId) (c : CoreCache) : (s.setCc k c).bcn = s.bcn := rfl
@[simp] theorem State.setCc_jrn (s : State) (k : CoreId) (c : CoreCache) : (s.setCc k c).jrn = s.jrn := rfl
@[simp] theorem State.setCc_su (s : State) (k : CoreId) (c : CoreCache) : (s.setCc k c).su = s.su := rfl
@[simp] theorem State.setCc_hive (s : State) (k : CoreId) (c : CoreCache) : (s.setCc k c).hive = s.hive := rfl
@[simp] theorem State.setCc_mem (s : State) (k : CoreId) (c : CoreCache) : (s.setCc k c).mem = s.mem := rfl
@[simp] theorem State.setCc_tw (s : State) (k : CoreId) (c : CoreCache) : (s.setCc k c).tw = s.tw := rfl
@[simp] theorem State.setCc_lan (s : State) (k : CoreId) (c : CoreCache) : (s.setCc k c).lan = s.lan := rfl
@[simp] theorem State.setCc_nv (s : State) (k : CoreId) (c : CoreCache) : (s.setCc k c).nv = s.nv := rfl
@[simp] theorem State.setCc_cores (s : State) (k : CoreId) (c : CoreCache) : (s.setCc k c).cores = s.cores := rfl
@[simp] theorem State.setCc_coreSub (s : State) (k : CoreId) (c : CoreCache) : (s.setCc k c).coreSub = s.coreSub := rfl
@[simp] theorem State.setCc_ring (s : State) (k : CoreId) (c : CoreCache) : (s.setCc k c).ring = s.ring := rfl
@[simp] theorem State.setCc_bays (s : State) (k : CoreId) (c : CoreCache) : (s.setCc k c).bays = s.bays := rfl
@[simp] theorem State.setCc_ports (s : State) (k : CoreId) (c : CoreCache) : (s.setCc k c).ports = s.ports := rfl
@[simp] theorem State.setCc_grid (s : State) (k : CoreId) (c : CoreCache) : (s.setCc k c).grid = s.grid := rfl
@[simp] theorem State.setCc_sector (s : State) (k : CoreId) (c : CoreCache) : (s.setCc k c).sector = s.sector := rfl
@[simp] theorem State.setCc_clk (s : State) (k : CoreId) (c : CoreCache) : (s.setCc k c).clk = s.clk := rfl
@[simp] theorem State.setCc_boot (s : State) (k : CoreId) (c : CoreCache) : (s.setCc k c).boot = s.boot := rfl
@[simp] theorem State.setCc_keeper (s : State) (k : CoreId) (c : CoreCache) : (s.setCc k c).keeper = s.keeper := rfl
@[simp] theorem State.setCc_ranges (s : State) (k : CoreId) (c : CoreCache) : (s.setCc k c).ranges = s.ranges := rfl
@[simp] theorem State.setCc_regs (s : State) (k : CoreId) (c : CoreCache) : (s.setCc k c).regs = s.regs := rfl
@[simp] theorem State.setCc_guard (s : State) (k : CoreId) (c : CoreCache) : (s.setCc k c).guard = s.guard := rfl
@[simp] theorem State.setCc_latch (s : State) (k : CoreId) (c : CoreCache) : (s.setCc k c).latch = s.latch := rfl
@[simp] theorem State.setCc_readVal (s : State) (k : CoreId) (c : CoreCache) : (s.setCc k c).readVal = s.readVal := rfl
@[simp] theorem State.setCc_freeCtr (s : State) (k : CoreId) (c : CoreCache) : (s.setCc k c).freeCtr = s.freeCtr := rfl
@[simp] theorem State.setCc_pending (s : State) (k : CoreId) (c : CoreCache) : (s.setCc k c).pending = s.pending := rfl

/-! ### setBay -/

@[simp] theorem State.setBay_tb (s : State) (b : BayId) (x : Bay) : (s.setBay b x).tb = s.tb := rfl
@[simp] theorem State.setBay_trip (s : State) (b : BayId) (x : Bay) : (s.setBay b x).trip = s.trip := rfl
@[simp] theorem State.setBay_bcn (s : State) (b : BayId) (x : Bay) : (s.setBay b x).bcn = s.bcn := rfl
@[simp] theorem State.setBay_jrn (s : State) (b : BayId) (x : Bay) : (s.setBay b x).jrn = s.jrn := rfl
@[simp] theorem State.setBay_su (s : State) (b : BayId) (x : Bay) : (s.setBay b x).su = s.su := rfl
@[simp] theorem State.setBay_hive (s : State) (b : BayId) (x : Bay) : (s.setBay b x).hive = s.hive := rfl
@[simp] theorem State.setBay_mem (s : State) (b : BayId) (x : Bay) : (s.setBay b x).mem = s.mem := rfl
@[simp] theorem State.setBay_tw (s : State) (b : BayId) (x : Bay) : (s.setBay b x).tw = s.tw := rfl
@[simp] theorem State.setBay_lan (s : State) (b : BayId) (x : Bay) : (s.setBay b x).lan = s.lan := rfl
@[simp] theorem State.setBay_nv (s : State) (b : BayId) (x : Bay) : (s.setBay b x).nv = s.nv := rfl
@[simp] theorem State.setBay_cores (s : State) (b : BayId) (x : Bay) : (s.setBay b x).cores = s.cores := rfl
@[simp] theorem State.setBay_coreSub (s : State) (b : BayId) (x : Bay) : (s.setBay b x).coreSub = s.coreSub := rfl
@[simp] theorem State.setBay_cache (s : State) (b : BayId) (x : Bay) : (s.setBay b x).cache = s.cache := rfl
@[simp] theorem State.setBay_ring (s : State) (b : BayId) (x : Bay) : (s.setBay b x).ring = s.ring := rfl
@[simp] theorem State.setBay_ports (s : State) (b : BayId) (x : Bay) : (s.setBay b x).ports = s.ports := rfl
@[simp] theorem State.setBay_grid (s : State) (b : BayId) (x : Bay) : (s.setBay b x).grid = s.grid := rfl
@[simp] theorem State.setBay_sector (s : State) (b : BayId) (x : Bay) : (s.setBay b x).sector = s.sector := rfl
@[simp] theorem State.setBay_clk (s : State) (b : BayId) (x : Bay) : (s.setBay b x).clk = s.clk := rfl
@[simp] theorem State.setBay_boot (s : State) (b : BayId) (x : Bay) : (s.setBay b x).boot = s.boot := rfl
@[simp] theorem State.setBay_keeper (s : State) (b : BayId) (x : Bay) : (s.setBay b x).keeper = s.keeper := rfl
@[simp] theorem State.setBay_ranges (s : State) (b : BayId) (x : Bay) : (s.setBay b x).ranges = s.ranges := rfl
@[simp] theorem State.setBay_regs (s : State) (b : BayId) (x : Bay) : (s.setBay b x).regs = s.regs := rfl
@[simp] theorem State.setBay_guard (s : State) (b : BayId) (x : Bay) : (s.setBay b x).guard = s.guard := rfl
@[simp] theorem State.setBay_latch (s : State) (b : BayId) (x : Bay) : (s.setBay b x).latch = s.latch := rfl
@[simp] theorem State.setBay_readVal (s : State) (b : BayId) (x : Bay) : (s.setBay b x).readVal = s.readVal := rfl
@[simp] theorem State.setBay_freeCtr (s : State) (b : BayId) (x : Bay) : (s.setBay b x).freeCtr = s.freeCtr := rfl
@[simp] theorem State.setBay_pending (s : State) (b : BayId) (x : Bay) : (s.setBay b x).pending = s.pending := rfl

/-! ### setRt -/

@[simp] theorem State.setRt_tb (s : State) (t : TaskId) (x : TaskRt) : (s.setRt t x).tb = s.tb := rfl
@[simp] theorem State.setRt_trip (s : State) (t : TaskId) (x : TaskRt) : (s.setRt t x).trip = s.trip := rfl
@[simp] theorem State.setRt_bcn (s : State) (t : TaskId) (x : TaskRt) : (s.setRt t x).bcn = s.bcn := rfl
@[simp] theorem State.setRt_jrn (s : State) (t : TaskId) (x : TaskRt) : (s.setRt t x).jrn = s.jrn := rfl
@[simp] theorem State.setRt_su (s : State) (t : TaskId) (x : TaskRt) : (s.setRt t x).su = s.su := rfl
@[simp] theorem State.setRt_mem (s : State) (t : TaskId) (x : TaskRt) : (s.setRt t x).mem = s.mem := rfl
@[simp] theorem State.setRt_tw (s : State) (t : TaskId) (x : TaskRt) : (s.setRt t x).tw = s.tw := rfl
@[simp] theorem State.setRt_lan (s : State) (t : TaskId) (x : TaskRt) : (s.setRt t x).lan = s.lan := rfl
@[simp] theorem State.setRt_nv (s : State) (t : TaskId) (x : TaskRt) : (s.setRt t x).nv = s.nv := rfl
@[simp] theorem State.setRt_cores (s : State) (t : TaskId) (x : TaskRt) : (s.setRt t x).cores = s.cores := rfl
@[simp] theorem State.setRt_coreSub (s : State) (t : TaskId) (x : TaskRt) : (s.setRt t x).coreSub = s.coreSub := rfl
@[simp] theorem State.setRt_cache (s : State) (t : TaskId) (x : TaskRt) : (s.setRt t x).cache = s.cache := rfl
@[simp] theorem State.setRt_ring (s : State) (t : TaskId) (x : TaskRt) : (s.setRt t x).ring = s.ring := rfl
@[simp] theorem State.setRt_bays (s : State) (t : TaskId) (x : TaskRt) : (s.setRt t x).bays = s.bays := rfl
@[simp] theorem State.setRt_ports (s : State) (t : TaskId) (x : TaskRt) : (s.setRt t x).ports = s.ports := rfl
@[simp] theorem State.setRt_grid (s : State) (t : TaskId) (x : TaskRt) : (s.setRt t x).grid = s.grid := rfl
@[simp] theorem State.setRt_sector (s : State) (t : TaskId) (x : TaskRt) : (s.setRt t x).sector = s.sector := rfl
@[simp] theorem State.setRt_clk (s : State) (t : TaskId) (x : TaskRt) : (s.setRt t x).clk = s.clk := rfl
@[simp] theorem State.setRt_boot (s : State) (t : TaskId) (x : TaskRt) : (s.setRt t x).boot = s.boot := rfl
@[simp] theorem State.setRt_keeper (s : State) (t : TaskId) (x : TaskRt) : (s.setRt t x).keeper = s.keeper := rfl
@[simp] theorem State.setRt_ranges (s : State) (t : TaskId) (x : TaskRt) : (s.setRt t x).ranges = s.ranges := rfl
@[simp] theorem State.setRt_regs (s : State) (t : TaskId) (x : TaskRt) : (s.setRt t x).regs = s.regs := rfl
@[simp] theorem State.setRt_guard (s : State) (t : TaskId) (x : TaskRt) : (s.setRt t x).guard = s.guard := rfl
@[simp] theorem State.setRt_latch (s : State) (t : TaskId) (x : TaskRt) : (s.setRt t x).latch = s.latch := rfl
@[simp] theorem State.setRt_readVal (s : State) (t : TaskId) (x : TaskRt) : (s.setRt t x).readVal = s.readVal := rfl
@[simp] theorem State.setRt_freeCtr (s : State) (t : TaskId) (x : TaskRt) : (s.setRt t x).freeCtr = s.freeCtr := rfl
@[simp] theorem State.setRt_pending (s : State) (t : TaskId) (x : TaskRt) : (s.setRt t x).pending = s.pending := rfl

/-! ### setCstat -/

@[simp] theorem State.setCstat_tb (s : State) (k : Nat) (x : CStat) : (s.setCstat k x).tb = s.tb := rfl
@[simp] theorem State.setCstat_trip (s : State) (k : Nat) (x : CStat) : (s.setCstat k x).trip = s.trip := rfl
@[simp] theorem State.setCstat_bcn (s : State) (k : Nat) (x : CStat) : (s.setCstat k x).bcn = s.bcn := rfl
@[simp] theorem State.setCstat_jrn (s : State) (k : Nat) (x : CStat) : (s.setCstat k x).jrn = s.jrn := rfl
@[simp] theorem State.setCstat_su (s : State) (k : Nat) (x : CStat) : (s.setCstat k x).su = s.su := rfl
@[simp] theorem State.setCstat_mem (s : State) (k : Nat) (x : CStat) : (s.setCstat k x).mem = s.mem := rfl
@[simp] theorem State.setCstat_tw (s : State) (k : Nat) (x : CStat) : (s.setCstat k x).tw = s.tw := rfl
@[simp] theorem State.setCstat_lan (s : State) (k : Nat) (x : CStat) : (s.setCstat k x).lan = s.lan := rfl
@[simp] theorem State.setCstat_nv (s : State) (k : Nat) (x : CStat) : (s.setCstat k x).nv = s.nv := rfl
@[simp] theorem State.setCstat_cores (s : State) (k : Nat) (x : CStat) : (s.setCstat k x).cores = s.cores := rfl
@[simp] theorem State.setCstat_coreSub (s : State) (k : Nat) (x : CStat) : (s.setCstat k x).coreSub = s.coreSub := rfl
@[simp] theorem State.setCstat_cache (s : State) (k : Nat) (x : CStat) : (s.setCstat k x).cache = s.cache := rfl
@[simp] theorem State.setCstat_ring (s : State) (k : Nat) (x : CStat) : (s.setCstat k x).ring = s.ring := rfl
@[simp] theorem State.setCstat_bays (s : State) (k : Nat) (x : CStat) : (s.setCstat k x).bays = s.bays := rfl
@[simp] theorem State.setCstat_ports (s : State) (k : Nat) (x : CStat) : (s.setCstat k x).ports = s.ports := rfl
@[simp] theorem State.setCstat_grid (s : State) (k : Nat) (x : CStat) : (s.setCstat k x).grid = s.grid := rfl
@[simp] theorem State.setCstat_sector (s : State) (k : Nat) (x : CStat) : (s.setCstat k x).sector = s.sector := rfl
@[simp] theorem State.setCstat_clk (s : State) (k : Nat) (x : CStat) : (s.setCstat k x).clk = s.clk := rfl
@[simp] theorem State.setCstat_boot (s : State) (k : Nat) (x : CStat) : (s.setCstat k x).boot = s.boot := rfl
@[simp] theorem State.setCstat_keeper (s : State) (k : Nat) (x : CStat) : (s.setCstat k x).keeper = s.keeper := rfl
@[simp] theorem State.setCstat_ranges (s : State) (k : Nat) (x : CStat) : (s.setCstat k x).ranges = s.ranges := rfl
@[simp] theorem State.setCstat_regs (s : State) (k : Nat) (x : CStat) : (s.setCstat k x).regs = s.regs := rfl
@[simp] theorem State.setCstat_guard (s : State) (k : Nat) (x : CStat) : (s.setCstat k x).guard = s.guard := rfl
@[simp] theorem State.setCstat_latch (s : State) (k : Nat) (x : CStat) : (s.setCstat k x).latch = s.latch := rfl
@[simp] theorem State.setCstat_readVal (s : State) (k : Nat) (x : CStat) : (s.setCstat k x).readVal = s.readVal := rfl
@[simp] theorem State.setCstat_freeCtr (s : State) (k : Nat) (x : CStat) : (s.setCstat k x).freeCtr = s.freeCtr := rfl
@[simp] theorem State.setCstat_pending (s : State) (k : Nat) (x : CStat) : (s.setCstat k x).pending = s.pending := rfl

/-! ### setDom -/

@[simp] theorem State.setDom_tb (s : State) (d : Nat) (x : DomSt) : (s.setDom d x).tb = s.tb := rfl
@[simp] theorem State.setDom_trip (s : State) (d : Nat) (x : DomSt) : (s.setDom d x).trip = s.trip := rfl
@[simp] theorem State.setDom_bcn (s : State) (d : Nat) (x : DomSt) : (s.setDom d x).bcn = s.bcn := rfl
@[simp] theorem State.setDom_jrn (s : State) (d : Nat) (x : DomSt) : (s.setDom d x).jrn = s.jrn := rfl
@[simp] theorem State.setDom_su (s : State) (d : Nat) (x : DomSt) : (s.setDom d x).su = s.su := rfl
@[simp] theorem State.setDom_hive (s : State) (d : Nat) (x : DomSt) : (s.setDom d x).hive = s.hive := rfl
@[simp] theorem State.setDom_mem (s : State) (d : Nat) (x : DomSt) : (s.setDom d x).mem = s.mem := rfl
@[simp] theorem State.setDom_tw (s : State) (d : Nat) (x : DomSt) : (s.setDom d x).tw = s.tw := rfl
@[simp] theorem State.setDom_lan (s : State) (d : Nat) (x : DomSt) : (s.setDom d x).lan = s.lan := rfl
@[simp] theorem State.setDom_nv (s : State) (d : Nat) (x : DomSt) : (s.setDom d x).nv = s.nv := rfl
@[simp] theorem State.setDom_cores (s : State) (d : Nat) (x : DomSt) : (s.setDom d x).cores = s.cores := rfl
@[simp] theorem State.setDom_coreSub (s : State) (d : Nat) (x : DomSt) : (s.setDom d x).coreSub = s.coreSub := rfl
@[simp] theorem State.setDom_cache (s : State) (d : Nat) (x : DomSt) : (s.setDom d x).cache = s.cache := rfl
@[simp] theorem State.setDom_ring (s : State) (d : Nat) (x : DomSt) : (s.setDom d x).ring = s.ring := rfl
@[simp] theorem State.setDom_bays (s : State) (d : Nat) (x : DomSt) : (s.setDom d x).bays = s.bays := rfl
@[simp] theorem State.setDom_ports (s : State) (d : Nat) (x : DomSt) : (s.setDom d x).ports = s.ports := rfl
@[simp] theorem State.setDom_grid (s : State) (d : Nat) (x : DomSt) : (s.setDom d x).grid = s.grid := rfl
@[simp] theorem State.setDom_sector (s : State) (d : Nat) (x : DomSt) : (s.setDom d x).sector = s.sector := rfl
@[simp] theorem State.setDom_boot (s : State) (d : Nat) (x : DomSt) : (s.setDom d x).boot = s.boot := rfl
@[simp] theorem State.setDom_keeper (s : State) (d : Nat) (x : DomSt) : (s.setDom d x).keeper = s.keeper := rfl
@[simp] theorem State.setDom_ranges (s : State) (d : Nat) (x : DomSt) : (s.setDom d x).ranges = s.ranges := rfl
@[simp] theorem State.setDom_regs (s : State) (d : Nat) (x : DomSt) : (s.setDom d x).regs = s.regs := rfl
@[simp] theorem State.setDom_guard (s : State) (d : Nat) (x : DomSt) : (s.setDom d x).guard = s.guard := rfl
@[simp] theorem State.setDom_latch (s : State) (d : Nat) (x : DomSt) : (s.setDom d x).latch = s.latch := rfl
@[simp] theorem State.setDom_readVal (s : State) (d : Nat) (x : DomSt) : (s.setDom d x).readVal = s.readVal := rfl
@[simp] theorem State.setDom_freeCtr (s : State) (d : Nat) (x : DomSt) : (s.setDom d x).freeCtr = s.freeCtr := rfl
@[simp] theorem State.setDom_pending (s : State) (d : Nat) (x : DomSt) : (s.setDom d x).pending = s.pending := rfl

/-! ### setMemc -/

@[simp] theorem State.setMemc_tb (s : State) (ch : Nat) (m : Memc) : (s.setMemc ch m).tb = s.tb := rfl
@[simp] theorem State.setMemc_trip (s : State) (ch : Nat) (m : Memc) : (s.setMemc ch m).trip = s.trip := rfl
@[simp] theorem State.setMemc_bcn (s : State) (ch : Nat) (m : Memc) : (s.setMemc ch m).bcn = s.bcn := rfl
@[simp] theorem State.setMemc_jrn (s : State) (ch : Nat) (m : Memc) : (s.setMemc ch m).jrn = s.jrn := rfl
@[simp] theorem State.setMemc_su (s : State) (ch : Nat) (m : Memc) : (s.setMemc ch m).su = s.su := rfl
@[simp] theorem State.setMemc_hive (s : State) (ch : Nat) (m : Memc) : (s.setMemc ch m).hive = s.hive := rfl
@[simp] theorem State.setMemc_tw (s : State) (ch : Nat) (m : Memc) : (s.setMemc ch m).tw = s.tw := rfl
@[simp] theorem State.setMemc_lan (s : State) (ch : Nat) (m : Memc) : (s.setMemc ch m).lan = s.lan := rfl
@[simp] theorem State.setMemc_nv (s : State) (ch : Nat) (m : Memc) : (s.setMemc ch m).nv = s.nv := rfl
@[simp] theorem State.setMemc_cores (s : State) (ch : Nat) (m : Memc) : (s.setMemc ch m).cores = s.cores := rfl
@[simp] theorem State.setMemc_coreSub (s : State) (ch : Nat) (m : Memc) : (s.setMemc ch m).coreSub = s.coreSub := rfl
@[simp] theorem State.setMemc_cache (s : State) (ch : Nat) (m : Memc) : (s.setMemc ch m).cache = s.cache := rfl
@[simp] theorem State.setMemc_ring (s : State) (ch : Nat) (m : Memc) : (s.setMemc ch m).ring = s.ring := rfl
@[simp] theorem State.setMemc_bays (s : State) (ch : Nat) (m : Memc) : (s.setMemc ch m).bays = s.bays := rfl
@[simp] theorem State.setMemc_ports (s : State) (ch : Nat) (m : Memc) : (s.setMemc ch m).ports = s.ports := rfl
@[simp] theorem State.setMemc_grid (s : State) (ch : Nat) (m : Memc) : (s.setMemc ch m).grid = s.grid := rfl
@[simp] theorem State.setMemc_sector (s : State) (ch : Nat) (m : Memc) : (s.setMemc ch m).sector = s.sector := rfl
@[simp] theorem State.setMemc_clk (s : State) (ch : Nat) (m : Memc) : (s.setMemc ch m).clk = s.clk := rfl
@[simp] theorem State.setMemc_boot (s : State) (ch : Nat) (m : Memc) : (s.setMemc ch m).boot = s.boot := rfl
@[simp] theorem State.setMemc_keeper (s : State) (ch : Nat) (m : Memc) : (s.setMemc ch m).keeper = s.keeper := rfl
@[simp] theorem State.setMemc_ranges (s : State) (ch : Nat) (m : Memc) : (s.setMemc ch m).ranges = s.ranges := rfl
@[simp] theorem State.setMemc_regs (s : State) (ch : Nat) (m : Memc) : (s.setMemc ch m).regs = s.regs := rfl
@[simp] theorem State.setMemc_guard (s : State) (ch : Nat) (m : Memc) : (s.setMemc ch m).guard = s.guard := rfl
@[simp] theorem State.setMemc_latch (s : State) (ch : Nat) (m : Memc) : (s.setMemc ch m).latch = s.latch := rfl
@[simp] theorem State.setMemc_readVal (s : State) (ch : Nat) (m : Memc) : (s.setMemc ch m).readVal = s.readVal := rfl
@[simp] theorem State.setMemc_freeCtr (s : State) (ch : Nat) (m : Memc) : (s.setMemc ch m).freeCtr = s.freeCtr := rfl
@[simp] theorem State.setMemc_pending (s : State) (ch : Nat) (m : Memc) : (s.setMemc ch m).pending = s.pending := rfl

/-! ### setPort -/

@[simp] theorem State.setPort_tb (s : State) (p : Nat) (x : NetPort) : (s.setPort p x).tb = s.tb := rfl
@[simp] theorem State.setPort_trip (s : State) (p : Nat) (x : NetPort) : (s.setPort p x).trip = s.trip := rfl
@[simp] theorem State.setPort_bcn (s : State) (p : Nat) (x : NetPort) : (s.setPort p x).bcn = s.bcn := rfl
@[simp] theorem State.setPort_jrn (s : State) (p : Nat) (x : NetPort) : (s.setPort p x).jrn = s.jrn := rfl
@[simp] theorem State.setPort_su (s : State) (p : Nat) (x : NetPort) : (s.setPort p x).su = s.su := rfl
@[simp] theorem State.setPort_hive (s : State) (p : Nat) (x : NetPort) : (s.setPort p x).hive = s.hive := rfl
@[simp] theorem State.setPort_mem (s : State) (p : Nat) (x : NetPort) : (s.setPort p x).mem = s.mem := rfl
@[simp] theorem State.setPort_tw (s : State) (p : Nat) (x : NetPort) : (s.setPort p x).tw = s.tw := rfl
@[simp] theorem State.setPort_lan (s : State) (p : Nat) (x : NetPort) : (s.setPort p x).lan = s.lan := rfl
@[simp] theorem State.setPort_nv (s : State) (p : Nat) (x : NetPort) : (s.setPort p x).nv = s.nv := rfl
@[simp] theorem State.setPort_cores (s : State) (p : Nat) (x : NetPort) : (s.setPort p x).cores = s.cores := rfl
@[simp] theorem State.setPort_coreSub (s : State) (p : Nat) (x : NetPort) : (s.setPort p x).coreSub = s.coreSub := rfl
@[simp] theorem State.setPort_cache (s : State) (p : Nat) (x : NetPort) : (s.setPort p x).cache = s.cache := rfl
@[simp] theorem State.setPort_ring (s : State) (p : Nat) (x : NetPort) : (s.setPort p x).ring = s.ring := rfl
@[simp] theorem State.setPort_bays (s : State) (p : Nat) (x : NetPort) : (s.setPort p x).bays = s.bays := rfl
@[simp] theorem State.setPort_grid (s : State) (p : Nat) (x : NetPort) : (s.setPort p x).grid = s.grid := rfl
@[simp] theorem State.setPort_sector (s : State) (p : Nat) (x : NetPort) : (s.setPort p x).sector = s.sector := rfl
@[simp] theorem State.setPort_clk (s : State) (p : Nat) (x : NetPort) : (s.setPort p x).clk = s.clk := rfl
@[simp] theorem State.setPort_boot (s : State) (p : Nat) (x : NetPort) : (s.setPort p x).boot = s.boot := rfl
@[simp] theorem State.setPort_keeper (s : State) (p : Nat) (x : NetPort) : (s.setPort p x).keeper = s.keeper := rfl
@[simp] theorem State.setPort_ranges (s : State) (p : Nat) (x : NetPort) : (s.setPort p x).ranges = s.ranges := rfl
@[simp] theorem State.setPort_regs (s : State) (p : Nat) (x : NetPort) : (s.setPort p x).regs = s.regs := rfl
@[simp] theorem State.setPort_guard (s : State) (p : Nat) (x : NetPort) : (s.setPort p x).guard = s.guard := rfl
@[simp] theorem State.setPort_latch (s : State) (p : Nat) (x : NetPort) : (s.setPort p x).latch = s.latch := rfl
@[simp] theorem State.setPort_readVal (s : State) (p : Nat) (x : NetPort) : (s.setPort p x).readVal = s.readVal := rfl
@[simp] theorem State.setPort_freeCtr (s : State) (p : Nat) (x : NetPort) : (s.setPort p x).freeCtr = s.freeCtr := rfl
@[simp] theorem State.setPort_pending (s : State) (p : Nat) (x : NetPort) : (s.setPort p x).pending = s.pending := rfl

/-! ### setSensor -/

@[simp] theorem State.setSensor_tb (s : State) (i : Nat) (x : Sensor) : (s.setSensor i x).tb = s.tb := rfl
@[simp] theorem State.setSensor_trip (s : State) (i : Nat) (x : Sensor) : (s.setSensor i x).trip = s.trip := rfl
@[simp] theorem State.setSensor_bcn (s : State) (i : Nat) (x : Sensor) : (s.setSensor i x).bcn = s.bcn := rfl
@[simp] theorem State.setSensor_jrn (s : State) (i : Nat) (x : Sensor) : (s.setSensor i x).jrn = s.jrn := rfl
@[simp] theorem State.setSensor_su (s : State) (i : Nat) (x : Sensor) : (s.setSensor i x).su = s.su := rfl
@[simp] theorem State.setSensor_hive (s : State) (i : Nat) (x : Sensor) : (s.setSensor i x).hive = s.hive := rfl
@[simp] theorem State.setSensor_mem (s : State) (i : Nat) (x : Sensor) : (s.setSensor i x).mem = s.mem := rfl
@[simp] theorem State.setSensor_tw (s : State) (i : Nat) (x : Sensor) : (s.setSensor i x).tw = s.tw := rfl
@[simp] theorem State.setSensor_nv (s : State) (i : Nat) (x : Sensor) : (s.setSensor i x).nv = s.nv := rfl
@[simp] theorem State.setSensor_cores (s : State) (i : Nat) (x : Sensor) : (s.setSensor i x).cores = s.cores := rfl
@[simp] theorem State.setSensor_coreSub (s : State) (i : Nat) (x : Sensor) : (s.setSensor i x).coreSub = s.coreSub := rfl
@[simp] theorem State.setSensor_cache (s : State) (i : Nat) (x : Sensor) : (s.setSensor i x).cache = s.cache := rfl
@[simp] theorem State.setSensor_ring (s : State) (i : Nat) (x : Sensor) : (s.setSensor i x).ring = s.ring := rfl
@[simp] theorem State.setSensor_bays (s : State) (i : Nat) (x : Sensor) : (s.setSensor i x).bays = s.bays := rfl
@[simp] theorem State.setSensor_ports (s : State) (i : Nat) (x : Sensor) : (s.setSensor i x).ports = s.ports := rfl
@[simp] theorem State.setSensor_grid (s : State) (i : Nat) (x : Sensor) : (s.setSensor i x).grid = s.grid := rfl
@[simp] theorem State.setSensor_sector (s : State) (i : Nat) (x : Sensor) : (s.setSensor i x).sector = s.sector := rfl
@[simp] theorem State.setSensor_clk (s : State) (i : Nat) (x : Sensor) : (s.setSensor i x).clk = s.clk := rfl
@[simp] theorem State.setSensor_boot (s : State) (i : Nat) (x : Sensor) : (s.setSensor i x).boot = s.boot := rfl
@[simp] theorem State.setSensor_keeper (s : State) (i : Nat) (x : Sensor) : (s.setSensor i x).keeper = s.keeper := rfl
@[simp] theorem State.setSensor_ranges (s : State) (i : Nat) (x : Sensor) : (s.setSensor i x).ranges = s.ranges := rfl
@[simp] theorem State.setSensor_regs (s : State) (i : Nat) (x : Sensor) : (s.setSensor i x).regs = s.regs := rfl
@[simp] theorem State.setSensor_guard (s : State) (i : Nat) (x : Sensor) : (s.setSensor i x).guard = s.guard := rfl
@[simp] theorem State.setSensor_latch (s : State) (i : Nat) (x : Sensor) : (s.setSensor i x).latch = s.latch := rfl
@[simp] theorem State.setSensor_readVal (s : State) (i : Nat) (x : Sensor) : (s.setSensor i x).readVal = s.readVal := rfl
@[simp] theorem State.setSensor_freeCtr (s : State) (i : Nat) (x : Sensor) : (s.setSensor i x).freeCtr = s.freeCtr := rfl
@[simp] theorem State.setSensor_pending (s : State) (i : Nat) (x : Sensor) : (s.setSensor i x).pending = s.pending := rfl

/-! ### setEng -/

@[simp] theorem State.setEng_tb (s : State) (b : BayId) (e : Nat) (x : Engine) : (s.setEng b e x).tb = s.tb := rfl
@[simp] theorem State.setEng_trip (s : State) (b : BayId) (e : Nat) (x : Engine) : (s.setEng b e x).trip = s.trip := rfl
@[simp] theorem State.setEng_bcn (s : State) (b : BayId) (e : Nat) (x : Engine) : (s.setEng b e x).bcn = s.bcn := rfl
@[simp] theorem State.setEng_jrn (s : State) (b : BayId) (e : Nat) (x : Engine) : (s.setEng b e x).jrn = s.jrn := rfl
@[simp] theorem State.setEng_su (s : State) (b : BayId) (e : Nat) (x : Engine) : (s.setEng b e x).su = s.su := rfl
@[simp] theorem State.setEng_hive (s : State) (b : BayId) (e : Nat) (x : Engine) : (s.setEng b e x).hive = s.hive := rfl
@[simp] theorem State.setEng_mem (s : State) (b : BayId) (e : Nat) (x : Engine) : (s.setEng b e x).mem = s.mem := rfl
@[simp] theorem State.setEng_tw (s : State) (b : BayId) (e : Nat) (x : Engine) : (s.setEng b e x).tw = s.tw := rfl
@[simp] theorem State.setEng_lan (s : State) (b : BayId) (e : Nat) (x : Engine) : (s.setEng b e x).lan = s.lan := rfl
@[simp] theorem State.setEng_nv (s : State) (b : BayId) (e : Nat) (x : Engine) : (s.setEng b e x).nv = s.nv := rfl
@[simp] theorem State.setEng_cores (s : State) (b : BayId) (e : Nat) (x : Engine) : (s.setEng b e x).cores = s.cores := rfl
@[simp] theorem State.setEng_coreSub (s : State) (b : BayId) (e : Nat) (x : Engine) : (s.setEng b e x).coreSub = s.coreSub := rfl
@[simp] theorem State.setEng_cache (s : State) (b : BayId) (e : Nat) (x : Engine) : (s.setEng b e x).cache = s.cache := rfl
@[simp] theorem State.setEng_ring (s : State) (b : BayId) (e : Nat) (x : Engine) : (s.setEng b e x).ring = s.ring := rfl
@[simp] theorem State.setEng_ports (s : State) (b : BayId) (e : Nat) (x : Engine) : (s.setEng b e x).ports = s.ports := rfl
@[simp] theorem State.setEng_grid (s : State) (b : BayId) (e : Nat) (x : Engine) : (s.setEng b e x).grid = s.grid := rfl
@[simp] theorem State.setEng_sector (s : State) (b : BayId) (e : Nat) (x : Engine) : (s.setEng b e x).sector = s.sector := rfl
@[simp] theorem State.setEng_clk (s : State) (b : BayId) (e : Nat) (x : Engine) : (s.setEng b e x).clk = s.clk := rfl
@[simp] theorem State.setEng_boot (s : State) (b : BayId) (e : Nat) (x : Engine) : (s.setEng b e x).boot = s.boot := rfl
@[simp] theorem State.setEng_keeper (s : State) (b : BayId) (e : Nat) (x : Engine) : (s.setEng b e x).keeper = s.keeper := rfl
@[simp] theorem State.setEng_ranges (s : State) (b : BayId) (e : Nat) (x : Engine) : (s.setEng b e x).ranges = s.ranges := rfl
@[simp] theorem State.setEng_regs (s : State) (b : BayId) (e : Nat) (x : Engine) : (s.setEng b e x).regs = s.regs := rfl
@[simp] theorem State.setEng_guard (s : State) (b : BayId) (e : Nat) (x : Engine) : (s.setEng b e x).guard = s.guard := rfl
@[simp] theorem State.setEng_latch (s : State) (b : BayId) (e : Nat) (x : Engine) : (s.setEng b e x).latch = s.latch := rfl
@[simp] theorem State.setEng_readVal (s : State) (b : BayId) (e : Nat) (x : Engine) : (s.setEng b e x).readVal = s.readVal := rfl
@[simp] theorem State.setEng_freeCtr (s : State) (b : BayId) (e : Nat) (x : Engine) : (s.setEng b e x).freeCtr = s.freeCtr := rfl
@[simp] theorem State.setEng_pending (s : State) (b : BayId) (e : Nat) (x : Engine) : (s.setEng b e x).pending = s.pending := rfl

/-! ### setPin -/

@[simp] theorem State.setPin_tb (s : State) (b : BayId) (u : Nat) (x : Pin) : (s.setPin b u x).tb = s.tb := rfl
@[simp] theorem State.setPin_trip (s : State) (b : BayId) (u : Nat) (x : Pin) : (s.setPin b u x).trip = s.trip := rfl
@[simp] theorem State.setPin_bcn (s : State) (b : BayId) (u : Nat) (x : Pin) : (s.setPin b u x).bcn = s.bcn := rfl
@[simp] theorem State.setPin_jrn (s : State) (b : BayId) (u : Nat) (x : Pin) : (s.setPin b u x).jrn = s.jrn := rfl
@[simp] theorem State.setPin_su (s : State) (b : BayId) (u : Nat) (x : Pin) : (s.setPin b u x).su = s.su := rfl
@[simp] theorem State.setPin_hive (s : State) (b : BayId) (u : Nat) (x : Pin) : (s.setPin b u x).hive = s.hive := rfl
@[simp] theorem State.setPin_mem (s : State) (b : BayId) (u : Nat) (x : Pin) : (s.setPin b u x).mem = s.mem := rfl
@[simp] theorem State.setPin_tw (s : State) (b : BayId) (u : Nat) (x : Pin) : (s.setPin b u x).tw = s.tw := rfl
@[simp] theorem State.setPin_lan (s : State) (b : BayId) (u : Nat) (x : Pin) : (s.setPin b u x).lan = s.lan := rfl
@[simp] theorem State.setPin_nv (s : State) (b : BayId) (u : Nat) (x : Pin) : (s.setPin b u x).nv = s.nv := rfl
@[simp] theorem State.setPin_cores (s : State) (b : BayId) (u : Nat) (x : Pin) : (s.setPin b u x).cores = s.cores := rfl
@[simp] theorem State.setPin_coreSub (s : State) (b : BayId) (u : Nat) (x : Pin) : (s.setPin b u x).coreSub = s.coreSub := rfl
@[simp] theorem State.setPin_cache (s : State) (b : BayId) (u : Nat) (x : Pin) : (s.setPin b u x).cache = s.cache := rfl
@[simp] theorem State.setPin_ring (s : State) (b : BayId) (u : Nat) (x : Pin) : (s.setPin b u x).ring = s.ring := rfl
@[simp] theorem State.setPin_ports (s : State) (b : BayId) (u : Nat) (x : Pin) : (s.setPin b u x).ports = s.ports := rfl
@[simp] theorem State.setPin_grid (s : State) (b : BayId) (u : Nat) (x : Pin) : (s.setPin b u x).grid = s.grid := rfl
@[simp] theorem State.setPin_sector (s : State) (b : BayId) (u : Nat) (x : Pin) : (s.setPin b u x).sector = s.sector := rfl
@[simp] theorem State.setPin_clk (s : State) (b : BayId) (u : Nat) (x : Pin) : (s.setPin b u x).clk = s.clk := rfl
@[simp] theorem State.setPin_boot (s : State) (b : BayId) (u : Nat) (x : Pin) : (s.setPin b u x).boot = s.boot := rfl
@[simp] theorem State.setPin_keeper (s : State) (b : BayId) (u : Nat) (x : Pin) : (s.setPin b u x).keeper = s.keeper := rfl
@[simp] theorem State.setPin_ranges (s : State) (b : BayId) (u : Nat) (x : Pin) : (s.setPin b u x).ranges = s.ranges := rfl
@[simp] theorem State.setPin_regs (s : State) (b : BayId) (u : Nat) (x : Pin) : (s.setPin b u x).regs = s.regs := rfl
@[simp] theorem State.setPin_guard (s : State) (b : BayId) (u : Nat) (x : Pin) : (s.setPin b u x).guard = s.guard := rfl
@[simp] theorem State.setPin_latch (s : State) (b : BayId) (u : Nat) (x : Pin) : (s.setPin b u x).latch = s.latch := rfl
@[simp] theorem State.setPin_readVal (s : State) (b : BayId) (u : Nat) (x : Pin) : (s.setPin b u x).readVal = s.readVal := rfl
@[simp] theorem State.setPin_freeCtr (s : State) (b : BayId) (u : Nat) (x : Pin) : (s.setPin b u x).freeCtr = s.freeCtr := rfl
@[simp] theorem State.setPin_pending (s : State) (b : BayId) (u : Nat) (x : Pin) : (s.setPin b u x).pending = s.pending := rfl

/-! ### free -/

@[simp] theorem State.free_tb (s : State) (w : Nat) : (s.free w).2.tb = s.tb := rfl
@[simp] theorem State.free_trip (s : State) (w : Nat) : (s.free w).2.trip = s.trip := rfl
@[simp] theorem State.free_bcn (s : State) (w : Nat) : (s.free w).2.bcn = s.bcn := rfl
@[simp] theorem State.free_jrn (s : State) (w : Nat) : (s.free w).2.jrn = s.jrn := rfl
@[simp] theorem State.free_su (s : State) (w : Nat) : (s.free w).2.su = s.su := rfl
@[simp] theorem State.free_hive (s : State) (w : Nat) : (s.free w).2.hive = s.hive := rfl
@[simp] theorem State.free_mem (s : State) (w : Nat) : (s.free w).2.mem = s.mem := rfl
@[simp] theorem State.free_tw (s : State) (w : Nat) : (s.free w).2.tw = s.tw := rfl
@[simp] theorem State.free_lan (s : State) (w : Nat) : (s.free w).2.lan = s.lan := rfl
@[simp] theorem State.free_nv (s : State) (w : Nat) : (s.free w).2.nv = s.nv := rfl
@[simp] theorem State.free_cores (s : State) (w : Nat) : (s.free w).2.cores = s.cores := rfl
@[simp] theorem State.free_coreSub (s : State) (w : Nat) : (s.free w).2.coreSub = s.coreSub := rfl
@[simp] theorem State.free_cache (s : State) (w : Nat) : (s.free w).2.cache = s.cache := rfl
@[simp] theorem State.free_ring (s : State) (w : Nat) : (s.free w).2.ring = s.ring := rfl
@[simp] theorem State.free_bays (s : State) (w : Nat) : (s.free w).2.bays = s.bays := rfl
@[simp] theorem State.free_ports (s : State) (w : Nat) : (s.free w).2.ports = s.ports := rfl
@[simp] theorem State.free_grid (s : State) (w : Nat) : (s.free w).2.grid = s.grid := rfl
@[simp] theorem State.free_sector (s : State) (w : Nat) : (s.free w).2.sector = s.sector := rfl
@[simp] theorem State.free_clk (s : State) (w : Nat) : (s.free w).2.clk = s.clk := rfl
@[simp] theorem State.free_boot (s : State) (w : Nat) : (s.free w).2.boot = s.boot := rfl
@[simp] theorem State.free_keeper (s : State) (w : Nat) : (s.free w).2.keeper = s.keeper := rfl
@[simp] theorem State.free_ranges (s : State) (w : Nat) : (s.free w).2.ranges = s.ranges := rfl
@[simp] theorem State.free_regs (s : State) (w : Nat) : (s.free w).2.regs = s.regs := rfl
@[simp] theorem State.free_guard (s : State) (w : Nat) : (s.free w).2.guard = s.guard := rfl
@[simp] theorem State.free_latch (s : State) (w : Nat) : (s.free w).2.latch = s.latch := rfl
@[simp] theorem State.free_readVal (s : State) (w : Nat) : (s.free w).2.readVal = s.readVal := rfl
@[simp] theorem State.free_pending (s : State) (w : Nat) : (s.free w).2.pending = s.pending := rfl
@[simp] theorem State.free_freeCtr (s : State) (w : Nat) : (s.free w).2.freeCtr = s.freeCtr + 1 := rfl
@[simp] theorem State.free_value (s : State) (w : Nat) : (s.free w).1 = Config.freeBits w s.freeCtr := rfl

/-! ### advanceTo -/

@[simp] theorem State.advanceTo_trip (s : State) (t : Stamp) : (s.advanceTo t).trip = s.trip := by unfold State.advanceTo; split <;> rfl
@[simp] theorem State.advanceTo_bcn (s : State) (t : Stamp) : (s.advanceTo t).bcn = s.bcn := by unfold State.advanceTo; split <;> rfl
@[simp] theorem State.advanceTo_jrn (s : State) (t : Stamp) : (s.advanceTo t).jrn = s.jrn := by unfold State.advanceTo; split <;> rfl
@[simp] theorem State.advanceTo_su (s : State) (t : Stamp) : (s.advanceTo t).su = s.su := by unfold State.advanceTo; split <;> rfl
@[simp] theorem State.advanceTo_hive (s : State) (t : Stamp) : (s.advanceTo t).hive = s.hive := by unfold State.advanceTo; split <;> rfl
@[simp] theorem State.advanceTo_mem (s : State) (t : Stamp) : (s.advanceTo t).mem = s.mem := by unfold State.advanceTo; split <;> rfl
@[simp] theorem State.advanceTo_tw (s : State) (t : Stamp) : (s.advanceTo t).tw = s.tw := by unfold State.advanceTo; split <;> rfl
@[simp] theorem State.advanceTo_lan (s : State) (t : Stamp) : (s.advanceTo t).lan = s.lan := by unfold State.advanceTo; split <;> rfl
@[simp] theorem State.advanceTo_nv (s : State) (t : Stamp) : (s.advanceTo t).nv = s.nv := by unfold State.advanceTo; split <;> rfl
@[simp] theorem State.advanceTo_cores (s : State) (t : Stamp) : (s.advanceTo t).cores = s.cores := by unfold State.advanceTo; split <;> rfl
@[simp] theorem State.advanceTo_cache (s : State) (t : Stamp) : (s.advanceTo t).cache = s.cache := by unfold State.advanceTo; split <;> rfl
@[simp] theorem State.advanceTo_ring (s : State) (t : Stamp) : (s.advanceTo t).ring = s.ring := by unfold State.advanceTo; split <;> rfl
@[simp] theorem State.advanceTo_bays (s : State) (t : Stamp) : (s.advanceTo t).bays = s.bays := by unfold State.advanceTo; split <;> rfl
@[simp] theorem State.advanceTo_ports (s : State) (t : Stamp) : (s.advanceTo t).ports = s.ports := by unfold State.advanceTo; split <;> rfl
@[simp] theorem State.advanceTo_grid (s : State) (t : Stamp) : (s.advanceTo t).grid = s.grid := by unfold State.advanceTo; split <;> rfl
@[simp] theorem State.advanceTo_sector (s : State) (t : Stamp) : (s.advanceTo t).sector = s.sector := by unfold State.advanceTo; split <;> rfl
@[simp] theorem State.advanceTo_clk (s : State) (t : Stamp) : (s.advanceTo t).clk = s.clk := by unfold State.advanceTo; split <;> rfl
@[simp] theorem State.advanceTo_boot (s : State) (t : Stamp) : (s.advanceTo t).boot = s.boot := by unfold State.advanceTo; split <;> rfl
@[simp] theorem State.advanceTo_keeper (s : State) (t : Stamp) : (s.advanceTo t).keeper = s.keeper := by unfold State.advanceTo; split <;> rfl
@[simp] theorem State.advanceTo_ranges (s : State) (t : Stamp) : (s.advanceTo t).ranges = s.ranges := by unfold State.advanceTo; split <;> rfl
@[simp] theorem State.advanceTo_regs (s : State) (t : Stamp) : (s.advanceTo t).regs = s.regs := by unfold State.advanceTo; split <;> rfl
@[simp] theorem State.advanceTo_guard (s : State) (t : Stamp) : (s.advanceTo t).guard = s.guard := by unfold State.advanceTo; split <;> rfl
@[simp] theorem State.advanceTo_latch (s : State) (t : Stamp) : (s.advanceTo t).latch = s.latch := by unfold State.advanceTo; split <;> rfl
@[simp] theorem State.advanceTo_readVal (s : State) (t : Stamp) : (s.advanceTo t).readVal = s.readVal := by unfold State.advanceTo; split <;> rfl
@[simp] theorem State.advanceTo_freeCtr (s : State) (t : Stamp) : (s.advanceTo t).freeCtr = s.freeCtr := by unfold State.advanceTo; split <;> rfl
@[simp] theorem State.advanceTo_pending (s : State) (t : Stamp) : (s.advanceTo t).pending = s.pending := by unfold State.advanceTo; split <;> rfl

/-- The stamp after a move ahead: the later of the two. -/
theorem State.advanceTo_now (s : State) (t : Stamp) : (s.advanceTo t).tb.now = if stampLt s.tb.now t then t else s.tb.now := by
  unfold State.advanceTo
  split <;> rfl

/-! ### Reading an updated part -/

/-- A stored register reads as it was written. -/
@[simp] theorem State.rd_wr_same (s : State) (key : Nat) (v : W32) : (s.wr key v).rd key = v := by
  simp only [State.rd, State.wr]
  split
  · rename_i h
    simp [assoc?_del_same, h]
  · simp

/-- A write of a stored register leaves the others alone. -/
theorem State.rd_wr_other (s : State) (key j : Nat) (v : W32) (h : j ≠ key) : (s.wr key v).rd j = s.rd j := by
  simp only [State.rd, State.wr]
  split
  · rw [assoc?_del_other s.regs key j h]
  · rw [assoc?_set_other s.regs key j v h]

theorem State.rd_setFld_other (s : State) (key lo w v j : Nat) (h : j ≠ key) : (s.setFld key lo w v).rd j = s.rd j :=
  State.rd_wr_other s key j _ h

theorem State.rd_flag_other (s : State) (key i j : Nat) (h : j ≠ key) : (s.flag key i).rd j = s.rd j :=
  State.rd_wr_other s key j _ h

theorem State.rd_bump_other (s : State) (key j : Nat) (h : j ≠ key) : (s.bump key).rd j = s.rd j :=
  State.rd_wr_other s key j _ h

@[simp] theorem State.core_setCore_same (s : State) (k : CoreId) (c : CoreSt) : (s.setCore k c).core k = c := by
  simp [State.core, State.setCore]

theorem State.core_setCore_other (s : State) (k j : CoreId) (c : CoreSt) (h : j ≠ k) : (s.setCore k c).core j = s.core j := by
  simp only [State.core, State.setCore]
  exact assocD_set_other _ _ _ _ _ (fun e => h (Fin.ext e))

@[simp] theorem State.setCore_setCore (s : State) (k : CoreId) (c d : CoreSt) : (s.setCore k c).setCore k d = s.setCore k d := by
  simp [State.setCore]

@[simp] theorem State.cc_setCc_same (s : State) (k : CoreId) (c : CoreCache) : (s.setCc k c).cc k = c := by
  simp [State.cc, State.setCc]

@[simp] theorem State.bay_setBay_same (s : State) (b : BayId) (x : Bay) : (s.setBay b x).bay b = x := by
  simp [State.bay, State.setBay]

theorem State.bay_setBay_other (s : State) (b j : BayId) (x : Bay) (h : j ≠ b) : (s.setBay b x).bay j = s.bay j := by
  simp only [State.bay, State.setBay]
  exact assocD_set_other _ _ _ _ _ (fun e => h (Fin.ext e))

@[simp] theorem State.setBay_setBay (s : State) (b : BayId) (x y : Bay) : (s.setBay b x).setBay b y = s.setBay b y := by
  simp [State.setBay]

@[simp] theorem State.rt_setRt_same (s : State) (t : TaskId) (x : TaskRt) : (s.setRt t x).rt t = x := by
  simp [State.rt, State.setRt]

theorem State.rt_setRt_other (s : State) (t u : TaskId) (x : TaskRt) (h : u ≠ t) : (s.setRt t x).rt u = s.rt u := by
  simp only [State.rt, State.setRt]
  exact assocD_set_other _ _ _ _ _ (fun e => h (Fin.ext e))

@[simp] theorem State.cstat_setCstat_same (s : State) (k : Nat) (x : CStat) : (s.setCstat k x).cstat k = x := by
  simp [State.cstat, State.setCstat]

theorem State.cstat_setCstat_other (s : State) (k j : Nat) (x : CStat) (h : j ≠ k) : (s.setCstat k x).cstat j = s.cstat j := by
  simp only [State.cstat, State.setCstat]
  exact assocD_set_other _ _ _ _ _ h

end Sys2Proof.Machine
end

