-- ==== Sys2Proof/Laws/Run.lean ====
section
/-! SUPPORT. What the shapes of an instruction can do: counting an event changes the counters only, an instruction that is reached runs its body, and a body that ends well retires. -/

namespace Sys2Proof.Machine

/-! ### Counters change nothing else -/

/-- Two cores that differ in their event counters only. -/
def CoreSt.Counted (c d : CoreSt) : Prop := d = { c with evcnt := d.evcnt, evsel := d.evsel, evOcc := d.evOcc }

theorem CoreSt.Counted.refl (c : CoreSt) : c.Counted c := rfl

theorem CoreSt.Counted.trans {a b c : CoreSt} (h : a.Counted b) (g : b.Counted c) : a.Counted c :=
  Eq.trans g (congrArg (fun x : CoreSt => { x with evcnt := c.evcnt, evsel := c.evsel, evOcc := c.evOcc }) h)

theorem CoreSt.evAdd_counted (c : CoreSt) (n k : Nat) : c.Counted (c.evAdd n k) := by
  rfl

theorem CoreSt.evFold_counted (k : Nat) (l : List Nat) :
    ∀ c : CoreSt, c.Counted (l.foldl (fun x n => if bitAt (x.evselN n) 8 then x else x.evAdd n k) c) := by
  induction l with
  | nil => exact fun c => .refl c
  | cons n r ih =>
    intro c
    refine CoreSt.Counted.trans ?_ (ih _)
    dsimp only
    split
    · exact .refl c
    · exact c.evAdd_counted n k

theorem CoreSt.ev_counted (c : CoreSt) (e k : Nat) : c.Counted (c.ev e k) := by
  unfold CoreSt.ev
  split
  · exact .refl c
  · exact CoreSt.Counted.trans (b := { c with evOcc := assocSet c.evOcc e (assocD c.evOcc e 0 + k) }) rfl (CoreSt.evFold_counted k _ _)

@[simp] theorem CoreSt.ev_run (c : CoreSt) (e k : Nat) : (c.ev e k).run = c.run := by rw [show c.ev e k = _ from c.ev_counted e k]
@[simp] theorem CoreSt.ev_pc (c : CoreSt) (e k : Nat) : (c.ev e k).pc = c.pc := by rw [show c.ev e k = _ from c.ev_counted e k]
@[simp] theorem CoreSt.ev_x (c : CoreSt) (e k : Nat) : (c.ev e k).x = c.x := by rw [show c.ev e k = _ from c.ev_counted e k]
@[simp] theorem CoreSt.ev_f (c : CoreSt) (e k : Nat) : (c.ev e k).f = c.f := by rw [show c.ev e k = _ from c.ev_counted e k]
@[simp] theorem CoreSt.ev_v (c : CoreSt) (e k : Nat) : (c.ev e k).v = c.v := by rw [show c.ev e k = _ from c.ev_counted e k]
@[simp] theorem CoreSt.ev_sealed (c : CoreSt) (e k : Nat) : (c.ev e k).sealed = c.sealed := by rw [show c.ev e k = _ from c.ev_counted e k]
@[simp] theorem CoreSt.ev_sup (c : CoreSt) (e k : Nat) : (c.ev e k).sup = c.sup := by rw [show c.ev e k = _ from c.ev_counted e k]
@[simp] theorem CoreSt.ev_fpstat (c : CoreSt) (e k : Nat) : (c.ev e k).fpstat = c.fpstat := by rw [show c.ev e k = _ from c.ev_counted e k]
@[simp] theorem CoreSt.ev_prg (c : CoreSt) (e k : Nat) : (c.ev e k).prg = c.prg := by rw [show c.ev e k = _ from c.ev_counted e k]
@[simp] theorem CoreSt.ev_sq (c : CoreSt) (e k : Nat) : (c.ev e k).sq = c.sq := by rw [show c.ev e k = _ from c.ev_counted e k]
@[simp] theorem CoreSt.ev_bankO (c : CoreSt) (e k : Nat) : (c.ev e k).bankO = c.bankO := by rw [show c.ev e k = _ from c.ev_counted e k]
@[simp] theorem CoreSt.ev_bankS (c : CoreSt) (e k : Nat) : (c.ev e k).bankS = c.bankS := by rw [show c.ev e k = _ from c.ev_counted e k]
@[simp] theorem CoreSt.ev_trO (c : CoreSt) (e k : Nat) : (c.ev e k).trO = c.trO := by rw [show c.ev e k = _ from c.ev_counted e k]
@[simp] theorem CoreSt.ev_trS (c : CoreSt) (e k : Nat) : (c.ev e k).trS = c.trS := by rw [show c.ev e k = _ from c.ev_counted e k]
@[simp] theorem CoreSt.ev_tlb (c : CoreSt) (e k : Nat) : (c.ev e k).tlb = c.tlb := by rw [show c.ev e k = _ from c.ev_counted e k]
@[simp] theorem CoreSt.ev_task (c : CoreSt) (e k : Nat) : (c.ev e k).task = c.task := by rw [show c.ev e k = _ from c.ev_counted e k]
@[simp] theorem CoreSt.ev_frame (c : CoreSt) (e k : Nat) : (c.ev e k).frame = c.frame := by rw [show c.ev e k = _ from c.ev_counted e k]
@[simp] theorem CoreSt.ev_pred (c : CoreSt) (e k : Nat) : (c.ev e k).pred = c.pred := by rw [show c.ev e k = _ from c.ev_counted e k]
@[simp] theorem CoreSt.ev_here (c : CoreSt) (e k : Nat) : (c.ev e k).here = c.here := by rw [show c.ev e k = _ from c.ev_counted e k]; rfl

/-! ### Registers -/

@[simp] theorem CoreSt.setX_run (c : CoreSt) (r : Reg) (v : W64) : (c.setX r v).run = c.run := by unfold CoreSt.setX; split <;> rfl
@[simp] theorem CoreSt.setX_pc (c : CoreSt) (r : Reg) (v : W64) : (c.setX r v).pc = c.pc := by unfold CoreSt.setX; split <;> rfl
@[simp] theorem CoreSt.setF_run (c : CoreSt) (r : Reg) (v : W64) : (c.setF r v).run = c.run := rfl
@[simp] theorem CoreSt.setF_pc (c : CoreSt) (r : Reg) (v : W64) : (c.setF r v).pc = c.pc := rfl
@[simp] theorem CoreSt.setV_run (c : CoreSt) (r : Reg) (v : V128) : (c.setV r v).run = c.run := rfl
@[simp] theorem CoreSt.setV_pc (c : CoreSt) (r : Reg) (v : V128) : (c.setV r v).pc = c.pc := rfl
@[simp] theorem CoreSt.accrue_run (c : CoreSt) (n : Nat) : (c.accrue n).run = c.run := rfl
@[simp] theorem CoreSt.accrue_pc (c : CoreSt) (n : Nat) : (c.accrue n).pc = c.pc := rfl
@[simp] theorem CoreSt.putF_run (c : CoreSt) (d : Reg) (n : Nat) (r : FRes) : (c.putF d n r).run = c.run := by simp [CoreSt.putF]
@[simp] theorem CoreSt.putX_run (c : CoreSt) (d : Reg) (n : Nat) (v : W64) (fl : Nat) : (c.putX d n v fl).run = c.run := by simp [CoreSt.putX]
@[simp] theorem CoreSt.mapLanes_run (c : CoreSt) (ty : Nat) (d : Reg) (ops : Nat) (f : Nat → FRes) : (c.mapLanes ty d ops f).run = c.run := by
  simp [CoreSt.mapLanes]

/-! ### Instructions -/

/-- An instruction that a core reaches runs its body. -/
theorem Fetched.instr {k : CoreId} {s s1 : State} (h : Fetched k s s1) (body : State → MRes Next) : s.instr k body = (body s1).finish k := by
  obtain ⟨hr, _, ht⟩ := h
  have hb : ((s.core k).run == .running || (s.core k).run == .entering) = true := by rcases hr with hr | hr <;> simp [hr]
  rw [State.instr, if_pos hb, ht]
  rfl

/-- A body that ends with one effect on a running core retires. -/
theorem done_finish {k : CoreId} {s : State} {f : CoreSt → CoreSt} (h : (s.core k).run = .running) (hf : (f (s.core k)).run = (s.core k).run) :
    (s.done k f).finish k = s.retired k f := by
  simp [State.done, h, MRes.finish, State.retire, hf, State.retired, CoreSt.goesTo]

/-- A body that raises an exception. -/
theorem illegal_finish (k : CoreId) (s : State) (w : W32) : ((s.illegal k w : MRes Next)).finish k = s.raise k (illegalExc k w s) := rfl
theorem privilege_finish (k : CoreId) (s : State) (w : W32) : ((s.privilege k w : MRes Next)).finish k = s.raise k (privilegeExc k w s) := rfl

/-- An integer operation completes. -/
theorem intOp_runs {k : CoreId} {s s1 : State} (h : Fetched k s s1) (d : Reg) (f : CoreSt → W64) :
    intOp k d f s = s1.retired k (fun c => c.setX d (f c)) := by
  unfold intOp
  rw [h.instr, done_finish h.2.1 (by simp)]

end Sys2Proof.Machine
end

