-- ==== Sys2Proof/Laws/Mem.lean ====
section
/-! SUPPORT. What the memory controllers' and the homes' operations can do: they change memory, the caches, registers of the controllers' and tiles' blocks, the cores' event counters and the place among the free values, and keep memory in canonical form. -/

namespace Sys2Proof.Machine

/-- t follows from s by memory operations only. -/
structure MemStep (s t : State) : Prop where
  frame : t = { s with regs := t.regs, mem := t.mem, cache := t.cache, cores := t.cores, freeCtr := t.freeCtr }
  core : ∀ k, (s.core k).Counted (t.core k)
  wf : Memory.wf s.mem.dram = true → Memory.wf t.mem.dram = true
  rd : ∀ key, key < 0x28000 → t.rd key = s.rd key

theorem MemStep.refl (s : State) : MemStep s s := ⟨rfl, fun _ => rfl, id, fun _ _ => rfl⟩

theorem MemStep.trans {s t u : State} (h : MemStep s t) (g : MemStep t u) : MemStep s u :=
  ⟨g.frame.trans (congrArg (fun x : State => { x with regs := u.regs, mem := u.mem, cache := u.cache, cores := u.cores, freeCtr := u.freeCtr }) h.frame),
    fun k => (h.core k).trans (g.core k), fun w => g.wf (h.wf w), fun key k => (g.rd key k).trans (h.rd key k)⟩

/-- A change of memory that is no DRAM byte's, and of the caches. -/
theorem MemStep.quiet (s : State) (m : MemState) (c : CacheState) (h : m.dram = s.mem.dram) : MemStep s { s with mem := m, cache := c } :=
  ⟨rfl, fun _ => rfl, fun w => by simpa [h] using w, fun _ _ => rfl⟩

theorem MemStep.wr (s : State) (key : Nat) (v : W32) (h : 0x28000 ≤ key) : MemStep s (s.wr key v) :=
  ⟨rfl, fun _ => rfl, id, fun j hj => State.rd_wr_other s key j v (by omega)⟩

theorem MemStep.flag (s : State) (key i : Nat) (h : 0x28000 ≤ key) : MemStep s (s.flag key i) := MemStep.wr s key _ h
theorem MemStep.bump (s : State) (key : Nat) (h : 0x28000 ≤ key) : MemStep s (s.bump key) := MemStep.wr s key _ h
theorem MemStep.peak (s : State) (key lo w v : Nat) (h : 0x28000 ≤ key) : MemStep s (s.peak key lo w v) := by
  unfold State.peak
  split
  · exact MemStep.wr s key _ h
  · exact .refl s

theorem MemStep.foldl {α : Type} (f : State → α → State) (h : ∀ s a, MemStep s (f s a)) : ∀ (l : List α) (s : State), MemStep s (l.foldl f s)
  | [], s => .refl s
  | a :: r, s => (h s a).trans (MemStep.foldl f h r (f s a))

/-! ### The controllers -/

theorem dramPut_step (s : State) (ch cl : Nat) (mask : BitVec 64) (data : Line) : MemStep s (s.dramPut ch cl mask data) :=
  ⟨rfl, fun _ => rfl, fun w => cellWriteMask_wf 0 _ mask data 64 s.mem.dram 0 w, fun _ _ => rfl⟩

theorem setPoison_step (s : State) (ch cl : Nat) (p : Bool) : MemStep s (s.setPoison ch cl p) := ⟨rfl, fun _ => rfl, id, fun _ _ => rfl⟩

theorem setMemc_step (s : State) (ch : Nat) (m : Memc) : MemStep s (s.setMemc ch m) := ⟨rfl, fun _ => rfl, id, fun _ _ => rfl⟩

theorem setCopy_step (s : State) (i : Nat) (c : Copy) : MemStep s (s.setCopy i c) := ⟨rfl, fun _ => rfl, id, fun _ _ => rfl⟩

theorem arrayWrite_step (s : State) (ch cl : Nat) (mask : BitVec 64) (data : Line) (p : Bool) : MemStep s (s.arrayWrite ch cl mask data p) := by
  unfold State.arrayWrite
  have h := dramPut_step s ch cl mask data
  dsimp only
  split
  · exact h.trans (setPoison_step _ _ _ _)
  · split
    · exact h.trans (setPoison_step _ _ _ _)
    · exact h

theorem hardFill_step (s : State) (ch cl d w : Nat) : MemStep s (s.hardFill ch cl d w) := by
  unfold State.hardFill
  dsimp only
  split
  · exact .refl s
  · exact setMemc_step s ch _

theorem corrDone_step (s : State) (ch cl : Nat) (c : Option (Nat × Nat)) : MemStep s (s.corrDone ch cl c) := by
  unfold State.corrDone
  split
  · exact (MemStep.bump s _ (by simp only [R.CNT_CORR_WR]; omega)).trans (hardFill_step _ ch cl _ _)
  · exact .refl s

theorem performWrite_step (s : State) (ch cl : Nat) (mask : BitVec 64) (data : Line) (p : Bool) (c : Option (Nat × Nat)) :
    MemStep s (s.performWrite ch cl mask data p c) := by
  have h := (arrayWrite_step s ch cl mask data p).trans (corrDone_step _ ch cl c)
  unfold State.performWrite
  split
  · exact h
  · dsimp only
    split
    · exact setCopy_step s _ _
    · split
      · exact h.trans ((arrayWrite_step _ _ _ mask data p).trans (setCopy_step _ _ _))
      · exact h

theorem noteRead_step (s : State) (ch cl : Nat) : MemStep s (s.noteRead ch cl) := by
  unfold State.noteRead
  split
  · exact MemStep.quiet s _ s.cache rfl
  · exact .refl s

theorem drainOne_step (s : State) (ch : Nat) : MemStep s (s.drainOne ch) := by
  unfold State.drainOne
  dsimp only
  split
  · exact .refl s
  · rename_i e r _
    have h0 : MemStep s (if e.mask = fullMask then s else s.noteRead ch e.line) := by
      split
      · exact .refl s
      · exact noteRead_step s _ _
    have h := h0.trans (performWrite_step _ ch e.line e.mask e.data e.poison e.corr)
    split <;> exact h.trans (setMemc_step _ _ _)

theorem drainN_step (ch : Nat) : ∀ (n : Nat) (s : State), MemStep s (s.drainN ch n)
  | 0, s => .refl s
  | n + 1, s => (drainOne_step s ch).trans (drainN_step ch n _)

theorem chanWrite_step (s : State) (ch cl : Nat) (mask : BitVec 64) (data : Line) (p whole : Bool) :
    MemStep s (s.chanWrite ch cl mask data p whole) := by
  unfold State.chanWrite
  dsimp only
  have h0 : MemStep s (if (s.memc ch).input.isSome then s.drainOne ch else s) := by
    split
    · exact drainOne_step s ch
    · exact .refl s
  refine h0.trans ?_
  generalize (if (s.memc ch).input.isSome then s.drainOne ch else s) = u
  split
  · exact (setMemc_step u ch _).trans (MemStep.bump _ _ (by simp only [R.CNT_MERGE]; omega))
  · split
    · exact performWrite_step u ch cl mask data p none
    · split
      · exact (setMemc_step u ch _).trans (MemStep.peak _ _ _ _ _ (by simp only [R.MERGE_PEAK]; omega))
      · exact (setMemc_step u ch _).trans (MemStep.flag _ _ _ (by simp only [R.MC_STATUS]; omega))

theorem sealChan_step (s : State) (pa ch cl : Nat) (mask : BitVec 64) (data : Line) (p : Bool) : MemStep s (s.sealChan pa ch cl mask data p) := by
  unfold State.sealChan
  split
  · exact chanWrite_step s _ _ _ _ _ _
  · split <;> exact chanWrite_step s _ _ _ _ _ _

/-- A write of a device-physical line. -/
theorem writePa_step (s : State) (pa : Nat) (mask : BitVec 64) (data : Line) (p : Bool) : MemStep s (s.writePa pa mask data p) := by
  unfold State.writePa
  split
  · exact .refl s
  · exact sealChan_step s _ _ _ _ _ _

/-! ### The homes -/

theorem sendCoh_step (s : State) (m : CohMsg) : MemStep s (s.sendCoh m) := ⟨rfl, fun _ => rfl, id, fun _ _ => rfl⟩
theorem setDir_step (s : State) (l : Nat) (e : Option DirEnt) : MemStep s (s.setDir l e) := ⟨rfl, fun _ => rfl, id, fun _ _ => rfl⟩
theorem setTxn_step (s : State) (l : Nat) (e : Option Txn) : MemStep s (s.setTxn l e) := ⟨rfl, fun _ => rfl, id, fun _ _ => rfl⟩
theorem l3Map_step (s : State) (l : Nat) (f : L3Line → L3Line) : MemStep s (s.l3Map l f) := ⟨rfl, fun _ => rfl, id, fun _ _ => rfl⟩
theorem l3Touch_step (s : State) (t : TileId) (l w : Nat) : MemStep s (s.l3Touch t l w) := ⟨rfl, fun _ => rfl, id, fun _ _ => rfl⟩
theorem l3Drop_step (s : State) (l : Nat) : MemStep s (s.l3Drop l) := ⟨rfl, fun _ => rfl, id, fun _ _ => rfl⟩
theorem setCc_step (s : State) (k : CoreId) (c : CoreCache) : MemStep s (s.setCc k c) := ⟨rfl, fun _ => rfl, id, fun _ _ => rfl⟩
theorem dirTouch_step (s : State) (t : TileId) (l w : Nat) : MemStep s (s.dirTouch t l w) := ⟨rfl, fun _ => rfl, id, fun _ _ => rfl⟩

theorem putDir_step (s : State) (e : DirEnt) : MemStep s (s.putDir e) := (setDir_step s _ _).trans (dirTouch_step _ _ _ _)

theorem l3Clean_step (s : State) (l : Nat) : MemStep s (s.l3Clean l) := by
  unfold State.l3Clean
  split
  · exact .refl s
  · split
    · exact (writePa_step s _ _ _ _).trans (l3Map_step _ _ _)
    · exact .refl s

theorem l3PutWay_step (s : State) (t : TileId) (l w : Nat) (data : Line) (dirty : Bool) (p : Nat) : MemStep s (s.l3PutWay t l w data dirty p) := by
  unfold State.l3PutWay
  dsimp only
  have h := MemStep.foldl (fun (s : State) (x : L3Line) => (s.l3Clean x.line).l3Drop x.line) (fun s x => (l3Clean_step s x.line).trans (l3Drop_step _ _))
    (s.cache.l3.filter (fun x => x.home == t && x.way == w && x.line % 2048 == l % 2048 && x.line != l)) s
  refine h.trans ((l3Drop_step _ l).trans ?_)
  refine MemStep.trans (MemStep.quiet _ _ _ rfl) (l3Touch_step _ t l w)

theorem l3Alloc_step (s : State) (l : Nat) (data : Line) (dirty : Bool) (p : Nat) : MemStep s (s.l3Alloc l data dirty p) := by
  unfold State.l3Alloc
  split
  · exact (l3Map_step s _ _).trans (l3Touch_step _ _ _ _)
  · dsimp only
    split
    · exact l3PutWay_step s _ _ _ _ _ _
    · split
      · exact writePa_step s _ _ _ _
      · exact .refl s

theorem notePlace_step (s : State) (l : Nat) : MemStep s (match s.placeOf l with
    | some p => s.noteRead p.1 p.2
    | none => s) := by
  split
  · exact noteRead_step s _ _
  · exact .refl s

theorem memoryFill_step (s : State) (l : Nat) (alloc : Bool) : MemStep s (s.memoryFill l alloc).2 := by
  unfold State.memoryFill
  dsimp only
  split
  · exact l3Touch_step s _ _ _
  · have h := notePlace_step s (l * 64)
    dsimp only
    split
    · exact h.trans (l3Alloc_step _ _ _ _ _)
    · exact h

theorem free_step (s : State) (w : Nat) : MemStep s (s.free w).2 := ⟨rfl, fun _ => rfl, id, fun _ _ => rfl⟩

theorem l3Look_step (s : State) (l : Nat) : MemStep s (s.l3Look l) := by
  unfold State.l3Look
  split
  · exact .refl s
  · have h := free_step s 8
    dsimp only
    split
    · exact h.trans (MemStep.quiet _ _ _ rfl)
    · split
      · exact h.trans (MemStep.quiet _ _ _ rfl)
      · split
        · refine h.trans (MemStep.trans ?_ (MemStep.quiet _ _ _ rfl))
          split
          · exact l3Map_step _ _ _
          · exact l3Drop_step _ _
        · exact h

/-- A write at the home. -/
theorem homeWrite_step (s : State) (l : Nat) (mask : BitVec 64) (data : Line) (alloc : Bool) (p : Nat) : MemStep s (s.homeWrite l mask data alloc p) := by
  unfold State.homeWrite
  split
  · exact (l3Map_step s _ _).trans (l3Touch_step _ _ _ _)
  · split
    · exact l3Alloc_step s _ _ _ _
    · exact writePa_step s _ _ _ _

theorem snoopL2_step (s : State) (k : CoreId) (kind : ReqKind) (l : Nat) : MemStep s (s.snoopL2 k kind l).2 := by
  unfold State.snoopL2
  split
  · split <;> first | exact setCc_step s k _ | exact .refl s
  · split
    · dsimp only
      split
      · exact .refl s
      · exact setCc_step s k _
    · exact .refl s

/-- A snoop along rings. -/
theorem snoopMask_step (s : State) (mask : BitVec 9) (kind : ReqKind) (l : Nat) (spare : Option CoreId) : MemStep s (s.snoopMask mask kind l spare).2 := by
  unfold State.snoopMask
  have h : ∀ (ks : List CoreId) (a : Option (Line × Bool × Nat) × State), MemStep a.2 (ks.foldl (fun (acc : Option (Line × Bool × Nat) × State) k =>
      if spare = some k then acc
      else
        let r := acc.2.snoopL2 k kind l
        match r.1 with
        | some a => (some a, r.2)
        | none => (acc.1, r.2)) a).2 := by
    intro ks
    induction ks with
    | nil => exact fun a => .refl a.2
    | cons k r ih =>
      intro a
      simp only [List.foldl_cons]
      refine MemStep.trans ?_ (ih _)
      split
      · exact .refl a.2
      · have g := snoopL2_step a.2 k kind l
        split <;> exact g
  exact h _ (none, s)

theorem dirRoom_step (s t : State) (l : Nat) (h : s.dirRoom l = some t) : MemStep s t := by
  unfold State.dirRoom at h
  split at h
  · exact Option.some.inj h ▸ dirTouch_step s _ _ _
  · split at h
    · cases h
    · split at h
      · exact Option.some.inj h ▸ .refl s
      · rename_i v _
        have h1 := MemStep.bump s (R.CNT_DIR_EVICT v.home.val) (by simp only [R.CNT_DIR_EVICT]; omega)
        have h2 := snoopMask_step (s.bump (R.CNT_DIR_EVICT v.home.val)) v.mask .rdX v.line none
        refine Option.some.inj h ▸ (h1.trans (h2.trans ?_))
        split
        · exact (homeWrite_step _ _ _ _ _ _).trans (setDir_step _ _ _)
        · exact setDir_step _ _ _

theorem homeOpen_getD_step (s : State) (l : Nat) : MemStep s ((s.homeOpen l).getD s) := by
  unfold State.homeOpen
  cases h : (s.l3Look l).dirRoom l with
  | none => exact .refl s
  | some t => exact (l3Look_step s l).trans (dirRoom_step _ t l h)

/-- A read of a unit without copies. -/
theorem cohRdNa_step (s : State) (l : Nat) : MemStep s (s.cohRdNa l).2 := by
  unfold State.cohRdNa
  dsimp only
  refine (homeOpen_getD_step s l).trans ?_
  generalize (s.homeOpen l).getD s = u
  split
  · rename_i e _
    split
    · have g := snoopMask_step u e.mask .rdNa l none
      split
      · exact g.trans (homeWrite_step _ _ _ _ _ _)
      · exact g
      · exact g.trans (memoryFill_step _ _ _)
    · exact memoryFill_step u _ _
  · exact memoryFill_step u _ _

/-- A write of a unit without copies. -/
theorem cohWrNa_step (s : State) (l : Nat) (mask : BitVec 64) (data : Line) (keep : Option CoreId) (alloc : Bool) (p : Nat) :
    MemStep s (s.cohWrNa l mask data keep alloc p) := by
  unfold State.cohWrNa
  dsimp only
  refine (homeOpen_getD_step s l).trans ?_
  generalize (s.homeOpen l).getD s = u
  split
  · rename_i e _
    generalize (e.excl && keep == some e.owner) = own
    have g := snoopMask_step u e.mask (if own then .rdNa else .rdX) l (if e.excl then none else keep)
    refine g.trans ?_
    generalize u.snoopMask e.mask (if own then .rdNa else .rdX) l (if e.excl then none else keep) = r
    obtain ⟨r1, r2⟩ := r
    have h : MemStep r2 (match r1 with
      | some (d, true, p) => r2.homeWrite l fullMask d true p
      | _ => r2) := by
      split
      · exact homeWrite_step _ _ _ _ _ _
      · exact .refl _
    refine h.trans (MemStep.trans ?_ (homeWrite_step _ _ _ _ _ _))
    by_cases hc : (keep.isSome && (!e.excl || own)) = true
    · rw [if_pos hc]; exact .refl _
    · rw [if_neg hc]; exact setDir_step _ _ _
  · exact homeWrite_step _ _ _ _ _ _

/-- A CMO of one line. -/
theorem cohCmo_step (s : State) (l : Nat) (clean inv force : Bool) : MemStep s (s.cohCmo l clean inv force).2 := by
  unfold State.cohCmo
  extract_lets u locked exempt doClean r v w x
  have h0 : MemStep s u := homeOpen_getD_step s l
  have h1 : MemStep u r.2 := by
    dsimp only [r]
    split
    · exact snoopMask_step u _ _ l none
    · exact .refl u
  have h2 : MemStep r.2 v := by
    dsimp only [v]
    split
    · split
      · exact homeWrite_step _ _ _ _ _ _
      · exact .refl _
    · exact .refl _
  have h3 : MemStep v w := by
    dsimp only [w]
    split
    · exact setDir_step v l none
    · exact .refl v
  have h4 : MemStep w x := by
    dsimp only [x]
    split
    · exact l3Clean_step w l
    · exact .refl w
  refine ((h0.trans h1).trans (h2.trans h3)).trans (h4.trans ?_)
  split
  · exact l3Drop_step x l
  · exact .refl x

/-! ### The open transactions of the homes -/

theorem outDrop_step (s : State) (p : CohMsg → Bool) : MemStep s (s.outDrop p) := ⟨rfl, fun _ => rfl, id, fun _ _ => rfl⟩
theorem setMshr_step (s : State) (k : CoreId) (l : Nat) (m : Option Mshr) : MemStep s (s.setMshr k l m) := setCc_step s k _
theorem txnSet_step (s : State) (x : Txn) (st : Trans) : MemStep s (s.txnSet x st) := setTxn_step s _ _
theorem txnWrite_step (s : State) (x : Txn) : MemStep s (s.txnWrite x) := homeWrite_step s _ _ _ _ _

theorem reqSet_step (s : State) (q : CohReq) (l : Nat) (m : Option Mshr) : MemStep s (s.reqSet q l m) := by
  unfold State.reqSet
  split
  · exact setMshr_step s _ l m
  · exact MemStep.quiet s s.mem _ rfl

/-- An event counted at a core. -/
theorem count_step (s : State) (k : CoreId) (e n : Nat) : MemStep s (s.count k e n) :=
  ⟨rfl, fun j => by
    unfold State.count
    by_cases h : j = k
    · subst h; rw [State.core_setCore_same]; exact (s.core j).ev_counted e n
    · rw [State.core_setCore_other _ _ _ _ h]; exact .refl _, id, fun _ _ => rfl⟩

theorem sendData_step (s : State) (x : Txn) (d : Line × Nat) : MemStep s (s.sendData x d) := by
  unfold State.sendData
  split <;> exact sendCoh_step s _

theorem txnReply_step (s : State) (x : Txn) (d : Line × Nat) : MemStep s (s.txnReply x d) := (reqSet_step s _ _ _).trans (sendCoh_step _ _)

theorem cmoStep_step (s : State) (op l : Nat) : MemStep s (s.cmoStep op l) := by
  unfold State.cmoStep
  extract_lets locked u
  have h : MemStep s u := by
    dsimp only [u]
    split
    · exact l3Clean_step s l
    · exact .refl s
  refine h.trans ?_
  split
  · exact l3Drop_step u l
  · exact .refl u

theorem txnMemory_step (s : State) (x : Txn) (d : Line × Nat) : MemStep s (s.txnMemory x d) := by
  unfold State.txnMemory
  split
  · exact (txnSet_step s x _).trans (sendData_step _ x d)
  · exact (txnSet_step s x _).trans (sendData_step _ x d)
  · exact (setTxn_step s _ _).trans (txnReply_step _ x d)
  · exact ((setTxn_step s _ _).trans (txnWrite_step _ x)).trans (txnReply_step _ x _)
  · exact ((setTxn_step s _ _).trans (cmoStep_step _ _ _)).trans (txnReply_step _ x _)

theorem txnRead_step (s : State) (x : Txn) : MemStep s (s.txnRead x) := by
  unfold State.txnRead
  split
  · split
    · exact (txnSet_step s x _).trans (sendCoh_step _ _)
    · exact txnSet_step s x _
  · split
    · exact (l3Touch_step s _ _ _).trans (txnMemory_step _ x _)
    · exact (txnSet_step s x _).trans (sendCoh_step _ _)

theorem txnSnoop_step (s : State) (x : Txn) (mask : BitVec 9) (st : Trans) : MemStep s (s.txnSnoop x mask st) :=
  (MemStep.foldl _ (fun s r => sendCoh_step s (.snoop (snoopKind x) (snoopKind x == .rdNa) r x.line)) _ s).trans (txnSet_step _ _ _)

/-- A transaction starts from a stable state. -/
theorem homeStart_step (s : State) (x : Txn) : MemStep s (s.homeStart x) := by
  unfold State.homeStart
  extract_lets
  split
  · split
    · exact (txnWrite_step s _).trans (txnReply_step _ _ _)
    · exact txnRead_step s _
    · exact txnRead_step s _
    · exact txnRead_step s _
  · rename_i e _
    extract_lets u
    have h : MemStep s u := dirTouch_step s _ _ _
    refine h.trans ?_
    split
    · exact txnSnoop_step u _ _ _
    · split
      · exact txnRead_step u _
      · exact txnRead_step u _
      · split
        · exact txnSnoop_step u _ _ _
        · split
          · exact (l3Touch_step u _ _ _).trans (txnSnoop_step _ _ _ _)
          · exact (txnSnoop_step u _ _ _).trans (sendCoh_step _ _)
      · exact txnSnoop_step u _ _ _

theorem homeNack_step (s : State) (x : Txn) : MemStep s (s.homeNack x) :=
  (MemStep.bump s _ (by simp only [R.CNT_NACK]; omega)).trans (sendCoh_step _ _)

theorem homeQueue_step (s : State) (x : Txn) : MemStep s (s.homeQueue x) := by
  unfold State.homeQueue
  split
  · exact (MemStep.quiet s s.mem { s.cache with queue := s.cache.queue ++ [x] } rfl).trans
      ((MemStep.bump _ _ (by simp only [R.CNT_FALLBACK]; omega)).trans (MemStep.peak _ _ _ _ _ (by simp only [R.WAITQ_PEAK]; omega)))
  · exact homeNack_step s x

theorem homeDefer_step (s : State) (x : Txn) : MemStep s (s.homeDefer x) := by
  unfold State.homeDefer
  split
  · exact homeQueue_step s x
  · exact homeNack_step s x

theorem dirRecall_step (s : State) (v : DirEnt) (x : Txn) : MemStep s (s.dirRecall v x) := by
  unfold State.dirRecall
  extract_lets u y
  have h : MemStep s u := MemStep.bump s _ (by simp only [R.CNT_DIR_EVICT]; omega)
  refine h.trans ?_
  split
  · exact (setDir_step u _ _).trans (homeStart_step _ _)
  · exact (MemStep.quiet u u.mem _ rfl).trans (txnSnoop_step _ _ _ _)

theorem homeAdmit_step (s : State) (x : Txn) : MemStep s (s.homeAdmit x) := by
  unfold State.homeAdmit
  split
  · exact .refl s
  · split
    · exact sendCoh_step s _
    · split
      · exact homeDefer_step s x
      · split
        · exact homeStart_step s x
        · split
          · exact homeDefer_step s x
          · split
            · exact homeStart_step s _
            · exact dirRecall_step s _ _

theorem homeNext_step (s : State) : MemStep s s.homeNext := by
  unfold State.homeNext
  split
  · exact .refl s
  · exact (MemStep.quiet s s.mem _ rfl).trans (homeAdmit_step _ _)

theorem wbStales_step (s : State) (x : Txn) : MemStep s (s.wbStales x) :=
  MemStep.foldl _ (fun s k => (MemStep.bump s _ (by simp only [R.CNT_WB_STALE]; omega)).trans (sendCoh_step _ _)) _ s

theorem unpark_step (s : State) (v : Nat) : MemStep s (s.unpark v) := by
  unfold State.unpark
  split
  · exact .refl s
  · extract_lets _ u
    have h : MemStep s u := MemStep.quiet s s.mem _ rfl
    refine h.trans ?_
    split
    · exact homeDefer_step u _
    · exact homeStart_step u _

/-- The last snoop has returned. -/
theorem snoopsBack_step (s : State) (x : Txn) : MemStep s (s.snoopsBack x) := by
  unfold State.snoopsBack
  extract_lets u y v keep w z
  have h0 : MemStep s u := (wbStales_step s x).trans (outDrop_step _ _)
  have h : MemStep u v := by
    dsimp only [v]
    split
    · split
      · exact .refl u
      · exact homeWrite_step u _ _ _ _ _
    · exact .refl u
  have hw : MemStep v w := by
    dsimp only [w]
    split
    · exact .refl v
    · exact setDir_step v _ _
  have hz : MemStep v z := by
    dsimp only [z]
    split
    · exact .refl v
    · exact setDir_step v _ _
  refine (h0.trans h).trans ?_
  split
  · exact ((setTxn_step v _ _).trans (setDir_step _ _ _)).trans (unpark_step _ _)
  · exact txnSet_step v _ _
  · split
    · split
      · exact hw.trans (txnMemory_step w _ _)
      · exact hw.trans (txnRead_step w _)
    · split
      · exact hz.trans (txnMemory_step z _ _)
      · exact hz.trans (txnRead_step z _)
    · split
      · exact txnMemory_step v _ _
      · exact txnRead_step v _
    · split
      · exact txnSet_step v _ _
      · split
        · exact txnMemory_step v _ _
        · exact txnRead_step v _

/-- A snoop message reaches an L2. -/
theorem snoopMsg_step (s : State) (k : CoreId) (l : Nat) (kind : ReqKind) : MemStep s (s.snoopMsg k l kind) := by
  unfold State.snoopMsg
  extract_lets r
  have h : MemStep s r.2 := by
    dsimp only [r]
    split
    · exact .refl s
    · exact snoopL2_step s k kind l
  refine h.trans ?_
  split
  · exact .refl r.2
  · extract_lets home
    have hh : MemStep r.2 (home r.2) := by
      dsimp only [home]
      split
      · exact sendCoh_step r.2 _
      · exact .refl r.2
    split
    · split
      · refine MemStep.trans ?_ (sendData_step _ _ _)
        split
        · exact .refl r.2
        · exact hh
      · exact hh
    · split
      · exact .refl r.2
      · exact hh

/-! ### The private caches -/

theorem l2Touch_step (s : State) (k : CoreId) (l w : Nat) : MemStep s (s.l2Touch k l w) := setCc_step s k _

theorem l2Evict_step (s : State) (k : CoreId) (x : L2Line) : MemStep s (s.l2Evict k x) := by
  unfold State.l2Evict
  dsimp only
  have h : MemStep s (s.l2Drop k x.line) := setCc_step s k _
  split
  · exact h.trans (setCc_step _ k _)
  · exact h

theorem l2Fill_step (s : State) (k : CoreId) (l : Nat) (st : LineSt) (data : Line) (p : Nat) (key : Option StKey) :
    MemStep s (s.l2Fill k l st data p key) := by
  unfold State.l2Fill
  split
  · exact (setCc_step s k _).trans (l2Touch_step _ _ _ _)
  · dsimp only
    split
    · exact .refl s
    · exact (MemStep.foldl (fun s x => s.l2Evict k x) (fun s x => l2Evict_step s k x) _ s).trans ((setCc_step _ k _).trans (l2Touch_step _ _ _ _))

/-- A requester takes its line. -/
theorem dataIn_step (s : State) (k : CoreId) (l : Nat) (data : Line) (g : Grant) (sub : Nat) : MemStep s (s.dataIn k l data g sub) := by
  unfold State.dataIn
  split
  · exact .refl s
  · split
    · exact .refl s
    · exact ((setMshr_step s k l none).trans (l2Fill_step _ _ _ _ _ _ _)).trans ((count_step _ k _ 1).trans (outDrop_step _ _))

theorem grantIn_step (s : State) (k : CoreId) (l : Nat) : MemStep s (s.grantIn k l) := by
  unfold State.grantIn
  split
  · exact .refl s
  · split
    · exact ((setMshr_step s k l none).trans (l2Fill_step _ _ _ _ _ _ _)).trans (outDrop_step _ _)
    · exact .refl s

theorem doneIn_step (s : State) (k : CoreId) (l : Nat) : MemStep s (s.doneIn k l) := by
  unfold State.doneIn
  split
  · exact MemStep.bump s _ (by simp only [R.CNT_PROTO]; omega)
  · extract_lets
    split
    · exact .refl s
    · exact ((setTxn_step s l none).trans (putDir_step _ _)).trans (homeNext_step _)

theorem memArrive_step (s : State) (x : Txn) (data : Line) (sub : Nat) : MemStep s (s.memArrive x data sub) := by
  unfold State.memArrive
  extract_lets u
  have h : MemStep s u := by
    dsimp only [u]
    split
    · exact l3Alloc_step s _ _ _ _
    · exact .refl s
  exact h.trans (txnMemory_step u x _)

/-! ### What waits for an open transaction -/

theorem closeSnoops_step (s : State) (l : Nat) : MemStep s (s.closeSnoops l) := by
  unfold State.closeSnoops
  split
  · exact .refl s
  · rename_i x _
    split
    · exact .refl s
    · extract_lets mask u
      have h : MemStep s u := MemStep.foldl (fun s k => s.snoopMsg k l (snoopKind x)) (fun s k => snoopMsg_step s k l _) _ s
      exact h.trans (snoopsBack_step u _)

theorem closeMem_step (s : State) (l : Nat) : MemStep s (s.closeMem l) := by
  unfold State.closeMem
  split
  · split
    · extract_lets r u
      have h : MemStep s u := notePlace_step s (l * 64)
      exact h.trans (memArrive_step u _ _ _)
    · exact .refl s
  · exact .refl s

theorem closeAck_step (s : State) (l : Nat) : MemStep s (s.closeAck l) := by
  unfold State.closeAck
  split
  · split
    · extract_lets u
      have h : MemStep s u := by
        dsimp only [u]
        split
        · exact dataIn_step s _ l _ _ _
        · exact grantIn_step s _ l
        · exact .refl s
      refine h.trans ?_
      split
      · exact .refl u
      · exact doneIn_step u _ l
    · exact .refl s
  · exact .refl s

theorem closeTxn_step (s : State) (l : Nat) : MemStep s (s.closeTxn l) := by
  unfold State.closeTxn
  extract_lets u
  have h : MemStep s u := (closeSnoops_step s l).trans ((closeMem_step _ l).trans (closeAck_step _ l))
  refine h.trans ?_
  split
  · exact homeNext_step u
  · exact .refl u

theorem agentWait_step (l : Nat) : ∀ (n : Nat) (s : State), MemStep s (agentWait n l s)
  | 0, s => .refl s
  | n + 1, s => by
    unfold agentWait
    split
    · exact (closeTxn_step s l).trans (agentWait_step l n _)
    · split
      · split
        · exact (closeTxn_step s _).trans (agentWait_step l n _)
        · exact .refl s
      · exact .refl s

theorem drainLine_step (s : State) (l : Nat) : MemStep s (s.drainLine l) := by
  unfold State.drainLine
  extract_lets u
  have h : MemStep s u := by
    dsimp only [u]
    split
    · exact MemStep.bump s _ (by simp only [R.CNT_DIR_EVICT]; omega)
    · exact .refl s
  exact h.trans (cohCmo_step u l true true true)

theorem drainClass_step (s : State) (cls : Nat) : MemStep s (s.drainClass cls) := by
  unfold State.drainClass
  dsimp only
  exact (MemStep.foldl (fun s (x : Txn) => agentWait 18 x.line s) (fun s x => agentWait_step x.line 18 s) _ s).trans
    ((MemStep.foldl (fun s x => s.drainLine x) (fun s x => drainLine_step s x) _ _).trans (MemStep.quiet _ _ _ rfl))

/-- A unit without caches takes its turn at a home. -/
theorem agentOrder_step (s : State) (l : Nat) : MemStep s (s.agentOrder l) := by
  unfold State.agentOrder
  split
  · extract_lets u v
    have h : MemStep s u := MemStep.bump s _ (by simp only [R.CNT_NACK]; omega)
    have hv : MemStep u v := by
      dsimp only [v]
      split
      · exact drainClass_step u _
      · exact .refl u
    exact (h.trans hv).trans (agentWait_step l _ v)
  · exact .refl s

theorem naWrite_step : ∀ (bs : List Byte) (s : State) (pa : Nat), MemStep s (s.naWrite pa bs)
  | [], s, _ => .refl s
  | b :: bs, s, pa => by
    unfold State.naWrite
    exact ((agentOrder_step s _).trans (cohWrNa_step _ _ _ _ _ _ _)).trans (naWrite_step bs _ _)

theorem naWriteIn_step (s : State) (pa n v : Nat) : MemStep s (s.naWriteIn pa n v) := (agentOrder_step s _).trans (cohWrNa_step _ _ _ _ _ _ _)

theorem naRead_step : ∀ (n : Nat) (s : State) (pa : Nat), MemStep s (s.naRead pa n).2
  | 0, s, _ => .refl s
  | n + 1, s, pa => by
    unfold State.naRead
    exact ((agentOrder_step s _).trans (cohRdNa_step _ _)).trans (naRead_step n _ _)

end Sys2Proof.Machine
end

