-- ==== Sys2Proof/Laws/Journal.lean ====
section
/-! SUPPORT. What journaling can do: it changes the journal, the rings' bytes in memory and the caches on the way to them, Lantern, the link's outgoing messages and a few flags and counters; where the ring's line waits for an open transaction, the cores' event counters. -/

namespace Sys2Proof.Machine

/-- The registers journaling may write below the memory blocks: lost-record counters and status registers. -/
def jrnKey (key : Nat) : Bool :=
  [R.JRN_LOST, R.BCN_STATUS, R.WD_SJRN_LOST, R.WD_STATUS, R.CNT_NVM_SKIP, R.LN_STATUS].contains key

/-- t follows from s by journaling only. -/
structure JrnStep (s t : State) : Prop where
  frame : t = { s with regs := t.regs, mem := t.mem, cache := t.cache, jrn := t.jrn, lan := t.lan, tw := t.tw, cores := t.cores, freeCtr := t.freeCtr }
  core : ∀ k, (s.core k).Counted (t.core k)
  wf : Memory.wf s.mem.dram = true → Memory.wf t.mem.dram = true
  rd : ∀ key, key < 0x28000 → jrnKey key = false → t.rd key = s.rd key

theorem JrnStep.refl (s : State) : JrnStep s s := ⟨rfl, fun _ => rfl, id, fun _ _ _ => rfl⟩

theorem JrnStep.trans {s t u : State} (h : JrnStep s t) (g : JrnStep t u) : JrnStep s u :=
  ⟨g.frame.trans (congrArg (fun x : State => { x with regs := u.regs, mem := u.mem, cache := u.cache, jrn := u.jrn, lan := u.lan, tw := u.tw, cores := u.cores, freeCtr := u.freeCtr }) h.frame),
    fun k => (h.core k).trans (g.core k), fun w => g.wf (h.wf w), fun key k j => (g.rd key k j).trans (h.rd key k j)⟩

theorem MemStep.jrn {s t : State} (h : MemStep s t) : JrnStep s t := by
  have e1 : t.jrn = s.jrn := by rw [h.frame]
  have e2 : t.lan = s.lan := by rw [h.frame]
  have e3 : t.tw = s.tw := by rw [h.frame]
  refine ⟨?_, h.core, h.wf, fun key k _ => h.rd key k⟩
  rw [e1, e2, e3]
  exact h.frame

theorem JrnStep.wr (s : State) (key : Nat) (v : W32) (h : jrnKey key = true) : JrnStep s (s.wr key v) :=
  ⟨rfl, fun _ => rfl, id, fun j _ hj => State.rd_wr_other s key j v (fun e => by subst e; simp [h] at hj)⟩

theorem JrnStep.flag (s : State) (key i : Nat) (h : jrnKey key = true) : JrnStep s (s.flag key i) := JrnStep.wr s key _ h
theorem JrnStep.bump (s : State) (key : Nat) (h : jrnKey key = true) : JrnStep s (s.bump key) := JrnStep.wr s key _ h

theorem JrnStep.lan (s : State) (l : LanState) : JrnStep s { s with lan := l } := ⟨rfl, fun _ => rfl, id, fun _ _ _ => rfl⟩

theorem JrnStep.jrn (s : State) (j : JrnState) : JrnStep s { s with jrn := j } := ⟨rfl, fun _ => rfl, id, fun _ _ _ => rfl⟩

theorem linkSend_step (s : State) (m : LinkMsg) : JrnStep s (s.linkSend m) := by
  unfold State.linkSend
  split
  · exact ⟨rfl, fun _ => rfl, id, fun _ _ _ => rfl⟩
  · exact .refl s

theorem ringWrite_step (s : State) (r : JRec) : JrnStep s (s.ringWrite r) := by
  unfold State.ringWrite
  extract_lets size i full u v
  have h : JrnStep s u := (naWriteIn_step s _ 32 (recWord r)).jrn
  have hv : JrnStep u v := by
    dsimp only [v]
    split
    · exact (JrnStep.bump u R.JRN_LOST (by decide)).trans (JrnStep.flag _ R.BCN_STATUS 7 (by decide))
    · exact .refl u
  exact (h.trans hv).trans (JrnStep.jrn v _)

theorem sealedRingWrite_step (s : State) (r : JRec) : JrnStep s (s.sealedRingWrite r) := by
  unfold State.sealedRingWrite
  extract_lets size i full u v
  have h : JrnStep s u := (naWriteIn_step s _ 32 (recWord r)).jrn
  have hv : JrnStep u v := by
    dsimp only [v]
    split
    · exact (JrnStep.bump u R.WD_SJRN_LOST (by decide)).trans (JrnStep.flag _ R.WD_STATUS 4 (by decide))
    · exact .refl u
  exact (h.trans hv).trans (JrnStep.jrn v _)

theorem lanRam_step (s : State) (r : JRec) : JrnStep s (s.lanRam r) := by
  unfold State.lanRam
  extract_lets _ l u
  have h : JrnStep s u := JrnStep.lan s _
  split
  · exact h
  · exact h.trans (JrnStep.lan u _)

theorem lanAdmit_step (s : State) (r : JRec) : JrnStep s (s.lanAdmit r) := by
  unfold State.lanAdmit
  exact JrnStep.lan s _

theorem lanReceive_step (s : State) (r : JRec) : JrnStep s (s.lanReceive r).2 := by
  unfold State.lanReceive
  dsimp only
  refine JrnStep.trans (lanRam_step s r) ?_
  split
  · exact lanAdmit_step _ r
  · split
    · exact .refl _
    · split
      · exact lanAdmit_step _ r
      · exact JrnStep.trans (JrnStep.bump _ R.CNT_NVM_SKIP (by decide)) (JrnStep.lan _ _)

theorem deliver_step (s : State) (r : JRec) (full : Option JRec) : JrnStep s (s.deliver r full).2 := by
  unfold State.deliver
  dsimp only
  refine JrnStep.trans (t := { s with jrn := { s.jrn with seq := s.jrn.seq + 1 } }) ⟨rfl, fun _ => rfl, id, fun _ _ _ => rfl⟩ ?_
  refine JrnStep.trans ?_ (lanReceive_step _ r)
  split
  · refine JrnStep.trans (ringWrite_step _ r) ?_
    refine JrnStep.trans ?_ (linkSend_step _ _)
    split
    · exact sealedRingWrite_step _ _
    · exact .refl _
  · exact .refl _

theorem jlogFull_step (s : State) (stamp : Stamp) (st u ty : Nat) (p : BitVec 96) (full : Option (BitVec 96)) :
    JrnStep s (s.jlogFull stamp st u ty p full) := by
  unfold State.jlogFull
  dsimp only
  split
  · exact (deliver_step _ _ _).trans ((JrnStep.flag _ R.LN_STATUS 14 (by decide)).trans (deliver_step _ _ _))
  · exact deliver_step _ _ _

/-- What a journal record leaves. -/
theorem jlog_step (s : State) (stamp : Stamp) (st u ty : Nat) (l : List (Nat × Nat × Nat)) : JrnStep s (s.jlog stamp st u ty l) :=
  jlogFull_step s _ _ _ _ _ _

/-- What a record with a Sealed subject leaves. -/
theorem jlogW_step (s : State) (b : Bool) (stamp : Stamp) (st u ty : Nat) (p m : List (Nat × Nat × Nat)) : JrnStep s (s.jlogW b stamp st u ty p m) := by
  unfold State.jlogW
  split
  · exact jlogFull_step s _ _ _ _ _ _
  · exact jlog_step s _ _ _ _ _

end Sys2Proof.Machine
end

