-- ==== Sys2Proof/Laws/Guard.lean ====
section
/-! SUPPORT. What a command's write leaves of a block's guard pair: in reset nothing happens, and otherwise a pending write of the block ends as a failed one, with its status bit and its record. -/

namespace Sys2Proof.Machine

@[simp] theorem State.awake_on {s : State} (h : s.boot.aon = true) (f : State → State) : s.awake f = f s := by simp [State.awake, h]

@[simp] theorem State.awake_off {s : State} (h : s.boot.aon = false) (f : State → State) : s.awake f = s := by simp [State.awake, h]

@[simp] theorem State.blockWrite_on {s : State} (h : s.boot.aon = true) (b : Nat) (f : State → State) :
    s.blockWrite b f = f (s.guardBreak b) := State.awake_on h _

@[simp] theorem State.blockWrite_off {s : State} (h : s.boot.aon = false) (b : Nat) (f : State → State) : s.blockWrite b f = s := State.awake_off h _

/-- A block without a pending write has nothing to break. -/
theorem State.guardBreak_none {s : State} {b : Nat} (h : assoc? s.guard b = none) : s.guardBreak b = s := by
  simp [State.guardBreak, State.guardExpire, h]

/-- Key is the word of block b that shows GUARD_FAIL (R518). -/
def guardWord (b key : Nat) : Bool := (guardBit b).any (fun p => key == b * 0x1000 + p.1)

/-- t follows from s by the end of a pending write of block b. -/
structure GuardStep (b : Nat) (s t : State) : Prop where
  frame : t = { s with regs := t.regs, mem := t.mem, cache := t.cache, jrn := t.jrn, lan := t.lan, tw := t.tw, cores := t.cores, freeCtr := t.freeCtr, guard := t.guard }
  core : ∀ k, (s.core k).Counted (t.core k)
  wf : Memory.wf s.mem.dram = true → Memory.wf t.mem.dram = true
  rd : ∀ key, key < 0x28000 → jrnKey key = false → guardWord b key = false → t.rd key = s.rd key
  other : ∀ c, c ≠ b → assoc? t.guard c = assoc? s.guard c

theorem GuardStep.refl (b : Nat) (s : State) : GuardStep b s s := ⟨rfl, fun _ => rfl, id, fun _ _ _ _ => rfl, fun _ _ => rfl⟩

theorem GuardStep.trans {b : Nat} {s t u : State} (h : GuardStep b s t) (g : GuardStep b t u) : GuardStep b s u :=
  ⟨g.frame.trans (congrArg (fun x : State => { x with regs := u.regs, mem := u.mem, cache := u.cache, jrn := u.jrn, lan := u.lan, tw := u.tw, cores := u.cores, freeCtr := u.freeCtr, guard := u.guard }) h.frame),
    fun k => (h.core k).trans (g.core k), fun w => g.wf (h.wf w), fun key k j w => (g.rd key k j w).trans (h.rd key k j w),
    fun c hc => (g.other c hc).trans (h.other c hc)⟩

theorem JrnStep.guardStep {s t : State} (b : Nat) (h : JrnStep s t) : GuardStep b s t := by
  have e : t.guard = s.guard := by rw [h.frame]
  refine ⟨?_, h.core, h.wf, fun key k j _ => h.rd key k j, fun c _ => by rw [e]⟩
  rw [e]
  exact h.frame

/-- What a failed pair leaves: the block's status bit and a record. -/
theorem guardFail_step (s : State) (b cause off : Nat) (q : Requester) (v : W32) : GuardStep b s (s.guardFail b cause off q v) := by
  unfold State.guardFail
  refine GuardStep.trans ?_ ((jlogW_step _ _ _ _ _ _ _ _).guardStep b)
  split
  · next p hp =>
    exact ⟨rfl, fun _ => rfl, id, fun key _ _ h => State.rd_wr_other s _ key _ (fun e => by simp [guardWord, hp, e] at h), fun _ _ => rfl⟩
  · exact .refl b s

theorem guardClear_step (s : State) (b : Nat) : GuardStep b s (s.guardClear b) :=
  ⟨rfl, fun _ => rfl, id, fun _ _ _ _ => rfl, fun c hc => assoc?_del_other s.guard b c hc⟩

@[simp] theorem guardFail_guard (s : State) (b cause off : Nat) (q : Requester) (v : W32) : (s.guardFail b cause off q v).guard = s.guard := by
  unfold State.guardFail
  dsimp only
  rw [(jlogW_step _ _ _ _ _ _ _ _).frame]
  dsimp only
  split <;> rfl

/-- Everything that breaking a block's pair can do: the block has no pending write after it, and other blocks keep theirs. -/
theorem guardBreak_step (s : State) (b : Nat) : GuardStep b s (s.guardBreak b) ∧ assoc? (s.guardBreak b).guard b = none := by
  cases h : assoc? s.guard b with
  | none => rw [State.guardBreak_none h]; exact ⟨.refl b s, h⟩
  | some p =>
    have e : ∀ cause, GuardStep b s ((s.guardClear b).guardFail b cause p.off p.who p.value) ∧
        assoc? ((s.guardClear b).guardFail b cause p.off p.who p.value).guard b = none := fun cause =>
      ⟨(guardClear_step s b).trans (guardFail_step _ _ _ _ _ _), by simp [State.guardClear, assoc?_del_same]⟩
    by_cases ho : s.guardOver p
    · simpa [State.guardBreak, State.guardExpire, h, ho, State.guardClear, assoc?_del_same] using e 2
    · simpa [State.guardBreak, State.guardExpire, h, ho] using e 3

end Sys2Proof.Machine
end

