-- ==== Sys2Proof/Laws/PerInstr.lean ====
section
/-! SUPPORT. The statement per constructor: what the words of the two instruction sets say about the command as syntax. -/

namespace Sys2Proof.Laws.Form

/-- R127, R238: no command has both a Scarab and an Ant word, and a command has an operation of an instruction set exactly where it has a word of it. -/
def Statement (i : Instr) : Prop :=
  (Machine.sisWord i = none ∨ Machine.antWord i = none) ∧
  (Machine.sisWord i).isSome = (Machine.sisOp i).isSome ∧ (Machine.antWord i).isSome = (Machine.antOp i).isSome

theorem powerOnReset : Statement (.powerOnReset) := ⟨.inr rfl, rfl, rfl⟩
theorem resetNLow : Statement (.resetNLow) := ⟨.inr rfl, rfl, rfl⟩
theorem crystalStable : Statement (.crystalStable) := ⟨.inr rfl, rfl, rfl⟩
theorem refStable : ∀ refB, Statement (.refStable refB) := fun _ => ⟨.inr rfl, rfl, rfl⟩
theorem refLoss : ∀ refB, Statement (.refLoss refB) := fun _ => ⟨.inr rfl, rfl, rfl⟩
theorem tbRateWrite : ∀ v, Statement (.tbRateWrite v) := fun _ => ⟨.inr rfl, rfl, rfl⟩
theorem taiWrite : ∀ lo, Statement (.taiWrite lo) := fun _ => ⟨.inr rfl, rfl, rfl⟩
theorem epochWrite : ∀ lo, Statement (.epochWrite lo) := fun _ => ⟨.inr rfl, rfl, rfl⟩
theorem beaconRun : ∀ v, Statement (.beaconRun v) := fun _ => ⟨.inr rfl, rfl, rfl⟩
theorem tick : Statement (.tick) := ⟨.inr rfl, rfl, rfl⟩
theorem bcnOutFall : Statement (.bcnOutFall) := ⟨.inr rfl, rfl, rfl⟩
theorem bcnInEdge : ∀ falling, Statement (.bcnInEdge falling) := fun _ => ⟨.inr rfl, rfl, rfl⟩
theorem bcnInLost : Statement (.bcnInLost) := ⟨.inr rfl, rfl, rfl⟩
theorem inputFreeze : Statement (.inputFreeze) := ⟨.inr rfl, rfl, rfl⟩
theorem samplePost : ∀ p, Statement (.samplePost p) := fun _ => ⟨.inr rfl, rfl, rfl⟩
theorem deadlineLate : ∀ t, Statement (.deadlineLate t) := fun _ => ⟨.inr rfl, rfl, rfl⟩
theorem missed : Statement (.missed) := ⟨.inr rfl, rfl, rfl⟩
theorem walk : ∀ t frame, Statement (.walk t frame) := fun _ _ => ⟨.inr rfl, rfl, rfl⟩
theorem digestFinal : ∀ frame, Statement (.digestFinal frame) := fun _ => ⟨.inr rfl, rfl, rfl⟩
theorem dbgMetaRead : ∀ q, Statement (.dbgMetaRead q) := fun _ => ⟨.inr rfl, rfl, rfl⟩
theorem taskDispatch : ∀ t, Statement (.taskDispatch t) := fun _ => ⟨.inr rfl, rfl, rfl⟩
theorem dispatchSteal : ∀ t, Statement (.dispatchSteal t) := fun _ => ⟨.inr rfl, rfl, rfl⟩
theorem planComplete : ∀ items, Statement (.planComplete items) := fun _ => ⟨.inr rfl, rfl, rfl⟩
theorem swOpen : ∀ v, Statement (.swOpen v) := fun _ => ⟨.inr rfl, rfl, rfl⟩
theorem swEntVal : ∀ v, Statement (.swEntVal v) := fun _ => ⟨.inr rfl, rfl, rfl⟩
theorem swArmLo : ∀ v, Statement (.swArmLo v) := fun _ => ⟨.inr rfl, rfl, rfl⟩
theorem swCancel : ∀ v, Statement (.swCancel v) := fun _ => ⟨.inr rfl, rfl, rfl⟩
theorem antEventEntry : ∀ b e, Statement (.antEventEntry b e) := fun _ _ => ⟨.inr rfl, rfl, rfl⟩
theorem captureEdge : ∀ b u rising, Statement (.captureEdge b u rising) := fun _ _ _ => ⟨.inr rfl, rfl, rfl⟩
theorem compareAction : ∀ b u, Statement (.compareAction b u) := fun _ _ => ⟨.inr rfl, rfl, rfl⟩
theorem suRx : ∀ b e data parity framing, Statement (.suRx b e data parity framing) := fun _ _ _ _ _ => ⟨.inr rfl, rfl, rfl⟩
theorem suTx : ∀ b e, Statement (.suTx b e) := fun _ _ => ⟨.inr rfl, rfl, rfl⟩
theorem suIdle : ∀ b e, Statement (.suIdle b e) := fun _ _ => ⟨.inr rfl, rfl, rfl⟩
theorem engineTimer : ∀ b e, Statement (.engineTimer b e) := fun _ _ => ⟨.inr rfl, rfl, rfl⟩
theorem spareLoadDone : ∀ b e, Statement (.spareLoadDone b e) := fun _ _ => ⟨.inr rfl, rfl, rfl⟩
theorem baySafeAll : ∀ b v, Statement (.baySafeAll b v) := fun _ _ => ⟨.inr rfl, rfl, rfl⟩
theorem memDataRead : ∀ b q, Statement (.memDataRead b q) := fun _ _ => ⟨.inr rfl, rfl, rfl⟩
theorem decimatedSample : ∀ i raw, Statement (.decimatedSample i raw) := fun _ _ => ⟨.inr rfl, rfl, rfl⟩
theorem modFault : ∀ i faulted, Statement (.modFault i faulted) := fun _ _ => ⟨.inr rfl, rfl, rfl⟩
theorem noSync : ∀ g, Statement (.noSync g) := fun _ => ⟨.inr rfl, rfl, rfl⟩
theorem interlockEvaluation : Statement (.interlockEvaluation) := ⟨.inr rfl, rfl, rfl⟩
theorem supplyWarn : Statement (.supplyWarn) := ⟨.inr rfl, rfl, rfl⟩
theorem supplyClear : Statement (.supplyClear) := ⟨.inr rfl, rfl, rfl⟩
theorem heartbeatSend : Statement (.heartbeatSend) := ⟨.inr rfl, rfl, rfl⟩
theorem heartbeat : ∀ h, Statement (.heartbeat h) := fun _ => ⟨.inr rfl, rfl, rfl⟩
theorem twinHbDrive : Statement (.twinHbDrive) := ⟨.inr rfl, rfl, rfl⟩
theorem twinHbPulse : ∀ width, Statement (.twinHbPulse width) := fun _ => ⟨.inr rfl, rfl, rfl⟩
theorem listenWindowEnd : Statement (.listenWindowEnd) := ⟨.inr rfl, rfl, rfl⟩
theorem mirror : ∀ frame off lines, Statement (.mirror frame off lines) := fun _ _ _ => ⟨.inr rfl, rfl, rfl⟩
theorem mirrorEnd : ∀ frame, Statement (.mirrorEnd frame) := fun _ => ⟨.inr rfl, rfl, rfl⟩
theorem mirrorMiss : Statement (.mirrorMiss) := ⟨.inr rfl, rfl, rfl⟩
theorem digest : ∀ frame dig od flags, Statement (.digest frame dig od flags) := fun _ _ _ _ => ⟨.inr rfl, rfl, rfl⟩
theorem digestSendDeadline : Statement (.digestSendDeadline) := ⟨.inr rfl, rfl, rfl⟩
theorem swArm : ∀ slot set last frame entries, Statement (.swArm slot set last frame entries) := fun _ _ _ _ _ => ⟨.inr rfl, rfl, rfl⟩
theorem swCancelMsg : ∀ slot frame, Statement (.swCancelMsg slot frame) := fun _ _ => ⟨.inr rfl, rfl, rfl⟩
theorem supply : ∀ warn, Statement (.supply warn) := fun _ => ⟨.inr rfl, rfl, rfl⟩
theorem handoverRequest : Statement (.handoverRequest) := ⟨.inr rfl, rfl, rfl⟩
theorem handover : ∀ h, Statement (.handover h) := fun _ => ⟨.inr rfl, rfl, rfl⟩
theorem handoverAck : ∀ h, Statement (.handoverAck h) := fun _ => ⟨.inr rfl, rfl, rfl⟩
theorem rejoin : Statement (.rejoin) := ⟨.inr rfl, rfl, rfl⟩
theorem isolate : Statement (.isolate) := ⟨.inr rfl, rfl, rfl⟩
theorem linkLaneFail : ∀ lane, Statement (.linkLaneFail lane) := fun _ => ⟨.inr rfl, rfl, rfl⟩
theorem laneMap : ∀ failed, Statement (.laneMap failed) := fun _ => ⟨.inr rfl, rfl, rfl⟩
theorem ack : ∀ seq, Statement (.ack seq) := fun _ => ⟨.inr rfl, rfl, rfl⟩
theorem ackTimer : Statement (.ackTimer) := ⟨.inr rfl, rfl, rfl⟩
theorem nak : ∀ seq, Statement (.nak seq) := fun _ => ⟨.inr rfl, rfl, rfl⟩
theorem linkSilence : Statement (.linkSilence) := ⟨.inr rfl, rfl, rfl⟩
theorem linkRetrain : ∀ healthy, Statement (.linkRetrain healthy) := fun _ => ⟨.inr rfl, rfl, rfl⟩
theorem linkUp : ∀ roundTrip hello, Statement (.linkUp roundTrip hello) := fun _ _ => ⟨.inr rfl, rfl, rfl⟩
theorem journal : ∀ recs, Statement (.journal recs) := fun _ => ⟨.inr rfl, rfl, rfl⟩
theorem joinReq : ∀ dig, Statement (.joinReq dig) := fun _ => ⟨.inr rfl, rfl, rfl⟩
theorem joinAccept : ∀ b, Statement (.joinAccept b) := fun _ => ⟨.inr rfl, rfl, rfl⟩
theorem joinRefuse : ∀ cause, Statement (.joinRefuse cause) := fun _ => ⟨.inr rfl, rfl, rfl⟩
theorem copy : ∀ lines, Statement (.copy lines) := fun _ => ⟨.inr rfl, rfl, rfl⟩
theorem copyEnd : ∀ c, Statement (.copyEnd c) := fun _ => ⟨.inr rfl, rfl, rfl⟩
theorem replay : ∀ m lines, Statement (.replay m lines) := fun _ _ => ⟨.inr rfl, rfl, rfl⟩
theorem replayEnd : ∀ m, Statement (.replayEnd m) := fun _ => ⟨.inr rfl, rfl, rfl⟩
theorem joinAt : ∀ j, Statement (.joinAt j) := fun _ => ⟨.inr rfl, rfl, rfl⟩
theorem joinGo : ∀ j, Statement (.joinGo j) := fun _ => ⟨.inr rfl, rfl, rfl⟩
theorem unitState : ∀ u, Statement (.unitState u) := fun _ => ⟨.inr rfl, rfl, rfl⟩
theorem joinAbort : ∀ cause, Statement (.joinAbort cause) := fun _ => ⟨.inr rfl, rfl, rfl⟩
theorem storeDrain : ∀ k, Statement (.storeDrain k) := fun _ => ⟨.inr rfl, rfl, rfl⟩
theorem interruptEntry : ∀ k, Statement (.interruptEntry k) := fun _ => ⟨.inr rfl, rfl, rfl⟩
theorem timerSource : ∀ k, Statement (.timerSource k) := fun _ => ⟨.inr rfl, rfl, rfl⟩
theorem doorbell : ∀ k n, Statement (.doorbell k n) := fun _ _ => ⟨.inr rfl, rfl, rfl⟩
theorem rdS : ∀ k line fallback fetch ecc, Statement (.rdS k line fallback fetch ecc) := fun _ _ _ _ _ => ⟨.inr rfl, rfl, rfl⟩
theorem rdX : ∀ k line fallback x, Statement (.rdX k line fallback x) := fun _ _ _ _ => ⟨.inr rfl, rfl, rfl⟩
theorem rdNa : ∀ q line, Statement (.rdNa q line) := fun _ _ => ⟨.inr rfl, rfl, rfl⟩
theorem wrNa : ∀ q line first last data keep, Statement (.wrNa q line first last data keep) := fun _ _ _ _ _ _ => ⟨.inr rfl, rfl, rfl⟩
theorem wb : ∀ k line data poison, Statement (.wb k line data poison) := fun _ _ _ _ => ⟨.inr rfl, rfl, rfl⟩
theorem cmo : ∀ k line x, Statement (.cmo k line x) := fun _ _ _ => ⟨.inr rfl, rfl, rfl⟩
theorem reval : ∀ k line slot tick, Statement (.reval k line slot tick) := fun _ _ _ _ => ⟨.inr rfl, rfl, rfl⟩
theorem snpS : ∀ k line, Statement (.snpS k line) := fun _ _ => ⟨.inr rfl, rfl, rfl⟩
theorem snpX : ∀ k line, Statement (.snpX k line) := fun _ _ => ⟨.inr rfl, rfl, rfl⟩
theorem snpCln : ∀ k line, Statement (.snpCln k line) := fun _ _ => ⟨.inr rfl, rfl, rfl⟩
theorem snpRet : ∀ line ans, Statement (.snpRet line ans) := fun _ _ => ⟨.inr rfl, rfl, rfl⟩
theorem data : ∀ k line data grant, Statement (.data k line data grant) := fun _ _ _ _ => ⟨.inr rfl, rfl, rfl⟩
theorem grant : ∀ k line, Statement (.grant k line) := fun _ _ => ⟨.inr rfl, rfl, rfl⟩
theorem same : ∀ k line, Statement (.same k line) := fun _ _ => ⟨.inr rfl, rfl, rfl⟩
theorem memRd : ∀ c line e, Statement (.memRd c line e) := fun _ _ _ => ⟨.inr rfl, rfl, rfl⟩
theorem memData : ∀ line data poison, Statement (.memData line data poison) := fun _ _ _ => ⟨.inr rfl, rfl, rfl⟩
theorem memWr : ∀ c line first last data poison, Statement (.memWr c line first last data poison) := fun _ _ _ _ _ _ => ⟨.inr rfl, rfl, rfl⟩
theorem nack : ∀ q line, Statement (.nack q line) := fun _ _ => ⟨.inr rfl, rfl, rfl⟩
theorem nackRetry : ∀ q line, Statement (.nackRetry q line) := fun _ _ => ⟨.inr rfl, rfl, rfl⟩
theorem doneMessage : ∀ k line, Statement (.doneMessage k line) := fun _ _ => ⟨.inr rfl, rfl, rfl⟩
theorem wbAck : ∀ k line, Statement (.wbAck k line) := fun _ _ => ⟨.inr rfl, rfl, rfl⟩
theorem wbStale : ∀ k line, Statement (.wbStale k line) := fun _ _ => ⟨.inr rfl, rfl, rfl⟩
theorem rhDrain : ∀ cls, Statement (.rhDrain cls) := fun _ => ⟨.inr rfl, rfl, rfl⟩
theorem l3Lock : ∀ t v q, Statement (.l3Lock t v q) := fun _ _ _ => ⟨.inr rfl, rfl, rfl⟩
theorem lockFill : ∀ t way q, Statement (.lockFill t way q) := fun _ _ _ => ⟨.inr rfl, rfl, rfl⟩
theorem lfDone : ∀ t, Statement (.lfDone t) := fun _ => ⟨.inr rfl, rfl, rfl⟩
theorem rangeClean : ∀ t force q, Statement (.rangeClean t force q) := fun _ _ _ => ⟨.inr rfl, rfl, rfl⟩
theorem rangeInv : ∀ t force q, Statement (.rangeInv t force q) := fun _ _ _ => ⟨.inr rfl, rfl, rfl⟩
theorem rangeClinv : ∀ t force q, Statement (.rangeClinv t force q) := fun _ _ _ => ⟨.inr rfl, rfl, rfl⟩
theorem rngEnd : ∀ t, Statement (.rngEnd t) := fun _ => ⟨.inr rfl, rfl, rfl⟩
theorem ringPass : ∀ x, Statement (.ringPass x) := fun _ => ⟨.inr rfl, rfl, rfl⟩
theorem ringTimeout : ∀ q line, Statement (.ringTimeout q line) := fun _ _ => ⟨.inr rfl, rfl, rfl⟩
theorem ringHomeTimeout : ∀ line, Statement (.ringHomeTimeout line) := fun _ => ⟨.inr rfl, rfl, rfl⟩
theorem ringLaneFail : ∀ ring dir lane, Statement (.ringLaneFail ring dir lane) := fun _ _ _ => ⟨.inr rfl, rfl, rfl⟩
theorem laneTest : ∀ ring v, Statement (.laneTest ring v) := fun _ _ => ⟨.inr rfl, rfl, rfl⟩
theorem traceRestart : ∀ ring, Statement (.traceRestart ring) := fun _ => ⟨.inr rfl, rfl, rfl⟩
theorem mergeDrain : ∀ c, Statement (.mergeDrain c) := fun _ => ⟨.inr rfl, rfl, rfl⟩
theorem patrolRead : ∀ c e, Statement (.patrolRead c e) := fun _ _ => ⟨.inr rfl, rfl, rfl⟩
theorem initialisationPass : ∀ c, Statement (.initialisationPass c) := fun _ => ⟨.inr rfl, rfl, rfl⟩
theorem migrationCopyLine : ∀ slot e, Statement (.migrationCopyLine slot e) := fun _ _ => ⟨.inr rfl, rfl, rfl⟩
theorem ringTailWrite : ∀ u q v, Statement (.ringTailWrite u q v) := fun _ _ _ => ⟨.inr rfl, rfl, rfl⟩
theorem netTxDescriptor : ∀ p, Statement (.netTxDescriptor p) := fun _ => ⟨.inr rfl, rfl, rfl⟩
theorem frameTransmit : ∀ p, Statement (.frameTransmit p) := fun _ => ⟨.inr rfl, rfl, rfl⟩
theorem netRxFrame : ∀ p bytes fcsOk, Statement (.netRxFrame p bytes fcsOk) := fun _ _ _ => ⟨.inr rfl, rfl, rfl⟩
theorem gclEntry : ∀ p, Statement (.gclEntry p) := fun _ => ⟨.inr rfl, rfl, rfl⟩
theorem netLink : ∀ p up, Statement (.netLink p up) := fun _ _ => ⟨.inr rfl, rfl, rfl⟩
theorem txsTagPop : ∀ p q, Statement (.txsTagPop p q) := fun _ _ => ⟨.inr rfl, rfl, rfl⟩
theorem canFrameReceive : ∀ c f, Statement (.canFrameReceive c f) := fun _ _ => ⟨.inr rfl, rfl, rfl⟩
theorem canTransmit : ∀ c ok, Statement (.canTransmit c ok) := fun _ _ => ⟨.inr rfl, rfl, rfl⟩
theorem canRecover : ∀ c, Statement (.canRecover c) := fun _ => ⟨.inr rfl, rfl, rfl⟩
theorem busOffRecovery : ∀ c, Statement (.busOffRecovery c) := fun _ => ⟨.inr rfl, rfl, rfl⟩
theorem pcieInbound : ∀ x, Statement (.pcieInbound x) := fun _ => ⟨.inr rfl, rfl, rfl⟩
theorem msiDoor : ∀ h v, Statement (.msiDoor h v) := fun _ _ => ⟨.inr rfl, rfl, rfl⟩
theorem pcieLink : ∀ h up gen width, Statement (.pcieLink h up gen width) := fun _ _ _ _ => ⟨.inr rfl, rfl, rfl⟩
theorem pcieAer : ∀ h uncor, Statement (.pcieAer h uncor) := fun _ _ => ⟨.inr rfl, rfl, rfl⟩
theorem perst : ∀ h v, Statement (.perst h v) := fun _ _ => ⟨.inr rfl, rfl, rfl⟩
theorem retrain : ∀ h v, Statement (.retrain h v) := fun _ _ => ⟨.inr rfl, rfl, rfl⟩
theorem sensorSample : ∀ rs, Statement (.sensorSample rs) := fun _ => ⟨.inr rfl, rfl, rfl⟩
theorem nvmProgram : Statement (.nvmProgram) := ⟨.inr rfl, rfl, rfl⟩
theorem wdKick : ∀ k v, Statement (.wdKick k v) := fun _ _ => ⟨.inr rfl, rfl, rfl⟩
theorem wdExpire : ∀ k, Statement (.wdExpire k) := fun _ => ⟨.inr rfl, rfl, rfl⟩
theorem unitWatchdogExpire : ∀ u, Statement (.unitWatchdogExpire u) := fun _ => ⟨.inr rfl, rfl, rfl⟩
theorem lanternWatchdogExpire : Statement (.lanternWatchdogExpire) := ⟨.inr rfl, rfl, rfl⟩
theorem wearJudge : ∀ part, Statement (.wearJudge part) := fun _ => ⟨.inr rfl, rfl, rfl⟩
theorem lnDoor : ∀ m, Statement (.lnDoor m) := fun _ => ⟨.inr rfl, rfl, rfl⟩
theorem sensors : ∀ m, Statement (.sensors m) := fun _ => ⟨.inr rfl, rfl, rfl⟩
theorem logRead : ∀ m, Statement (.logRead m) := fun _ => ⟨.inr rfl, rfl, rfl⟩
theorem ringRead : ∀ m, Statement (.ringRead m) := fun _ => ⟨.inr rfl, rfl, rfl⟩
theorem bookRead : ∀ m, Statement (.bookRead m) := fun _ => ⟨.inr rfl, rfl, rfl⟩
theorem updateOpen : ∀ m, Statement (.updateOpen m) := fun _ => ⟨.inr rfl, rfl, rfl⟩
theorem updateWrite : ∀ m, Statement (.updateWrite m) := fun _ => ⟨.inr rfl, rfl, rfl⟩
theorem updateCommit : ∀ m, Statement (.updateCommit m) := fun _ => ⟨.inr rfl, rfl, rfl⟩
theorem slotInfo : ∀ m, Statement (.slotInfo m) := fun _ => ⟨.inr rfl, rfl, rfl⟩
theorem reset : ∀ m, Statement (.reset m) := fun _ => ⟨.inr rfl, rfl, rfl⟩
theorem stream : ∀ src, Statement (.stream src) := fun _ => ⟨.inr rfl, rfl, rfl⟩
theorem streamTimeout : Statement (.streamTimeout) := ⟨.inr rfl, rfl, rfl⟩
theorem logFetch : ∀ ip port mac, Statement (.logFetch ip port mac) := fun _ _ _ => ⟨.inr rfl, rfl, rfl⟩
theorem lanternDatagram : ∀ h bytes, Statement (.lanternDatagram h bytes) := fun _ _ => ⟨.inr rfl, rfl, rfl⟩
theorem arpRequest : ∀ ip src, Statement (.arpRequest ip src) := fun _ _ => ⟨.inr rfl, rfl, rfl⟩
theorem icmpEcho : ∀ ip src bytes, Statement (.icmpEcho ip src bytes) := fun _ _ _ => ⟨.inr rfl, rfl, rfl⟩
theorem mbDoor : ∀ m q, Statement (.mbDoor m q) := fun _ _ => ⟨.inr rfl, rfl, rfl⟩
theorem random : ∀ m, Statement (.random m) := fun _ => ⟨.inr rfl, rfl, rfl⟩
theorem keeperDigest : ∀ m, Statement (.keeperDigest m) := fun _ => ⟨.inr rfl, rfl, rfl⟩
theorem sign : ∀ m, Statement (.sign m) := fun _ => ⟨.inr rfl, rfl, rfl⟩
theorem verify : ∀ m, Statement (.verify m) := fun _ => ⟨.inr rfl, rfl, rfl⟩
theorem fuseRead : ∀ m, Statement (.fuseRead m) := fun _ => ⟨.inr rfl, rfl, rfl⟩
theorem keeperSeal : ∀ m, Statement (.keeperSeal m) := fun _ => ⟨.inr rfl, rfl, rfl⟩
theorem keeperUnseal : ∀ m, Statement (.keeperUnseal m) := fun _ => ⟨.inr rfl, rfl, rfl⟩
theorem attest : ∀ m, Statement (.attest m) := fun _ => ⟨.inr rfl, rfl, rfl⟩
theorem keeperFault : Statement (.keeperFault) := ⟨.inr rfl, rfl, rfl⟩
theorem bootVerify : Statement (.bootVerify) := ⟨.inr rfl, rfl, rfl⟩
theorem channelTraining : ∀ cs, Statement (.channelTraining cs) := fun _ => ⟨.inr rfl, rfl, rfl⟩
theorem bootInitialise : Statement (.bootInitialise) := ⟨.inr rfl, rfl, rfl⟩
theorem bootLoad : Statement (.bootLoad) := ⟨.inr rfl, rfl, rfl⟩
theorem clkSrcWrite : ∀ v q, Statement (.clkSrcWrite v q) := fun _ _ => ⟨.inr rfl, rfl, rfl⟩
theorem clkSwitch : ∀ ant, Statement (.clkSwitch ant) := fun _ => ⟨.inr rfl, rfl, rfl⟩
theorem pllRefSelect : ∀ v q, Statement (.pllRefSelect v q) := fun _ _ => ⟨.inr rfl, rfl, rfl⟩
theorem perfRequest : ∀ v, Statement (.perfRequest v) := fun _ => ⟨.inr rfl, rfl, rfl⟩
theorem voltageSettle : Statement (.voltageSettle) := ⟨.inr rfl, rfl, rfl⟩
theorem voteWrite : ∀ q b off v, Statement (.voteWrite q b off v) := fun _ _ _ _ => ⟨.inr rfl, rfl, rfl⟩
theorem domainDropDone : ∀ d, Statement (.domainDropDone d) := fun _ => ⟨.inr rfl, rfl, rfl⟩
theorem domainReady : ∀ d, Statement (.domainReady d) := fun _ => ⟨.inr rfl, rfl, rfl⟩
theorem registerWrite : ∀ q b off v, Statement (.registerWrite q b off v) := fun _ _ _ _ => ⟨.inr rfl, rfl, rfl⟩
theorem guardPairHold : ∀ q b off v, Statement (.guardPairHold q b off v) := fun _ _ _ _ => ⟨.inr rfl, rfl, rfl⟩
theorem guardWindowExpire : ∀ b, Statement (.guardWindowExpire b) := fun _ => ⟨.inr rfl, rfl, rfl⟩
theorem latchedRead : ∀ q b off, Statement (.latchedRead q b off) := fun _ _ _ => ⟨.inr rfl, rfl, rfl⟩
theorem statusRead : ∀ q b off, Statement (.statusRead q b off) := fun _ _ _ => ⟨.inr rfl, rfl, rfl⟩
theorem nop : ∀ b e, Statement (.nop b e) := fun _ _ => ⟨.inl rfl, rfl, rfl⟩
theorem antAdd : ∀ b e d ra rb, Statement (.antAdd b e d ra rb) := fun _ _ _ _ _ => ⟨.inl rfl, rfl, rfl⟩
theorem antSub : ∀ b e d ra rb, Statement (.antSub b e d ra rb) := fun _ _ _ _ _ => ⟨.inl rfl, rfl, rfl⟩
theorem antAnd : ∀ b e d ra rb, Statement (.antAnd b e d ra rb) := fun _ _ _ _ _ => ⟨.inl rfl, rfl, rfl⟩
theorem antOr : ∀ b e d ra rb, Statement (.antOr b e d ra rb) := fun _ _ _ _ _ => ⟨.inl rfl, rfl, rfl⟩
theorem antXor : ∀ b e d ra rb, Statement (.antXor b e d ra rb) := fun _ _ _ _ _ => ⟨.inl rfl, rfl, rfl⟩
theorem shl : ∀ b e d ra rb, Statement (.shl b e d ra rb) := fun _ _ _ _ _ => ⟨.inl rfl, rfl, rfl⟩
theorem shr : ∀ b e d ra rb, Statement (.shr b e d ra rb) := fun _ _ _ _ _ => ⟨.inl rfl, rfl, rfl⟩
theorem sar : ∀ b e d ra rb, Statement (.sar b e d ra rb) := fun _ _ _ _ _ => ⟨.inl rfl, rfl, rfl⟩
theorem antSlt : ∀ b e d ra rb, Statement (.antSlt b e d ra rb) := fun _ _ _ _ _ => ⟨.inl rfl, rfl, rfl⟩
theorem antSltu : ∀ b e d ra rb, Statement (.antSltu b e d ra rb) := fun _ _ _ _ _ => ⟨.inl rfl, rfl, rfl⟩
theorem antMul : ∀ b e d ra rb, Statement (.antMul b e d ra rb) := fun _ _ _ _ _ => ⟨.inl rfl, rfl, rfl⟩
theorem antMulh : ∀ b e d ra rb, Statement (.antMulh b e d ra rb) := fun _ _ _ _ _ => ⟨.inl rfl, rfl, rfl⟩
theorem crcb : ∀ b e d ra rb, Statement (.crcb b e d ra rb) := fun _ _ _ _ _ => ⟨.inl rfl, rfl, rfl⟩
theorem antAddi : ∀ b e d ra imm, Statement (.antAddi b e d ra imm) := fun _ _ _ _ _ => ⟨.inl rfl, rfl, rfl⟩
theorem antAndi : ∀ b e d ra imm, Statement (.antAndi b e d ra imm) := fun _ _ _ _ _ => ⟨.inl rfl, rfl, rfl⟩
theorem antOri : ∀ b e d ra imm, Statement (.antOri b e d ra imm) := fun _ _ _ _ _ => ⟨.inl rfl, rfl, rfl⟩
theorem antXori : ∀ b e d ra imm, Statement (.antXori b e d ra imm) := fun _ _ _ _ _ => ⟨.inl rfl, rfl, rfl⟩
theorem shli : ∀ b e d ra sh, Statement (.shli b e d ra sh) := fun _ _ _ _ _ => ⟨.inl rfl, rfl, rfl⟩
theorem shri : ∀ b e d ra sh, Statement (.shri b e d ra sh) := fun _ _ _ _ _ => ⟨.inl rfl, rfl, rfl⟩
theorem sari : ∀ b e d ra sh, Statement (.sari b e d ra sh) := fun _ _ _ _ _ => ⟨.inl rfl, rfl, rfl⟩
theorem antLui : ∀ b e d imm, Statement (.antLui b e d imm) := fun _ _ _ _ => ⟨.inl rfl, rfl, rfl⟩
theorem antSlti : ∀ b e d ra imm, Statement (.antSlti b e d ra imm) := fun _ _ _ _ _ => ⟨.inl rfl, rfl, rfl⟩
theorem ldw : ∀ b e d ra imm, Statement (.ldw b e d ra imm) := fun _ _ _ _ _ => ⟨.inl rfl, rfl, rfl⟩
theorem ldh : ∀ b e d ra imm, Statement (.ldh b e d ra imm) := fun _ _ _ _ _ => ⟨.inl rfl, rfl, rfl⟩
theorem ldhu : ∀ b e d ra imm, Statement (.ldhu b e d ra imm) := fun _ _ _ _ _ => ⟨.inl rfl, rfl, rfl⟩
theorem ldb : ∀ b e d ra imm, Statement (.ldb b e d ra imm) := fun _ _ _ _ _ => ⟨.inl rfl, rfl, rfl⟩
theorem ldbu : ∀ b e d ra imm, Statement (.ldbu b e d ra imm) := fun _ _ _ _ _ => ⟨.inl rfl, rfl, rfl⟩
theorem stw : ∀ b e d ra imm, Statement (.stw b e d ra imm) := fun _ _ _ _ _ => ⟨.inl rfl, rfl, rfl⟩
theorem sth : ∀ b e d ra imm, Statement (.sth b e d ra imm) := fun _ _ _ _ _ => ⟨.inl rfl, rfl, rfl⟩
theorem stb : ∀ b e d ra imm, Statement (.stb b e d ra imm) := fun _ _ _ _ _ => ⟨.inl rfl, rfl, rfl⟩
theorem prd : ∀ b e d u, Statement (.prd b e d u) := fun _ _ _ _ => ⟨.inl rfl, rfl, rfl⟩
theorem pwr : ∀ b e ra u imm, Statement (.pwr b e ra u imm) := fun _ _ _ _ _ => ⟨.inl rfl, rfl, rfl⟩
theorem capr : ∀ b e d ra u, Statement (.capr b e d ra u) := fun _ _ _ _ _ => ⟨.inl rfl, rfl, rfl⟩
theorem cmpw : ∀ b e d u act, Statement (.cmpw b e d u act) := fun _ _ _ _ _ => ⟨.inl rfl, rfl, rfl⟩
theorem cmpwCancel : ∀ b e u, Statement (.cmpwCancel b e u) := fun _ _ _ => ⟨.inl rfl, rfl, rfl⟩
theorem suw : ∀ b e ra n, Statement (.suw b e ra n) := fun _ _ _ _ => ⟨.inl rfl, rfl, rfl⟩
theorem sutx : ∀ b e ra, Statement (.sutx b e ra) := fun _ _ _ => ⟨.inl rfl, rfl, rfl⟩
theorem surx : ∀ b e d ra, Statement (.surx b e d ra) := fun _ _ _ _ => ⟨.inl rfl, rfl, rfl⟩
theorem post : ∀ b e d ra ch, Statement (.post b e d ra ch) := fun _ _ _ _ _ => ⟨.inl rfl, rfl, rfl⟩
theorem antBeq : ∀ b e n ra rb off, Statement (.antBeq b e n ra rb off) := fun _ _ _ _ _ _ => ⟨.inl rfl, rfl, rfl⟩
theorem antBne : ∀ b e n ra rb off, Statement (.antBne b e n ra rb off) := fun _ _ _ _ _ _ => ⟨.inl rfl, rfl, rfl⟩
theorem antBlt : ∀ b e n ra rb off, Statement (.antBlt b e n ra rb off) := fun _ _ _ _ _ _ => ⟨.inl rfl, rfl, rfl⟩
theorem antBge : ∀ b e n ra rb off, Statement (.antBge b e n ra rb off) := fun _ _ _ _ _ _ => ⟨.inl rfl, rfl, rfl⟩
theorem antBltu : ∀ b e n ra rb off, Statement (.antBltu b e n ra rb off) := fun _ _ _ _ _ _ => ⟨.inl rfl, rfl, rfl⟩
theorem antBgeu : ∀ b e n ra rb off, Statement (.antBgeu b e n ra rb off) := fun _ _ _ _ _ _ => ⟨.inl rfl, rfl, rfl⟩
theorem jr : ∀ b e n ra, Statement (.jr b e n ra) := fun _ _ _ _ => ⟨.inl rfl, rfl, rfl⟩
theorem antJalr : ∀ b e n ra, Statement (.antJalr b e n ra) := fun _ _ _ _ => ⟨.inl rfl, rfl, rfl⟩
theorem antJ : ∀ b e n off, Statement (.antJ b e n off) := fun _ _ _ _ => ⟨.inl rfl, rfl, rfl⟩
theorem antJal : ∀ b e n off, Statement (.antJal b e n off) := fun _ _ _ _ => ⟨.inl rfl, rfl, rfl⟩
theorem tsr : ∀ b e d, Statement (.tsr b e d) := fun _ _ _ => ⟨.inl rfl, rfl, rfl⟩
theorem frm : ∀ b e d, Statement (.frm b e d) := fun _ _ _ => ⟨.inl rfl, rfl, rfl⟩
theorem evret : ∀ b e, Statement (.evret b e) := fun _ _ => ⟨.inl rfl, rfl, rfl⟩
theorem evwait : ∀ b e, Statement (.evwait b e) := fun _ _ => ⟨.inl rfl, rfl, rfl⟩
theorem evcfg : ∀ b e ev prio en, Statement (.evcfg b e ev prio en) := fun _ _ _ _ _ => ⟨.inl rfl, rfl, rfl⟩
theorem evpend : ∀ b e d, Statement (.evpend b e d) := fun _ _ _ => ⟨.inl rfl, rfl, rfl⟩
theorem tmr : ∀ b e ra, Statement (.tmr b e ra) := fun _ _ _ => ⟨.inl rfl, rfl, rfl⟩
theorem door : ∀ b e n, Statement (.door b e n) := fun _ _ _ => ⟨.inl rfl, rfl, rfl⟩
theorem antSysId : ∀ b e d, Statement (.antSysId b e d) := fun _ _ _ => ⟨.inl rfl, rfl, rfl⟩
theorem antSysStatus : ∀ b e d, Statement (.antSysStatus b e d) := fun _ _ _ => ⟨.inl rfl, rfl, rfl⟩
theorem add : ∀ k d a b, Statement (.add k d a b) := fun _ _ _ _ => ⟨.inr rfl, rfl, rfl⟩
theorem sub : ∀ k d a b, Statement (.sub k d a b) := fun _ _ _ _ => ⟨.inr rfl, rfl, rfl⟩
theorem and : ∀ k d a b, Statement (.and k d a b) := fun _ _ _ _ => ⟨.inr rfl, rfl, rfl⟩
theorem or : ∀ k d a b, Statement (.or k d a b) := fun _ _ _ _ => ⟨.inr rfl, rfl, rfl⟩
theorem xor : ∀ k d a b, Statement (.xor k d a b) := fun _ _ _ _ => ⟨.inr rfl, rfl, rfl⟩
theorem sll : ∀ k d a b, Statement (.sll k d a b) := fun _ _ _ _ => ⟨.inr rfl, rfl, rfl⟩
theorem srl : ∀ k d a b, Statement (.srl k d a b) := fun _ _ _ _ => ⟨.inr rfl, rfl, rfl⟩
theorem sra : ∀ k d a b, Statement (.sra k d a b) := fun _ _ _ _ => ⟨.inr rfl, rfl, rfl⟩
theorem slt : ∀ k d a b, Statement (.slt k d a b) := fun _ _ _ _ => ⟨.inr rfl, rfl, rfl⟩
theorem sltu : ∀ k d a b, Statement (.sltu k d a b) := fun _ _ _ _ => ⟨.inr rfl, rfl, rfl⟩
theorem min : ∀ k d a b, Statement (.min k d a b) := fun _ _ _ _ => ⟨.inr rfl, rfl, rfl⟩
theorem max : ∀ k d a b, Statement (.max k d a b) := fun _ _ _ _ => ⟨.inr rfl, rfl, rfl⟩
theorem minu : ∀ k d a b, Statement (.minu k d a b) := fun _ _ _ _ => ⟨.inr rfl, rfl, rfl⟩
theorem maxu : ∀ k d a b, Statement (.maxu k d a b) := fun _ _ _ _ => ⟨.inr rfl, rfl, rfl⟩
theorem mul : ∀ k d a b, Statement (.mul k d a b) := fun _ _ _ _ => ⟨.inr rfl, rfl, rfl⟩
theorem mulh : ∀ k d a b, Statement (.mulh k d a b) := fun _ _ _ _ => ⟨.inr rfl, rfl, rfl⟩
theorem mulhu : ∀ k d a b, Statement (.mulhu k d a b) := fun _ _ _ _ => ⟨.inr rfl, rfl, rfl⟩
theorem div : ∀ k d a b, Statement (.div k d a b) := fun _ _ _ _ => ⟨.inr rfl, rfl, rfl⟩
theorem divu : ∀ k d a b, Statement (.divu k d a b) := fun _ _ _ _ => ⟨.inr rfl, rfl, rfl⟩
theorem rem : ∀ k d a b, Statement (.rem k d a b) := fun _ _ _ _ => ⟨.inr rfl, rfl, rfl⟩
theorem remu : ∀ k d a b, Statement (.remu k d a b) := fun _ _ _ _ => ⟨.inr rfl, rfl, rfl⟩
theorem clz : ∀ k d a, Statement (.clz k d a) := fun _ _ _ => ⟨.inr rfl, rfl, rfl⟩
theorem ctz : ∀ k d a, Statement (.ctz k d a) := fun _ _ _ => ⟨.inr rfl, rfl, rfl⟩
theorem popc : ∀ k d a, Statement (.popc k d a) := fun _ _ _ => ⟨.inr rfl, rfl, rfl⟩
theorem addw : ∀ k d a b, Statement (.addw k d a b) := fun _ _ _ _ => ⟨.inr rfl, rfl, rfl⟩
theorem subw : ∀ k d a b, Statement (.subw k d a b) := fun _ _ _ _ => ⟨.inr rfl, rfl, rfl⟩
theorem sllw : ∀ k d a b, Statement (.sllw k d a b) := fun _ _ _ _ => ⟨.inr rfl, rfl, rfl⟩
theorem srlw : ∀ k d a b, Statement (.srlw k d a b) := fun _ _ _ _ => ⟨.inr rfl, rfl, rfl⟩
theorem sraw : ∀ k d a b, Statement (.sraw k d a b) := fun _ _ _ _ => ⟨.inr rfl, rfl, rfl⟩
theorem mulw : ∀ k d a b, Statement (.mulw k d a b) := fun _ _ _ _ => ⟨.inr rfl, rfl, rfl⟩
theorem divw : ∀ k d a b, Statement (.divw k d a b) := fun _ _ _ _ => ⟨.inr rfl, rfl, rfl⟩
theorem divuw : ∀ k d a b, Statement (.divuw k d a b) := fun _ _ _ _ => ⟨.inr rfl, rfl, rfl⟩
theorem remw : ∀ k d a b, Statement (.remw k d a b) := fun _ _ _ _ => ⟨.inr rfl, rfl, rfl⟩
theorem remuw : ∀ k d a b, Statement (.remuw k d a b) := fun _ _ _ _ => ⟨.inr rfl, rfl, rfl⟩
theorem addi : ∀ k d a imm, Statement (.addi k d a imm) := fun _ _ _ _ => ⟨.inr rfl, rfl, rfl⟩
theorem andi : ∀ k d a imm, Statement (.andi k d a imm) := fun _ _ _ _ => ⟨.inr rfl, rfl, rfl⟩
theorem ori : ∀ k d a imm, Statement (.ori k d a imm) := fun _ _ _ _ => ⟨.inr rfl, rfl, rfl⟩
theorem xori : ∀ k d a imm, Statement (.xori k d a imm) := fun _ _ _ _ => ⟨.inr rfl, rfl, rfl⟩
theorem slti : ∀ k d a imm, Statement (.slti k d a imm) := fun _ _ _ _ => ⟨.inr rfl, rfl, rfl⟩
theorem sltiu : ∀ k d a imm, Statement (.sltiu k d a imm) := fun _ _ _ _ => ⟨.inr rfl, rfl, rfl⟩
theorem shifti : ∀ k d a kind w32 sh, Statement (.shifti k d a kind w32 sh) := fun _ _ _ _ _ _ => ⟨.inr rfl, rfl, rfl⟩
theorem addiw : ∀ k d a imm, Statement (.addiw k d a imm) := fun _ _ _ _ => ⟨.inr rfl, rfl, rfl⟩
theorem lui : ∀ k d imm, Statement (.lui k d imm) := fun _ _ _ => ⟨.inr rfl, rfl, rfl⟩
theorem auipc : ∀ k d imm, Statement (.auipc k d imm) := fun _ _ _ => ⟨.inr rfl, rfl, rfl⟩
theorem ld : ∀ k d a imm, Statement (.ld k d a imm) := fun _ _ _ _ => ⟨.inr rfl, rfl, rfl⟩
theorem lw : ∀ k d a imm, Statement (.lw k d a imm) := fun _ _ _ _ => ⟨.inr rfl, rfl, rfl⟩
theorem lwu : ∀ k d a imm, Statement (.lwu k d a imm) := fun _ _ _ _ => ⟨.inr rfl, rfl, rfl⟩
theorem lh : ∀ k d a imm, Statement (.lh k d a imm) := fun _ _ _ _ => ⟨.inr rfl, rfl, rfl⟩
theorem lhu : ∀ k d a imm, Statement (.lhu k d a imm) := fun _ _ _ _ => ⟨.inr rfl, rfl, rfl⟩
theorem lb : ∀ k d a imm, Statement (.lb k d a imm) := fun _ _ _ _ => ⟨.inr rfl, rfl, rfl⟩
theorem lbu : ∀ k d a imm, Statement (.lbu k d a imm) := fun _ _ _ _ => ⟨.inr rfl, rfl, rfl⟩
theorem st : ∀ k d a imm, Statement (.st k d a imm) := fun _ _ _ _ => ⟨.inr rfl, rfl, rfl⟩
theorem sw : ∀ k d a imm, Statement (.sw k d a imm) := fun _ _ _ _ => ⟨.inr rfl, rfl, rfl⟩
theorem sh : ∀ k d a imm, Statement (.sh k d a imm) := fun _ _ _ _ => ⟨.inr rfl, rfl, rfl⟩
theorem sb : ∀ k d a imm, Statement (.sb k d a imm) := fun _ _ _ _ => ⟨.inr rfl, rfl, rfl⟩
theorem fld : ∀ k d a imm, Statement (.fld k d a imm) := fun _ _ _ _ => ⟨.inr rfl, rfl, rfl⟩
theorem flw : ∀ k d a imm, Statement (.flw k d a imm) := fun _ _ _ _ => ⟨.inr rfl, rfl, rfl⟩
theorem fsd : ∀ k d a imm, Statement (.fsd k d a imm) := fun _ _ _ _ => ⟨.inr rfl, rfl, rfl⟩
theorem fsw : ∀ k d a imm, Statement (.fsw k d a imm) := fun _ _ _ _ => ⟨.inr rfl, rfl, rfl⟩
theorem vld : ∀ k d a imm, Statement (.vld k d a imm) := fun _ _ _ _ => ⟨.inr rfl, rfl, rfl⟩
theorem vst : ∀ k d a imm, Statement (.vst k d a imm) := fun _ _ _ _ => ⟨.inr rfl, rfl, rfl⟩
theorem amoSwap : ∀ k d a b dbl ord, Statement (.amoSwap k d a b dbl ord) := fun _ _ _ _ _ _ => ⟨.inr rfl, rfl, rfl⟩
theorem amoAdd : ∀ k d a b dbl ord, Statement (.amoAdd k d a b dbl ord) := fun _ _ _ _ _ _ => ⟨.inr rfl, rfl, rfl⟩
theorem amoAnd : ∀ k d a b dbl ord, Statement (.amoAnd k d a b dbl ord) := fun _ _ _ _ _ _ => ⟨.inr rfl, rfl, rfl⟩
theorem amoOr : ∀ k d a b dbl ord, Statement (.amoOr k d a b dbl ord) := fun _ _ _ _ _ _ => ⟨.inr rfl, rfl, rfl⟩
theorem amoXor : ∀ k d a b dbl ord, Statement (.amoXor k d a b dbl ord) := fun _ _ _ _ _ _ => ⟨.inr rfl, rfl, rfl⟩
theorem amoMin : ∀ k d a b dbl ord, Statement (.amoMin k d a b dbl ord) := fun _ _ _ _ _ _ => ⟨.inr rfl, rfl, rfl⟩
theorem amoMax : ∀ k d a b dbl ord, Statement (.amoMax k d a b dbl ord) := fun _ _ _ _ _ _ => ⟨.inr rfl, rfl, rfl⟩
theorem amoMinu : ∀ k d a b dbl ord, Statement (.amoMinu k d a b dbl ord) := fun _ _ _ _ _ _ => ⟨.inr rfl, rfl, rfl⟩
theorem amoMaxu : ∀ k d a b dbl ord, Statement (.amoMaxu k d a b dbl ord) := fun _ _ _ _ _ _ => ⟨.inr rfl, rfl, rfl⟩
theorem cas : ∀ k d a b dbl ord, Statement (.cas k d a b dbl ord) := fun _ _ _ _ _ _ => ⟨.inr rfl, rfl, rfl⟩
theorem ldaq : ∀ k d a size, Statement (.ldaq k d a size) := fun _ _ _ _ => ⟨.inr rfl, rfl, rfl⟩
theorem strl : ∀ k d a size, Statement (.strl k d a size) := fun _ _ _ _ => ⟨.inr rfl, rfl, rfl⟩
theorem beq : ∀ k a b off, Statement (.beq k a b off) := fun _ _ _ _ => ⟨.inr rfl, rfl, rfl⟩
theorem bne : ∀ k a b off, Statement (.bne k a b off) := fun _ _ _ _ => ⟨.inr rfl, rfl, rfl⟩
theorem blt : ∀ k a b off, Statement (.blt k a b off) := fun _ _ _ _ => ⟨.inr rfl, rfl, rfl⟩
theorem bge : ∀ k a b off, Statement (.bge k a b off) := fun _ _ _ _ => ⟨.inr rfl, rfl, rfl⟩
theorem bltu : ∀ k a b off, Statement (.bltu k a b off) := fun _ _ _ _ => ⟨.inr rfl, rfl, rfl⟩
theorem bgeu : ∀ k a b off, Statement (.bgeu k a b off) := fun _ _ _ _ => ⟨.inr rfl, rfl, rfl⟩
theorem j : ∀ k off, Statement (.j k off) := fun _ _ => ⟨.inr rfl, rfl, rfl⟩
theorem jal : ∀ k off, Statement (.jal k off) := fun _ _ => ⟨.inr rfl, rfl, rfl⟩
theorem jalr : ∀ k d a imm, Statement (.jalr k d a imm) := fun _ _ _ _ => ⟨.inr rfl, rfl, rfl⟩
theorem fadd : ∀ k sgl rnd d a b, Statement (.fadd k sgl rnd d a b) := fun _ _ _ _ _ _ => ⟨.inr rfl, rfl, rfl⟩
theorem fsub : ∀ k sgl rnd d a b, Statement (.fsub k sgl rnd d a b) := fun _ _ _ _ _ _ => ⟨.inr rfl, rfl, rfl⟩
theorem fmul : ∀ k sgl rnd d a b, Statement (.fmul k sgl rnd d a b) := fun _ _ _ _ _ _ => ⟨.inr rfl, rfl, rfl⟩
theorem fdiv : ∀ k sgl rnd d a b, Statement (.fdiv k sgl rnd d a b) := fun _ _ _ _ _ _ => ⟨.inr rfl, rfl, rfl⟩
theorem fsqrt : ∀ k sgl rnd d a, Statement (.fsqrt k sgl rnd d a) := fun _ _ _ _ _ => ⟨.inr rfl, rfl, rfl⟩
theorem fmin : ∀ k sgl d a b, Statement (.fmin k sgl d a b) := fun _ _ _ _ _ => ⟨.inr rfl, rfl, rfl⟩
theorem fmax : ∀ k sgl d a b, Statement (.fmax k sgl d a b) := fun _ _ _ _ _ => ⟨.inr rfl, rfl, rfl⟩
theorem fminnum : ∀ k sgl d a b, Statement (.fminnum k sgl d a b) := fun _ _ _ _ _ => ⟨.inr rfl, rfl, rfl⟩
theorem fmaxnum : ∀ k sgl d a b, Statement (.fmaxnum k sgl d a b) := fun _ _ _ _ _ => ⟨.inr rfl, rfl, rfl⟩
theorem fabs : ∀ k sgl d a, Statement (.fabs k sgl d a) := fun _ _ _ _ => ⟨.inr rfl, rfl, rfl⟩
theorem fneg : ∀ k sgl d a, Statement (.fneg k sgl d a) := fun _ _ _ _ => ⟨.inr rfl, rfl, rfl⟩
theorem fcps : ∀ k sgl d a b, Statement (.fcps k sgl d a b) := fun _ _ _ _ _ => ⟨.inr rfl, rfl, rfl⟩
theorem fcmp : ∀ k sgl d a b, Statement (.fcmp k sgl d a b) := fun _ _ _ _ _ => ⟨.inr rfl, rfl, rfl⟩
theorem fcmpo : ∀ k sgl d a b, Statement (.fcmpo k sgl d a b) := fun _ _ _ _ _ => ⟨.inr rfl, rfl, rfl⟩
theorem fkind : ∀ k sgl d a, Statement (.fkind k sgl d a) := fun _ _ _ _ => ⟨.inr rfl, rfl, rfl⟩
theorem ftos64 : ∀ k sgl rnd d a, Statement (.ftos64 k sgl rnd d a) := fun _ _ _ _ _ => ⟨.inr rfl, rfl, rfl⟩
theorem ftou64 : ∀ k sgl rnd d a, Statement (.ftou64 k sgl rnd d a) := fun _ _ _ _ _ => ⟨.inr rfl, rfl, rfl⟩
theorem ftos32 : ∀ k sgl rnd d a, Statement (.ftos32 k sgl rnd d a) := fun _ _ _ _ _ => ⟨.inr rfl, rfl, rfl⟩
theorem ftou32 : ∀ k sgl rnd d a, Statement (.ftou32 k sgl rnd d a) := fun _ _ _ _ _ => ⟨.inr rfl, rfl, rfl⟩
theorem s64tof : ∀ k sgl rnd d a, Statement (.s64tof k sgl rnd d a) := fun _ _ _ _ _ => ⟨.inr rfl, rfl, rfl⟩
theorem u64tof : ∀ k sgl rnd d a, Statement (.u64tof k sgl rnd d a) := fun _ _ _ _ _ => ⟨.inr rfl, rfl, rfl⟩
theorem s32tof : ∀ k sgl rnd d a, Statement (.s32tof k sgl rnd d a) := fun _ _ _ _ _ => ⟨.inr rfl, rfl, rfl⟩
theorem u32tof : ∀ k sgl rnd d a, Statement (.u32tof k sgl rnd d a) := fun _ _ _ _ _ => ⟨.inr rfl, rfl, rfl⟩
theorem fresize : ∀ k sgl rnd d a, Statement (.fresize k sgl rnd d a) := fun _ _ _ _ _ => ⟨.inr rfl, rfl, rfl⟩
theorem fbits : ∀ k sgl d a, Statement (.fbits k sgl d a) := fun _ _ _ _ => ⟨.inr rfl, rfl, rfl⟩
theorem xbits : ∀ k sgl d a, Statement (.xbits k sgl d a) := fun _ _ _ _ => ⟨.inr rfl, rfl, rfl⟩
theorem fmaA : ∀ k sgl rnd d a b c, Statement (.fmaA k sgl rnd d a b c) := fun _ _ _ _ _ _ _ => ⟨.inr rfl, rfl, rfl⟩
theorem fmaS : ∀ k sgl rnd d a b c, Statement (.fmaS k sgl rnd d a b c) := fun _ _ _ _ _ _ _ => ⟨.inr rfl, rfl, rfl⟩
theorem fmaNa : ∀ k sgl rnd d a b c, Statement (.fmaNa k sgl rnd d a b c) := fun _ _ _ _ _ _ _ => ⟨.inr rfl, rfl, rfl⟩
theorem fmaNs : ∀ k sgl rnd d a b c, Statement (.fmaNs k sgl rnd d a b c) := fun _ _ _ _ _ _ _ => ⟨.inr rfl, rfl, rfl⟩
theorem vadd : ∀ k ty d a b, Statement (.vadd k ty d a b) := fun _ _ _ _ _ => ⟨.inr rfl, rfl, rfl⟩
theorem vsub : ∀ k ty d a b, Statement (.vsub k ty d a b) := fun _ _ _ _ _ => ⟨.inr rfl, rfl, rfl⟩
theorem vmul : ∀ k ty d a b, Statement (.vmul k ty d a b) := fun _ _ _ _ _ => ⟨.inr rfl, rfl, rfl⟩
theorem vdiv : ∀ k ty d a b, Statement (.vdiv k ty d a b) := fun _ _ _ _ _ => ⟨.inr rfl, rfl, rfl⟩
theorem vsqrt : ∀ k ty d a, Statement (.vsqrt k ty d a) := fun _ _ _ _ => ⟨.inr rfl, rfl, rfl⟩
theorem vmin : ∀ k ty d a b, Statement (.vmin k ty d a b) := fun _ _ _ _ _ => ⟨.inr rfl, rfl, rfl⟩
theorem vmax : ∀ k ty d a b, Statement (.vmax k ty d a b) := fun _ _ _ _ _ => ⟨.inr rfl, rfl, rfl⟩
theorem vand : ∀ k ty d a b, Statement (.vand k ty d a b) := fun _ _ _ _ _ => ⟨.inr rfl, rfl, rfl⟩
theorem vor : ∀ k ty d a b, Statement (.vor k ty d a b) := fun _ _ _ _ _ => ⟨.inr rfl, rfl, rfl⟩
theorem vxor : ∀ k ty d a b, Statement (.vxor k ty d a b) := fun _ _ _ _ _ => ⟨.inr rfl, rfl, rfl⟩
theorem vcmpeq : ∀ k ty d a b, Statement (.vcmpeq k ty d a b) := fun _ _ _ _ _ => ⟨.inr rfl, rfl, rfl⟩
theorem vcmplt : ∀ k ty d a b, Statement (.vcmplt k ty d a b) := fun _ _ _ _ _ => ⟨.inr rfl, rfl, rfl⟩
theorem vcmple : ∀ k ty d a b, Statement (.vcmple k ty d a b) := fun _ _ _ _ _ => ⟨.inr rfl, rfl, rfl⟩
theorem vsplatX : ∀ k ty d a, Statement (.vsplatX k ty d a) := fun _ _ _ _ => ⟨.inr rfl, rfl, rfl⟩
theorem vsplatF : ∀ k ty d a, Statement (.vsplatF k ty d a) := fun _ _ _ _ => ⟨.inr rfl, rfl, rfl⟩
theorem vextX : ∀ k ty d a lane, Statement (.vextX k ty d a lane) := fun _ _ _ _ _ => ⟨.inr rfl, rfl, rfl⟩
theorem vinsX : ∀ k ty d a lane, Statement (.vinsX k ty d a lane) := fun _ _ _ _ _ => ⟨.inr rfl, rfl, rfl⟩
theorem vextF : ∀ k ty d a lane, Statement (.vextF k ty d a lane) := fun _ _ _ _ _ => ⟨.inr rfl, rfl, rfl⟩
theorem vinsF : ∀ k ty d a lane, Statement (.vinsF k ty d a lane) := fun _ _ _ _ _ => ⟨.inr rfl, rfl, rfl⟩
theorem vsumh : ∀ k ty d a, Statement (.vsumh k ty d a) := fun _ _ _ _ => ⟨.inr rfl, rfl, rfl⟩
theorem vcvt : ∀ k ty d a, Statement (.vcvt k ty d a) := fun _ _ _ _ => ⟨.inr rfl, rfl, rfl⟩
theorem vshl : ∀ k ty d a b, Statement (.vshl k ty d a b) := fun _ _ _ _ _ => ⟨.inr rfl, rfl, rfl⟩
theorem vsra : ∀ k ty d a b, Statement (.vsra k ty d a b) := fun _ _ _ _ _ => ⟨.inr rfl, rfl, rfl⟩
theorem vr4FmaA : ∀ k ty d a b c, Statement (.vr4FmaA k ty d a b c) := fun _ _ _ _ _ _ => ⟨.inr rfl, rfl, rfl⟩
theorem vr4FmaS : ∀ k ty d a b c, Statement (.vr4FmaS k ty d a b c) := fun _ _ _ _ _ _ => ⟨.inr rfl, rfl, rfl⟩
theorem vr4FmaNa : ∀ k ty d a b c, Statement (.vr4FmaNa k ty d a b c) := fun _ _ _ _ _ _ => ⟨.inr rfl, rfl, rfl⟩
theorem vr4FmaNs : ∀ k ty d a b c, Statement (.vr4FmaNs k ty d a b c) := fun _ _ _ _ _ _ => ⟨.inr rfl, rfl, rfl⟩
theorem vsel : ∀ k ty d a b c, Statement (.vsel k ty d a b c) := fun _ _ _ _ _ _ => ⟨.inr rfl, rfl, rfl⟩
theorem sysr : ∀ k d a n, Statement (.sysr k d a n) := fun _ _ _ _ => ⟨.inr rfl, rfl, rfl⟩
theorem sysw : ∀ k d a n, Statement (.sysw k d a n) := fun _ _ _ _ => ⟨.inr rfl, rfl, rfl⟩
theorem fence : ∀ k m, Statement (.fence k m) := fun _ _ => ⟨.inr rfl, rfl, rfl⟩
theorem ifence : ∀ k, Statement (.ifence k) := fun _ => ⟨.inr rfl, rfl, rfl⟩
theorem iofence : ∀ k, Statement (.iofence k) := fun _ => ⟨.inr rfl, rfl, rfl⟩
theorem ecall : ∀ k a code, Statement (.ecall k a code) := fun _ _ _ => ⟨.inr rfl, rfl, rfl⟩
theorem wcall : ∀ k a, Statement (.wcall k a) := fun _ _ => ⟨.inr rfl, rfl, rfl⟩
theorem eret : ∀ k a, Statement (.eret k a) := fun _ _ => ⟨.inr rfl, rfl, rfl⟩
theorem brk : ∀ k, Statement (.brk k) := fun _ => ⟨.inr rfl, rfl, rfl⟩
theorem tlbiAll : ∀ k a bcast, Statement (.tlbiAll k a bcast) := fun _ _ _ => ⟨.inr rfl, rfl, rfl⟩
theorem tlbiAsid : ∀ k a bcast, Statement (.tlbiAsid k a bcast) := fun _ _ _ => ⟨.inr rfl, rfl, rfl⟩
theorem tlbiVa : ∀ k a bcast, Statement (.tlbiVa k a bcast) := fun _ _ _ => ⟨.inr rfl, rfl, rfl⟩
theorem tlbiVaAll : ∀ k a bcast, Statement (.tlbiVaAll k a bcast) := fun _ _ _ => ⟨.inr rfl, rfl, rfl⟩
theorem tlbiWalk : ∀ k a bcast, Statement (.tlbiWalk k a bcast) := fun _ _ _ => ⟨.inr rfl, rfl, rfl⟩
theorem cleanVa : ∀ k a, Statement (.cleanVa k a) := fun _ _ => ⟨.inr rfl, rfl, rfl⟩
theorem invVa : ∀ k a, Statement (.invVa k a) := fun _ _ => ⟨.inr rfl, rfl, rfl⟩
theorem clinvVa : ∀ k a, Statement (.clinvVa k a) := fun _ _ => ⟨.inr rfl, rfl, rfl⟩
theorem clinvSw : ∀ k a, Statement (.clinvSw k a) := fun _ _ => ⟨.inr rfl, rfl, rfl⟩
theorem zeroVa : ∀ k a, Statement (.zeroVa k a) := fun _ _ => ⟨.inr rfl, rfl, rfl⟩
theorem tint1 : ∀ k d a b, Statement (.tint1 k d a b) := fun _ _ _ _ => ⟨.inr rfl, rfl, rfl⟩
theorem tint2 : ∀ k d a b c, Statement (.tint2 k d a b c) := fun _ _ _ _ _ => ⟨.inr rfl, rfl, rfl⟩
theorem tint3 : ∀ k d a b c, Statement (.tint3 k d a b c) := fun _ _ _ _ _ => ⟨.inr rfl, rfl, rfl⟩
theorem blkcpy : ∀ k d a b, Statement (.blkcpy k d a b) := fun _ _ _ _ => ⟨.inr rfl, rfl, rfl⟩
theorem blkset : ∀ k d a b, Statement (.blkset k d a b) := fun _ _ _ _ => ⟨.inr rfl, rfl, rfl⟩
theorem vdot : ∀ k d a b c, Statement (.vdot k d a b c) := fun _ _ _ _ _ => ⟨.inr rfl, rfl, rfl⟩
theorem sld : ∀ k d a b c, Statement (.sld k d a b c) := fun _ _ _ _ _ => ⟨.inr rfl, rfl, rfl⟩
theorem stamp : ∀ k d, Statement (.stamp k d) := fun _ _ => ⟨.inr rfl, rfl, rfl⟩
theorem frameN : ∀ k d, Statement (.frameN k d) := fun _ _ => ⟨.inr rfl, rfl, rfl⟩
theorem frameT : ∀ k d, Statement (.frameT k d) := fun _ _ => ⟨.inr rfl, rfl, rfl⟩
theorem done : ∀ k status, Statement (.done k status) := fun _ _ => ⟨.inr rfl, rfl, rfl⟩
theorem outputEnable : Statement (.outputEnable) := ⟨.inr rfl, rfl, rfl⟩
theorem twinHbRelease : Statement (.twinHbRelease) := ⟨.inr rfl, rfl, rfl⟩
theorem linkMessageError : ∀ unknown, Statement (.linkMessageError unknown) := fun _ => ⟨.inr rfl, rfl, rfl⟩
theorem heartbeatWaitExpire : Statement (.heartbeatWaitExpire) := ⟨.inr rfl, rfl, rfl⟩
theorem copyWriteAck : ∀ slot line, Statement (.copyWriteAck slot line) := fun _ _ => ⟨.inr rfl, rfl, rfl⟩
theorem powerOnResetAssert : Statement (.powerOnResetAssert) := ⟨.inr rfl, rfl, rfl⟩
theorem resetNRelease : Statement (.resetNRelease) := ⟨.inr rfl, rfl, rfl⟩
theorem netFrameEnd : ∀ p, Statement (.netFrameEnd p) := fun _ => ⟨.inr rfl, rfl, rfl⟩
theorem shiftUnitWordEnd : ∀ b e, Statement (.shiftUnitWordEnd b e) := fun _ _ => ⟨.inr rfl, rfl, rfl⟩
theorem illegalInstruction : ∀ k w, Statement (.illegalInstruction k w) := fun _ _ => ⟨.inr rfl, rfl, rfl⟩
theorem antIllegalOpcode : ∀ b e, Statement (.antIllegalOpcode b e) := fun _ _ => ⟨.inr rfl, rfl, rfl⟩

end Sys2Proof.Laws.Form
end

