-- ==== Sys2Proof/Tests/Slice0.lean ====
section
/-! SUPPORT. Small tests: words, ill-formed terms, single commands, and for each statement with hypotheses a state and operands that meet them. Expected values are worked out from the rules named. -/

namespace Sys2Proof.Tests

set_option maxRecDepth 20000
set_option Elab.async false

open Sys2Proof Sys2Proof.Machine

/-! ### Helpers -/

/-- The state a command leaves. -/
def after (i : Instr) (s : State) : State :=
  match exec i s with
  | .next t => t
  | _ => s

/-- The machine right after reset. -/
def s0 : State := State.reset

/-- The requester of an Open core, core 0. -/
def q0 : Requester := ⟨0, 0, false, false⟩

/-- A page of 2 MiB at address 0, open to every access. -/
def page0 : TlbEnt :=
  ⟨false, 0, true, 21, 0, 0, true, true, true, true, true, true, 0, true, true, 1, 0⟩

/-- Core 0 runs in user code at address 0. -/
def c0 : CoreSt := { CoreSt.reset with run := .running, tlb := [page0], itlb := [page0], dtlb := [page0] }

/-- The machine with a core in place of core 0; line 0 stands in its L1I. -/
def withCore (c : CoreSt) : State := (s0.setCore 0 c).setCc 0 { s0.cc 0 with l1i := [⟨0, 0, 0⟩] }

/-- Core 0 runs. -/
def sc : State := withCore c0

/-- Core 0 runs with X1 and X2 set. -/
def scx (x1 x2 : W64) : State := withCore ((c0.setX 1 x1).setX 2 x2)

/-- The same with the core's caches enabled. -/
def sccx (x1 x2 : W64) : State :=
  withCore ((({ c0 with trO := { c0.trO with l1dEn := true, l2En := true } } : CoreSt).setX 1 x1).setX 2 x2)

/-- Core 0 runs in supervisor code. -/
def sup : State := withCore { c0 with sup := true }

/-- What an access answers: 0 done, 1 an exception, 2 a wait. -/
def kind {α : Type} : MRes α → Nat
  | .ok _ _ => 0
  | .exc _ _ => 1
  | .wait _ => 2

/-- The state an access leaves. -/
def left {α : Type} : MRes α → State
  | .ok _ s => s
  | .exc _ s => s
  | .wait s => s

/-- The state in which the body of core 0's next instruction begins. -/
def fetched (s : State) : State := left ((s.begun 0).fetch 0)

/-- Core 0 runs, and the page of address 0 is placed in memory. -/
def scm (x1 x2 : W64) : State := (((scx x1 x2).wr R.BT_COUNT 1).setBt 0 0x8000000)

/-- Engine 0 of bay 0 runs as logical engine 0. -/
def e0 : Engine := { Engine.reset with st := .running, logical := 0 }

/-- The machine with an engine in place of engine 0 of bay 0. -/
def withEng (e : Engine) : State := (s0.wr R.CV_BAY 0xff).setEng 0 0 e

/-- Engine 0 runs with A1 and A2 set. -/
def sax (a1 a2 : W32) : State := withEng ((e0.setReg 1 a1).setReg 2 a2)

/-- The beacon runs: the first tick has passed, with a period of 500 us. -/
def ticking : State :=
  let s := s0.tripPut 2 500000
  { s with
    bcn := { s.bcn with started := true, ticked := true, nextN := 1, frozen := false }
    tb := { s.tb with running := true } }

/-- Only the mode of a twin pair is added: EN is 1 and the device holds a role. -/
def twinned (r : Role) : State :=
  let s := ticking.wr R.TW_CFG 1
  { s with tw := { s.tw with role := r, linkUp := true } }

/-! ### Words (R127, R128, R238 to R246) -/

/-- ADD X1, X2, X3: opcode 1 in [31:26], d = 1, a = 2, b = 3, fn = 0 (R238, R241). -/
theorem test_word_add : sisDecode 0x04221800 = some .add := by rfl
/-- SUB X1, X2, X3: the same with fn = 1 (R241). -/
theorem test_word_sub : sisDecode 0x04221801 = some .sub := by rfl
/-- LD X5, 16(X2), as R244 spells it. -/
theorem test_word_ld : sisDecode 0x40a20010 = sisOp (.ld 0 5 2 16) := by rfl
/-- A word of ones is no instruction (R240). -/
theorem test_word_none : sisDecode 0xffffffff = none := by rfl
/-- The Ant's ADD A1, A2, A3: opcode 1, fields of four bits (R127, R128). -/
theorem test_word_ant_add : antDecode 0x0448c000 = some .antAdd := by rfl
/-- An Ant word of opcode 0x3A is no instruction (R128). -/
theorem test_word_ant_none : antDecode 0xe8000000 = none := by rfl

/-! ### Ill-formed terms -/

/-- A plain instruction is well formed. -/
theorem test_wf_add : (Instr.add 0 1 2 3).wf = true := by decide +kernel
/-- Rounding field 6 is illegal (R250). -/
theorem test_wf_rounding : (Instr.fadd 0 false 6 1 2 3).wf = false := by decide +kernel
/-- SHIFTI of 32 bits by 32 is illegal (R243). -/
theorem test_wf_shift : (Instr.shifti 0 1 2 .sll true 32).wf = false := by decide +kernel
/-- Lane 4 of a 32-bit vector does not exist (R254). -/
theorem test_wf_lane : (Instr.vextX 0 2 1 2 4).wf = false := by decide +kernel
/-- TINT3 with c = 31 is illegal (R265). -/
theorem test_wf_tint3 : (Instr.tint3 0 1 2 3 31).wf = false := by decide +kernel
/-- SLD with an odd d is illegal (R265). -/
theorem test_wf_sld : (Instr.sld 0 3 1 2 4).wf = false := by decide +kernel
/-- TSR takes an even register (R128). -/
theorem test_wf_tsr : (Instr.tsr 0 0 3).wf = false := by decide +kernel
/-- A byte mask runs upward (R372). -/
theorem test_wf_wrna : (Instr.wrNa { who := .lantern, fallback := false, ecc := .clean, poison := false } 0 5 4 0 false).wf = false := by decide +kernel
/-- A byte mask runs upward (R425). -/
theorem test_wf_memwr : (Instr.memWr 0 0 5 4 0 false).wf = false := by decide +kernel
/-- A MIRROR holds at least one line (R186). -/
theorem test_wf_mirror : (Instr.mirror 0 0 []).wf = false := by decide +kernel
/-- A JOURNAL holds at least one record (R186). -/
theorem test_wf_journal : (Instr.journal []).wf = false := by decide +kernel
/-- A COPY holds at least one line (R186). -/
theorem test_wf_copy : (Instr.copy []).wf = false := by decide +kernel
/-- A REPLAY holds at least one line (R186). -/
theorem test_wf_replay : (Instr.replay 0 []).wf = false := by decide +kernel
/-- A SW_ARM holds at most 1,024 entries (R186). -/
theorem test_wf_swarm : (Instr.swArm 0 0 false 0 (List.replicate 1025 ⟨0, 0⟩)).wf = false := by decide +kernel
/-- ILLEGAL_INSTRUCTION names a word that no row gives (R240). -/
theorem test_wf_illegal : (Instr.illegalInstruction 0 0x04221800).wf = false := by decide +kernel

/-! ### Single commands -/

/-- The crystal starts the timebase at boot step 1 (R25). -/
theorem test_crystal : ((after .crystalStable s0).tb.running && (after .crystalStable s0).boot.step == 2) = true := by decide +kernel
/-- RESET_N is cause 1 (R463). -/
theorem test_resetn : (after .resetNLow s0).boot.cause = 1 := by decide +kernel
/-- A rate above 200 ppm is clamped to 219,902,325 (R27). -/
theorem test_rate : (after (.tbRateWrite 0x10000000) s0).rd R.TB_RATE = 219902325 := by decide +kernel
/-- T(N + 1) is P after T(N): 500,000 ns (R10). -/
theorem test_grid : ticking.tickAt 3 = 1500000 := by decide +kernel
/-- ADD wraps modulo 2^64 (R241). -/
theorem test_add : ((after (.add 0 3 1 2) (scx 0xffffffffffffffff 2)).core 0).xr 3 = 1 := by decide +kernel
/-- A write of X0 is discarded and the PC moves on by 4 (R235). -/
theorem test_add_x0 : ((after (.add 0 0 1 2) (scx 1 2)).core 0).xr 0 = 0 ∧ ((after (.add 0 0 1 2) (scx 1 2)).core 0).pc = 4 := by decide +kernel
/-- Division of a negative number by zero saturates low (R242). -/
theorem test_div_zero : ((after (.div 0 3 1 2) (scx 0xfffffffffffffffb 0)).core 0).xr 3 = 0x8000000000000000 := by decide +kernel
/-- The most negative number over -1 saturates high (R242). -/
theorem test_div_over : ((after (.div 0 3 1 2) (scx 0x8000000000000000 0xffffffffffffffff)).core 0).xr 3 = 0x7fffffffffffffff := by decide +kernel
/-- SRAW shifts the low word and extends its sign (R241). -/
theorem test_sraw : ((after (.sraw 0 3 1 2) (scx 0x80000000 4)).core 0).xr 3 = 0xfffffffff8000000 := by decide +kernel
/-- BNE is taken: the target is off16 words from the branch (R248). -/
theorem test_bne : ((after (.bne 0 1 2 0x10) (scx 1 2)).core 0).pc = 0x40 := by decide +kernel
/-- JAL links past itself (R248). -/
theorem test_jalr : ((after (.jalr 0 5 1 8) (scx 0x100 0)).core 0).xr 5 = 4 ∧ ((after (.jalr 0 5 1 8) (scx 0x100 0)).core 0).pc = 0x108 := by decide +kernel
/-- 1.0 + 1.0 = 2.0 with no flag (R250). -/
theorem test_fadd : (fAddV false 0 (fUnpack false 0x3ff0000000000000) (fUnpack false 0x3ff0000000000000)).bits = 0x4000000000000000 := by decide +kernel
/-- 1/3 rounds to nearest and is inexact, flag bit 4 (R249, R250). -/
theorem test_fdiv : (fDivV false 0 (fUnpack false 0x3ff0000000000000) (fUnpack false 0x4008000000000000)) = ⟨0x3fd5555555555555, 16⟩ := by decide +kernel
/-- A store that has left the queue is seen by a later load of the same core (R222, R244). -/
theorem test_store_load : ((after (.ld 0 3 1 0) (after (.storeDrain 0) (after (.st 0 2 1 0) (sccx 0x1000 0x1122334455667788)))).core 0).xr 3 = 0x1122334455667788 := by
  decide +kernel
/-- An aligned byte of the store, sign-extended, little-endian (R6, R244). -/
theorem test_byte : ((after (.lb 0 3 1 0) (after (.storeDrain 0) (after (.st 0 2 1 0) (sccx 0x1000 0x88)))).core 0).xr 3 = 0xffffffffffffff88 := by decide +kernel
/-- A privileged instruction in user code raises PRIVILEGE, cause 2 of level 12, and enters supervisor code (R290). -/
theorem test_privilege : ((after (.eret 0 0) sc).core 0).sup = true ∧ ((after (.eret 0 0) sc).core 0).bankO.act = 12 := by decide +kernel
/-- The Ant's ADD (R128). -/
theorem test_ant_add : ((after (.antAdd 0 0 3 1 2) (sax 0xffffffff 3)).eng 0 0).reg 3 = 2 := by decide +kernel
/-- A taken branch of the Ant has its slot at PC + 4 (R129). -/
theorem test_ant_slot : ((after (.antBeq 0 0 false 1 2 4) (sax 1 1)).eng 0 0).slot = some ⟨0, 16, false⟩ := by decide +kernel
/-- A misaligned word of the Ant faults with cause 3 (R135). -/
theorem test_ant_align : ((after (.ldw 0 0 3 1 0) (sax 2 0)).eng 0 0).cause = 3 := by decide +kernel
/-- A kick loads an enabled watchdog with its count (R461). -/
theorem test_kick : (after (.wdKick 0 1) (s0.wr (R.WD_CFG 0) 0x40005)).rd (R.WD_LEFT 0) = 5 := by decide +kernel
/-- SENSOR blocks aside, an offset that holds no register reads 0 (R14). -/
theorem test_no_register : (after (.latchedRead q0 0x10 0xff0) s0).readVal = 0 := by decide +kernel

/-! ### Premises that hold somewhere -/

/-- ResetCommands: the ball high, the ball low, and a watchdog that is due with action 2. -/
theorem wit_ResetCommands :
    s0.boot.rstLow = false ∧ { s0.boot with rstLow := true }.rstLow = true ∧
    (let s : State := { s0.wr (R.WD_CFG 0) 0x20000 with lan := { s0.lan with wdDue := [0] } }
     s.lan.wdDue.contains 0 = true ∧ s.fld (R.WD_CFG 0) 16 2 = 2) ∧
    s0.lan.kickAt = none ∧ ({ s0.lan with kickAt := some 5 } : LanState).kickAt = some 5 ∧
    s0.wdIntRun 0 = false ∧ State.wdIntRun (ticking.wr R.LN_WD_INT 1) 0 = false ∧
    State.wdIntRun (let s := ticking.wr R.LN_WD_INT 1; { s with bcn := { s.bcn with frame := 1 } }) 0 = true := by decide +kernel

/-- IdleStep: the queue is empty at reset, with a running timebase or a stopped one. -/
theorem wit_IdleStep : s0.pending = [] ∧ s0.tb.running = false ∧ ticking.pending = [] ∧ ticking.tb.running = true ∧
    ticking.tb.frac < 3 * 2 ^ 40 ∧ ticking.rateNow ≤ 2 ^ 39 := by decide +kernel

/-- EveryStepKeepsMemory: the memory at reset has the form, and a step from reset answers a next state. -/
theorem wit_EveryStepKeepsMemory : Memory.wf s0.mem.dram = true ∧ ∃ t, step s0 = .next t := ⟨by decide +kernel, _, rfl⟩

/-- WordsRoundTrip: a Scarab and an Ant instruction with legal words. -/
theorem wit_WordsRoundTrip : sisWord (.add 0 1 2 3) = some 0x04221800 ∧ sisBad (.add 0 1 2 3) = false ∧
    antWord (.antAdd 0 0 1 2 3) = some 0x0448c000 ∧ antBad (.antAdd 0 0 1 2 3) = false := by decide +kernel

/-- ReferenceCommands: boot steps 1, 2 and 4, and a loss of the reference in use with and without another. -/
theorem wit_ReferenceCommands :
    s0.boot.step = 1 ∧ s0.boot.aon = true ∧
    (let s : State := { s0 with boot := { s0.boot with step := 2 } }
     s.boot.aon = true ∧ s.boot.step = 2 ∧ s.lan.holdBoot = false) ∧
    s0.boot.step < 2 ∧ ({ s0 with boot := { s0.boot with aon := false } } : State).boot.aon = false ∧
    (let s : State := { s0 with boot := { s0.boot with step := 3 } }
     s.boot.aon = true ∧ s.boot.step = 3) ∧
    4 ≤ ({ s0 with boot := { s0.boot with step := 4 } } : State).boot.step ∧
    (let s : State := { s0 with tb := { s0.tb with src := 0, refB := true }, boot := { s0.boot with applied := true } }
     s.tb.src.val = b2n false ∧ (State.refChoice { s with tb := { s.tb with refA := false } }).isSome = true) ∧
    s0.tb.src.val ≠ b2n false ∧
    (let s : State := { s0 with tb := { s0.tb with src := 0, refA := true } }
     s.tb.src.val = b2n false ∧ (State.refChoice { s with tb := { s.tb with refA := false } }) = none) := by decide +kernel

/-- RateWrite: before and after the first tick; a rate that is clamped and one that is not. -/
theorem wit_RateWrite : (s0.guardBreak 1).bcn.ticked = false ∧ (ticking.guardBreak 1).bcn.ticked = true ∧ s0.boot.aon = true ∧ ticking.boot.aon = true ∧
    ({ s0 with boot := { s0.boot with aon := false } } : State).boot.aon = false ∧
    (219902325 : Int) < (219902326 : W32).toInt ∧ (-219902326#32 : W32).toInt < -(219902325 : Int) ∧ ¬ (219902325 : Int) < (219902325 : W32).toInt := by
  decide +kernel

/-- BeaconSettings: RUN clear and set, with and without a twin. -/
theorem wit_BeaconSettings : (s0.guardBreak 2).runSet = false ∧ ((s0.wr R.BCN_CTL 1).guardBreak 2).runSet = true ∧ (1 : W32).getLsbD 0 = true ∧
    s0.boot.aon = true ∧ s0.boot.step ≠ 15 ∧ ({ s0 with boot := { s0.boot with step := 15 } } : State).boot.step = 15 ∧
    (s0.guardBreak 1).bcn.ticked = false ∧ (ticking.guardBreak 1).bcn.ticked = true ∧
    ((s0.guardBreak 2).wr R.BCN_CTL 1).flagAt R.TW_CFG 0 = false ∧ (((s0.wr R.TW_CFG 1).guardBreak 2).wr R.BCN_CTL 1).flagAt R.TW_CFG 0 = true ∧
    ((s0.wr R.TW_CFG 1).guardBreak 2).runSet = false := by decide +kernel

/-- TickFires: a beacon that has not started, and one whose period and epoch pass their votes. -/
theorem wit_TickFires : s0.bcn.started = false ∧ ticking.bcn.started = true ∧ (ticking.frameEvents.tripVote 2).1 = true ∧
    ((ticking.frameEvents.tripVote 2).2.tripVote 1).1 = true := by decide +kernel

/-- BeaconPins: a pulse in flight; an edge near its tick, one beyond half a period, and one before the first tick. -/
theorem wit_BeaconPins :
    ({ s0.bcn with out := true } : BcnState).out = true ∧
    (let s := ticking.wr R.BCN_CTL 3
     s.flagAt R.BCN_CTL 1 = true ∧ s.flagAt R.BCN_CTL 2 = false ∧ s.nonHolder = false ∧ s.period = 500000 ∧ s.bcn.started = true) ∧
    (let s := ticking.wr R.BCN_CTL 0x3b
     let near : State := { s with bcn := { s.bcn with frame := 128, nextN := 129, tickStamp := 64000000 }, tb := { s.tb with now := 64250000 } }
     let far : State := { near with tb := { near.tb with now := 64250001 } }
     near.edgeErr near.now = some (128, 250000) ∧ far.edgeErr far.now = none) ∧
    (let s := ticking.wr R.BCN_CTL 3
     let d : State := { s with bcn := { s.bcn with edgeMiss := 2 } }
     d.edgeDue = true ∧ d.bcn.edgeGot = false ∧ d.bcn.inLost = false ∧ d.bcn.edgeMiss = 2 ∧ s.bcn.edgeMiss ≠ 2) ∧
    (let s := (s0.tripPut 2 500000).wr R.BCN_CTL 3
     s.bcn.started = false ∧ s.runSet = true ∧ s.boot.step ≠ 15 ∧ s.flagAt R.TW_CFG 0 = false) ∧
    s0.edgeDue = false := by decide +kernel

/-- InputCommands: a frame whose inputs are open, and a post that waits in its bay. -/
theorem wit_InputCommands :
    ticking.bcn.ticked = true ∧ ticking.bcn.frozen = false ∧ ticking.nonHolder = false ∧ ticking.tw.localLines = [] ∧
    ticking.flagAt R.TW_CFG 0 = false ∧ s0.bcn.frozen = true ∧
    (let t := ticking.advanceTo (ticking.bcn.tickStamp + BitVec.ofNat 64 (ticking.rd R.BCN_GRACE).toNat)
     (t.unstage ticking.bcn.frame).nonHolder = false ∧
     ((t.unstage ticking.bcn.frame).freezeLines ticking.bcn.frame (t.freezeImage ticking.bcn.frame)).flagAt R.TW_CFG 0 = false) ∧
    (let p : Post := ⟨1, 5, 7, 80, 0, false⟩
     let s := (s0.setBay 0 { s0.bay 0 with posts := [p] }).setDom 72 .up
     80 ≤ p.station ∧ p.station < 88 ∧ s.boot.aon = true ∧ s.dom (72 + (bayOf (p.station - 80)).val) = .up ∧
     (s.bay (bayOf (p.station - 80))).posts.head? = some p ∧ s0.dom (72 + (bayOf (p.station - 80)).val) ≠ .up ∧
     (s0.bay (bayOf (p.station - 80))).posts.head? ≠ some p) := by decide +kernel

/-- FrameGrid: two stamps less than half the circle apart, across its end. -/
theorem wit_FrameGrid : (stampDiff 5 (0xfffffffffffffff0 : Stamp)).natAbs < 2 ^ 63 ∧ 0 < stampDiff 5 (0xfffffffffffffff0 : Stamp) := by decide +kernel

/-- One valid task, number 0, due now on core 0, which is idle. -/
def due0 : State :=
  let s := ticking
  let s : State := { s with hive := { s.hive with td := [(0, 1)], cores := [(0, .idle)] } }
  (s.setRt 0 { s.rt 0 with due := true }).setCore 0 { CoreSt.reset with run := .idle }

/-- TaskCommands: a running task, a ready one with its core free or busy, an entry of the walk list, an open frame. -/
theorem wit_TaskCommands :
    (let s := s0.setRt 0 { s0.rt 0 with run := some (0, 0) }
     (s.rt 0).run = some (0, 0) ∧ (s.rt 0).lateSeen = false ∧ (s.rt 0).carried = false) ∧
    (s0.rt 0).run = none ∧
    due0.taskReady 0 = true ∧ due0.beforeGuard = true ∧ due0.coreFree (due0.rt 0).assigned = true ∧
    due0.usable (due0.rt 0).assigned = true ∧ (due0.pool 0).contains (due0.rt 0).assigned = true ∧
    (let s : State := { due0 with hive := { due0.hive with cores := [(0, .running), (1, .idle)] } }
     let s := s.setCore 1 { CoreSt.reset with run := .idle }
     s.taskReady 0 = true ∧ s.coreFree (s.rt 0).assigned = false ∧ s.taskPlace 0 = 0 ∧
     (sortBy (fun a b => decide (a.val < b.val)) (s.pool 0)).find? s.coreFree = some 1 ∧
     (let w : State := { s with tb := { s.tb with now := s.readyStamp 0 + BitVec.ofNat 64 (s.fld R.PL_STEAL_NS 0 24) } }
      w.taskReady 0 = true ∧ w.coreFree (w.rt 0).assigned = false ∧ w.beforeGuard = true ∧
      stampLe (w.readyStamp 0 + BitVec.ofNat 64 (w.fld R.PL_STEAL_NS 0 24)) w.now = true)) ∧
    (let s : State := { s0 with su := { s0.su with digOpen := [3] } }
     s.su.digOpen.contains 3 = true ∧ s.su.walks.all (fun w => !(w.frame == (3 : W64) && w.kind == .done)) = true) ∧
    (let e : WalkEnt := ⟨0, 3, .done, 0, false⟩
     let s : State := { s0 with su := { s0.su with walks := [e] } }
     s.su.walks.find? (fun w => w.task == 0 && w.frame == 3) = some e) ∧
    s0.boot.aon = true ∧ (s0.guardBreak 8).regionOf 0 = none ∧
    ((((s0.wr (R.REG_ATTR 0) 1).wr (R.REG_SIZE 0) 1).guardBreak 8).regionOf windowLine).isSome = true ∧
    s0.hive.planDue = false ∧ ({ s0.hive with planDue := true } : HiveState).planDue = true := by decide +kernel

/-- SwitchCommands: a device alone is a holder and a standby is not; an open slot with room and one that is full; an armed slot. -/
theorem wit_SwitchCommands :
    (twinned .standby).holder = false ∧ (twinned .alone).holder = true ∧ (twinned .alone).openSlot = none ∧
    (let s := (twinned .alone).setSlot 0 { st := 1 }
     let s : State := { s with hive := { s.hive with lastOpen := 0 } }
     s.openSlot = some 0 ∧ (s.slot 0).entries.length < 1024) ∧
    (let s := (twinned .alone).setSlot 0 { st := 1, entries := List.replicate 1024 ⟨0, 0⟩ }
     let s : State := { s with hive := { s.hive with lastOpen := 0 } }
     s.openSlot = some 0 ∧ 1024 ≤ (s.slot 0).entries.length) ∧
    (let s := (twinned .alone).setSlot 0 { st := 2, frame := 100 }
     (s.slot 0).st = 2 ∧ s.cancellable 0 = true ∧ s.twin = true) ∧
    (let s := (twinned .alone).setSlot 0 { st := 2, frame := 1 }
     let s : State := { s with tb := { s.tb with now := 500000 } }
     (s.slot 0).st = 2 ∧ s.cancellable 0 = false) ∧
    (twinned .alone).boot.aon = true ∧ ((twinned .standby).guardBreak 7).holder = false ∧ ((twinned .alone).guardBreak 7).holder = true ∧
    ((twinned .alone).guardBreak 7).openSlot = none := by decide +kernel

/-- BayEvents: a bay that is up, an edge selected with room and without, a compare that waits, a shift unit receiving, sending and full, a spare that loads. -/
theorem wit_BayEvents :
    (s0.setDom 72 .up).dom (72 + (0 : BayId).val) = .up ∧
    (s0.pinCfg 0 0).getLsbD 22 = false ∧
    ((s0.wr (R.PIN_CFG 0 0) 0xc00000).pinCfg 0 0).getLsbD 22 = true ∧ (s0.pin 0 0).cap.length < 4 ∧
    4 ≤ ((s0.setPin 0 0 { s0.pin 0 0 with cap := List.replicate 4 (0, true) }).pin 0 0).cap.length ∧
    (s0.pin 0 0).cmp = none ∧ ((s0.setPin 0 0 { s0.pin 0 0 with cmp := some (5, 1) }).pin 0 0).cmp = some (5, 1) ∧
    (let x := (withEng { e0 with su := { mode := 1, idle := 4, rx := List.replicate 16 (0, (false, false)), tx := [1], busy := true } }).eng 0 0
     x.st = .running ∧ x.su.mode.toNat % 4 = 1 ∧ x.su.de = false ∧ 16 ≤ x.su.rx.length ∧ x.su.busy = true ∧ x.su.tx.length = 1 ∧
     x.su.idle.toNat % 256 ≠ 0) ∧
    e0.su.rx.length < 16 ∧ e0.timer = 0 ∧ ({ e0 with timer := 9 } : Engine).timer ≠ 0 ∧
    ((withEng { e0 with st := .loading }).eng 0 0).st = .loading ∧ s0.baySealed 0 = false ∧ s0.boot.aon = true ∧ (s0.wr R.WD_BAY 1).baySealed 0 = true ∧
    s0.dom (72 + (0 : BayId).val) ≠ .up ∧
    (let s := (s0.wr (R.PIN_CFG 0 0) 0x80000).setDom 72 .up
     (s.pinSettle 0 0).pinFilt 0 0 ≠ 0 ∧ (s0.pinSettle 0 0).pinFilt 0 0 = 0) ∧
    (let x := (withEng { e0 with su := { mode := 2, tx := [1], busy := true } }).eng 0 0
     x.su.mode.toNat % 4 = 2 ∧ x.su.busy = true ∧ x.su.sampled = false ∧ x.su.rx.length < 16) ∧
    ({ e0.su with mode := 1, de := true } : ShiftUnit).de = true ∧
    2 ≤ ({ e0.su with tx := [1, 2] } : ShiftUnit).tx.length := by decide +kernel

/-- GridAndSector: the front end on, a channel in fault and one that discards, an evaluation that may run, a supply that is low. -/
theorem wit_GridAndSector :
    (let s := ((s0.wr R.GS_CTL 1).wr (R.CH_CFG 0) 4).wr (R.MCLK_CFG 0) 0x200000
     s.flagAt R.GS_CTL 0 = true ∧ s.flagAt (R.CH_CFG 0) 2 = true ∧ s.flagAt (R.MCLK_CFG (s.mclk 0)) 21 = true ∧
     (s.gin 0).faulted = false ∧ ((s.setGin 0 { s.gin 0 with faulted := true }).gin 0).faulted = true ∧
     0 < ((s.setGin 0 { s.gin 0 with discard := 3 }).gin 0).discard) ∧
    (s0.wr (R.GRP_V 0) 0x40000).flagAt (R.GRP_V 0) 18 = true ∧
    (let s : State := { ticking with sector := { ticking.sector with freezeDone := some 10 } }
     s.sector.freezeDone = some 10 ∧ s.bcn.ticked = true ∧ s.sector.evaluated ≠ some s.bcn.frame ∧ s.runsTasks s.bcn.frame = true ∧
     s.now.toNat < (s.tickAt s.bcn.nextN).toNat) ∧
    s0.sector.freezeDone = none ∧ s0.sector.supplyLow = false ∧ s0.boot.aon = true ∧
    ((s0.setGrp 0 { s0.grp 0 with sync := true, lastPos := some 7 }).grp 0).sync = true ∧ (s0.grp 0).sync = false ∧
    (let s : State := { s0 with sector := { s0.sector with supplyLow := true, supplyRise := some 3 } }
     s.sector.supplyLow = true) ∧
    (let s : State := { ticking with sector := { ticking.sector with freezeDone := some 10 } }
     s.evaluates s.bcn.frame = true) := by decide +kernel

/-- TwinRoles: the pair in its roles, the heartbeat line's slots and a pending handover. -/
theorem wit_TwinRoles :
    (let s := twinned .active
     s.twin = true ∧ s.bcn.ticked = true ∧ s.tw.role ≠ .listen ∧ s.hears = true ∧ s.holder = true ∧ s.tw.hbDone = false ∧ s.tw.hbLow = false ∧
     s.tw.handH = none ∧ s.tw.partnerWarn = false) ∧
    (let s := twinned .active
     let s : State := { s with tw := { s.tw with partnerRole := .standby, partnerVer := true } }
     s.tw.partnerRole = .standby ∧ s.tw.partnerVer = true ∧ s.tw.partnerWarn = false) ∧
    s0.hears = false ∧ (twinned .standby).nonHolder = true ∧ (twinned .diverged).tw.role = .diverged ∧
    (let s := twinned .active
     let s : State := { s with tw := { s.tw with partnerRole := .standby, handH := some 7 } }
     s.tw.partnerRole = .standby ∧ s.rx.tw.handH = some 7 ∧ stampLt s.rx.now (s.rx.tickAt (7 - 1)) = true ∧
     stampLt { s.tb with now := 3000000 }.now (s.rx.tickAt (7 - 1)) = false) ∧
    (twinned .standby).rx.tw.role = .standby ∧
    (let s := twinned .listen
     let s : State := { s with tw := { s.tw with listenFrom := some 3 } }
     s.tw.listenFrom = some 3 ∧ s.tw.role = .listen ∧ s.tw.listenPulse = false) ∧
    (let s := twinned .active
     s.inSlot (BitVec.ofNat 64 (hbSlot true)) true = true ∧ s.inSlot (BitVec.ofNat 64 (hbSlot false)) true = false ∧ (999 : W32).toNat < 1000 ∧ 4000 < (4001 : W32).toNat) ∧
    (let s := twinned .active
     let a : State := { s with tb := { s.tb with now := BitVec.ofNat 64 (hbSlot true + 2000) } }
     let b : State := { s with tb := { s.tb with now := BitVec.ofNat 64 (hbSlot false + 2000) }, tw := { s.tw with sideB := true } }
     let w : W32 := 2000
     a.inSlot (a.now - w.setWidth 64) a.tw.sideB = false ∧ a.inSlot (a.now - w.setWidth 64) (!a.tw.sideB) = true ∧
     b.inSlot (b.now - w.setWidth 64) b.tw.sideB = false ∧ b.inSlot (b.now - w.setWidth 64) (!b.tw.sideB) = true ∧
     a.inSlot (BitVec.ofNat 64 (hbSlot false)) a.tw.sideB = true ∧ a.holder = true ∧ b.holder = true) ∧
    (let s := twinned .standby
     (∀ p ∈ s.tw.fixedT, p.1 ≠ s.bcn.frame.toNat) ∧ s.bcn.ticked = true) ∧
    (let v := (twinned .diverged).guardBreak 0x1a
     (twinned .diverged).boot.aon = true ∧ v.tw.role = .diverged ∧ ((twinned .active).guardBreak 0x1a).tw.role = .active) ∧
    (let s := twinned .active
     let s : State := { s with tw := { s.tw with partnerRole := .standby, partnerVer := true } }
     let v := s.guardBreak 0x1a
     v.twin = true ∧ v.holder = true ∧ v.tw.handH = none ∧ v.tw.role = .active ∧ v.tw.partnerRole = .standby ∧ v.tw.partnerVer = true ∧ v.tw.partnerWarn = false) ∧
    ((twinned .active).guardBreak 0x1a).tw.partnerVer = false := by
  decide +kernel

/-- TwinMessages: a device that hears its partner as holder and as non-holder, with and without lanes. -/
theorem wit_TwinMessages :
    s0.hears = false ∧
    (let s := twinned .standby
     let s : State := { s.setSlot 3 { st := 2, frame := 100 } with tw := { s.tw with sent := [(7, .copyEnd 0)] } }
     (s.slot 3).frame = 100 ∧ s.cancellable 3 = true ∧ (∃ x ∈ s.rx.tw.sent, x.1 = 7) ∧ ¬ (∃ x ∈ s.rx.tw.sent, x.1 = 8)) ∧
    (let u := (twinned .standby).rx.setSlot 3 { st := 1 }
     (u.swArm 3 100).1 = true ∧ (u.swArm 3 1).1 = false) ∧
    (twinned .active).hears = true ∧ (twinned .active).holder = true ∧ (twinned .standby).hears = true ∧ (twinned .standby).holder = false ∧
    (twinned .standby).nonHolder = true ∧ (twinned .standby).bcn.frozen = false ∧
    (let s := twinned .standby
     let s : State := { s with bcn := { s.bcn with frame := 5 } }
     s.bcn.frame ≠ s.bcn.first) ∧
    (twinned .active).tw.failed.getLsbD 0 = false ∧
    (let s := twinned .alone
     let s : State := { s with tw := { s.tw with linkUp := false } }
     s.tw.linkUp = false ∧ s.twin = true ∧ 4 ≤ s.healthyLanes.length ∧ (s.healthyLanes.filter (fun i => (0xf : BitVec 9).getLsbD i)).length = 4 ∧
     8 ≤ (s.healthyLanes.filter (fun i => (0xff : BitVec 9).getLsbD i)).length) := by decide +kernel

/-- TwinMessages: a hello of another key is not valid, and one of the partner's key is where its signature holds; a Keeper that works and one that does not. -/
theorem wit_TwinMessages_hello (key share sig : List Byte) :
    (State.helloValid { s0 with boot := { s0.boot with partnerKey := ~~~ Config.sha384 key } } ⟨key, share, sig⟩ = false) ∧
    (Config.ecdsaValid key (toBytes (Config.sha384 share) 48) sig = true →
      State.helloValid { s0 with boot := { s0.boot with partnerKey := Config.sha384 key } } ⟨key, share, sig⟩ = true) ∧
    s0.keeper.faulted = false ∧ ({ s0.keeper with faulted := true } : KeeperState).faulted = true := by
  refine ⟨?_, fun h => by simp [State.helloValid, h], rfl, rfl⟩
  have h : Config.sha384 key ≠ ~~~ Config.sha384 key := fun e => by
    have := congrArg (fun v : BitVec 384 => v.getLsbD 0) e
    simp at this
  simp [State.helloValid, h]

/-- JoinMessages: a holder asked with the right and a wrong digest, a joiner before and after it is accepted. -/
theorem wit_JoinMessages :
    (twinned .active).hears = true ∧ (twinned .active).holder = true ∧ (1 : BitVec 384) ≠ (twinned .active).rx.cfgDigest ∧
    (0 : BitVec 384) = (twinned .active).rx.cfgDigest ∧ (twinned .active).rx.tw.host.active = false ∧
    (twinned .joining).tw.role = .joining ∧ (twinned .joining).accepted = false ∧
    (let s := twinned .joining
     (State.accepted { s with tw := { s.tw with join := { s.tw.join with step := 2, base := 2 } } }) = true) ∧
    (twinned .standby).hears = true ∧ (twinned .standby).holder = false ∧ (twinned .standby).tw.role ≠ .joining ∧ s0.hears = false ∧
    (twinned .joining).rx.holder = false ∧ (twinned .standby).rx.tw.role ≠ .joining := by decide +kernel

/-- A transaction of a home on line 5, in a given state. -/
def txn5 (st : Trans) : Txn := { s0.txnOf 5 .rdS (.core 0 false) with st := st, rings := 1 }

/-- A state with that transaction open. -/
def withTxn (st : Trans) : State := s0.setTxn 5 (some (txn5 st))

/-- CoherenceCommands: a line with and without a directory entry, a transaction, a miss register and an evicted line; the boundary of twelve locked ways; a home and a range operation. -/
theorem wit_CoherenceCommands :
    s0.txnFind 5 = none ∧ s0.mshrFind 0 5 = none ∧
    (let s := s0.setDir 5 (some ⟨5, 0, 0, true, 1, 0, 0⟩)
     s.dirFind 5 = some ⟨5, 0, 0, true, 1, 0, 0⟩ ∧ (⟨5, 0, 0, true, 1, 0, 0⟩ : DirEnt).owner ≠ 1) ∧
    (withTxn .snp).txnFind 5 = some (txn5 .snp) ∧ (txn5 .snp).st ≠ .mem ∧ (txn5 .snp).st ≠ .ack ∧ (txn5 .snp).rings ≠ 0 ∧
    (withTxn .mem).txnFind 5 = some (txn5 .mem) ∧ (withTxn .ack).txnFind 5 = some (txn5 .ack) ∧ (txn5 .ack).who = .core 0 false ∧
    (let m : Mshr := ⟨5, .rdS, 0, false, true, true, 0, 0⟩
     let s := s0.setMshr 0 5 (some m)
     s.mshrFind 0 5 = some m ∧ m.waiting = true ∧ m.zero = true ∧ s.noRoom 0 5 = false ∧
     (∀ x ∈ (s.cc 0).mshr, x.fallback = true → x.line = m.line) ∧
     State.noRoom (s.setCc 0 { s.cc 0 with eb := List.replicate 16 ⟨6, 0, true, 0, none, 0⟩ }) 0 5 = true) ∧
    (s0.ebSend 0 5).txnFind 5 = none ∧ (s0.ebSend 0 5).dirFind 5 = none ∧
    (let s := s0.setDir 5 (some ⟨5, 0, 0, true, 1, 0, 0⟩)
     (s.ebSend 0 5).txnFind 5 = none ∧ (s.ebSend 0 5).dirFind 5 = some ⟨5, 0, 0, true, 1, 0, 0⟩) ∧
    ((withTxn .snp).ebSend 0 5).txnFind 5 = some (txn5 .snp) ∧ ((withTxn .mem).ebSend 0 5).txnFind 5 = some (txn5 .mem) ∧
    (withTxn .snpm).txnFind 5 = some (txn5 .snpm) ∧ (txn5 .snpm).st = .snpm ∧
    (let e : EbEnt := ⟨5, 0, true, 0, none, 0⟩
     (s0.setCc 0 { s0.cc 0 with eb := [e] }).ebFind 0 5 = some e) ∧
    12 < countIf (fun i => bitAt (0x1fff : W32) i) (List.range 16) ∧ countIf (fun i => bitAt (0xfff : W32) i) (List.range 16) ≤ 12 ∧
    s0.cache.range = none ∧
    (let s : State := { s0 with cache := { s0.cache with range := some ⟨0, 1, false, false, 0, 0, 0, 0, 0⟩ } }
     s.cache.range = some ⟨0, 1, false, false, 0, 0, 0, 0, 0⟩ ∧ s.rangeHeld ⟨0, 1, false, false, 0, 0, 0, 0, 0⟩ = []) := by decide +kernel

/-- CoherenceCommands: a device in reset; a homed and an unhomed line, a state-window line, a line that a transaction or a draining class holds; an agent's refusals; a CMO that a hard berth bars; a window writeback of a pending copy; a revalidated copy; a range in the way. -/
theorem wit_CoherenceCommands_asks :
    s0.boot.aon = true ∧ ({ s0 with boot := { s0.boot with aon := false } } : State).boot.aon = false ∧
    homed 5 = true ∧ homed (0x110000000000 / 64 - 1) = true ∧ homed (0x110000000000 / 64) = false ∧
    windowLine ≤ windowLine ∧ 5 < windowLine ∧
    s0.lineBlocked 5 = false ∧ (withTxn .snp).lineBlocked 5 = true ∧
    (s0.refuseAsk .lantern 5 false).isSome = true ∧ (s0.refuseAsk .keeper 5 true).isSome = true ∧ s0.refuseAsk (.core 0 false) 5 false = none ∧
    ((s0.wr R.BT_COUNT 1).setBt 0 0x8000000).refuseAsk .lantern 5 false = none ∧
    ((s0.wr R.BT_COUNT 1).setBt 0 0x8000000).refuseAsk .lantern 5 true = none ∧
    (0 : Fin 4) = 0 ∧ (1 : Fin 4) ≠ 0 ∧
    s0.rangeBars false 100 = false ∧ s0.rangeBars false 0 = true ∧
    (let e : EbEnt := ⟨windowLine, 7, true, 0, some ⟨some ⟨0, by omega⟩, false, 0, 0⟩, 0⟩
     let s := (s0.setCc 0 { s0.cc 0 with eb := [e] }).setCore 0 { c0 with task := ⟨0, by omega⟩ }
     let r := s.ebSend 0 windowLine
     (r.ebFind 0 windowLine).any (fun e => pendOf (r.core 0).task e.key) = true ∧
     (let r := s0.ebSend 0 windowLine
      (r.ebFind 0 windowLine).any (fun e => pendOf (r.core 0).task e.key) = false)) ∧
    (let y : L2Line := ⟨windowLine, .s, 0, 0, none, 0, some ⟨none, false, 0, 0⟩⟩
     let z : L2Line := { y with key := some ⟨some ⟨0, by omega⟩, false, 0, 0⟩ }
     let x : L2Line := { y with key := none }
     (s0.setCc 0 { s0.cc 0 with l2 := [y] }).l2Find 0 windowLine = some y ∧ (s0.setCc 0 { s0.cc 0 with l2 := [z] }).l2Find 0 windowLine = some z ∧
     (s0.setCc 0 { s0.cc 0 with l2 := [x] }).l2Find 0 windowLine = some x) ∧
    (let s := (s0.wr (R.HOME_PIN 0) 1).wr (R.L3_LOCK 0) 1
     let h := s.guardBreak 0x50
     let t : TileId := s.homeOf 0
     homed (h.lfLine 0) = true ∧ h.lfLine 0 = 0 ∧ h.flagAt (R.L3_LOCK 0) 0 = true ∧ (assocD h.cache.deadWays 0 []).contains 0 = false ∧
     (h.homeOf (h.lfLine t)) = t ∧ s0.flagAt (R.L3_LOCK 0) 0 = false) ∧
    (s0.guardBreak 0x50).cache.range = none ∧
    (let r : RangeOp := ⟨0, 1, false, false, 0, 3276801, 0, 0, 0⟩
     let s := s0.setTxn 3276800 (some { txn5 .snp with line := 3276800 })
     let s : State := { s with cache := { s.cache with range := some r } }
     s.cache.range ≠ none ∧ s.rangeHeld r = [3276800] ∧ s.lineBusy 3276800 = true) ∧
    (let m : Mshr := ⟨5, .rdNa, 15, false, true, false, 0, 0⟩
     let s := s0.reqSet .lantern 5 (some m)
     s.reqFind .lantern 5 = some m ∧ s0.reqFind .lantern 5 = none ∧ m.waiting = true ∧ s.fallbackOut .lantern 5 = false ∧
     s0.fallbackOut (.core 0 false) 5 = false ∧
     State.fallbackOut (s0.setMshr 0 6 (some ⟨6, .rdS, 16, true, false, false, 0, 0⟩)) (.core 0 false) 5 = true ∧
     (s0.mshrFind 0 5).any (·.zero) = false) := by decide +kernel

/-- HomeAndCoreEvents: a lock fill and a drain on the way, a queue that is empty and one that is not, a timer, a supervisor. -/
theorem wit_HomeAndCoreEvents :
    s0.cache.lockFill.find? (fun x => x.tile == 0) = none ∧ s0.cache.drains.find? (fun d => d.cls == 0) = none ∧
    (let s : State := { s0 with cache := { s0.cache with lockFill := [⟨0, 5, 1⟩], drains := [⟨0, 0, 0, 0⟩] } }
     s.cache.lockFill.find? (fun x => x.tile == 0) = some ⟨0, 5, 1⟩ ∧ s.cache.drains.find? (fun d => d.cls == 0) = some ⟨0, 0, 0, 0⟩) ∧
    (s0.core 0).sq = [] ∧
    (let u := (s0.setCore 0 ((s0.core 0).evSync s0.coreCycles)).evDraw 0
     u.nextIrq 0 = none) ∧
    (let s := withCore { c0 with tmr := 1, icEn := c0.icEn.set 0 1, icLvl := c0.icLvl.set 0 9 }
     let s : State := { s with tb := { s.tb with now := 1 } }
     ((s.setCore 0 ((s.core 0).evSync s.coreCycles)).evDraw 0).nextIrq 0 = some 0) ∧
    (let s := (scm 0 0).setCore 0 { c0 with sq := [⟨[⟨0x1000, [7], .wb⟩], false, false, false⟩] }
     (s.core 0).sq ≠ [] ∧ kind (s.sqOne 0) = 0 ∧ kind (State.sqOne (s.setTxn 64 (some { s0.txnOf 64 .rdX (.core 1 false) with st := .mem })) 0) = 2) ∧
    (s0.core 0).tmr = 0 ∧ ((withCore { c0 with tmr := 9 }).core 0).tmr ≠ 0 ∧
    (sup.core 0).run = .running ∧ (sup.core 0).sup = true ∧ (sc.core 0).sup = false := by decide +kernel

/-- HomeAndCoreEvents: a lock fill whose line is busy and one whose line is not, a drain with and without an open transaction of its class, a device in reset. -/
theorem wit_HomeAndCoreEvents_lines :
    (let s : State := { withTxn .snp with cache := { (withTxn .snp).cache with lockFill := [⟨0, 5, 1⟩], drains := [⟨0, 0, 0, 0⟩] } }
     s.lineBusy 5 = true ∧ s.cache.drains.find? (fun d => d.cls == 0) = some ⟨0, 0, 0, 0⟩ ∧ (∃ x ∈ s.cache.txns, s.classOf x.line = 0)) ∧
    (let s : State := { s0 with cache := { s0.cache with lockFill := [⟨0, 5, 1⟩] } }
     s.cache.lockFill.find? (fun x => x.tile == 0) = some ⟨0, 5, 1⟩ ∧ s.lineBusy 5 = false ∧ s.cache.l3 = []) ∧
    (let s : State := { s0 with cache := { s0.cache with drains := [⟨0, 0, 0, 0⟩] } }
     s.cache.txns = [] ∧ s.cache.drains.find? (fun d => d.cls == 0) = some ⟨0, 0, 0, 0⟩) ∧
    s0.boot.aon = true ∧ ({ s0 with boot := { s0.boot with aon := false } } : State).boot.aon = false := by decide +kernel

/-- A slot that passes station 0 of ring 0. -/
def slot0 (p : Packet) : RingPass := ⟨0, 1, true, 0, p, false, 0, false, true, 0, none⟩

/-- A packet of type 1 for a station. -/
def pkt0 (dst : Fin 256) : Packet := ⟨dst, 0, true, 0, 0, 0, 0, false, 1, 0, false, false, 0, 0, 0, false, false, false, 0, 63, 0⟩

/-- RingAndMemory: a packet at its station and one on its way, an escaped packet, a patrol, an initialisation and a copy. -/
theorem wit_RingAndMemory :
    (slot0 (pkt0 0)).pos.val < ringLen (slot0 (pkt0 0)).ring.val ∧ ringLen 8 ≤ (⟨8, 10, true, 0, pkt0 0, false, 0, false, true, 0, none⟩ : RingPass).pos.val ∧
    (let p := slot0 { pkt0 0 with type := 0 }
     let u := s0.offered (stationAt 0 1) none
     let w : State := { u with ring := { u.ring with waiting := [{ pkt0 5 with src := 0, first := false, dirs := 1 }] } }
     p.hpar = false ∧ p.pkt.type.val = 0 ∧ assoc? (u.rg 0).esc (passKey p) = none ∧
     assoc? (u.rg 0).turning (passKey p * 4 + p.lane.val) = none ∧ ((u.rg 0).dir p.dir).inUse.getLsbD 0 = true ∧ u.holdOut p = false ∧
     (u.holdSt p).quiet = 0 ∧ u.ring.waiting.find? (u.fits p) = none ∧ (w.ring.waiting.find? (w.fits p)).isSome = true) ∧
    posOn 9 (stationAt 0 1) = none ∧ (posOn ((nextRing (pkt0 5)).getD 0) (stationAt 0 1)).isSome = true ∧
    s0.ringLate 0 = false ∧ State.ringLate { s0 with tb := { s0.tb with now := 700000 } } 0 = true ∧
    (slot0 (pkt0 0)).pkt.dst.val = stationAt 0 1 ∧ (pkt0 0).type.val ≠ 0 ∧ (pkt0 5).dst.val ≠ stationAt 0 1 ∧
    hasNextLeg (pkt0 5) = true ∧ (nextRing (pkt0 5)).isSome = true ∧ hasNextLeg { pkt0 5 with leg := 2 } = false ∧
    assoc? (s0.rg 0).esc (2 * 1 + b2n true) = none ∧
    (s0.wr (R.PATROL_CTL 0) 1).flagAt (R.PATROL_CTL 0) 0 = true ∧ s0.flagAt (R.PATROL_CTL 0) 0 = (s0.rd (R.PATROL_CTL 0)).getLsbD 0 ∧
    assoc? s0.boot.initPass 0 = none ∧
    (let s : State := { s0 with boot := { s0.boot with initPass := [(0, 5)] } }
     assoc? s.boot.initPass 0 = some 5) ∧
    assoc? s0.mem.copies 0 = none ∧
    (let c : Copy := ⟨0, 0, 0, 1, 0, 32767, true, [9], [], .placement⟩
     (s0.setCopy 0 c).mem.copies = [(0, c)] ∧ c.unacked.contains 9 = true ∧ c.ptr + 1 = 32768) ∧
    s0.sealedAt (s0.addrOf 0 0) = none ∧ maskOf 0 63 = fullMask := by decide +kernel

/-- RingAndMemory: a type that is illegal, a block with and without room, a priority packet; a turn and an escape; a request, a writeback and a transaction that are late; a patrol that boot step 14 lets run; a channel that is up and one that is not. -/
theorem wit_RingAndMemory_more :
    (let p := slot0 { pkt0 0 with type := 30 }
     p.hpar = false ∧ 30 ≤ p.pkt.type.val) ∧ { slot0 (pkt0 0) with hpar := true }.hpar = true ∧
    (pkt0 0).type.val < 30 ∧ (slot0 (pkt0 0)).room = true ∧ (pkt0 0).prio = false ∧ { pkt0 0 with prio := true }.prio = true ∧
    memcAt (stationAt 0 1) = none ∧ memcAt 72 = some 0 ∧ memcAt 80 = none ∧ memcAt 92 = some 12 ∧
    (s0.memc 0).input = none ∧ (State.memc (s0.setMemc 0 { s0.memc 0 with input := some ⟨5, 1, 7, false, none⟩ }) 0).input ≠ none ∧
    assoc? ({ s0.rg 0 with esc := [(3, pkt0 5)] } : RingSt).esc 3 = some (pkt0 5) ∧
    assoc? ({ s0.rg 0 with turning := [(3, pkt0 5)] } : RingSt).turning 3 = some (pkt0 5) ∧
    assoc? (s0.rg 0).turning 3 = none ∧
    (let m : Mshr := ⟨5, .rdS, 0, false, false, false, 0, 0⟩
     let s := s0.setMshr 0 5 (some m)
     let late : State := { s with tb := { s.tb with now := 700000 } }
     s.reqFind (.core 0 false) 5 = some m ∧ s.ringLate m.since = false ∧ late.reqFind (.core 0 false) 5 = some m ∧ late.ringLate m.since = true ∧
     (((late.reqSet (.core 0 false) 5 none).timeoutLog false (askStation (.core 0 false)) 5).core 0).run ≠ .running) ∧
    (let m : Mshr := ⟨5, .rdNa, 0, false, false, false, 0, 0⟩
     let s := s0.reqSet .lantern 5 (some m)
     s.reqFind .lantern 5 = some m ∧ State.ringLate { s with tb := { s.tb with now := 700000 } } m.since = true ∧ s0.reqFind .lantern 5 = none) ∧
    (let s := sc.setMshr 0 5 (some ⟨5, .rdS, 0, false, false, false, 0, 0⟩)
     (s.core 0).run = .running) ∧
    (let e : EbEnt := ⟨5, 0, true, 0, none, 0⟩
     let s := s0.setCc 0 { s0.cc 0 with eb := [e] }
     s.mshrFind 0 5 = none ∧ s.ebFind 0 5 = some e ∧ (e.sent && s.ringLate e.since) = false ∧
     (e.sent && State.ringLate { s with tb := { s.tb with now := 700000 } } e.since) = true) ∧
    (withTxn .snp).txnFind 5 = some (txn5 .snp) ∧ (withTxn .snp).ringLate (txn5 .snp).since = false ∧
    State.ringLate { withTxn .snp with tb := { (withTxn .snp).tb with now := 700000 } } (txn5 .snp).since = true ∧
    s0.chanUp 0 = false ∧ (s0.setDom 80 .up).chanUp 0 = true ∧ s0.boot.aon = true ∧
    s0.berthAt 0 0 = none ∧ ((s0.wr R.BT_COUNT 1).setBt 0 0x8000000).berthAt 0 0 = some 0 ∧
    (let s : State := { (s0.wr R.BT_COUNT 1).setBt 0 0x8000000 with ranges := [(0, { base := 0x80000000, cfg := 1 })] }
     s.berthAt 0 0 = some 0 ∧ (s.sealedAt (s.addrOf 0 0)).isSome = true) ∧ maskOf 0 62 ≠ fullMask ∧
    s0.boot.step ≠ 14 ∧
    (let s : State := { s0.wr (R.PATROL_CTL 0) 1 with boot := { s0.boot with step := 14 } }
     s.boot.step = 14 ∧ s.flagAt (R.PATROL_CTL 0) 0 = true ∧ s.patrolNext 0 = none ∧ s.validPlaces 0 = []) ∧
    (let s : State := { ((s0.wr (R.PATROL_CTL 0) 1).wr R.BT_COUNT 1).setBt 0 0x8000000 with boot := { s0.boot with step := 14 } }
     s.patrolNext 0 = some (0, 0)) ∧
    (let s : State := { s0 with boot := { s0.boot with initPass := [(0, 5)] } }
     s.initPlace 0 0 (s.placesOf 0) = none) ∧
    (let s : State := { ((s0.wr R.BT_COUNT 1).setBt 0 0x8000000).wr (R.MC_CFG 0) 8 with boot := { s0.boot with initPass := [(0, 5)] } }
     s.initPlace 0 0 (s.placesOf 0) = some 0) ∧
    (let c : Copy := ⟨0, 0, 0, 1, 0, 0, false, [], [], .placement⟩
     let s := s0.setCopy 0 c
     assoc? s.mem.copies 0 = some c ∧ c.readSent = false ∧ c.ptr < 32768 ∧ c.unacked.contains 9 = false) := by decide +kernel

/-- One granule of memory: world-physical granule 0 of the Open world is device-physical granule 0, readable and writable, on channel 0. -/
def mapped0 : State :=
  let s := ((s0.wr R.BT_COUNT 1).setBt 0 0x8000000).dramPut 0 0 fullMask 3
  { s with boot := { s.boot with s2Open := (0, 1) } }

/-- A state with a unit's votes for power and clock set. -/
def unitOn (s : State) : State := (s.wr R.PV_UNIT_OPEN 0xffffffff).wr R.CV_UNIT_OPEN 0xffffffff

/-- PortCommands: ports, controllers and halves that are off and on; a descriptor that can be read; bus-off; addresses inside and outside. -/
theorem wit_PortCommands :
    s0.portMode 0 = 0 ∧ (unitOn (s0.wr (R.PORT_CFG 0 0) 1)).portMode 0 ≠ 0 ∧
    ringGap 16 0 1 ≠ 0 ∧ ringGap 16 0 0 = 0 ∧
    (mapped0.bufRead .port false 64 32).isSome = true ∧ (mapped0.bufRead .port false 0x200000 32).isSome = false ∧
    (s0.port 0).sending = none ∧ s0.txClass 0 = none ∧ (s0.port 0).txs = [] ∧ s0.portSealed 0 = false ∧
    s0.canOn 0 = false ∧ (unitOn (s0.wr (R.CC_CFG 0) 1)).canOn 0 = true ∧ (s0.canc 0).busOff = false ∧ s0.holder = true ∧
    s0.canRingRecs 0 = [] ∧ lowestOffer (s0.canOffers 0).1 = none ∧
    ((s0.setCanc 0 { s0.canc 0 with busOff := true }).canc 0).busOff = true ∧ s0.flagAt (R.CC_CFG 0) 1 = false ∧
    s0.halfOn 0 = false ∧ (unitOn (s0.wr (R.PH_CFG 0) 1)).halfOn 0 = true ∧
    pcieAllowed 0x40 = true ∧ isMsiDoor 0x40 = false ∧ isMsiDoor 0x3e00001e0240 = true ∧ pcieAllowed 0x3e0000000000 = false ∧
    isPause (List.replicate 60 0) = false ∧
    (let s := (unitOn ((s0.wr (R.CC_CFG 0) 0x10001).wr (R.PIN_CFG 0 0) 0x2003)).setDom 72 .up
     let t : State := { s with tw := { s.tw with outputs := true } }
     s.canRxOn 0 = true ∧ s0.canRxOn 0 = false ∧ s.canTxOn 0 = false ∧ t.canTxOn 0 = true) ∧
    (let s := unitOn (s0.wr (R.PH_CFG 0) 0xb)
     s.halfOn 0 = true ∧ s.linkFits 0 5 8 = true ∧ s.linkFits 0 6 8 = false) ∧
    mapped0.mapped false true 0x40 4 = true ∧ mapped0.mapped false true 0x200000 4 = false ∧
    ((ticking.gclCatch 0 256).port 0).sending = none ∧ (ticking.gclCatch 0 256).portMode 0 = 0 ∧
    (let s := unitOn ((s0.wr (R.PORT_CFG 0 0) 1).wr (R.PORT_STATE 0 0) 1)
     let g : NetFrame := { bytes := List.replicate 60 0, entry := none, stamp := true, tag := 5 }
     let s := s.setPort 0 { s.port 0 with queues := [(0, [g])] }
     let r := s.gclCatch 0 256
     (r.port 0).sending = none ∧ r.portMode 0 ≠ 0 ∧ r.flagAt (R.PORT_STATE 0 0) 0 = true ∧ r.txClass 0 = some (0, g)) := by decide +kernel

/-- PortCommands: a device in reset; a receiver's errors; a doorbell of four bytes, of fewer and with one left out; an address of no range; a write of nothing; a bus-off controller that recovers. -/
theorem wit_PortCommands_more :
    s0.boot.aon = true ∧ ({ s0 with boot := { s0.boot with aon := false } } : State).boot.aon = false ∧
    isPause (List.replicate 59 0) = false ∧ 9212 < (List.replicate 9213 (0 : Byte)).length ∧
    (let f : CanFrame := ⟨0, false, false, false, 0, false, 0, [], 0⟩
     f.error = 0 ∧ ({ f with error := 2 } : CanFrame).error ≠ 0 ∧ ({ f with error := 1 } : CanFrame).error = 1) ∧
    (let s := s0.setCanc 0 { s0.canc 0 with busOff := true, recovering := true }
     (s.canc 0).busOff = true ∧ (s.canc 0).recovering = true ∧ ((s.guardBreak 0x1f).canc 0).busOff = true) ∧
    doorOnly 0x3e00001e0240 4 = true ∧ doorOnly 0x3e00001e0242 2 = true ∧ doorOnly 0x3e00001e0242 4 = false ∧ doorOnly 0x40 4 = false ∧
    rangeOf 0x110000000000 = .nothing ∧ rangeOf 0x10ffffffffff = .window ∧ rangeOf 0x40 = .dram ∧
    ([some 1, none] : List (Option Byte)) ≠ [] ∧ none ∈ ([some 1, none] : List (Option Byte)) ∧
    (unitOn (s0.wr (R.PH_CFG 0) 1)).pcieSealed 0 = false := by decide +kernel

/-- A state whose Lantern mailbox 0 is BUSY with a request of a service code. -/
def asked (code : W32) : State :=
  let s := s0.wr (R.lantern_MB 0 0) code
  { s with lan := { s.lan with mbox := [(0, { st := 1 })] } }

/-- LanternCommands: samples that stop the device and that do not, watchdogs, wear, and a request of each kind of answer. -/
theorem wit_LanternCommands :
    s0.boot.step < 2 ∧
    (let s : State := { s0.wr R.LN_THERM 0x6900 with boot := { s0.boot with step := 4 } }
     let hot := fun (u : State) => u.thermals.any (fun p => decide (u.tripPoint ≤ p.2))
     let x := s.sampleDue.sampleTaken [⟨0, true, 1000⟩]
     let y := s.sampleDue.sampleTaken [⟨0, true, 160⟩]
     2 ≤ s.boot.step ∧ hot y = false ∧ hot x = true ∧ x.lan.tripSeen = false ∧
     (State.sampleTaken { s with lan := { s.lan with tripSeen := true } } [⟨0, true, 1000⟩]).lan.tripSeen = true) ∧
    [(⟨207, true, 0⟩ : SensorReading)].any s0.stopsDevice = true ∧ [(⟨207, true, 1⟩ : SensorReading)].any s0.stopsDevice = false ∧
    (s0.wr (R.WD_CFG 0) 0x40000).flagAt (R.WD_CFG 0) 18 = true ∧ s0.flagAt (R.WD_CFG 0) 18 = false ∧
    s0.lan.wdDue.contains 0 = false ∧ s0.inBook 1 0 0 = false ∧ s0.haltedTwice 8 0 0 = false ∧
    s0.fld R.LN_WEAR 0 16 < assocD [(0, 1)] 0 0 ∧
    (asked 1).lnNext (.reg 0) = true ∧ descNum ((asked 1).lnReq (.reg 0)) 0 1 = 1 ∧ s0.lnNext (.reg 0) = false ∧
    descNum ((asked 9).lnReq (.reg 0)) 0 1 = 9 ∧ descNum ((asked 9).lnReq (.reg 0)) 8 4 ≠ 0x52535421 ∧
    (asked 6).lan.upd = none ∧ s0.svcBuf false true 0 65536 = false ∧ mapped0.svcBuf false true 0 65536 = true ∧
    s0.lnPortOn = false ∧
    (let s : State := { s0.wr R.LN_PORT 2 with lan := { s0.lan with running := true } }
     s.lnPortOn = true ∧ s.lan.portSrc = none) := by decide +kernel

/-- LanternCommands: a device in reset, a kick with its write pending, a doorbell, a datagram to this address and port and one to another, a sensor that stops the device. -/
theorem wit_LanternCommands_more :
    s0.boot.aon = true ∧ ({ s0 with boot := { s0.boot with aon := false } } : State).boot.aon = false ∧
    ((s0.wr (R.WD_CFG 0) 0x40000).guardBreak 0x22).flagAt (R.WD_CFG 0) 18 = true ∧ (s0.guardBreak 0x22).flagAt (R.WD_CFG 0) 18 = false ∧
    ((s0.guardBreak 0x22).lnMb 0).st ≠ 1 ∧ (((asked 1).guardBreak 0x22).lnMb 0).st = 1 ∧
    (let h := (asked 1).guardBreak 0x22
     allMb.find? (fun x => (h.lnMb x.val).st == 1) = some 0 ∧ lnKnown (descNum (h.lnReq (.reg 0)) 0 1) = true) ∧
    (let s : State := { s0.wr R.LN_PORT 0x50002 with lan := { s0.lan with running := true } }
     let h : UdpHead := ⟨⟨1, 2, 3⟩, 0, 5⟩
     s.lnPortOn = true ∧ h.ip = s.rd R.LN_IP ∧ h.port.toNat = s.fld R.LN_PORT 16 16 ∧ (6 : W16).toNat ≠ s.fld R.LN_PORT 16 16 ∧
     (List.replicate 64 (0 : Byte)).length = 64) ∧
    (let s : State := { asked 10 with lan := { (asked 10).lan with portSrc := some ⟨1, 2, 3⟩ } }
     s.lnNext .port = true) := by decide +kernel

/-- A state whose Keeper mailbox 0 is BUSY with a request of a service code. -/
def keeperAsked (s : State) (code : W32) : State :=
  let s := s.wr (R.keeper_MB 0 0) code
  { s with keeper := { s.keeper with mbox := [(0, { st := 1 })] } }

/-- KeeperAndBoot: a mailbox of each world, a request, buffers that can and cannot be read, and each boot step. -/
theorem wit_KeeperAndBoot :
    s0.kpSealed 0 = false ∧ (s0.wr R.KP_MBW 1).kpSealed 0 = true ∧ (s0.kpMb 0).st ≠ 1 ∧
    (let s := keeperAsked mapped0 3
     (s.kpMb 0).st = 1 ∧ descNum (s.kpReq 0) 0 1 = 3 ∧ s.keeper.faulted = false ∧ (s.kpRead 0 64 48).isSome = true ∧
     s.kpOut 0 128 96 = true ∧ (s.kpRead 0 0x1fffff 48).isSome = false) ∧
    (let u := keeperAsked mapped0 3
     (List.range 16).find? (fun i => (u.kpMb i).st == 1) = some 0 ∧ descNum (u.kpReq 0) 0 1 = 3) ∧
    s0.boot.step < 2 ∧ s0.boot.step ≠ 6 ∧ s0.boot.step ≠ 10 ∧ s0.boot.step ≠ 12 ∧ s0.lan.holdBoot = false ∧ s0.boot.aon = true := by decide +kernel

/-- KeeperAndBoot: a device in reset, a mailbox of each world with a write pending, boot steps 4, 6, 10 and 12. -/
theorem wit_KeeperAndBoot_more :
    ({ s0 with boot := { s0.boot with aon := false } } : State).boot.aon = false ∧
    (s0.guardBreak 0x20).kpSealed 0 = false ∧ ((s0.wr R.KP_MBW 1).guardBreak 0x20).kpSealed 0 = true ∧
    ((s0.guardBreak 0x20).kpMb 0).st ≠ 1 ∧ (((keeperAsked mapped0 3).guardBreak 0x20).kpMb 0).st = 1 ∧
    (let s : State := { s0 with boot := { s0.boot with step := 4 } }
     s.boot.step = 4 ∧ s.lan.holdBoot = false ∧ s.boot.aon = true) ∧
    ({ s0.boot with step := 6 } : BootState).step = 6 ∧ ({ s0.boot with step := 10 } : BootState).step = 10 ∧
    ({ s0.boot with step := 12 } : BootState).step = 12 := by decide +kernel

/-- ClocksAndRegisters: multiplexers at rest and switching, a level change waiting, a domain in each state, registers with and without a row. -/
theorem wit_ClocksAndRegisters :
    s0.flagAt R.CLK_LOCK 8 = false ∧ (s0.wr R.CLK_LOCK 0x100).flagAt R.CLK_LOCK 8 = true ∧
    (List.range 8).find? s0.baySealed = none ∧ s0.clk.swAnt = none ∧
    ({ s0.clk with swAnt := some true } : ClkState).swAnt = some true ∧ s0.muxHung true = true ∧ (s0.wr R.CLK_LOCK 0x23).muxHung true = false ∧ (s0.wr R.CLK_LOCK 0x23).muxHung false = false ∧
    s0.flagAt R.PWR_LEVEL 6 = false ∧ (s0.wr R.PWR_LEVEL 0x40).flagAt R.PWR_LEVEL 6 = true ∧
    (s0.setDom 0 (.dropping 1)).dom 0 = .dropping 1 ∧ (s0.setDom 0 (.dropWake 0 1)).dom 0 = .dropWake 0 1 ∧
    (s0.setDom 0 (.waking 1)).dom 0 = .waking 1 ∧ (s0.setDom 72 .up).dom 72 = .up ∧
    (rowAt 0 0xffc).isNone = true ∧ assoc? s0.guard 0 = none ∧
    (s0.regRead q0 0 0).stall = false := by decide +kernel

/-- ClocksAndRegisters: a device in reset, a clock source with the other multiplexer at rest, a vote to a word of votes and to another word, a row with and without a guard pair, a pending pair, domains of each kind. -/
theorem wit_ClocksAndRegisters_more :
    s0.boot.aon = true ∧ ({ s0 with boot := { s0.boot with aon := false } } : State).boot.aon = false ∧
    (s0.guardBreak 0x24).flagAt R.CLK_LOCK 8 = false ∧ (s0.guardBreak 0x24).flagAt R.CLK_LOCK 9 = false ∧
    ((s0.wr R.CLK_LOCK 0x200).guardBreak 0x24).flagAt R.CLK_LOCK 9 = true ∧
    (2 : W32).getLsbD 1 ≠ ((s0.guardBreak 0x24).rd R.CLK_SRC).getLsbD 1 ∧ (List.range 8).find? ((s0.wr R.WD_BAY 1).guardBreak 0x24).baySealed = some 0 ∧
    (s0.voteTo R.PV_BAY 0 q0).isSome = true ∧ s0.voteTo R.CLK_SRC 0 q0 = none ∧
    (rowAt 0x24 0).isSome = true ∧ ((rowAt 0x24 0).map (·.gp)) ≠ some 0 ∧ ((rowAt (R.LN_WEAR / 0x1000) (R.LN_WEAR % 0x1000)).map (·.gp)) = some 0 ∧
    (let p : GuardPend := ⟨0, 0, q0, 0, 1500000⟩
     assoc? ({ s0 with guard := [(0x24, p)] } : State).guard 0x24 = some p) ∧
    (92 : Fin 95).val ≥ 80 ∧ (72 : Fin 95).val < 80 ∧ (71 : Fin 95).val < 72 := by decide +kernel
/-- Every statement over Fetched: core 0 reaches an instruction. -/
theorem wit_Fetched : Fetched 0 sc (fetched sc) :=
  ⟨.inl (by decide +kernel), by decide +kernel, rfl⟩

/-- The same in supervisor code, for the privileged clauses. -/
theorem wit_Fetched_sup : Fetched 0 sup (fetched sup) ∧ ((fetched sup).core 0).sup = true ∧ ((fetched sc).core 0).sup = false :=
  ⟨⟨.inl (by decide +kernel), by decide +kernel, rfl⟩, by decide +kernel, by decide +kernel⟩

/-- DivisionSaturates and IntegerImmediateForms: an instruction of the list that is well formed, and shifts by 31 and by 32. -/
theorem wit_Integer : integerInstr 0 (.div 0 1 2 3) = true ∧ (Instr.div 0 1 2 3).wf = true ∧ (31 : BitVec 6).toNat < 32 ∧ 32 ≤ (32 : BitVec 6).toNat := by
  decide +kernel

/-- RegisterFiles: X0 and another register. -/
theorem wit_RegisterFiles : (1 : Reg) ≠ 0 ∧ (2 : Reg) ≠ 1 := by decide

/-- LoadInstructions: a load that completes, one that takes an exception (no page), one that waits (its line is busy). -/
theorem wit_LoadInstructions :
    kind ((fetched (scm 0x1000 0)).load 0 0x1000 8 false) = 0 ∧ ((left ((fetched (scm 0x1000 0)).load 0 0x1000 8 false)).core 0).run = .running ∧
    kind ((fetched (scm 0x200000 0)).load 0 0x200000 8 false) = 1 ∧
    kind ((fetched ((scm 0x1000 0).setTxn 64 (some { s0.txnOf 64 .rdX (.core 1 false) with st := .mem }))).load 0 0x1000 8 false) = 2 := by
  decide +kernel

/-- StoreInstructions: the same for stores; a store waits while 48 older ones do. -/
theorem wit_StoreInstructions :
    kind ((fetched (scm 0x1000 0)).store 0 0x1000 8 false 5) = 0 ∧ kind ((fetched (scm 0x200000 0)).store 0 0x200000 8 false 5) = 1 := by
  decide +kernel

/-- AtomicInstructions: an exchange that completes and a misaligned one. -/
theorem wit_AtomicInstructions :
    kind ((fetched (scm 0x1000 0)).amo 0 0x1000 8 (fun _ => some 1)) = 0 ∧ kind ((fetched (scm 0x1001 0)).amo 0 0x1001 8 (fun _ => some 1)) = 1 := by
  decide +kernel

/-- Branches: a branch taken and one not taken, and a target that is no word's. -/
theorem wit_Branches : ((fetched (scx 1 1)).core 0).xr 1 = ((fetched (scx 1 1)).core 0).xr 2 ∧
    ((fetched (scx 1 2)).core 0).xr 1 ≠ ((fetched (scx 1 2)).core 0).xr 2 ∧ ((fetched (scx 8 0)).core 0).xr 1 + (0 : BitVec 16).signExtend 64 = 8 ∧
    (((fetched (scx 9 0)).core 0).xr 1 + (0 : BitVec 16).signExtend 64).toNat % 4 ≠ 0 := by decide +kernel

/-- FloatRounding and FusedMultiplyAdd: the rounding fields 0, 5 and 6. -/
theorem wit_FloatRounding : ((fetched sc).core 0).roundOf 0 = some 0 ∧ ((fetched sc).core 0).roundOf 5 = some 4 ∧ ((fetched sc).core 0).roundOf 6 = none := by
  decide +kernel

/-- NaNResults: a quiet and a signalling NaN. -/
theorem wit_NaNResults : (fUnpack false 0x7ff8000000000000).isN = true ∧ (fUnpack false 0x7ff0000000000001).isS = true := by decide +kernel

/-- VectorLaneOperations and VectorOtherOperations: the types and lanes at the edges of their ranges. -/
theorem wit_Vector : (2 : BitVec 3).toNat ≤ 2 ∧ 2 < (3 : BitVec 3).toNat ∧ (1 : BitVec 3).toNat ≤ 1 ∧ 1 < (2 : BitVec 3).toNat ∧
    (3 : BitVec 5).toNat < 4 ∧ 4 ≤ (4 : BitVec 5).toNat ∧ (1 : BitVec 2).toNat ≤ 1 ∧ 2 < (3 : BitVec 2).toNat := by decide

/-- SystemRegisters: FPSTAT is reached from user code, EVEC is not; a number from 0xC00 on is none's. -/
theorem wit_SystemRegisters :
    sysLevel 0x010 = some 0 ∧ ((fetched sc).core 0).mayReach 0 = true ∧ sysReadOnly 0x010 = false ∧
    ((fetched sc).core 0).mayReach 1 = false ∧ 0xc00 ≤ (0xc00 : BitVec 12).toNat ∧
    (((fetched sc).sysRead 0 0x010).2.core 0).run = .running ∧ (((fetched sc).sysWrite 0 0x010 0).core 0).run = .running := by decide +kernel

/-- FencesAndCalls: a fence that orders stores before loads and one that does not; a drain that answers; a return from a handler and one outside. -/
theorem wit_FencesAndCalls :
    ((6 : BitVec 4).getLsbD 1 && (6 : BitVec 4).getLsbD 2) = true ∧ ((2 : BitVec 4).getLsbD 1 && (2 : BitVec 4).getLsbD 2) = false ∧
    kind ((fetched sc).sqDrainAll 0) = 0 ∧ ((left ((fetched sc).sqDrainAll 0)).core 0).run = .running ∧
    ((fetched sup).core 0).eretCause ≠ 0 ∧
    (let s := withCore { c0 with sup := true, bankO := { c0.bankO with act := 9, ml := 9 } }
     ((fetched s).core 0).sup = true ∧ ((fetched s).core 0).eretCause = 0) := by decide +kernel

/-- Maintenance: a line operation and a whole one that answer, in supervisor code. -/
theorem wit_Maintenance :
    kind ((fetched (scm 0x1000 0)).cmoLine 0 0x1000 true false) = 0 ∧ kind ((fetched sup).clinvSw 0 0) = 0 ∧
    kind ((fetched (scm 0x1000 0)).zeroLine 0 0x1000) = 0 := by decide +kernel

/-- A core whose memory holds a descriptor of one input at 0x1000: two breakpoints at 0x2000 and two values at 0x3000. -/
def tabled : State :=
  let s := scm 0x1000 0
  let put := fun (s : State) (pa v : Nat) => s.writePa pa 0xff (BitVec.ofNat 512 v) false
  put (s.writePa 0x1000 fullMask (BitVec.ofNat 512 (1 + 2 * 2 ^ 32 + 0x2000 * 2 ^ 128 + 0x3000 * 2 ^ 320)) false) 0x2000 0

/-- TableInterpolation: a descriptor whose eight words are read, and an address that is no line's. -/
theorem wit_TableInterpolation :
    kind ((fetched tabled).loadWords 0 0x1000 8) = 0 ∧ ((0x1000 : W64).toNat % 64 = 0) ∧ ((0x1008 : W64).toNat % 64 ≠ 0) := by decide +kernel

/-- BlockOperations: aligned and misaligned operands. -/
theorem wit_BlockOperations : ((fetched (scx 8 16)).core 0).xr 1 = 8 ∧ (8 : W64).toNat % 8 = 0 ∧ (9 : W64).toNat % 8 ≠ 0 := by decide +kernel

/-- SamplesAndDone: a pair that exists, sample and stamp that can be read, a frame with a tick, a word that is no instruction. -/
theorem wit_SamplesAndDone :
    (2 : Reg) ≠ 0 ∧ (2 : Reg).toNat % 2 = 0 ∧ (3 : Reg).toNat % 2 = 1 ∧
    kind ((fetched (scm 0x1000 0)).sldReads 0 0x1000 0x1008) = 0 ∧
    ((left ((fetched (scm 0x1000 0)).sldReads 0 0x1000 0x1008)).core 0).run = .running ∧
    kind ((fetched (scm 0x1000 0)).pieces 0 0x1000 4 true .load) = 0 ∧
    (fetched sc).frameTime 0 = some 0 ∧
    (let s := twinned .standby
     (State.frameTime { s with bcn := { s.bcn with frame := 5 } } 0) = none) ∧
    sc.tickDue = false ∧ State.tickDue { ticking with tb := { ticking.tb with now := 500000 } } = true ∧
    (let s := withCore { c0 with run := .draining }
     (s.core 0).run = .draining ∧ s.tickDue = false ∧ kind (s.sqDrainAll 0) = 0) ∧
    sisDecode 0xffffffff = none ∧ sisDecode 0x04221800 ≠ none := by decide +kernel

/-- EscalationEntry: a core not in level 15, and an exception its mask level holds back. -/
theorem wit_EscalationEntry :
    (let s := withCore { c0 with sup := true, bankO := { c0.bankO with act := 12, ml := 12 } }
     (s.core 0).here.act ≠ 15 ∧ (illegalExc 0 0 s).level ≤ (s.core 0).here.ml.toNat) := by decide +kernel

/-- ExceptionEntry: the highest level, and a core that runs. -/
theorem wit_ExceptionEntry : 15 < 16 ∧ (sc.core 0).run = .running := by decide +kernel

/-- SafeAllReach: an Open and a Sealed bay. -/
theorem wit_SafeAllReach : s0.baySealed 0 = false ∧ (s0.wr R.WD_BAY 1).baySealed 0 = true ∧ (0 : Nat) ≠ R.SI_CTL := by decide +kernel

/-- SafeAllReach: no unit at reset holds DE past its end, and a unit that does. -/
theorem wit_SafeAllReach_tails :
    (∀ e ∈ (List.range 32), (s0.eng 0 e).su.deEnd.any (fun t => stampLe t s0.now) = false) ∧
    (let s := withEng { e0 with su := { e0.su with deEnd := some 0 } }
     (s.eng 0 0).su.deEnd.any (fun t => stampLe t s.now) = true) := by decide +kernel

/-- AntRegisterForms and the statements over AntReady: an engine that runs, at the last word of its SRAM, and in a slot. -/
theorem wit_AntReady : AntReady 0 0 ((withEng { e0 with pc := 0x3ffc }).bayDue 0) ∧ AntFree 0 0 ((withEng e0).bayDue 0) ∧
    AntReady 0 0 ((withEng { e0 with slot := some ⟨0, 16, false⟩ }).bayDue 0) := by
  refine ⟨⟨by decide +kernel, by decide +kernel, ?_, by decide +kernel, by decide +kernel⟩, ⟨⟨by decide +kernel, by decide +kernel, ?_, by decide +kernel, by decide +kernel⟩, by decide +kernel⟩,
    ⟨by decide +kernel, by decide +kernel, ?_, by decide +kernel, by decide +kernel⟩⟩
  · intro sl h
    have e : (((withEng { e0 with pc := 0x3ffc }).bayDue 0).eng 0 (0 : EngId).val).slot = none := by decide +kernel
    exact absurd (e.symm.trans h) (by simp)
  · intro sl h
    have e : (((withEng e0).bayDue 0).eng 0 (0 : EngId).val).slot = none := by decide +kernel
    exact absurd (e.symm.trans h) (by simp)
  · intro sl h
    have e : (((withEng { e0 with slot := some ⟨0, 16, false⟩ }).bayDue 0).eng 0 (0 : EngId).val).slot = some ⟨0, 16, false⟩ := by decide +kernel
    have g := Option.some.inj (e.symm.trans h)
    rw [← g]

/-- AntMemory: an address that is good, one that is not aligned and one outside both memories. -/
theorem wit_AntMemory : accessFault 0x3ffc 4 false = none ∧ (accessFault 2 4 false).isSome = true ∧ (accessFault 0x8000 4 false).isSome = true := by
  decide +kernel

/-- AntStoreFrame: both memories at reset have the form. -/
theorem wit_AntStoreFrame : Memory.wf (s0.eng 0 0).sram = true ∧ Memory.wf (s0.bay 0).sram = true := by decide +kernel

/-- AntPinsAndPosts: no pin owned at reset; a shift unit with room and one full; a queue of posts with room. -/
theorem wit_AntPinsAndPosts :
    (withEng e0).engOwns 0 0 0 = false ∧ ((withEng e0).eng 0 0).su.tx.length < 16 ∧ ((withEng e0).eng 0 0).su.rx = [] ∧
    ((withEng e0).bay 0).posts.length < 64 ∧ (withEng e0).postPoint 0 0 0 = none := by decide +kernel

/-- AntEvents: a good stack and a bad one, an event that is due, and the edges of the configurable events. -/
theorem wit_AntEvents :
    ((withEng e0).wr (R.ENG_CFG 0 0) 0x2000000).stackOk 0 0 0x1000 = true ∧ (withEng e0).stackOk 0 0 0x1000 = false ∧ e0.takeable 0 = none ∧
    (({ e0 with pend := [(9, 5)], evcfg := [(9, (3, true))] } : Engine).takeable 0) = some (9, 3, 5) ∧ 2 ≤ (2 : BitVec 4).toNat ∧ (10 : BitVec 4).toNat ≤ 10 := by
  decide +kernel

/-- AntFaultEntry: an engine at LEVEL 8 and one below. -/
theorem wit_AntFaultEntry : ({ e0 with level := 8 } : Engine).level = 8 ∧ e0.level ≠ 8 := by decide +kernel

/-- AntStoreFrame: bay SRAM with no earlier write of this clock, and with one of a higher logical engine to the same byte. -/
theorem wit_AntStoreFrame_order :
    (let s := withEng e0
     (0x10000 : Nat) ≤ 0x10000 ∧ ((s.bay 0).wrAt == s.clockNow && (s.bay 0).wrBy.any (fun q => q.1 == 0 && decide ((s.eng 0 0).logical < q.2))) = false) ∧
    (let s := withEng e0
     let s := s.setBay 0 { s.bay 0 with wrAt := s.clockNow, wrBy := [(0, 3)] }
     ((s.bay 0).wrAt == s.clockNow && (s.bay 0).wrBy.any (fun q => q.1 == 0 && decide ((s.eng 0 0).logical < q.2))) = true) ∧
    (0x3fff : Nat) < 0x4000 := by decide +kernel

/-- AntEvents and AntFaultEntry: a stack that is bad for its alignment and one that is bad for its place, an engine in a delay slot. -/
theorem wit_AntEvents_stack :
    (((e0.setReg 15 0x1002).reg 15).toNat % 4 ≠ 0) ∧ ((e0.setReg 15 0x1000).reg 15).toNat % 4 = 0 ∧
    ((withEng (e0.setReg 15 0x1002)).wr (R.ENG_CFG 0 0) 0x2000000).stackOk 0 0 0x1002 = false ∧
    ((withEng (e0.setReg 15 0x1000)).wr (R.ENG_CFG 0 0) 0x2000000).stackOk 0 0 0x1000 = true ∧
    ({ e0 with slot := some ⟨0, 16, false⟩ } : Engine).slot.isSome = true ∧ e0.slot = none := by decide +kernel

end Sys2Proof.Tests
end

section
/-! R303: an escalation writes bank 15 of the world in which the core runs and is journaled with type ESCALATE. In order: what a record leaves in Lantern's RAM ring, what entry at a level writes, and the exception that finds its level masked. -/

namespace Sys2Proof.Machine

/-! ### The newest record of the RAM ring -/

theorem MemStep.lan {s t : State} (h : MemStep s t) : t.lan = s.lan := by rw [h.frame]

theorem ringWrite_lan (s : State) (r : JRec) : (s.ringWrite r).lan = s.lan := by
  unfold State.ringWrite
  dsimp only
  split <;> simp [(naWriteIn_step s _ 32 (recWord r)).lan]

theorem sealedRingWrite_lan (s : State) (r : JRec) : (s.sealedRingWrite r).lan = s.lan := by
  unfold State.sealedRingWrite
  dsimp only
  split <;> simp [(naWriteIn_step s _ 32 (recWord r)).lan]

theorem linkSend_lan (s : State) (m : LinkMsg) : (s.linkSend m).lan = s.lan := by
  unfold State.linkSend
  split <;> rfl

/-- The RAM ring once a record has entered it: the newest 8,192 records (R458). -/
def ramWith (l : List JRec) (r : JRec) : List JRec := (l ++ [r]).drop ((l ++ [r]).length - 8192)

/-- The ring drops records from its front only: the newest stands last. -/
theorem exists_ramWith_eq_append (l : List JRec) (r : JRec) : ∃ m, ramWith l r = m ++ [r] := by
  have h : (l ++ [r]).length - 8192 ≤ l.length := by
    rw [List.length_append, List.length_singleton]
    omega
  exact ⟨_, List.drop_append_of_le_length h⟩

theorem mem_ramWith_newest (l : List JRec) (r : JRec) : r ∈ ramWith l r := by
  obtain ⟨m, hm⟩ := exists_ramWith_eq_append l r
  simp [hm]

/-- One more record does not push the newest out. -/
theorem mem_ramWith_second (l : List JRec) (r q : JRec) : r ∈ ramWith (ramWith l r) q := by
  obtain ⟨m, hm⟩ := exists_ramWith_eq_append l r
  have h : (m ++ ([r] ++ [q])).length - 8192 ≤ m.length := by
    rw [List.length_append, List.length_append, List.length_singleton, List.length_singleton]
    omega
  rw [hm, ramWith, List.append_assoc, List.drop_append_of_le_length h]
  simp

theorem lanRam_ram (s : State) (r : JRec) : (s.lanRam r).lan.ram = ramWith s.lan.ram r := by
  unfold State.lanRam
  extract_lets l lan u
  have hu : u.lan.ram = ramWith s.lan.ram r := by simp only [u, l, ramWith]
  clear_value u
  split
  · exact hu
  · exact hu

theorem lanReceive_ram (s : State) (r : JRec) : (s.lanReceive r).2.lan.ram = ramWith s.lan.ram r := by
  rw [← lanRam_ram]
  unfold State.lanReceive State.lanAdmit
  dsimp only
  split
  · rfl
  · split
    · rfl
    · split <;> rfl

theorem deliver_ram (s : State) (r : JRec) (full : Option JRec) : (s.deliver r full).2.lan.ram = ramWith s.lan.ram r := by
  unfold State.deliver
  dsimp only
  rw [lanReceive_ram]
  split
  · rw [linkSend_lan]
    cases full with
    | none => rw [ringWrite_lan]
    | some f => rw [sealedRingWrite_lan, ringWrite_lan]
  · rfl

/-- A journaled record stands in the RAM ring, also where an NVM_THROTTLE record follows it (R458). -/
theorem jlogFull_mem_ram (s : State) (stamp : Stamp) (st u ty : Nat) (p : BitVec 96) (full : Option (BitVec 96)) :
    s.mkRec stamp st u ty p ∈ (s.jlogFull stamp st u ty p full).lan.ram := by
  unfold State.jlogFull
  dsimp only
  split
  · rw [deliver_ram, State.flag_lan, deliver_ram]
    exact mem_ramWith_second _ _ _
  · rw [deliver_ram]
    exact mem_ramWith_newest _ _

/-! ### What entry at a level writes -/

theorem CoreSt.Counted.sealed {c d : CoreSt} (h : c.Counted d) : d.sealed = c.sealed := by rw [show d = _ from h]

theorem bitIf_eq_zero_or_two_pow (b : Bool) (i : Nat) : bitIf b i = 0 ∨ bitIf b i = 2 ^ i := by cases b <;> simp [bitIf]

/-- The fields of ESTAT do not overlap (R295). -/
theorem CoreSt.estat_fields (c : CoreSt) (cause sub olvl : Nat) (blk : Bool) :
    let st := (c.estat cause sub olvl blk).toNat
    st % 256 = cause % 256 ∧ st / 2 ^ 8 % 256 = sub % 256 ∧ st / 2 ^ 27 % 16 = olvl % 16 := by
  have hml := c.here.ml.isLt
  have hact := c.here.act.isLt
  have hw := bitIf_eq_zero_or_two_pow c.sealed 24
  have hp := bitIf_eq_zero_or_two_pow c.sup 25
  have hb := bitIf_eq_zero_or_two_pow blk 26
  simp only [CoreSt.estat, BitVec.toNat_ofNat]
  omega

/-- EPC holds no bits below 2 (R295). -/
theorem putBits_low_two_clear (x : W64) : putBits x 0 2 0 = x &&& 0xfffffffffffffffc := by
  simp [putBits]

/-- Entry writes EPC, ESTAT and EADDR of its level (R292). -/
theorem Bank.enter_level (b : Bank) (lvl : Nat) (epc estat eaddr : W64) :
    let d := b.enter lvl epc estat eaddr
    assocD d.epc lvl 0 = epc &&& 0xfffffffffffffffc ∧ assocD d.estat lvl 0 = estat ∧ assocD d.eaddr lvl 0 = eaddr := by
  simp [Bank.enter, putBits_low_two_clear]

/-- Entry into the world in which the core runs stays in that world and writes its bank (R292). -/
theorem enter_own_world {s : State} {k : CoreId} {w : Bool} (hw : w = (s.core k).sealed) (lvl cause sub olvl : Nat) (epc eaddr : W64) (blk : Bool) :
    let t := s.enter k w lvl cause sub olvl epc eaddr blk
    (t.core k).sealed = w ∧ (t.core k).here = (s.core k).here.enter lvl epc ((s.core k).estat cause sub olvl blk) eaddr ∧ t.lan = s.lan := by
  subst hw
  cases h : (s.core k).sealed <;>
    simp [State.enter, State.toWorld, CoreSt.here, CoreSt.bank, CoreSt.setBank, h]

/-! ### The masked exception -/

@[simp] theorem CoreSt.setTr_sealed (c : CoreSt) (w : Bool) (b : TrBank) : (c.setTr w b).sealed = c.sealed := by
  cases w <;> rfl

@[simp] theorem CoreSt.setTr_here (c : CoreSt) (w : Bool) (b : TrBank) : (c.setTr w b).here = c.here := by
  cases w <;> rfl

/-- An escalation: ESCALATE is journaled, then the core enters level 15 of its own world with CAUSE 0x10 (R303). -/
def State.escalate (s : State) (k : CoreId) (e : Exc) : State :=
  let u := s.escalateLog k e
  (u.setCore k ((u.core k).ev 0x21 1)).enter k (s.core k).sealed 15 0x10 e.cause e.level e.epc e.eaddr e.blk

/-- Journaling ESCALATE leaves the core in its world. -/
theorem escalateLog_sealed (s : State) (k : CoreId) (e : Exc) : ((s.escalateLog k e).core k).sealed = (s.core k).sealed :=
  ((jlogFull_step s _ _ _ _ _ _).core k).sealed

/-- ESCALATE stands in Lantern's RAM ring, under the sequence number that was next (R51, R303). -/
theorem escalateLog_mem_ram (s : State) (k : CoreId) (e : Exc) :
    ∃ r ∈ (s.escalateLog k e).lan.ram, r.type = 0x0900 ∧ r.seq = s.jrn.seq :=
  ⟨_, jlogFull_mem_ram s _ _ _ _ _ _, rfl, rfl⟩

/-- TR_LAST_WPA of the core's world as a fault leaves it before it is taken (R349). -/
def State.noteWpa (s : State) (k : CoreId) (wpa : Option W64) : State :=
  match wpa with
  | some v => s.setCore k ((s.core k).setTr (s.core k).sealed { (s.core k).tr (s.core k).sealed with lastWpa := v })
  | none => s

@[simp] theorem noteWpa_sealed (s : State) (k : CoreId) (wpa : Option W64) : ((s.noteWpa k wpa).core k).sealed = (s.core k).sealed := by
  cases wpa <;> simp [State.noteWpa]

@[simp] theorem noteWpa_here (s : State) (k : CoreId) (wpa : Option W64) : ((s.noteWpa k wpa).core k).here = (s.core k).here := by
  cases wpa <;> simp [State.noteWpa]

@[simp] theorem noteWpa_jrn (s : State) (k : CoreId) (wpa : Option W64) : (s.noteWpa k wpa).jrn = s.jrn := by
  cases wpa <;> rfl

/-- A synchronous exception whose level is masked escalates where ACT is below 15 (R289, R303). -/
theorem take_eq_escalate {s : State} {k : CoreId} {e : Exc} (hact : (s.core k).here.act ≠ 15) (hml : e.level ≤ (s.core k).here.ml.toNat) :
    s.take k e = (s.noteWpa k e.wpa).escalate k e := by
  have hact' : ((s.noteWpa k e.wpa).core k).here.act ≠ 15 := by rwa [noteWpa_here]
  have hml' : ¬ ((s.noteWpa k e.wpa).core k).here.ml.toNat < e.level := by rwa [noteWpa_here, Nat.not_lt]
  exact (if_neg hact').trans (if_neg hml')

/-- An escalation stays in its core's world, writes level 15 of that world's bank and is journaled. -/
theorem escalate_entry (s : State) (k : CoreId) (e : Exc) :
    let t := s.escalate k e
    let b := (t.core k).here
    let st := (assocD b.estat 15 0).toNat
    (t.core k).sealed = (s.core k).sealed ∧ st % 256 = 0x10 ∧ st / 2 ^ 8 % 256 = e.cause % 256 ∧ st / 2 ^ 27 % 16 = e.level % 16 ∧
    assocD b.epc 15 0 = e.epc &&& 0xfffffffffffffffc ∧ assocD b.eaddr 15 0 = e.eaddr ∧
    (∃ r ∈ t.lan.ram, r.type = 0x0900 ∧ r.seq = s.jrn.seq) := by
  let u := s.escalateLog k e
  let v := u.setCore k ((u.core k).ev 0x21 1)
  have hw : (s.core k).sealed = (v.core k).sealed := by simp [v, u, escalateLog_sealed]
  obtain ⟨hsealed, hbank, hlan⟩ := enter_own_world hw 15 0x10 e.cause e.level e.epc e.eaddr e.blk
  obtain ⟨hepc, hestat, headdr⟩ := (v.core k).here.enter_level 15 e.epc ((v.core k).estat 0x10 e.cause e.level e.blk) e.eaddr
  obtain ⟨hcause, hsub, holvl⟩ := (v.core k).estat_fields 0x10 e.cause e.level e.blk
  intro t b st
  have hb : b = (v.core k).here.enter 15 e.epc ((v.core k).estat 0x10 e.cause e.level e.blk) e.eaddr := hbank
  have hst : st = ((v.core k).estat 0x10 e.cause e.level e.blk).toNat := by simp only [st, hb, hestat]
  have ht : t.lan = u.lan := hlan
  rw [hst, hb, ht]
  exact ⟨hsealed, hcause, hsub, holvl, hepc, headdr, escalateLog_mem_ram s k e⟩

/-- Settles O58: entry at level 15 writes the bank of the world in which the core runs, and ESCALATE stands in the RAM ring. -/
theorem escalationEntry : Obligations.EscalationEntry := by
  unfold Obligations.EscalationEntry
  intro s k e hact hml
  rw [take_eq_escalate hact hml, ← noteWpa_sealed s k e.wpa, ← noteWpa_jrn s k e.wpa]
  exact escalate_entry _ k e

end Sys2Proof.Machine
end

section
/-! The step, words written out, the register files and the frame grid: what a command at the front of the queue is, what a register reads after a write (R235, R236), what a completed instruction leaves (R215), and how stamps and ticks lie (R9, R10). -/

namespace Sys2Proof.Machine

/-! ### Register files -/

/-- A register of a file reads as the last write of it, or as before a write of another. -/
theorem file_read_write {α : Type} (x : Vector α 32) (d r : Reg) (v z : α) :
    (x.setIfInBounds d.toNat v).toList.getD r.toNat z = if r = d then v else x.toList.getD r.toNat z := by
  by_cases h : r = d
  · subst h
    have hr : r.toNat < 32 := r.isLt
    rw [if_pos rfl]
    simp [List.getD_eq_getElem?_getD, hr]
  · have hne : d.toNat ≠ r.toNat := fun e => h (BitVec.eq_of_toNat_eq e.symm)
    rw [if_neg h]
    simp [List.getD_eq_getElem?_getD, hne]

/-- X0 reads 0. -/
@[simp] theorem CoreSt.xr_zero (c : CoreSt) : c.xr 0 = 0 := rfl

/-- A write of X0 is discarded. -/
@[simp] theorem CoreSt.setX_zero (c : CoreSt) (v : W64) : c.setX 0 v = c := rfl

theorem CoreSt.setX_of_ne {d : Reg} (h : d ≠ 0) (c : CoreSt) (v : W64) : c.setX d v = { c with x := c.x.setIfInBounds d.toNat v } := if_neg h

/-- A write of an X register changes the X file only. -/
theorem CoreSt.setX_frame (c : CoreSt) (d : Reg) (v : W64) : c.setX d v = { c with x := (c.setX d v).x } := by
  unfold CoreSt.setX
  split <;> rfl

theorem CoreSt.xr_setX_same {d : Reg} (h : d ≠ 0) (c : CoreSt) (v : W64) : (c.setX d v).xr d = v := by
  rw [CoreSt.setX_of_ne h, CoreSt.xr, if_neg h, file_read_write, if_pos rfl]

theorem CoreSt.xr_setX_other {d r : Reg} (h : r ≠ d) (c : CoreSt) (v : W64) : (c.setX d v).xr r = c.xr r := by
  by_cases hd : d = 0
  · rw [hd, CoreSt.setX_zero]
  · rw [CoreSt.setX_of_ne hd, CoreSt.xr, CoreSt.xr, file_read_write, if_neg h]

theorem CoreSt.fr_setF (c : CoreSt) (d r : Reg) (v : W64) : (c.setF d v).fr r = if r = d then v else c.fr r := file_read_write _ _ _ _ _

theorem CoreSt.vr_setV (c : CoreSt) (d r : Reg) (v : V128) : (c.setV d v).vr r = if r = d then v else c.vr r := file_read_write _ _ _ _ _

/-- Settles O40, from the frame of a write and the reads after it. -/
theorem registerFiles : Obligations.RegisterFiles := by
  unfold Obligations.RegisterFiles
  intro c d r v w
  have hx := c.setX_frame d v
  refine ⟨c.setX_zero v, c.xr_zero, fun h => CoreSt.xr_setX_same h c v, fun h => CoreSt.xr_setX_other h c v,
    by rw [CoreSt.fr_setF, if_pos rfl], fun h => by rw [CoreSt.fr_setF, if_neg h],
    by rw [CoreSt.vr_setV, if_pos rfl], fun h => by rw [CoreSt.vr_setV, if_neg h], ?_⟩
  rw [hx]
  exact ⟨rfl, rfl, rfl, rfl, rfl, rfl, rfl, rfl, rfl, rfl, rfl, rfl, rfl, rfl, rfl, rfl, rfl, rfl⟩

/-- Going on to an address changes the PC, the wait of a block operation and the event counters only. -/
theorem CoreSt.goesTo_counted (c : CoreSt) (pc : W64) : CoreSt.Counted { c with pc := pc, blkWait := false } (c.goesTo pc) := CoreSt.ev_counted _ _ _

/-- Settles O41: the other cores by `core_setCore_other`, the own core by what an event counted changes. -/
theorem retiredFrame : Obligations.RetiredFrame := by
  unfold Obligations.RetiredFrame
  intro s k j f t c
  have hk : t.core k = c.goesTo (canon (c.pc + 4)) := State.core_setCore_same _ _ _
  have hc : t.core k = { c with pc := canon (c.pc + 4), blkWait := false, evcnt := _, evsel := _, evOcc := _ } := hk.trans (c.goesTo_counted _)
  refine ⟨fun h => State.core_setCore_other _ _ _ _ h, ?_⟩
  rw [hc]
  refine ⟨rfl, rfl, rfl, rfl, rfl, rfl, rfl, rfl, rfl, rfl, rfl, rfl, rfl, rfl, rfl, rfl, rfl, rfl, rfl, rfl, rfl, rfl, rfl, rfl, rfl, rfl, fun _ => rfl, ?_⟩
  exact ⟨rfl, rfl, rfl, rfl, rfl, rfl, rfl, rfl, rfl, rfl, rfl, rfl, rfl, rfl, rfl, rfl, rfl, rfl, rfl⟩

/-! ### Stamps and the grid -/

/-- The two ways round are opposite, but for half the circle. -/
theorem stampDiff_swap {a b : Stamp} (h : (stampDiff a b).natAbs < 2 ^ 63) : stampDiff b a = -stampDiff a b := by
  unfold stampDiff at *
  have e : b - a = -(a - b) := by rw [BitVec.neg_sub, BitVec.add_comm, ← BitVec.sub_eq_add_neg]
  rw [e, BitVec.toInt_neg]
  apply Int.bmod_eq_of_le <;> omega

/-- A stamp lies 0 ns after itself. -/
@[simp] theorem stampDiff_self (a : Stamp) : stampDiff a a = 0 := by simp [stampDiff]

theorem advanceTo_now_of_neg {s : State} {t : Stamp} (h : stampDiff s.tb.now t < 0) : (s.advanceTo t).tb.now = t := by
  rw [State.advanceTo_now, if_pos (by simpa [stampLt] using h)]

theorem advanceTo_now_of_nonneg {s : State} {t : Stamp} (h : 0 ≤ stampDiff s.tb.now t) : (s.advanceTo t).tb.now = s.tb.now := by
  rw [State.advanceTo_now, if_neg (by simpa [stampLt] using h)]

/-- Core cycles never go back. -/
theorem coreSub_le_advanceTo (s : State) (t : Stamp) : s.coreSub ≤ (s.advanceTo t).coreSub := by
  unfold State.advanceTo
  split
  · exact Nat.le_add_right _ _
  · exact Nat.le_refl _

theorem tickAt_succ (s : State) (n : W64) : s.tickAt (n + 1) = s.tickAt n + BitVec.ofNat 64 s.period := by
  unfold State.tickAt
  rw [BitVec.add_mul, show (1 : W64) * _ = _ from BitVec.one_mul _, BitVec.add_assoc]

/-- Settles O15: by whether the stamp lies ahead. -/
theorem frameGrid : Obligations.FrameGrid := by
  unfold Obligations.FrameGrid
  intro s n t
  refine ⟨tickAt_succ s n, ?_, fun h => ?_, coreSub_le_advanceTo s t, State.advanceTo_regs s t, State.advanceTo_cores s t, State.advanceTo_mem s t⟩
  · split
    next h => exact advanceTo_now_of_neg h
    next h => exact advanceTo_now_of_nonneg (by omega)
  · by_cases hlt : stampDiff s.tb.now t < 0
    · rw [advanceTo_now_of_neg hlt, stampDiff_swap h, stampDiff_self]
      omega
    · rw [advanceTo_now_of_nonneg (by omega), stampDiff_self]
      omega

end Sys2Proof.Machine
end

section
/-! NaN operands (R251) and the rate of the timebase (R27). -/

namespace Sys2Proof.Machine

/-! ### NaN operands (R251) -/

/-- A NaN operand of a sum, a product or a quotient. -/
theorem fAddV_nan (sgl : Bool) (m : Nat) : ∀ {x y : FVal}, (x.isN || y.isN) = true → fAddV sgl m x y = fNanRes sgl (x.isS || y.isS)
  | .nan _, _, _ => rfl
  | .inf _, .nan _, _ => rfl
  | .fin _ _ _, .nan _, _ => rfl

theorem fMulV_nan (sgl : Bool) (m : Nat) : ∀ {x y : FVal}, (x.isN || y.isN) = true → fMulV sgl m x y = fNanRes sgl (x.isS || y.isS)
  | .nan _, _, _ => rfl
  | .inf _, .nan _, _ => rfl
  | .fin _ _ _, .nan _, _ => rfl

theorem fDivV_nan (sgl : Bool) (m : Nat) : ∀ {x y : FVal}, (x.isN || y.isN) = true → fDivV sgl m x y = fNanRes sgl (x.isS || y.isS)
  | .nan _, _, _ => rfl
  | .inf _, .nan _, _ => rfl
  | .fin _ _ _, .nan _, _ => rfl

/-- A NaN operand of an operation with one operand. -/
theorem fSqrtV_fResizeV_nan (sgl : Bool) (m : Nat) {x : FVal} (h : x.isN = true) :
    fSqrtV sgl m x = fNanRes sgl x.isS ∧ fResizeV sgl m x = fNanRes sgl x.isS := by
  cases x with
  | nan q => exact ⟨rfl, rfl⟩
  | inf n => cases h
  | fin n k e => cases h

/-- Settles O49: every rounding operation answers a NaN operand with the one NaN result. -/
theorem naNResults : Obligations.NaNResults := by
  unfold Obligations.NaNResults
  intro sgl m x y h
  have hnan : ∀ r, r = fNanRes sgl (x.isS || y.isS) → r.bits = (if sgl then 0x7fc00000 else 0x7ff8000000000000) ∧ r.flags = (if x.isS || y.isS then 1 else 0) := by
    rintro _ rfl
    exact ⟨rfl, rfl⟩
  refine ⟨?_, fun hx => fSqrtV_fResizeV_nan sgl m hx⟩
  rintro r (hr | hr | hr)
  · exact hnan r (hr.trans (fAddV_nan sgl m h))
  · exact hnan r (hr.trans (fMulV_nan sgl m h))
  · exact hnan r (hr.trans (fDivV_nan sgl m h))

/-! ### The rate (R27) -/

/-- A set bit of a register reads set. -/
@[simp] theorem State.flagAt_flag_same (s : State) (key i : Nat) (hi : i < 32) : (s.flag key i).flagAt key i = true := by
  simp [State.flagAt, State.flag, State.setFld, bitAt, putBits, BitVec.getLsbD_ofNat, Nat.testBit_shiftLeft, hi]

/-- The rate word as it is stored. -/
def rateWord (v : W32) : W32 :=
  if v.toInt < -219902325 then BitVec.ofInt 32 (-219902325) else if 219902325 < v.toInt then BitVec.ofInt 32 219902325 else v

/-- A word off the limit is clamped to it, and marked so. -/
theorem ofInt_limit_marked {lim : Int} {v : W32} (hlim : (BitVec.ofInt 32 lim).toInt = lim) (h : lim ≠ v.toInt) :
    (BitVec.ofInt 32 lim, lim != v.toInt) = (BitVec.ofInt 32 lim, BitVec.ofInt 32 lim != v) := by
  have hne : BitVec.ofInt 32 lim ≠ v := fun e => h (by rw [← e, hlim])
  rw [bne_iff_ne.2 h, bne_iff_ne.2 hne]

theorem clampRate_eq (v : W32) : clampRate v = (rateWord v, rateWord v != v) := by
  unfold clampRate clampInt rateWord
  split
  next h => exact ofInt_limit_marked (by decide) (by omega)
  next h =>
    split
    next h => exact ofInt_limit_marked (by decide) (by omega)
    next h => simp

/-- A rate write stores the clamped word, marks it, and applies it at once or at the next tick. -/
theorem tbRateWrite_eq (v : W32) (s : State) :
    let c := rateWord v
    let u := if c = v then s.wr R.TB_RATE c else (s.wr R.TB_RATE c).flag R.TB_STATUS 3
    tbRateWrite v s = if s.bcn.ticked then { u with tb := { u.tb with rateNext := some (c, c != v) } }
      else State.jlog { u with tb := { u.tb with rate := c, rateNext := none } } s.now 104 0 0x0033 [(0, 4, c.toNat), (4, 1, b2n (c != v))] := by
  intro c u
  have hu : (if (c != v) = true then (s.wr R.TB_RATE c).flag R.TB_STATUS 3 else s.wr R.TB_RATE c) = u := by
    by_cases h : c = v <;> simp [u, h]
  have hb : u.bcn = s.bcn := by simp only [u]; split <;> rfl
  have hn : u.now = s.now := by simp only [u]; split <;> rfl
  unfold tbRateWrite State.rateApply
  rw [clampRate_eq]
  dsimp only
  rw [show rateWord v = c from rfl, hu, hb, hn]

/-- The state in which a rate word stands in TB_RATE, marked where it was clamped. -/
def State.rateStored (s : State) (v : W32) : State :=
  if rateWord v = v then s.wr R.TB_RATE (rateWord v) else (s.wr R.TB_RATE (rateWord v)).flag R.TB_STATUS 3

theorem rateStored_tb (s : State) (v : W32) : (s.rateStored v).tb = s.tb := by
  unfold State.rateStored
  split <;> rfl

theorem rateStored_rate (s : State) (v : W32) : (s.rateStored v).rd R.TB_RATE = rateWord v := by
  unfold State.rateStored
  split
  · exact State.rd_wr_same _ _ _
  · rw [State.rd_flag_other _ _ _ _ (by decide), State.rd_wr_same]

theorem rateStored_status (s : State) (v : W32) :
    (rateWord v ≠ v → (s.rateStored v).flagAt R.TB_STATUS 3 = true) ∧ (rateWord v = v → (s.rateStored v).rd R.TB_STATUS = s.rd R.TB_STATUS) := by
  unfold State.rateStored
  refine ⟨fun h => ?_, fun h => ?_⟩
  · rw [if_neg h, State.flagAt_flag_same _ _ _ (by omega)]
  · rw [if_pos h, State.rd_wr_other _ _ _ _ (by decide)]

/-- Settles O10: the stored word is the clamped one, and journaling touches neither TB_RATE nor the timebase. -/
theorem rateWrite : Obligations.RateWrite := by
  unfold Obligations.RateWrite
  intro s0 v
  refine ⟨fun h => congrArg Host.Outcome.next (State.blockWrite_off h _ _), fun h => ?_⟩
  intro s lim c u t
  have hu : u = s.rateStored v := rfl
  have ht : exec (.tbRateWrite v) s0 = .next t := congrArg Host.Outcome.next ((State.blockWrite_on h _ _).trans (tbRateWrite_eq v s))
  refine ⟨ht, ?_⟩
  cases hb : s.bcn.ticked with
  | true =>
    have e : t = { u with tb := { u.tb with rateNext := some (c, c != v) } } := if_pos hb
    have hr : ∀ key, t.rd key = (s.rateStored v).rd key := fun key => by rw [e]; rfl
    have htb : u.tb = s.tb := rateStored_tb s v
    refine ⟨(hr _).trans (rateStored_rate s v), fun _ => ⟨?_, ?_, ?_, ?_, ?_⟩, fun h => by cases h⟩
    · rw [e]; exact congrArg (·.rate) htb
    · rw [e]
    · rw [e]; exact congrArg (·.now) htb
    · intro hne
      rw [State.flagAt, hr]
      exact (rateStored_status s v).1 hne
    · intro he
      rw [hr]
      exact (rateStored_status s v).2 he
  | false =>
    have e : t = State.jlog { u with tb := { u.tb with rate := c, rateNext := none } } s.now 104 0 0x0033 [(0, 4, c.toNat), (4, 1, b2n (c != v))] :=
      if_neg (by rw [hb]; decide)
    have hj := jlog_step { u with tb := { u.tb with rate := c, rateNext := none } } s.now 104 0 0x0033 [(0, 4, c.toNat), (4, 1, b2n (c != v))]
    rw [← e] at hj
    refine ⟨?_, fun h => (Bool.false_ne_true h).elim, fun _ => ?_⟩
    · rw [hj.rd _ (by decide) (by decide)]
      exact rateStored_rate s v
    · rw [hj.frame]
      exact ⟨rfl, congrArg (·.now) (rateStored_tb s v)⟩

end Sys2Proof.Machine
end

section
/-! Entry at a level into a world (R292, R295). In order: what counting and a change of world leave of the device, and what entry writes. -/

namespace Sys2Proof.Machine

/-! ### What a change of world leaves (R218, R292, R334) -/

/-- Two cores that differ in what their event counters hold and how far they have counted only. -/
def CoreSt.Synced (c d : CoreSt) : Prop := d = { c with evcnt := d.evcnt, evsel := d.evsel, evOcc := d.evOcc, seen := d.seen, evAt := d.evAt }

theorem CoreSt.Synced.trans {a b c : CoreSt} (h : a.Synced b) (g : b.Synced c) : a.Synced c :=
  Eq.trans g (congrArg (fun x : CoreSt => { x with evcnt := c.evcnt, evsel := c.evsel, evOcc := c.evOcc, seen := c.seen, evAt := c.evAt }) h)

/-- A change of world changes two such cores alike. -/
theorem CoreSt.Synced.world {c d : CoreSt} (h : c.Synced d) (w : Bool) :
    CoreSt.Synced { c with sealed := w, lastSealed := w, pred := {} } { d with sealed := w, lastSealed := w, pred := {} } := by
  unfold CoreSt.Synced
  exact congrArg (fun x : CoreSt => { x with sealed := w, lastSealed := w, pred := {} }) h

theorem CoreSt.Counted.synced {c d : CoreSt} (h : c.Counted d) : c.Synced d := by
  have e1 : d.seen = c.seen := by rw [show d = _ from h]
  have e2 : d.evAt = c.evAt := by rw [show d = _ from h]
  unfold CoreSt.Synced
  rw [e1, e2]
  exact h

theorem CoreSt.evSync_synced (c : CoreSt) (n : Nat) : c.Synced (c.evSync n) := by
  have h : c.Synced { c with seen := n } := rfl
  unfold CoreSt.evSync
  dsimp only
  split
  · exact h
  · exact h.trans (CoreSt.evFold_counted _ _ _).synced

/-- t follows from s by counting on core k. -/
structure CountStep (k : CoreId) (s t : State) : Prop where
  frame : t = { s with cores := t.cores, freeCtr := t.freeCtr }
  other : ∀ j, j ≠ k → t.core j = s.core j
  own : (s.core k).Synced (t.core k)

theorem CountStep.refl (k : CoreId) (s : State) : CountStep k s s := ⟨rfl, fun _ _ => rfl, rfl⟩

theorem CountStep.trans {k : CoreId} {s t u : State} (h : CountStep k s t) (g : CountStep k t u) : CountStep k s u :=
  ⟨g.frame.trans (congrArg (fun x : State => { x with cores := u.cores, freeCtr := u.freeCtr }) h.frame),
    fun j hj => (g.other j hj).trans (h.other j hj), h.own.trans g.own⟩

theorem setCore_countStep {k : CoreId} {s : State} {c : CoreSt} (h : (s.core k).Synced c) : CountStep k s (s.setCore k c) :=
  ⟨rfl, fun j hj => State.core_setCore_other s k j c hj, by rw [State.core_setCore_same]; exact h⟩

theorem free_countStep (k : CoreId) (s : State) (w : Nat) : CountStep k s (s.free w).2 := ⟨rfl, fun _ _ => rfl, rfl⟩

theorem evDraw_countStep (s : State) (k : CoreId) : CountStep k s (s.evDraw k) := by
  unfold State.evDraw
  extract_lets t
  have ht : CountStep k s t := by
    dsimp only [t]
    split
    · exact .refl k s
    next hs =>
      generalize List.filter _ _ = l
      clear t hs
      induction l generalizing s with
      | nil => exact .refl k s
      | cons n r ih => exact ((free_countStep k s 48).trans (setCore_countStep (CoreSt.evAdd_counted _ _ _).synced)).trans (ih _)
  exact ht.trans (setCore_countStep rfl)

/-- A core is one of its tile's two. -/
theorem mem_tileCores (k : CoreId) : k ∈ tileCores (k.val / 2) := by
  have h : k.val = 2 * (k.val / 2) ∨ k.val = 2 * (k.val / 2) + 1 := by omega
  have hk := k.isLt
  simp only [tileCores, coreOf, List.mem_cons, List.not_mem_nil, or_false, Fin.ext_iff]
  omega

/-- The tile of a running core follows a change of votes without dropping: clocks and power alone move (R505). -/
theorem follow_of_running {s : State} {k : CoreId} (h : (s.core k).run = .running) (v : Fin 3) :
    s.follow (k.val / 2) v = { s with clk := (s.follow (k.val / 2) v).clk } := by
  have hbusy : (decide (k.val / 2 < 72) && (tileCores (k.val / 2)).any (fun k => (s.core k).run.busy || !(s.core k).sq.isEmpty)) = true := by
    have hk := k.isLt
    rw [Bool.and_eq_true, decide_eq_true_eq, List.any_eq_true]
    exact ⟨by omega, k, mem_tileCores k, by rw [h]; rfl⟩
  unfold State.follow
  rw [if_pos hbusy]
  split
  · unfold State.wake
    split <;> rfl
  · generalize (s.dom (k.val / 2) == .up || _) = up
    cases up with
    | true => rfl
    | false =>
      rw [if_neg Bool.false_ne_true]
      split <;> rfl

theorem sealTile_of_running {s : State} {k : CoreId} (h : (s.core k).run = .running) (v : Bool) :
    s.sealTile k v = { s with regs := (s.sealTile k v).regs, clk := (s.sealTile k v).clk } := by
  unfold State.sealTile
  extract_lets t o
  rw [follow_of_running (s := s.setVoteBit (R.CV_TILE_SEAL 0) t (v || (s.core o).sealed)) (k := k) h 2]
  rfl

/-- A running core that changes its world: its predictor is flushed, its counters have counted, and the tile's votes follow. -/
structure WorldStep (k : CoreId) (w : Bool) (s t : State) : Prop where
  frame : t = { s with cores := t.cores, freeCtr := t.freeCtr, regs := t.regs, clk := t.clk }
  other : ∀ j, j ≠ k → t.core j = s.core j
  own : CoreSt.Synced { s.core k with sealed := w, lastSealed := w, pred := {} } (t.core k)

theorem toWorld_same {s : State} {k : CoreId} {w : Bool} (h : w = (s.core k).sealed) : s.toWorld k w = s := by
  subst h
  simp [State.toWorld]

theorem toWorld_change {s : State} {k : CoreId} {w : Bool} (hrun : (s.core k).run = .running) (h : w ≠ (s.core k).sealed) :
    WorldStep k w s (s.toWorld k w) := by
  have hne : ¬ ((s.core k).sealed == w) = true := by simpa using fun e => h e.symm
  unfold State.toWorld
  rw [if_neg hne]
  extract_lets u
  have hu : CountStep k s u := (setCore_countStep (CoreSt.evSync_synced _ _)).trans (evDraw_countStep _ k)
  clear_value u
  let c : CoreSt := ({ u.core k with sealed := w, lastSealed := w, pred := {} } : CoreSt).ev 0x08 1
  have hc : CoreSt.Synced { s.core k with sealed := w, lastSealed := w, pred := {} } c :=
    (hu.own.world w).trans (CoreSt.ev_counted _ _ _).synced
  have hcrun : ((u.setCore k c).core k).run = .running := by
    rw [State.core_setCore_same, show c = _ from hc]
    exact hrun
  have hs := sealTile_of_running hcrun w
  refine ⟨?_, fun j hj => ?_, ?_⟩
  · rw [hs, hu.frame]
    rfl
  · rw [hs]
    exact (State.core_setCore_other u k j c hj).trans (hu.other j hj)
  · rw [hs]
    exact (State.core_setCore_same u k c).symm ▸ hc

/-! ### Entry at a level (R292, R295) -/

/-- The core as entry at a level writes it, before it moves to the world entered (R292). -/
def CoreSt.entered (c : CoreSt) (w : Bool) (lvl : Nat) (epc estat eaddr : W64) : CoreSt :=
  { c.setBank w ((c.bank w).enter lvl epc estat eaddr) with
    sup := true, blkWait := false, frzAt := none, pc := (c.bank w).evec + BitVec.ofNat 64 (0x80 * lvl) }

theorem entered_sealed (c : CoreSt) (w : Bool) (lvl : Nat) (epc estat eaddr : W64) : (c.entered w lvl epc estat eaddr).sealed = c.sealed := by
  cases w <;> rfl

theorem entered_run (c : CoreSt) (w : Bool) (lvl : Nat) (epc estat eaddr : W64) : (c.entered w lvl epc estat eaddr).run = c.run := by
  cases w <;> rfl

theorem entered_frame (c : CoreSt) (w : Bool) (lvl : Nat) (epc estat eaddr : W64) :
    let d := c.entered w lvl epc estat eaddr
    d = { c with bankO := d.bankO, bankS := d.bankS, sup := true, blkWait := false, frzAt := none, pc := d.pc } := by
  cases w <;> rfl

theorem enter_eq_toWorld (s : State) (k : CoreId) (w : Bool) (lvl cause sub olvl : Nat) (epc eaddr : W64) (blk : Bool) :
    s.enter k w lvl cause sub olvl epc eaddr blk =
      (s.setCore k ((s.core k).entered w lvl epc ((s.core k).estat cause sub olvl blk) eaddr)).toWorld k w := rfl

/-- Entry writes the bank entered alone, and of it the level's registers, ACT and ML (R292). -/
theorem entered_banks (c : CoreSt) (w : Bool) (lvl : Nat) (epc estat eaddr : W64) :
    (c.entered w lvl epc estat eaddr).bank w = (c.bank w).enter lvl epc estat eaddr ∧ (c.entered w lvl epc estat eaddr).bank (!w) = c.bank (!w) := by
  cases w <;> exact ⟨rfl, rfl⟩

/-- ESTAT of a level names the context that was left (R295). -/
theorem CoreSt.estat_context (c : CoreSt) (cause sub olvl : Nat) (blk : Bool) :
    let st := (c.estat cause sub olvl blk).toNat
    st / 2 ^ 16 % 16 = c.here.ml.toNat ∧ st / 2 ^ 20 % 16 = c.here.act.toNat ∧ st / 2 ^ 24 % 2 = b2n c.sealed ∧ st / 2 ^ 25 % 2 = b2n c.sup ∧
    st / 2 ^ 26 % 2 = b2n blk := by
  have hml := c.here.ml.isLt
  have hact := c.here.act.isLt
  have hbit : ∀ (b : Bool) (i : Nat), bitIf b i = 2 ^ i * b2n b ∧ b2n b < 2 := by
    intro b i
    cases b <;> simp [bitIf, b2n]
  obtain ⟨hw, hw2⟩ := hbit c.sealed 24
  obtain ⟨hp, hp2⟩ := hbit c.sup 25
  obtain ⟨hb, hb2⟩ := hbit blk 26
  simp only [CoreSt.estat, BitVec.toNat_ofNat, hw, hp, hb]
  omega

/-- Entry at a level: the core entered, and of the device what a change of world moves. -/
structure EntryStep (k : CoreId) (w : Bool) (s : State) (c : CoreSt) (p : Pred) (l : Bool) (t : State) : Prop where
  frame : t = { s with cores := t.cores, freeCtr := t.freeCtr, regs := t.regs, clk := t.clk }
  other : ∀ j, j ≠ k → t.core j = s.core j
  own : CoreSt.Synced { c with sealed := w, lastSealed := l, pred := p } (t.core k)
  pred : p = if w = (s.core k).sealed then (s.core k).pred else {}
  within : w = (s.core k).sealed → t = s.setCore k (t.core k)

theorem enter_step {s : State} {k : CoreId} (w : Bool) (lvl cause sub olvl : Nat) (epc eaddr : W64) (blk : Bool) (hrun : (s.core k).run = .running) :
    ∃ p l, EntryStep k w s ((s.core k).entered w lvl epc ((s.core k).estat cause sub olvl blk) eaddr) p l
      (s.enter k w lvl cause sub olvl epc eaddr blk) := by
  rw [enter_eq_toWorld]
  generalize hc : (s.core k).entered w lvl epc ((s.core k).estat cause sub olvl blk) eaddr = c
  have hseal : c.sealed = (s.core k).sealed := by rw [← hc, entered_sealed]
  have hcore : (s.setCore k c).core k = c := State.core_setCore_same s k c
  have hother : ∀ j, j ≠ k → (s.setCore k c).core j = s.core j := fun j hj => State.core_setCore_other s k j c hj
  by_cases hw : w = (s.core k).sealed
  · have hsame : (s.setCore k c).toWorld k w = s.setCore k c := toWorld_same (by rw [hcore, hseal]; exact hw)
    have hpred : c.pred = (s.core k).pred := by rw [← hc]; cases w <;> rfl
    have hown : CoreSt.Synced { c with sealed := w, lastSealed := c.lastSealed, pred := (s.core k).pred } c := by
      rw [hw, ← hseal, ← hpred]
      rfl
    refine ⟨(s.core k).pred, c.lastSealed, ?_⟩
    rw [hsame]
    exact ⟨rfl, hother, by rw [hcore]; exact hown, by rw [if_pos hw], fun _ => by rw [hcore]⟩
  · have hr : ((s.setCore k c).core k).run = .running := by rw [hcore, ← hc, entered_run, hrun]
    obtain ⟨hframe, hcores, hown⟩ := toWorld_change hr (by rw [hcore, hseal]; exact hw)
    rw [hcore] at hown
    exact ⟨{}, w, hframe, fun j hj => (hcores j hj).trans (hother j hj), hown, by rw [if_neg hw], fun h => absurd h hw⟩

/-- Settles O59: the bank entered by its own lemmas, the rest of the core and of the device by what a change of world moves. -/
theorem exceptionEntry : Obligations.ExceptionEntry := by
  unfold Obligations.ExceptionEntry
  intro s k w lvl cause sub olvl epc eaddr blk hlvl hrun t c d b st
  obtain ⟨p, l, hframe, hother, hown, hpred, hwithin⟩ := enter_step w lvl cause sub olvl epc eaddr blk hrun
  obtain ⟨hbank, hbank'⟩ := entered_banks c w lvl epc (c.estat cause sub olvl blk) eaddr
  have hd : d = _ := hown
  have hb : b = (c.bank w).enter lvl epc (c.estat cause sub olvl blk) eaddr := by
    rw [← hbank]
    simp only [b]
    rw [hd]
    rfl
  obtain ⟨hepc, hestat, headdr⟩ := (c.bank w).enter_level lvl epc (c.estat cause sub olvl blk) eaddr
  have hst : st = (c.estat cause sub olvl blk).toNat := by simp only [st, hb, hestat]
  obtain ⟨hcause, hsub, holvl⟩ := c.estat_fields cause sub olvl blk
  obtain ⟨hml, hact, hsealed, hsup, hblk⟩ := c.estat_context cause sub olvl blk
  have hlvl4 : (BitVec.ofNat 4 lvl).toNat = lvl := by simpa using Nat.mod_eq_of_lt hlvl
  rw [hst, hb]
  refine ⟨by rw [hd], ?_, hlvl4, hlvl4, ?_, hepc, headdr, hcause, hsub, hml, hact, hsealed, hsup, hblk, holvl, rfl, ?_, ?_, ?_, ?_, ?_⟩
  · rw [hd]; rfl
  · rw [hd]; rfl
  · rw [← hbank', hd]; rfl
  · exact fun j hj => assocD_set_other _ _ _ _ _ hj
  · intro h; rw [hd, hpred]; exact if_pos h
  · intro h; rw [hd, hpred]; exact if_neg h
  · have hrest : d.x = c.x ∧ d.f = c.f ∧ d.v = c.v ∧ d.sq = c.sq ∧ d.tlb = c.tlb ∧ d.itlb = c.itlb ∧ d.dtlb = c.dtlb ∧ d.walkc = c.walkc ∧
        d.prg = c.prg ∧ d.fpstat = c.fpstat ∧ d.run = c.run := by
      rw [hd, entered_frame c w lvl epc _ eaddr]
      exact ⟨rfl, rfl, rfl, rfl, rfl, rfl, rfl, rfl, rfl, rfl, rfl⟩
    obtain ⟨hx, hf, hv, hsq, htlb, hitlb, hdtlb, hwalkc, hprg, hfpstat, hrun'⟩ := hrest
    have ht : t = _ := hframe
    exact ⟨hx, hf, hv, hsq, htlb, hitlb, hdtlb, hwalkc, hprg, hfpstat, hrun', hother, by rw [ht], by rw [ht], hwithin⟩

end Sys2Proof.Machine
end

section
/-! SAFE_ALL (R141, R145, R462). In order: reading pins and engines, what judging pins and releasing DE leave, what the owners ask, and the turns of the bays. -/

namespace Sys2Proof.Machine

/-! ### Pins and engines of a bay -/

theorem pin_setPin (s : State) (b : BayId) (u v : Nat) (x : Pin) : (s.setPin b u x).pin b v = if v = u then x else s.pin b v := by
  unfold State.pin State.setPin
  rw [State.bay_setBay_same]
  split
  next h => rw [h]; exact assocD_set_same _ _ _ _
  next h => exact assocD_set_other _ _ _ _ _ h

theorem eng_setEng (s : State) (b : BayId) (e f : Nat) (x : Engine) : (s.setEng b e x).eng b f = if f = e then x else s.eng b f := by
  unfold State.eng State.setEng
  rw [State.bay_setBay_same]
  split
  next h => rw [h]; exact assocD_set_same _ _ _ _
  next h => exact assocD_set_other _ _ _ _ _ h

theorem eng_setPin (s : State) (b : BayId) (u e : Nat) (x : Pin) : (s.setPin b u x).eng b e = s.eng b e := by
  unfold State.eng State.setPin
  rw [State.bay_setBay_same]

theorem pin_setEng (s : State) (b : BayId) (e u : Nat) (x : Engine) : (s.setEng b e x).pin b u = s.pin b u := by
  unfold State.pin State.setEng
  rw [State.bay_setBay_same]

/-! ### What judging pins and releasing DE leave (R141, R145) -/

/-- t follows from s by changes of one bay's engines and pins that leave its pads and its memory alone. -/
structure BayStep (b : BayId) (s t : State) : Prop where
  frame : t = { s with bays := t.bays }
  other : ∀ c, c ≠ b → t.bay c = s.bay c
  pad : ∀ u, (t.pin b u).pad = (s.pin b u).pad
  sram : (t.bay b).sram = (s.bay b).sram
  posts : (t.bay b).posts = (s.bay b).posts

theorem BayStep.refl (b : BayId) (s : State) : BayStep b s s := ⟨rfl, fun _ _ => rfl, fun _ => rfl, rfl, rfl⟩

theorem BayStep.trans {b : BayId} {s t u : State} (h : BayStep b s t) (g : BayStep b t u) : BayStep b s u :=
  ⟨g.frame.trans (congrArg (fun x : State => { x with bays := u.bays }) h.frame), fun c hc => (g.other c hc).trans (h.other c hc),
    fun v => (g.pad v).trans (h.pad v), g.sram.trans h.sram, g.posts.trans h.posts⟩

theorem setPin_bayStep {s : State} {b : BayId} {u : Nat} {x : Pin} (h : x.pad = (s.pin b u).pad) : BayStep b s (s.setPin b u x) := by
  refine ⟨rfl, fun c hc => State.bay_setBay_other s b c _ hc, fun v => ?_, ?_, ?_⟩
  · rw [pin_setPin]
    split
    next e => rw [e, h]
    next => rfl
  all_goals unfold State.setPin; rw [State.bay_setBay_same]

theorem setEng_bayStep (s : State) (b : BayId) (e : Nat) (x : Engine) : BayStep b s (s.setEng b e x) := by
  refine ⟨rfl, fun c hc => State.bay_setBay_other s b c _ hc, fun v => by rw [pin_setEng], ?_, ?_⟩
  all_goals unfold State.setEng; rw [State.bay_setBay_same]

theorem judgePin_bayStep (s : State) (b : BayId) (u : Nat) : BayStep b s (s.judgePin b u) := setPin_bayStep rfl

theorem foldRange_induction {σ : Type} {R : σ → σ → Prop} (hrefl : ∀ s, R s s) (htrans : ∀ {s t u}, R s t → R t u → R s u) {f : Nat → σ → σ}
    (h : ∀ i s, R s (f i s)) : ∀ (n a : Nat) (s : σ), R s (foldRange f a n s)
  | 0, _, s => hrefl s
  | n + 1, a, s => htrans (h a s) (foldRange_induction hrefl htrans h n (a + 1) (f a s))

theorem judgeBay_bayStep (s : State) (b : BayId) : BayStep b s (s.judgeBay b) :=
  foldRange_induction (BayStep.refl b) BayStep.trans (fun u s => judgePin_bayStep s b u) 24 0 s

theorem drivePin_bayStep (s : State) (b : BayId) (u : Nat) (v : Option Bool) : BayStep b s (s.drivePin b u v) :=
  BayStep.trans (t := s.setPin b u { s.pin b u with drive := v, driven := (s.pin b u).driven || v.isSome }) (setPin_bayStep rfl) (judgePin_bayStep _ b u)

theorem suDe_bayStep (s : State) (b : BayId) (e : Nat) (v : Bool) : BayStep b s (s.suDe b e v) := by
  have h : BayStep b s (s.setSu b e { (s.eng b e).su with de := v }) := setEng_bayStep s b e _
  unfold State.suDe
  dsimp only
  split
  · exact h.trans (drivePin_bayStep _ b _ _)
  · exact h

theorem suTail_bayStep (s : State) (b : BayId) (e : Nat) : BayStep b s (s.suTail b e) := by
  unfold State.suTail
  dsimp only
  split
  · exact (setEng_bayStep s b e _).trans (suDe_bayStep _ b e false)
  · exact .refl b s

theorem bayTails_bayStep (s : State) (b : BayId) : BayStep b s (s.bayTails b) := by
  unfold State.bayTails
  generalize (s.bay b).eng = l
  induction l generalizing s with
  | nil => exact .refl b s
  | cons p r ih => exact (suTail_bayStep s b p.1).trans (ih _)

/-- No DE tail of the bay has passed, so none is released. -/
theorem bayTails_of_none_due {s : State} {b : BayId} (h : ∀ e, (s.eng b e).su.deEnd.any (fun t => stampLe t s.now) = false) : s.bayTails b = s := by
  have hone : ∀ e, s.suTail b e = s := fun e => if_neg (by rw [h e]; exact Bool.false_ne_true)
  unfold State.bayTails
  generalize (s.bay b).eng = l
  induction l with
  | nil => rfl
  | cons p r ih => rw [List.foldl_cons, hone, ih]

/-! ### What the owners of a bay's pins ask, and the bay's engines -/

/-- The bay has the same engines in both states, its pins the same drivers, and the time is the same. -/
structure SameDrive (b : BayId) (s t : State) : Prop where
  eng : (t.bay b).eng = (s.bay b).eng
  drive : ∀ u, (t.pin b u).drive = (s.pin b u).drive
  now : t.now = s.now

theorem SameDrive.refl (b : BayId) (s : State) : SameDrive b s s := ⟨rfl, fun _ => rfl, rfl⟩

theorem SameDrive.symm {b : BayId} {s t : State} (h : SameDrive b s t) : SameDrive b t s := ⟨h.eng.symm, fun u => (h.drive u).symm, h.now.symm⟩

theorem SameDrive.trans {b : BayId} {s t u : State} (h : SameDrive b s t) (g : SameDrive b t u) : SameDrive b s u :=
  ⟨g.eng.trans h.eng, fun v => (g.drive v).trans (h.drive v), g.now.trans h.now⟩

theorem SameDrive.engine {b : BayId} {s t : State} (h : SameDrive b s t) (e : Nat) : t.eng b e = s.eng b e := by
  unfold State.eng
  rw [h.eng]

theorem judgePin_sameDrive (s : State) (b : BayId) (u : Nat) : SameDrive b s (s.judgePin b u) := by
  refine ⟨?_, fun v => ?_, rfl⟩
  · unfold State.judgePin State.setPin
    dsimp only
    rw [State.bay_setBay_same]
  · unfold State.judgePin
    dsimp only
    rw [pin_setPin]
    split
    next e => rw [e]
    next => rfl

theorem judgeBay_sameDrive (s : State) (b : BayId) : SameDrive b s (s.judgeBay b) :=
  foldRange_induction (SameDrive.refl b) SameDrive.trans (fun u s => judgePin_sameDrive s b u) 24 0 s

theorem setPin_sameDrive {b : BayId} {s t : State} (h : SameDrive b s t) (u : Nat) {x y : Pin} (hxy : y.drive = x.drive) :
    SameDrive b (s.setPin b u x) (t.setPin b u y) := by
  refine ⟨?_, fun v => ?_, h.now⟩
  · unfold State.setPin
    rw [State.bay_setBay_same, State.bay_setBay_same]
    exact h.eng
  · rw [pin_setPin, pin_setPin]
    split
    · exact hxy
    · exact h.drive v

theorem setEng_sameDrive {b : BayId} {s t : State} (h : SameDrive b s t) (e : Nat) (x : Engine) : SameDrive b (s.setEng b e x) (t.setEng b e x) := by
  refine ⟨?_, fun v => ?_, h.now⟩
  · unfold State.setEng
    rw [State.bay_setBay_same, State.bay_setBay_same]
    exact congrArg (assocSet · e x) h.eng
  · rw [pin_setEng, pin_setEng]
    exact h.drive v

theorem drivePin_sameDrive {b : BayId} {s t : State} (h : SameDrive b s t) (u : Nat) (v : Option Bool) :
    SameDrive b (s.drivePin b u v) (t.drivePin b u v) := by
  unfold State.drivePin
  dsimp only
  refine SameDrive.trans (judgePin_sameDrive _ b u).symm (SameDrive.trans ?_ (judgePin_sameDrive _ b u))
  exact setPin_sameDrive h u rfl

theorem setSu_sameDrive {b : BayId} {s t : State} (h : SameDrive b s t) (e : Nat) (u : ShiftUnit) : SameDrive b (s.setSu b e u) (t.setSu b e u) := by
  unfold State.setSu
  rw [h.engine e]
  exact setEng_sameDrive h e _

theorem suDe_sameDrive {b : BayId} {s t : State} (h : SameDrive b s t) (e : Nat) (v : Bool) : SameDrive b (s.suDe b e v) (t.suDe b e v) := by
  unfold State.suDe
  dsimp only
  rw [h.engine e]
  split
  · exact drivePin_sameDrive (setSu_sameDrive h e _) _ _
  · exact setSu_sameDrive h e _

theorem suTail_sameDrive {b : BayId} {s t : State} (h : SameDrive b s t) (e : Nat) : SameDrive b (s.suTail b e) (t.suTail b e) := by
  unfold State.suTail
  dsimp only
  rw [h.engine e, h.now]
  split
  · exact suDe_sameDrive (setSu_sameDrive h e _) e false
  · exact h

/-- What the DE tails of a bay release turns on its engines, its drivers and the time alone. -/
theorem bayTails_sameDrive {b : BayId} {s t : State} (h : SameDrive b s t) : SameDrive b (s.bayTails b) (t.bayTails b) := by
  unfold State.bayTails
  rw [h.eng]
  generalize (s.bay b).eng = l
  induction l generalizing s t with
  | nil => exact h
  | cons p r ih => exact ih (suTail_sameDrive h p.1)

/-! ### SAFE_ALL (R141, R462) -/

/-- A pin that has been judged while bit 0 of BAY_CTL is set holds its safe state. -/
theorem pinSafe_of_bayCtl {s : State} {b : BayId} (h : s.flagAt (R.BAY_CTL b.val) 0 = true) (u : Nat) : s.pinSafe b u = true := by
  unfold State.pinSafe
  dsimp only
  rw [h, Bool.or_true, Bool.true_or, Bool.true_or]

theorem judgePin_safe {s : State} {b : BayId} (h : s.flagAt (R.BAY_CTL b.val) 0 = true) (u : Nat) : ((s.judgePin b u).pin b u).safe = true := by
  unfold State.judgePin
  dsimp only
  rw [pin_setPin, if_pos rfl]
  exact pinSafe_of_bayCtl h u

theorem judgePins_safe {s : State} {b : BayId} (h : s.flagAt (R.BAY_CTL b.val) 0 = true) (u : Nat) :
    ∀ (n a : Nat), ((s.pin b u).safe = true ∨ a ≤ u ∧ u < a + n) → ((foldRange (fun v s => s.judgePin b v) a n s).pin b u).safe = true := by
  intro n
  induction n generalizing s with
  | zero => exact fun a hu => hu.elim id (fun hu => by omega)
  | succ n ih =>
    intro a hu
    have hflag : (s.judgePin b a).flagAt (R.BAY_CTL b.val) 0 = true := h
    refine ih hflag (a + 1) ?_
    by_cases hua : u = a
    · exact .inl (hua ▸ judgePin_safe h a)
    · have hpin : (s.judgePin b a).pin b u = s.pin b u := by
        unfold State.judgePin
        dsimp only
        rw [pin_setPin, if_neg hua]
      rw [hpin]
      exact hu.imp id (fun hu => by omega)

/-- t follows from s by SAFE_ALL of the bays in P: their BAY_CTL, their engines and their pins change, and nothing else; pads and memory stay. -/
structure SafeStep (P : Nat → Prop) (s t : State) : Prop where
  frame : t = { s with regs := t.regs, bays := t.bays }
  rd : ∀ key, (∀ c : BayId, P c.val → key ≠ R.BAY_CTL c.val) → t.rd key = s.rd key
  other : ∀ c : BayId, ¬ P c.val → t.bay c = s.bay c
  pad : ∀ (c : BayId) u, (t.pin c u).pad = (s.pin c u).pad
  sram : ∀ c, (t.bay c).sram = (s.bay c).sram
  posts : ∀ c, (t.bay c).posts = (s.bay c).posts

theorem SafeStep.refl (P : Nat → Prop) (s : State) : SafeStep P s s :=
  ⟨rfl, fun _ _ => rfl, fun _ _ => rfl, fun _ _ => rfl, fun _ => rfl, fun _ => rfl⟩

theorem SafeStep.trans {P : Nat → Prop} {s t u : State} (h : SafeStep P s t) (g : SafeStep P t u) : SafeStep P s u :=
  ⟨g.frame.trans (congrArg (fun x : State => { x with regs := u.regs, bays := u.bays }) h.frame), fun k hk => (g.rd k hk).trans (h.rd k hk),
    fun c hc => (g.other c hc).trans (h.other c hc), fun c v => (g.pad c v).trans (h.pad c v), fun c => (g.sram c).trans (h.sram c),
    fun c => (g.posts c).trans (h.posts c)⟩

theorem BayStep.safeStep {b : BayId} {s t : State} {P : Nat → Prop} (h : BayStep b s t) (hb : P b.val) : SafeStep P s t := by
  have hregs : t.regs = s.regs := by rw [h.frame]
  have hbay : ∀ c, c = b ∨ t.bay c = s.bay c := fun c => (Classical.em (c = b)).imp id (h.other c)
  refine ⟨by rw [hregs]; exact h.frame, fun key _ => by rw [State.rd, State.rd, hregs], fun c hc => h.other c (fun e => hc (e ▸ hb)), fun c u => ?_, fun c => ?_, fun c => ?_⟩
  · rcases hbay c with rfl | e
    · exact h.pad u
    · rw [State.pin, State.pin, e]
  · rcases hbay c with rfl | e
    · exact h.sram
    · rw [e]
  · rcases hbay c with rfl | e
    · exact h.posts
    · rw [e]

theorem baySafeAll_safeStep (s : State) (b : BayId) (v : W32) {P : Nat → Prop} (hb : P b.val) : SafeStep P s (baySafeAll b v s) := by
  refine ((bayTails_bayStep s b).safeStep hb).trans (SafeStep.trans ?_ ((judgeBay_bayStep _ b).safeStep hb))
  exact ⟨rfl, fun key hk => State.rd_wr_other _ _ _ _ (hk b hb), fun _ _ => rfl, fun _ _ => rfl, fun _ => rfl, fun _ => rfl⟩

/-- SAFE_ALL of one bay: bit 0 of its BAY_CTL, and every pin safe. -/
theorem baySafeAll_safe (s : State) (b : BayId) (u : PinId) :
    (baySafeAll b 1 s).flagAt (R.BAY_CTL b.val) 0 = true ∧ ((baySafeAll b 1 s).pin b u.val).safe = true := by
  have hctl : ((s.bayTails b).wr (R.BAY_CTL b.val) (1 &&& 1)).flagAt (R.BAY_CTL b.val) 0 = true := by
    rw [State.flagAt, State.rd_wr_same]
    rfl
  refine ⟨?_, judgePins_safe hctl u.val 24 0 (.inr ⟨Nat.zero_le _, by omega⟩)⟩
  unfold baySafeAll
  rw [State.flagAt, State.rd, (judgeBay_bayStep _ b).frame]
  exact hctl

theorem baySafeAll_sameDrive (s : State) (b : BayId) (v : W32) : SameDrive b (s.bayTails b) (baySafeAll b v s) :=
  SameDrive.trans (t := (s.bayTails b).wr (R.BAY_CTL b.val) (v &&& 1)) ⟨rfl, fun _ => rfl, rfl⟩ (judgeBay_sameDrive _ b)

/-- SAFE_ALL's turn at a bay: nothing at a Sealed one (R314, R462). -/
def State.safeTurn (s : State) (c : Nat) : State := if s.baySealed c then s else baySafeAll (bayOf c) 1 s

theorem safeTurn_safeStep (s : State) {c : Nat} (hc : c < 8) : SafeStep (· = c) s (s.safeTurn c) := by
  unfold State.safeTurn
  split
  · exact .refl _ s
  · exact baySafeAll_safeStep s (bayOf c) 1 (Nat.mod_eq_of_lt hc)

theorem SafeStep.mono {P Q : Nat → Prop} {s t : State} (h : SafeStep P s t) (hPQ : ∀ c, P c → Q c) : SafeStep Q s t :=
  ⟨h.frame, fun key hk => h.rd key (fun c hc => hk c (hPQ _ hc)), fun c hc => h.other c (fun hp => hc (hPQ _ hp)), h.pad, h.sram, h.posts⟩

theorem safeTurns_safeStep {l : List Nat} (hl : ∀ c ∈ l, c < 8) (s : State) : SafeStep (· ∈ l) s (l.foldl State.safeTurn s) := by
  induction l generalizing s with
  | nil => exact .refl _ s
  | cons c r ih =>
    have hone : SafeStep (· ∈ c :: r) s (s.safeTurn c) := (safeTurn_safeStep s (hl c (by simp))).mono (fun d hd => by simp [hd])
    exact hone.trans ((ih (fun d hd => hl d (by simp [hd])) _).mono (fun d hd => by simp [hd]))

theorem baySealed_of_rd {s t : State} (h : t.rd R.WD_BAY = s.rd R.WD_BAY) (c : Nat) : t.baySealed c = s.baySealed c := by
  unfold State.baySealed State.flagAt
  rw [h]

/-- The keys of the BAY_CTL registers differ from one another and from the other registers that SAFE_ALL meets. -/
theorem bayCtl_inj {b c : BayId} (h : R.BAY_CTL b.val = R.BAY_CTL c.val) : b = c := by
  have h' : (0x10 + b.val) * 0x1000 + 0 = (0x10 + c.val) * 0x1000 + 0 := h
  exact Fin.ext (by omega)

theorem bayCtl_lt (b : BayId) : R.BAY_CTL b.val < 0x18000 := by
  have h : R.BAY_CTL b.val = (0x10 + b.val) * 0x1000 + 0 := rfl
  omega

/-- SAFE_ALL passes bay b once: before it other bays have had their turn, and after it they have theirs. -/
theorem safeAll_turns (s : State) (b : BayId) : ∃ s1 : State, ∃ P : Nat → Prop,
    ¬ P b.val ∧ SafeStep P s s1 ∧ SafeStep P (s1.safeTurn b.val) ((List.range 8).foldl State.safeTurn s) := by
  obtain ⟨l1, l2, hl⟩ := List.append_of_mem (List.mem_range.2 b.isLt)
  have hlt : ∀ c ∈ l1 ++ b.val :: l2, c < 8 := fun c hc => List.mem_range.1 (hl ▸ hc)
  have hnd : (l1 ++ b.val :: l2).Nodup := hl ▸ List.nodup_range
  rw [hl, List.foldl_append, List.foldl_cons]
  refine ⟨l1.foldl State.safeTurn s, (· ∈ l1 ++ l2), ?_, ?_, ?_⟩
  · obtain ⟨-, hl2, hdis⟩ := List.nodup_append.1 hnd
    exact fun h => (List.mem_append.1 h).elim (fun h1 => hdis _ h1 _ (.head _) rfl) (List.nodup_cons.1 hl2).1
  · exact (safeTurns_safeStep (fun c hc => hlt c (by simp [hc])) s).mono (fun c hc => by simp [hc])
  · exact (safeTurns_safeStep (fun c hc => hlt c (by simp [hc])) _).mono (fun c hc => by simp [hc])

/-- Settles O60: bay b has its turn once, and the turns of the other bays leave it alone. -/
theorem safeAllReach : Obligations.SafeAllReach := by
  unfold Obligations.SafeAllReach
  intro s b u key
  obtain ⟨s1, P, hP, hbefore, hafter⟩ := safeAll_turns s b
  have hb : bayOf b.val = b := Fin.ext (Nat.mod_eq_of_lt b.isLt)
  have hwhole : SafeStep (fun _ => True) s ((List.range 8).foldl State.safeTurn s) :=
    (safeTurns_safeStep (fun c hc => List.mem_range.1 hc) s).mono (fun _ _ => trivial)
  have hall : s.safeAll = ((List.range 8).foldl State.safeTurn s).flag R.SI_CTL 0 := rfl
  rw [hall]
  generalize (List.range 8).foldl State.safeTurn s = t at hafter hwhole
  have hkey : ∀ c : BayId, P c.val → R.BAY_CTL b.val ≠ R.BAY_CTL c.val := fun c hc e => hP (bayCtl_inj e ▸ hc)
  have hne : ∀ c : BayId, R.BAY_CTL c.val ≠ R.SI_CTL := fun c e => absurd (bayCtl_lt c) (by rw [e]; decide)
  have hctl : (t.flag R.SI_CTL 0).rd (R.BAY_CTL b.val) = (s1.safeTurn b.val).rd (R.BAY_CTL b.val) := by
    rw [State.rd_flag_other _ _ _ _ (hne b), hafter.rd _ hkey]
  have hbay : t.bay b = (s1.safeTurn b.val).bay b := hafter.other b hP
  have hpin : t.pin b u.val = (s1.safeTurn b.val).pin b u.val := by rw [State.pin, State.pin, hbay]
  have hseal : s1.baySealed b.val = s.baySealed b.val :=
    baySealed_of_rd (hbefore.rd _ (fun c _ e => absurd (bayCtl_lt c) (by rw [← e]; decide))) _
  have hopen : s.baySealed b.val = false → s1.safeTurn b.val = baySafeAll b 1 s1 := fun h => by
    rw [State.safeTurn, hseal, h, hb, if_neg Bool.false_ne_true]
  have hshut : s.baySealed b.val = true → s1.safeTurn b.val = s1 := fun h => by rw [State.safeTurn, hseal, if_pos h]
  have hsame : SameDrive b s s1 := by
    have e : s1.bay b = s.bay b := hbefore.other b hP
    exact ⟨by rw [e], fun v => by rw [State.pin, State.pin, e], by rw [State.now, hbefore.frame]; rfl⟩
  refine ⟨fun h => ?_, ?_, fun h => ?_, fun hk hc => ?_, fun h => ?_, fun h => ?_, ?_, fun h => ?_, bayTails_of_none_due, ?_, ?_, ?_, ?_⟩
  · rw [State.flagAt, hctl, hopen h]
    exact (baySafeAll_safe s1 b u).1
  · exact State.flagAt_flag_same t _ _ (by omega)
  · rw [hctl, hshut h]
    exact hbefore.rd _ hkey
  · rw [State.rd_flag_other _ _ _ _ hk]
    exact hwhole.rd key (fun c _ => hc c)
  · refine (congrArg Pin.safe hpin).trans ?_
    rw [hopen h]
    exact (baySafeAll_safe s1 b u).2
  · refine hbay.trans ?_
    rw [hshut h]
    exact hbefore.other b hP
  · exact hwhole.pad b u.val
  · have hd := (bayTails_sameDrive hsame).trans (baySafeAll_sameDrive s1 b 1)
    rw [← hopen h] at hd
    exact ⟨(congrArg Pin.drive hpin).trans (hd.drive u.val), (congrArg Bay.eng hbay).trans hd.eng⟩
  · exact hwhole.sram b
  · exact hwhole.posts b
  · rw [State.flag_mem, hwhole.frame]
  · rw [State.flag_cores, hwhole.frame]

end Sys2Proof.Machine
end

section
/-! Stores of an Ant engine (R124, R125): bytes read as written, and no other byte changes. -/

namespace Sys2Proof.Machine

/-! ### Bytes read as written -/

@[simp] theorem toBytes_length {n : Nat} (x : BitVec n) (k : Nat) : (toBytes x k).length = k := by
  induction k with
  | zero => rfl
  | succ k ih => simp [toBytes, ih]

theorem toBytes_getElem? {n : Nat} (x : BitVec n) {j : Nat} : ∀ {k : Nat}, j < k → (toBytes x k)[j]? = some (byteAt x j)
  | 0, h => by omega
  | k + 1, h => by
    unfold toBytes
    by_cases hj : j < k
    · rw [List.getElem?_append_left (by simpa using hj), toBytes_getElem? x hj]
    · have e : j = k := by omega
      subst e
      rw [List.getElem?_append_right (by simp)]
      simp

/-- Byte j of the little-endian bytes of a number. -/
theorem leBytes_getElem? {k j : Nat} (v : Nat) (h : j < k) : (leBytes k v)[j]? = some (BitVec.ofNat 8 (v / 2 ^ (8 * j))) := by
  unfold leBytes
  rw [toBytes_getElem? _ h, Option.some_inj]
  apply BitVec.eq_of_getLsbD_eq
  intro i hi
  have hlt : i + 8 * j < 8 * k := by omega
  rw [BitVec.getLsbD_ofNat, Nat.testBit_div_two_pow]
  rw [byteAt, BitVec.truncate_eq_setWidth, BitVec.getLsbD_setWidth, BitVec.getLsbD_ushiftRight, BitVec.getLsbD_ofNat]
  simp [hi, hlt, Nat.add_comm]

theorem cellGet_write_same (d : Byte) : ∀ (bs : List Byte) (m : List Host.Cell) (a j : Nat) (v : Byte), cellsFrom d 0 m = true → bs[j]? = some v →
    cellGet d (cellWrite d m a bs) (a + j) = v
  | [], _, _, _, _, _, h => by simp at h
  | b :: bs, m, a, 0, v, hm, h => by
    have hv : b = v := by simpa using h
    rw [cellWrite, cellGet_write_other d (a + 0) bs _ _ (cellSet_wf d a b m 0 (Nat.zero_le _) hm) (by omega), hv, Nat.add_zero]
    exact cellGet_set_same d a v m 0 hm
  | b :: bs, m, a, j + 1, v, hm, h => by
    have hv : bs[j]? = some v := by simpa using h
    have ih := cellGet_write_same d bs (cellSet d m a b) (a + 1) j v (cellSet_wf d a b m 0 (Nat.zero_le _) hm) hv
    rwa [Nat.add_assoc, Nat.add_comm 1 j] at ih

/-- Bytes written one by one at offsets from a base. -/
def cellPuts (d : Byte) (o : Nat) (m : List Host.Cell) (l : List (Nat × Byte)) : List Host.Cell :=
  l.foldl (fun m p => cellWrite d m (o + p.1) [p.2]) m

theorem cellPuts_wf (d : Byte) (o : Nat) : ∀ (l : List (Nat × Byte)) (m : List Host.Cell), cellsFrom d 0 m = true → cellsFrom d 0 (cellPuts d o m l) = true
  | [], _, h => h
  | p :: l, m, h => cellPuts_wf d o l _ (cellWrite_wf d [p.2] m (o + p.1) h)

theorem cellGet_puts_other (d : Byte) (o x : Nat) : ∀ (l : List (Nat × Byte)) (m : List Host.Cell), cellsFrom d 0 m = true →
    (∀ p ∈ l, x ≠ o + p.1) → cellGet d (cellPuts d o m l) x = cellGet d m x
  | [], _, _, _ => rfl
  | p :: l, m, h, hx => by
    have hp : x ≠ o + p.1 := hx p (by simp)
    have ih := cellGet_puts_other d o x l _ (cellWrite_wf d [p.2] m (o + p.1) h) (fun q hq => hx q (by simp [hq]))
    exact ih.trans (cellGet_write_other d x [p.2] m (o + p.1) h (by simp only [List.length_singleton]; omega))

theorem cellGet_puts_same (d : Byte) (o j : Nat) (v : Byte) : ∀ (l : List (Nat × Byte)) (m : List Host.Cell), cellsFrom d 0 m = true →
    (l.map (·.1)).Nodup → (j, v) ∈ l → cellGet d (cellPuts d o m l) (o + j) = v
  | [], _, _, _, h => by simp at h
  | p :: l, m, hm, hnd, h => by
    have hw := cellWrite_wf d [p.2] m (o + p.1) hm
    rw [List.map_cons, List.nodup_cons] at hnd
    rcases List.mem_cons.1 h with rfl | hl
    · have hother := cellGet_puts_other d o (o + j) l _ hw (fun q hq e => hnd.1 (List.mem_map.2 ⟨q, hq, by omega⟩))
      exact hother.trans (cellGet_write_same d [v] m (o + j) 0 v hm rfl)
    · exact cellGet_puts_same d o j v l _ hw hnd.2 hl

theorem mem_indexed {α : Type} {l : List α} {j : Nat} {v : α} : (j, v) ∈ indexed l ↔ l[j]? = some v := by
  simp only [indexed, List.mem_map, Prod.exists, Prod.mk.injEq, List.mem_zipIdx_iff_getElem?]
  exact ⟨fun ⟨_, _, h, hj, hv⟩ => hj ▸ hv ▸ h, fun h => ⟨v, j, h, rfl, rfl⟩⟩

theorem indexed_nodup {α : Type} (l : List α) : ((indexed l).map (·.1)).Nodup := by
  have h : (indexed l).map (·.1) = List.range' 0 l.length := by simp [indexed, Function.comp_def, List.zipIdx_map_snd]
  rw [h]
  exact List.nodup_range'

/-! ### Stores of an engine (R124, R125) -/

/-- A byte of bay SRAM that a higher logical engine stored in this clock (R125). -/
def State.heldByte (s : State) (b : BayId) (e : EngId) (o : Nat) : Bool :=
  (s.bay b).wrAt == s.clockNow && (s.bay b).wrBy.any (fun q => q.1 == o && decide ((s.eng b e.val).logical < q.2))

/-- The bytes of a store that reach bay SRAM, each with its index. -/
def State.freeBytes (s : State) (b : BayId) (e : EngId) (o n v : Nat) : List (Nat × Byte) :=
  (indexed (leBytes n v)).filter (fun p => !s.heldByte b e (o + p.1))

theorem mem_freeBytes {s : State} {b : BayId} {e : EngId} {o n v : Nat} {p : Nat × Byte} :
    p ∈ s.freeBytes b e o n v ↔ (leBytes n v)[p.1]? = some p.2 ∧ s.heldByte b e (o + p.1) = false := by
  obtain ⟨i, x⟩ := p
  rw [State.freeBytes, List.mem_filter, mem_indexed, Bool.not_eq_true']

theorem freeBytes_nodup (s : State) (b : BayId) (e : EngId) (o n v : Nat) : ((s.freeBytes b e o n v).map (·.1)).Nodup :=
  ((indexed_nodup _).sublist (List.filter_sublist.map _))

theorem antWrite_own {a : Nat} (h : a < 0x4000) (s : State) (b : BayId) (e : EngId) (n v : Nat) :
    s.antWrite b e a n v = s.setEng b e.val { s.eng b e.val with sram := cellWrite 0 (s.eng b e.val).sram a (leBytes n v) } := if_pos h

theorem antWrite_shared {a : Nat} (h : ¬ a < 0x4000) (s : State) (b : BayId) (e : EngId) (n v : Nat) :
    ∃ wrBy, s.antWrite b e a n v = s.setBay b { s.bay b with
      sram := cellPuts 0 (a - 0x10000) (s.bay b).sram (s.freeBytes b e (a - 0x10000) n v), wrAt := s.clockNow, wrBy := wrBy } := by
  have hwas : ∀ o, (if (s.bay b).wrAt = s.clockNow then (s.bay b).wrBy else []).any (fun q => q.1 == o && decide ((s.eng b e.val).logical < q.2)) =
      s.heldByte b e o := by
    intro o
    unfold State.heldByte
    split
    next h => rw [beq_iff_eq.2 h, Bool.true_and]
    next h => rw [beq_false_of_ne h, Bool.false_and, List.any_nil]
  unfold State.antWrite
  rw [if_neg h]
  simp only [hwas]
  exact ⟨_, rfl⟩

/-- Bytes past the number's own bytes are none. -/
theorem leBytes_index_lt {n v j : Nat} {x : Byte} (h : (leBytes n v)[j]? = some x) : j < n := by
  have hlt := (List.getElem?_eq_some_iff.1 h).1
  simpa [leBytes] using hlt

/-- Settles O32: by which SRAM the address names. -/
theorem antStoreFrame : Obligations.AntStoreFrame := by
  unfold Obligations.AntStoreFrame
  intro b e s a n v j hown hshared t own shared higher
  by_cases ha : a < 0x4000
  · have ht : t = _ := antWrite_own ha s b e n v
    have heng : t.eng b e.val = { s.eng b e.val with sram := cellWrite 0 (s.eng b e.val).sram a (leBytes n v) } := by
      rw [ht, eng_setEng, if_pos rfl]
    have hbay : (t.bay b).sram = (s.bay b).sram := by rw [ht]; exact (setEng_bayStep s b e.val _).sram
    refine ⟨?_, by rw [hbay]; exact hshared, fun _ => ⟨?_, fun hj => ?_⟩, fun h => by omega, fun _ hj => ?_, fun h => by omega, fun h => by omega, ?_, ?_, ?_, ?_⟩
    · rw [heng]
      exact cellWrite_wf 0 _ _ _ hown
    · simp only [shared, hbay]
    · simp only [own, heng]
      exact cellGet_write_other 0 j _ _ a hown (by simpa [leBytes] using hj)
    · simp only [own, heng]
      exact cellGet_write_same 0 _ _ a j _ hown (leBytes_getElem? v hj)
    · rw [heng]
    · rw [heng]
    · rw [ht]; rfl
    · rw [ht]; rfl
  · obtain ⟨wrBy, ht⟩ := antWrite_shared ha s b e n v
    have ht : t = _ := ht
    have hbay : (t.bay b).sram = cellPuts 0 (a - 0x10000) (s.bay b).sram (s.freeBytes b e (a - 0x10000) n v) := by
      rw [ht, State.bay_setBay_same]
    have heng : t.eng b e.val = s.eng b e.val := by
      rw [ht, State.eng, State.eng, State.bay_setBay_same]
    have hheld : ∀ i, higher i = s.heldByte b e (a - 0x10000 + i) := fun _ => rfl
    have hout : ∀ x, (∀ p ∈ s.freeBytes b e (a - 0x10000) n v, x ≠ a - 0x10000 + p.1) → shared t x = shared s x := by
      intro x hx
      simp only [shared, hbay]
      exact cellGet_puts_other 0 _ x _ _ hshared hx
    refine ⟨by rw [heng]; exact hown, ?_, fun h => by omega, fun h => ⟨?_, fun hj => hout j fun p hp e => ?_⟩, fun h => by omega, fun h hj hh => ?_,
      fun h hj hh => hout _ fun p hp e => ?_, by rw [heng], by rw [heng], ?_, ?_⟩
    · rw [hbay]
      exact cellPuts_wf 0 _ _ _ hshared
    · simp only [own, heng]
    · have hlt := leBytes_index_lt (mem_freeBytes.1 hp).1
      omega
    · simp only [shared, hbay]
      exact cellGet_puts_same 0 _ j _ _ _ hshared (freeBytes_nodup s b e _ n v) (mem_freeBytes.2 ⟨leBytes_getElem? v hj, hh⟩)
    · have hfree := (mem_freeBytes.1 hp).2
      rw [← e, ← hheld, hh] at hfree
      cases hfree
    · rw [ht]; rfl
    · rw [ht]; rfl

end Sys2Proof.Machine
end

section
/-! The words of both instruction sets (R127, R238): their fields read back, and the decoders give back their rows. -/

namespace Sys2Proof.Machine

/-! ### The fields of a word, format by format (R127, R238) -/

section
open BitVec

/-- A field above the lowest part of a word. -/
theorem extract_above {v w start len : Nat} {x : BitVec v} {y : BitVec w} (h : w ≤ start) : (x ++ y).extractLsb' start len = x.extractLsb' (start - w) len :=
  extractLsb'_append_eq_of_le h

variable (op fn6 : BitVec 6) (d a b c : Reg) (fn : BitVec 11) (imm : BitVec 16)

@[simp] theorem sisFields_wordR :
    let x := sisFields (wordR op d a b fn)
    x.op = op ∧ x.d = d ∧ x.a = a ∧ x.b = b ∧ x.fn = fn :=
  ⟨(extract_above (by decide)).trans ((extract_above (by decide)).trans ((extract_above (by decide)).trans extractLsb'_append_eq_left)),
    (extract_above (by decide)).trans ((extract_above (by decide)).trans ((extract_above (by decide)).trans extractLsb'_append_eq_right)),
    (extract_above (by decide)).trans ((extract_above (by decide)).trans extractLsb'_append_eq_right),
    (extract_above (by decide)).trans extractLsb'_append_eq_right, extractLsb'_append_eq_right⟩

@[simp] theorem sisFields_wordR5 :
    let x := sisFields (wordR5 op d a b c fn6)
    x.op = op ∧ x.d = d ∧ x.a = a ∧ x.b = b ∧ x.c = c ∧ x.fn6 = fn6 :=
  ⟨(extract_above (by decide)).trans ((extract_above (by decide)).trans ((extract_above (by decide)).trans
      ((extract_above (by decide)).trans extractLsb'_append_eq_left))),
    (extract_above (by decide)).trans ((extract_above (by decide)).trans ((extract_above (by decide)).trans
      ((extract_above (by decide)).trans extractLsb'_append_eq_right))),
    (extract_above (by decide)).trans ((extract_above (by decide)).trans ((extract_above (by decide)).trans extractLsb'_append_eq_right)),
    (extract_above (by decide)).trans ((extract_above (by decide)).trans extractLsb'_append_eq_right),
    (extract_above (by decide)).trans extractLsb'_append_eq_right, extractLsb'_append_eq_right⟩

@[simp] theorem sisFields_wordI :
    let x := sisFields (wordI op d a imm)
    x.op = op ∧ x.d = d ∧ x.a = a ∧ x.imm = imm :=
  ⟨(extract_above (by decide)).trans ((extract_above (by decide)).trans extractLsb'_append_eq_left),
    (extract_above (by decide)).trans ((extract_above (by decide)).trans extractLsb'_append_eq_right),
    (extract_above (by decide)).trans extractLsb'_append_eq_right, extractLsb'_append_eq_right⟩

@[simp] theorem sisFields_wordB :
    let x := sisFields (wordB op d a imm)
    x.op = op ∧ x.d = d ∧ x.a = a ∧ x.imm = imm := sisFields_wordI op d a imm

@[simp] theorem sisFields_wordU_op (imm : BitVec 21) : (sisFields (wordU op d imm)).op = op :=
  (extract_above (by decide)).trans extractLsb'_append_eq_left

@[simp] theorem sisFields_wordJ_op (off : BitVec 26) : (sisFields (wordJ op off)).op = op := extractLsb'_append_eq_left

/-! ### The parts of fn, fn6 and imm16 -/

@[simp] theorem bit1_toNat (b : Bool) : (bit1 b).toNat = b2n b := by cases b <;> rfl

theorem amoFn_fields (op : BitVec 4) (dbl : Bool) (ord : BitVec 2) :
    (amoFn op dbl ord).extractLsb' 4 4 = 0 ∧ (amoFn op dbl ord).extractLsb' 0 4 = op :=
  ⟨(extract_above (by decide)).trans extractLsb'_append_eq_right, extractLsb'_append_eq_right⟩

theorem fopFn_fields (sgl : Bool) (rnd : BitVec 3) (op : BitVec 7) :
    (fopFn sgl rnd op).extractLsb' 7 3 = rnd ∧ (fopFn sgl rnd op).extractLsb' 0 7 = op :=
  ⟨(extract_above (by decide)).trans extractLsb'_append_eq_right, extractLsb'_append_eq_right⟩

theorem fmaFn_fields (op : BitVec 2) (sgl : Bool) (rnd : BitVec 3) :
    (fmaFn op sgl rnd).extractLsb' 0 3 = rnd ∧ (fmaFn op sgl rnd).extractLsb' 4 2 = op :=
  ⟨extractLsb'_append_eq_right, (extract_above (by decide)).trans extractLsb'_append_eq_left⟩

theorem vopFn_fields (ty : BitVec 3) (op : BitVec 6) :
    (vopFn ty op).extractLsb' 8 3 = ty ∧ (vopFn ty op).extractLsb' 6 2 = 0 ∧ (vopFn ty op).extractLsb' 0 6 = op :=
  ⟨(extract_above (by decide)).trans extractLsb'_append_eq_left, (extract_above (by decide)).trans extractLsb'_append_eq_right, extractLsb'_append_eq_right⟩

theorem vr4Fn_bit0 : ∀ (op : BitVec 3) (ty : BitVec 2), (vr4Fn op ty)[0] = false := by decide

theorem vr4Fn_fields (op : BitVec 3) (ty : BitVec 2) :
    (vr4Fn op ty).extractLsb' 1 2 = ty ∧ (vr4Fn op ty).extractLsb' 3 3 = op :=
  ⟨(extract_above (by decide)).trans extractLsb'_append_eq_right,  (extract_above (by decide)).trans extractLsb'_append_eq_left⟩

theorem shiftImm_bit8 (kind : ShiftKind) (w32 : Bool) (sh : BitVec 6) : (shiftImm kind w32 sh).getLsbD 8 = w32 := by
  rw [shiftImm, getLsbD_append, getLsbD_append, getLsbD_append]
  cases w32 <;> rfl

theorem shiftImm_fields (kind : ShiftKind) (w32 : Bool) (sh : BitVec 6) :
    (shiftImm kind w32 sh).extractLsb' 6 2 = shiftBits kind ∧ (shiftImm kind w32 sh).getLsbD 8 = w32 ∧
    (shiftImm kind w32 sh).extractLsb' 0 6 = sh ∧ (shiftImm kind w32 sh).extractLsb' 9 7 = 0 :=
  ⟨(extract_above (by decide)).trans extractLsb'_append_eq_right, shiftImm_bit8 kind w32 sh, extractLsb'_append_eq_right,
    (extract_above (by decide)).trans ((extract_above (by decide)).trans extractLsb'_append_eq_left)⟩

/-- fn of LDAQ (R247). -/
theorem ldaqFn_fields : ∀ size : BitVec 2,
    let fn : BitVec 11 := (0 : BitVec 1) ++ size ++ (0 : BitVec 8)
    fn.extractLsb' 2 6 = 0 ∧ fn.getLsbD 10 = false ∧ fn.extractLsb' 0 2 = 0 := by decide

/-- fn of STRL (R247). -/
theorem strlFn_fields : ∀ size : BitVec 2,
    let fn : BitVec 11 := (0 : BitVec 1) ++ size ++ (1 : BitVec 8)
    fn.extractLsb' 2 6 = 0 ∧ fn.getLsbD 10 = false ∧ fn.extractLsb' 0 2 = 1 := by decide

/-- imm16 of SYSR and SYSW (R262). -/
theorem sysImm_sub (sub : BitVec 4) (n : BitVec 12) : (sub ++ n).extractLsb' 12 4 = sub :=
  extractLsb'_append_eq_left

/-- fn of FENCE (R256). -/
theorem fenceFn_lt (m : BitVec 4) : ((0 : BitVec 7) ++ m : BitVec 11).toNat < 16 := by
  rw [toNat_append]
  simpa using m.isLt

/-- fn of DONE (R265). -/
theorem doneFn_kind (status : Byte) : ((3 : BitVec 3) ++ status : BitVec 11).extractLsb' 8 3 = 3 :=
  extractLsb'_append_eq_left

/-! ### The decoder by opcode -/

section
variable (d a b c : Reg) (fn : BitVec 11) (fn6 : BitVec 6) (imm : BitVec 16)

theorem sisDecode_op : sisDecode (wordR 1 d a b fn) = decOp ⟨1, d, a, b, 0, fn, 0, 0⟩ := by
  simp [sisDecode, decOp]
theorem sisDecode_amo : sisDecode (wordR 0x21 d a b fn) = decAmo ⟨0x21, d, a, b, 0, fn, 0, 0⟩ := by
  simp [sisDecode, decAmo]
theorem sisDecode_ord : sisDecode (wordR 0x22 d a b fn) = decOrd ⟨0x22, d, a, b, 0, fn, 0, 0⟩ := by
  simp [sisDecode, decOrd]
theorem sisDecode_fop : sisDecode (wordR 0x34 d a b fn) = decFop ⟨0x34, d, a, b, 0, fn, 0, 0⟩ := by
  simp [sisDecode, decFop]
theorem sisDecode_vop : sisDecode (wordR 0x38 d a b fn) = decVop ⟨0x38, d, a, b, 0, fn, 0, 0⟩ := by
  simp [sisDecode, decVop]
theorem sisDecode_misc : sisDecode (wordR 0x3b d a b fn) = decMisc ⟨0x3b, d, a, b, 0, fn, 0, 0⟩ := by
  simp [sisDecode, decMisc, decTlbi]
theorem sisDecode_frame : sisDecode (wordR 0x3f d a b fn) = decFrame ⟨0x3f, d, a, b, 0, fn, 0, 0⟩ := by
  simp [sisDecode, decFrame]
theorem sisDecode_fma : sisDecode (wordR5 0x35 d a b c fn6) = decFma ⟨0x35, d, a, b, c, 0, fn6, 0⟩ := by
  simp [sisDecode, decFma]
theorem sisDecode_vr4 : sisDecode (wordR5 0x39 d a b c fn6) = decVr4 ⟨0x39, d, a, b, c, 0, fn6, 0⟩ := by
  simp [sisDecode, decVr4]
theorem sisDecode_tint : sisDecode (wordR5 0x3c d a b c fn6) = decTable ⟨0x3c, d, a, b, c, 0, fn6, 0⟩ := by
  simp [sisDecode, decTable]
theorem sisDecode_block : sisDecode (wordR5 0x3d d a b c fn6) = decTable ⟨0x3d, d, a, b, c, 0, fn6, 0⟩ := by
  simp [sisDecode, decTable]
theorem sisDecode_sld : sisDecode (wordR5 0x3e d a b c fn6) = decTable ⟨0x3e, d, a, b, c, 0, fn6, 0⟩ := by
  simp [sisDecode, decTable]
theorem sisDecode_shift : sisDecode (wordI 8 d a imm) = decShift ⟨8, d, a, 0, 0, 0, 0, imm⟩ := by
  simp [sisDecode, decShift]
theorem sisDecode_sys : sisDecode (wordI 0x3a d a imm) = decSys ⟨0x3a, d, a, 0, 0, 0, 0, imm⟩ := by
  simp [sisDecode, decSys]

end

end

/-- A shift of a 32-bit register is below 32 exactly where bit 5 of its amount is clear (R243). -/
theorem shift_bit5 : ∀ (w32 : Bool) (sh : BitVec 6), (w32 && sh.getLsbD 5) = (w32 && decide (32 ≤ sh.toNat)) := by decide

/-- The lanes of a type, by its number and by its field (R254). -/
theorem lanes_toNat : ∀ ty : BitVec 3, (if ty.toNat = 0 then 2 else 4) = if ty = 0 then 2 else 4 := by decide

/-- The decoder gives back the row of every Scarab word whose operands its row allows. -/
theorem sisDecode_sisWord (i : Instr) (w : W32) (h : sisWord i = some w) (hb : sisBad i = false) : sisDecode w = sisOp i := by
  cases i <;> cases h
  all_goals change sisDecode _ = some _
  case add | sub | and | or | xor | sll | srl | sra | slt | sltu | min | max | minu | maxu | mul | mulh | mulhu | div | divu | rem | remu | addw | subw | sllw
    | srlw | sraw | mulw | divw | divuw | remw | remuw | clz | ctz | popc => rw [sisDecode_op]; rfl
  case addi | andi | ori | xori | slti | sltiu | addiw | jalr | ld | lw | lwu | lh | lhu | lb
    | lbu | st | sw | sh | sb | fld | flw | fsd | fsw | vld | vst => rw [sisDecode, (sisFields_wordI ..).1]; rfl
  case beq | bne | blt | bge | bltu | bgeu => rw [sisDecode, (sisFields_wordB ..).1]; rfl
  case lui | auipc => rw [sisDecode, sisFields_wordU_op]; rfl
  case j | jal => rw [sisDecode, sisFields_wordJ_op]; rfl
  case shifti kind w32 sh => 
    obtain ⟨hkind, hw, hsh, htop⟩ := shiftImm_fields kind w32 sh
    have hsmall : (w32 && sh.getLsbD 5) = false := (shift_bit5 w32 sh).trans hb
    simp only [sisDecode_shift, decShift, hkind, hw, hsh, htop, hsmall]
    cases kind <;> rfl
  case amoSwap | amoAdd | amoAnd | amoOr | amoXor | amoMin | amoMax | amoMinu | amoMaxu | cas => rw [sisDecode_amo]; simp [decAmo, amoFn_fields]
  case ldaq size =>
    obtain ⟨hlow, htop, hkind⟩ := ldaqFn_fields size
    rw [sisDecode_ord, decOrd, hlow, htop, hkind]; rfl
  case strl size =>
    obtain ⟨hlow, htop, hkind⟩ := strlFn_fields size
    rw [sisDecode_ord, decOrd, hlow, htop, hkind]; rfl
  case fadd | fsub | fmul | fdiv | fsqrt | ftos64 | ftou64 | ftos32 | ftou32 | s64tof | u64tof | s32tof | u32tof | fresize =>
    rw [sisDecode_fop]
    simpa [decFop, fopFn_fields, whenOk] using of_decide_eq_false hb
  case fmin | fmax | fminnum | fmaxnum | fcps | fcmp | fcmpo | fabs | fneg | fkind | fbits | xbits =>
    rw [sisDecode_fop]
    simp [decFop, fopFn_fields, whenOk]
  case fmaA | fmaS | fmaNa | fmaNs => 
    rw [sisDecode_fma]
    simpa [decFma, fmaFn_fields] using of_decide_eq_false hb
  case vadd | vsub | vmul | vdiv | vmin | vmax | vand | vor | vxor | vcmpeq | vcmplt | vcmple | vsqrt | vsplatX | vsplatF | vsumh =>
    rw [sisDecode_vop]
    simpa [decVop, vopFn_fields, whenOk] using of_decide_eq_false hb
  case vshl | vsra | vcvt =>
    have hty := of_decide_eq_false hb
    rw [sisDecode_vop]
    simp [decVop, vopFn_fields, whenOk]
    omega
  case vextX | vinsX | vextF | vinsF =>
    have hty := of_decide_eq_false hb
    simp only [← lanes_toNat] at hty
    rw [sisDecode_vop]
    simp [decVop, vopFn_fields, whenOk]
    omega
  case vr4FmaA | vr4FmaS | vr4FmaNa | vr4FmaNs =>
    rw [sisDecode_vr4]
    simpa [decVr4, vr4Fn_fields, vr4Fn_bit0, whenOk] using of_decide_eq_false hb
  case vsel => rw [sisDecode_vr4]; simp [decVr4, vr4Fn_fields, vr4Fn_bit0]
  case sysr | sysw => rw [sisDecode_sys, decSys, sysImm_sub]; rfl
  case fence m => rw [sisDecode_misc]; simp only [decMisc, fenceFn_lt]; rfl
  case ifence | iofence | brk | ecall | cleanVa | invVa | clinvVa | clinvSw | zeroVa | wcall | eret => rw [sisDecode_misc]; rfl
  case tlbiAll bcast | tlbiAsid bcast | tlbiVa bcast | tlbiVaAll bcast | tlbiWalk bcast =>
    rw [sisDecode_misc]
    cases bcast <;> simp [decMisc, decTlbi, bit1]
  case tint1 | tint2 => rw [sisDecode_tint]; rfl
  case tint3 => rw [sisDecode_tint]; simpa [decTable, whenOk, sisBad] using hb
  case blkcpy | blkset | vdot => rw [sisDecode_block]; rfl
  case sld => rw [sisDecode_sld]; simpa [decTable, whenOk, sisBad] using hb
  case stamp | frameN | frameT => rw [sisDecode_frame]; simp [decFrame, whenOk]
  case done => rw [sisDecode_frame, decFrame, doneFn_kind]; rfl

/-! ### The words of the Ant engines (R127, R128) -/

section
open BitVec
variable (op : BitVec 6) (n : Bool) (d a b : AReg) (u : Byte) (imm : BitVec 10) 

theorem antFields_antA : (antFields (antA op d a b)).op = op ∧ (antFields (antA op d a b)).low = 0 :=
  ⟨(extract_above (by decide)).trans ((extract_above (by decide)).trans ((extract_above (by decide)).trans extractLsb'_append_eq_left)), extractLsb'_append_eq_right⟩

theorem antFields_antB (imm : BitVec 18) : (antFields (antB op d a imm)).op = op ∧ (antFields (antB op d a imm)).a = a :=
  ⟨(extract_above (by decide)).trans ((extract_above (by decide)).trans extractLsb'_append_eq_left),
    (extract_above (by decide)).trans extractLsb'_append_eq_right⟩

theorem antFields_antC_op (off : BitVec 17) : (antFields (antC op n a b off)).op = op :=
  (extract_above (by decide)).trans ((extract_above (by decide)).trans ((extract_above (by decide)).trans extractLsb'_append_eq_left))

theorem antFields_antD_op (off : BitVec 25) : (antFields (antD op n off)).op = op :=
  (extract_above (by decide)).trans extractLsb'_append_eq_left

theorem antFields_antE_op : (antFields (antE op d a u imm)).op = op :=
  (extract_above (by decide)).trans ((extract_above (by decide)).trans ((extract_above (by decide)).trans extractLsb'_append_eq_left))

theorem antFields_antE_d : (antFields (antE op d a u imm)).d = d :=
  (extract_above (by decide)).trans ((extract_above (by decide)).trans ((extract_above (by decide)).trans extractLsb'_append_eq_right))

theorem antFields_antE_u : (antFields (antE op d a u imm)).u = u :=
  (extract_above (by decide)).trans extractLsb'_append_eq_right

theorem antFields_antE_imm : (antFields (antE op d a u imm)).imm = imm := extractLsb'_append_eq_right

/-- A shift amount leaves the 13 upper bits of its immediate 0. -/
theorem antShift_upper (sh : BitVec 5) : (antB op d a ((0 : BitVec 13) ++ sh)).extractLsb' 5 13 = 0 := by
  rw [antB, extractLsb'_append_eq_of_add_le (by decide), extractLsb'_append_eq_left]

/-- A jump to a register leaves field b and off17 0. -/
theorem antJump_low : (antC op n a 0 0).extractLsb' 0 21 = 0 := by
  ext i hi
  simp [antC]
  rw [getLsbD_append, getLsbD_append]
  split
  · simp
  · simp; omega

/-- imm10 of CMPW without the cancel bit. -/
theorem cmpwImm_bit2 : ∀ act : BitVec 2, ((0 : BitVec 8) ++ act : BitVec 10).getLsbD 2 = false := by decide

/-- The decoder gives back the row of every Ant word whose operands its row allows. -/
theorem antDecode_antWord (i : Instr) (w : W32) (h : antWord i = some w) (hb : antBad i = false) : antDecode w = antOp i := by
  cases i <;> cases h
  all_goals change antDecode _ = some _
  case nop => rfl
  case antAdd | antSub | antAnd | antOr | antXor | shl | shr | sar | antSlt | antSltu | antMul | antMulh | crcb =>
    rw [antDecode, (antFields_antA ..).1, (antFields_antA ..).2]; rfl
  case antAddi | antAndi | antOri | antXori | antSlti | ldw | ldh | ldhu | ldb | ldbu | stw | sth | stb =>
    rw [antDecode, (antFields_antB ..).1]; rfl
  case antLui => rw [antDecode, (antFields_antB ..).1, (antFields_antB ..).2]; rfl
  case shli | shri | sari => rw [antDecode, (antFields_antB ..).1, antShift_upper]; rfl
  case antBeq | antBne | antBlt | antBge | antBltu | antBgeu => rw [antDecode, antFields_antC_op]; rfl
  case jr | antJalr => rw [antDecode, antFields_antC_op, antJump_low]; rfl
  case antJ | antJal => rw [antDecode, antFields_antD_op]; rfl
  case prd | pwr | suw | sutx | surx | frm => rw [antDecode, antFields_antE_op]; rfl
  case evret | evwait | evcfg | evpend | tmr | door | antSysId | antSysStatus =>
    rw [antDecode, antFields_antE_op, antFields_antE_u]; rfl
  case capr | post | tsr =>
    have heven : BitVec.getLsbD _ 0 = false := hb
    rw [antDecode, antFields_antE_op, antFields_antE_d, heven]; rfl
  case cmpw act =>
    have heven : BitVec.getLsbD _ 0 = false := hb
    rw [antDecode, antFields_antE_op, antFields_antE_d, antFields_antE_imm, heven, cmpwImm_bit2]; rfl
  case cmpwCancel => rw [antDecode, antFields_antE_op, antFields_antE_d, antFields_antE_imm]; rfl

end

theorem sisOp_isSome_of_word {i : Instr} {w : W32} (h : sisWord i = some w) : (sisOp i).isSome = true := by
  cases i <;> cases h <;> rfl

theorem antOp_isSome_of_word {i : Instr} {w : W32} (h : antWord i = some w) : (antOp i).isSome = true := by
  cases i <;> cases h <;> rfl

/-- Settles O5: a word's fields are read back format by format, the opcode picks the row's own decoder, and that decoder finds the row. -/
theorem wordsRoundTrip : Obligations.WordsRoundTrip := by
  unfold Obligations.WordsRoundTrip
  intro i w op fn6 d a b c fn imm
  exact ⟨fun h hb => ⟨sisOp_isSome_of_word h, sisDecode_sisWord i w h hb⟩, fun h hb => ⟨antOp_isSome_of_word h, antDecode_antWord i w h hb⟩,
    sisFields_wordR .., sisFields_wordR5 .., sisFields_wordI .., sisFields_wordB ..⟩

end Sys2Proof.Machine
end

section
/-! Integer instructions of a Scarab core (R241, R243), and the words of its instructions as their bodies raise them (R240). -/

namespace Sys2Proof.Machine

/-! ### The words the bodies raise are the words of the tables -/

theorem toNat_append_add {v w : Nat} (x : BitVec v) (y : BitVec w) : (x ++ y).toNat = x.toNat * 2 ^ w + y.toNat := by
  rw [BitVec.toNat_append, ← Nat.shiftLeft_add_eq_or_of_lt y.isLt, Nat.shiftLeft_eq]

section
variable (op fn6 : BitVec 6) (d a b c : Reg) (fn : BitVec 11) (imm : BitVec 16)

theorem encR_eq : encR op.toNat d.toNat a.toNat b.toNat fn.toNat = wordR op d a b fn := by
  apply BitVec.eq_of_toNat_eq
  simp only [encR, wordR, toNat_append_add, BitVec.toNat_ofNat]
  omega

theorem encR5_eq : encR5 op.toNat d.toNat a.toNat b.toNat c.toNat fn6.toNat = wordR5 op d a b c fn6 := by
  apply BitVec.eq_of_toNat_eq
  simp only [encR5, encR, wordR5, toNat_append_add, BitVec.toNat_ofNat]
  omega

theorem encI_eq : encI op.toNat d.toNat a.toNat imm.toNat = wordI op d a imm := by
  apply BitVec.eq_of_toNat_eq
  simp only [encI, wordI, toNat_append_add, BitVec.toNat_ofNat]
  omega

theorem shiftiWord_eq (kind : ShiftKind) (w32 : Bool) (sh : BitVec 6) : shiftiWord d a kind w32 sh = wordI 8 d a (shiftImm kind w32 sh) := by
  rw [← encI_eq]
  refine congrArg (encI 8 d.toNat a.toNat) ?_
  simp only [shiftImm, toNat_append_add, bit1_toNat]
  cases kind <;> simp [shiftBits] <;> omega

theorem fopWord_eq (sgl : Bool) (rnd : BitVec 3) (op : BitVec 7) : fopWord sgl rnd.toNat op.toNat d a b = wordR 0x34 d a b (fopFn sgl rnd op) := by
  rw [← encR_eq, fopWord]
  congr 1
  simp only [fopFn, toNat_append_add, bit1_toNat]
  omega

theorem fmaWord_eq (op : BitVec 2) (sgl : Bool) (rnd : BitVec 3) : fmaWord op.toNat sgl rnd.toNat d a b c = wordR5 0x35 d a b c (fmaFn op sgl rnd) := by
  rw [← encR5_eq, fmaWord]
  congr 1
  simp only [fmaFn, toNat_append_add, bit1_toNat]
  omega

theorem vopWord_eq (ty : BitVec 3) (op : BitVec 6) : vopWord ty op.toNat d a b = wordR 0x38 d a b (vopFn ty op) := by
  rw [← encR_eq, vopWord]
  congr 1
  simp only [vopFn, toNat_append_add, BitVec.ofNat_eq_ofNat, BitVec.toNat_ofNat]
  omega

theorem vr4Word_eq (op : BitVec 3) (ty : BitVec 2) : vr4Word op.toNat ty d a b c = wordR5 0x39 d a b c (vr4Fn op ty) := by
  rw [← encR5_eq, vr4Word]
  congr 1
  simp only [vr4Fn, toNat_append_add, BitVec.ofNat_eq_ofNat, BitVec.toNat_ofNat]
  omega

theorem sysWord_eq (sub : BitVec 4) (n : BitVec 12) : sysWord sub.toNat d a n = wordI 0x3a d a (sub ++ n) := by
  rw [← encI_eq, sysWord]
  congr 1
  exact (toNat_append_add sub n).symm

theorem miscWord_eq : miscWord a b fn.toNat = wordR 0x3b 0 a b fn := by
  rw [← encR_eq, miscWord]
  rfl

end

/-- An instruction whose body raises the illegal-instruction exception of its own word. -/
theorem IllegalWhen.of_body {k : CoreId} {i : Instr} {P : CoreSt → Prop} {body : State → MRes Next} {w : W32}
    (he : ∀ s, exec i s = .next (s.instr k body)) (hw : sisWord i = some w) (hb : ∀ s, P (s.core k) → body s = s.illegal k w) : IllegalWhen k i P := by
  intro w' hw' s s1 h hP
  obtain rfl : w = w' := Option.some.inj (hw.symm.trans hw')
  rw [he, h.instr, hb s1 hP, illegal_finish]

/-! ### What the integer functions of the model compute -/

theorem bitsAt_zero {n : Nat} (x : BitVec n) (w : Nat) : bitsAt x 0 w = x.toNat % 2 ^ w := by simp [bitsAt]

theorem bool64_slt (a b : W64) : bool64 (a.slt b) = if a.toInt < b.toInt then 1 else 0 := by
  simp [bool64, BitVec.slt]

theorem bool64_ult (a b : W64) : bool64 (a.ult b) = if a.toNat < b.toNat then 1 else 0 := by
  simp [bool64, BitVec.ult]

theorem minI_eq (a b : W64) : minI a b = if a.toInt < b.toInt then a else b := by simp [minI, BitVec.slt]
theorem maxI_eq (a b : W64) : maxI a b = if a.toInt < b.toInt then b else a := by simp [maxI, BitVec.slt]
theorem minUns_eq (a b : W64) : minUns a b = if a.toNat < b.toNat then a else b := by simp [minUns, BitVec.ult]
theorem maxUns_eq (a b : W64) : maxUns a b = if a.toNat < b.toNat then b else a := by simp [maxUns, BitVec.ult]

theorem lo32_toNat_mod (x : W64) : (lo32 x).toNat % 32 = x.toNat % 32 := by
  simp [lo32]

/-- A set bit n is the highest of the low n + 1 bits. -/
theorem log2_mod_succ {x n : Nat} (h : x.testBit n = true) : Nat.log2 (x % 2 ^ (n + 1)) = n := by
  have hlt : x % 2 ^ (n + 1) < 2 ^ (n + 1) := Nat.mod_lt _ (Nat.two_pow_pos _)
  have hge : 2 ^ n ≤ x % 2 ^ (n + 1) := Nat.ge_two_pow_of_testBit (by rw [Nat.testBit_mod_two_pow]; simp [h])
  exact (Nat.log2_eq_iff (by have := Nat.two_pow_pos n; omega)).2 ⟨hge, hlt⟩

/-- A clear bit n leaves the low n + 1 bits what the low n are. -/
theorem mod_succ_of_clear {x n : Nat} (h : x.testBit n = false) : x % 2 ^ (n + 1) = x % 2 ^ n := by
  refine Nat.eq_of_testBit_eq fun i => ?_
  rw [Nat.testBit_mod_two_pow, Nat.testBit_mod_two_pow]
  rcases Nat.lt_trichotomy i n with hi | rfl | hi
  · simp [hi, Nat.lt_succ_of_lt hi]
  · simp [h]
  · simp [show ¬ i < n by omega, show ¬ i < n + 1 by omega]

theorem leadZeros_low (a : W64) : ∀ n, leadZeros a n = if a.toNat % 2 ^ n = 0 then n else n - 1 - Nat.log2 (a.toNat % 2 ^ n)
  | 0 => by simp [leadZeros, Nat.mod_one]
  | n + 1 => by
    have hbit : bitAt a n = a.toNat.testBit n := rfl
    cases hb : a.toNat.testBit n with
    | true =>
      have hlog := log2_mod_succ hb
      have hne : a.toNat % 2 ^ (n + 1) ≠ 0 := by
        have := Nat.ge_two_pow_of_testBit (x := a.toNat % 2 ^ (n + 1)) (i := n) (by rw [Nat.testBit_mod_two_pow]; simp [hb])
        have := Nat.two_pow_pos n
        omega
      simp [leadZeros, hbit, hb, hlog, hne]
    | false =>
      rw [leadZeros, if_neg (by simp [hbit, hb]), leadZeros_low a n, mod_succ_of_clear hb]
      by_cases hz : a.toNat % 2 ^ n = 0
      · simp [hz, Nat.add_comm]
      · have hlt : Nat.log2 (a.toNat % 2 ^ n) < n := (Nat.log2_lt hz).2 (Nat.mod_lt _ (Nat.two_pow_pos _))
        rw [if_neg hz, if_neg hz]
        omega

theorem leadZeros_eq (a : W64) : leadZeros a 64 = if a = 0 then 64 else 63 - Nat.log2 a.toNat := by
  rw [leadZeros_low, Nat.mod_eq_of_lt a.isLt]
  simp [BitVec.toNat_eq]

theorem trailZeros_from (a : W64) : ∀ n i, trailZeros a i n = ((List.range' i n).takeWhile (fun j => !a.getLsbD j)).length
  | 0, _ => rfl
  | n + 1, i => by
    have hbit : bitAt a i = a.getLsbD i := rfl
    cases hb : a.getLsbD i with
    | true => simp [trailZeros, List.range', hbit, hb]
    | false => simp [trailZeros, List.range', hbit, hb, trailZeros_from a n, Nat.add_comm]

theorem popCount_low (a : W64) : ∀ n, popCount a n = ((List.range n).filter (fun j => a.getLsbD j)).length
  | 0 => rfl
  | n + 1 => by
    have hbit : bitAt a n = a.getLsbD n := rfl
    cases hb : a.getLsbD n <;> simp [popCount, List.range_succ, hbit, hb, popCount_low a n, b2n, Nat.add_comm]

/-! ### Integer operations that complete -/

/-- An instruction whose command is an integer operation completes with the operation's value. -/
theorem Runs.of_intOp {k : CoreId} {i : Instr} {d : Reg} {f g : CoreSt → W64} (he : ∀ s, exec i s = .next (intOp k d f s)) (hv : ∀ c, f c = g c) :
    Runs k i (fun c => c.setX d (g c)) := fun s s1 h => by
  rw [he, intOp_runs h, funext hv]

/-- Settles O37: every form is one integer operation, whose value is the table's. -/
theorem integerRegisterForms : Obligations.IntegerRegisterForms := by
  unfold Obligations.IntegerRegisterForms
  intro k d a b
  refine ⟨.of_intOp (fun _ => rfl) fun _ => rfl, .of_intOp (fun _ => rfl) fun _ => rfl, .of_intOp (fun _ => rfl) fun _ => rfl,
    .of_intOp (fun _ => rfl) fun _ => rfl, .of_intOp (fun _ => rfl) fun _ => rfl,
    .of_intOp (fun _ => rfl) fun c => ?sll, .of_intOp (fun _ => rfl) fun c => ?srl, .of_intOp (fun _ => rfl) fun c => ?sra,
    .of_intOp (fun _ => rfl) fun c => bool64_slt .., .of_intOp (fun _ => rfl) fun c => bool64_ult ..,
    .of_intOp (fun _ => rfl) fun c => minI_eq .., .of_intOp (fun _ => rfl) fun c => maxI_eq ..,
    .of_intOp (fun _ => rfl) fun c => minUns_eq .., .of_intOp (fun _ => rfl) fun c => maxUns_eq ..,
    .of_intOp (fun _ => rfl) fun c => ?mul, .of_intOp (fun _ => rfl) fun c => rfl, .of_intOp (fun _ => rfl) fun c => rfl,
    .of_intOp (fun _ => rfl) fun c => ?clz, .of_intOp (fun _ => rfl) fun c => ?ctz, .of_intOp (fun _ => rfl) fun c => ?popc,
    .of_intOp (fun _ => rfl) fun c => rfl, .of_intOp (fun _ => rfl) fun c => rfl,
    .of_intOp (fun _ => rfl) fun c => ?sllw, .of_intOp (fun _ => rfl) fun c => ?srlw, .of_intOp (fun _ => rfl) fun c => ?sraw,
    .of_intOp (fun _ => rfl) fun c => rfl⟩
  case sll | srl | sra => rw [bitsAt_zero]; rfl
  case mul => rw [BitVec.ofInt_mul, BitVec.ofInt_toInt, BitVec.ofInt_toInt]
  case clz => rw [leadZeros_eq]
  case ctz => rw [trailZeros_from, List.range_eq_range']
  case popc => rw [popCount_low]
  case sllw | srlw | sraw => simp only [bitsAt_zero, Nat.reducePow, lo32_toNat_mod]; rfl

theorem bool64_slt_imm (a : W64) (imm : BitVec 16) : bool64 (a.slt (simm imm)) = if a.toInt < imm.toInt then 1 else 0 := by
  rw [bool64_slt, simm, BitVec.toInt_signExtend_of_le (by decide)]

theorem lo32_add_simm (a : W64) (imm : BitVec 16) : lo32 (a + simm imm) = lo32 a + imm.signExtend 32 := by
  rw [lo32, BitVec.truncate, BitVec.setWidth_add _ _ (by decide), simm]
  congr 1
  ext i hi
  simp only [BitVec.getElem_setWidth, BitVec.getElem_signExtend, BitVec.getLsbD_signExtend]
  simp [show i < 64 by omega]
  split <;> simp_all

/-- A SHIFTI of an amount that its width allows completes. -/
theorem shifti_runs {k : CoreId} (d a : Reg) (kind : ShiftKind) {w32 : Bool} {sh : BitVec 6} (h : (w32 && 32 ≤ sh.toNat) = false) :
    Runs k (.shifti k d a kind w32 sh) (fun c => c.setX d
      (if w32 then sext32 (shiftBy kind (lo32 (c.xr a)) sh.toNat) else shiftBy kind (c.xr a) sh.toNat)) := fun s s1 hs => by
  change Host.Outcome.next _ = _
  rw [hs.instr, if_neg (by simpa using h), done_finish hs.2.1 (by simp)]

/-- Settles O39: the forms are integer operations but for SHIFTI, whose body is its own, and whose word is illegal where a 32-bit shift is 32 or more. -/
theorem integerImmediateForms : Obligations.IntegerImmediateForms := by
  unfold Obligations.IntegerImmediateForms
  intro k d a imm up kind sh
  refine ⟨.of_intOp (fun _ => rfl) fun _ => rfl, .of_intOp (fun _ => rfl) fun _ => rfl, .of_intOp (fun _ => rfl) fun _ => rfl,
    .of_intOp (fun _ => rfl) fun _ => rfl, .of_intOp (fun _ => rfl) fun c => ?slti, .of_intOp (fun _ => rfl) fun _ => bool64_ult ..,
    ?shift64, ?shift32, ?bad, .of_intOp (fun _ => rfl) fun c => ?addiw, .of_intOp (fun _ => rfl) fun _ => rfl,
    .of_intOp (fun _ => rfl) fun _ => rfl⟩
  case slti => exact bool64_slt_imm ..
  case addiw => rw [lo32_add_simm]; rfl
  case shift64 => exact shifti_runs d a kind rfl
  case shift32 => exact fun hsh => shifti_runs d a kind (by simpa using hsh)
  case bad =>
    exact fun hsh => .of_body (fun _ => rfl) rfl fun s _ => by rw [if_pos (by simpa using hsh), shiftiWord_eq]

end Sys2Proof.Machine
end

section
/-! Loads, stores, atomic operations, branches and jumps of a Scarab core (R244 to R249). -/

namespace Sys2Proof.Machine

/-! ### Loads, stores and atomic operations (R244 to R247) -/

/-- An instruction whose body is a load, and then its one effect. -/
theorem Loads.of_body {k : CoreId} {i : Instr} {addr : CoreSt → W64} {n : Nat} {strict : Bool} {f : Nat → CoreSt → CoreSt}
    (he : ∀ s, exec i s = .next (s.instr k fun s => (s.load k (addr (s.core k)) n strict).andThen fun v s => s.done k fun c => (f v c).ev 0x0b 1))
    (hf : ∀ v c, (f v c).run = c.run) : Loads k i addr n strict f := by
  intro s s1 h
  simp only [he, h.instr]
  refine ⟨fun s2 v hok hrun => ?_, fun s2 e hexc => ?_, fun s2 hwait => ?_⟩
  · rw [hok, MRes.andThen, done_finish hrun (by simp [hf])]
  · rw [hexc]; rfl
  · rw [hwait]; rfl

/-- An instruction whose body is a store. -/
theorem Stores.of_body {k : CoreId} {i : Instr} {addr : CoreSt → W64} {n : Nat} {strict : Bool} {value : CoreSt → Nat}
    (he : ∀ s, exec i s = .next (s.instr k fun s =>
      (s.store k (addr (s.core k)) n strict (value (s.core k))).andThen fun _ s => s.done k fun c => c.ev 0x0c 1)) :
    Stores k i addr n strict value := by
  intro s s1 h
  simp only [he, h.instr]
  refine ⟨fun s2 hok hrun => ?_, fun s2 e hexc => ?_, fun s2 hwait => ?_⟩
  · rw [hok, MRes.andThen, done_finish hrun (by simp)]
  · rw [hexc]; rfl
  · rw [hwait]; rfl

/-- An instruction whose body is an atomic operation. -/
theorem Swaps.of_amoOp {k : CoreId} {i : Instr} {d a b : Reg} {dbl : Bool} {new : CoreSt → (n : Nat) → BitVec n → Option (BitVec n)}
    {f : (n : Nat) → (old xb xd : BitVec n) → Option (BitVec n)} (he : ∀ s, exec i s = .next (amoOp k d a b dbl f s))
    (hf : ∀ c n old, f n old ((c.xr b).truncate n) ((c.xr d).truncate n) = new c n old) : Swaps k i d a dbl new := by
  intro s s1 h
  simp only [he, amoOp, h.instr, hf]
  refine ⟨fun s2 old hok hrun => ?_, fun s2 e hexc => ?_, fun s2 hwait => ?_⟩
  · rw [hok, MRes.andThen, done_finish hrun (by simp)]
  · rw [hexc]; rfl
  · rw [hwait]; rfl

/-- Settles O42: every load is one access and then one write of a register. -/
theorem loadInstructions : Obligations.LoadInstructions := by
  unfold Obligations.LoadInstructions
  intro k d a imm size at'
  exact ⟨.of_body (fun _ => rfl) (by simp), .of_body (fun _ => rfl) (by simp), .of_body (fun _ => rfl) (by simp),
    .of_body (fun _ => rfl) (by simp), .of_body (fun _ => rfl) (by simp), .of_body (fun _ => rfl) (by simp),
    .of_body (fun _ => rfl) (by simp), .of_body (fun _ => rfl) (by simp), .of_body (fun _ => rfl) (by simp),
    .of_body (fun _ => rfl) (by simp), .of_body (fun _ => rfl) (by simp)⟩

/-- Settles O43: every store is one access with the register's low bytes. -/
theorem storeInstructions : Obligations.StoreInstructions := by
  unfold Obligations.StoreInstructions
  intro k d a imm size at'
  refine ⟨.of_body fun s => ?st, .of_body fun _ => rfl, .of_body fun _ => rfl, .of_body fun _ => rfl, .of_body fun _ => rfl,
    .of_body fun _ => rfl, .of_body fun _ => rfl, .of_body fun _ => rfl⟩
  case st =>
    change Host.Outcome.next (storeOp k a imm 8 (fun c => (c.xr d).toNat % 2 ^ 64) s) = _
    simp only [Nat.mod_eq_of_lt (BitVec.isLt _)]
    rfl

/-- Settles O44: every AMO is one access that writes a function of the old value. -/
theorem atomicInstructions : Obligations.AtomicInstructions := by
  unfold Obligations.AtomicInstructions
  intro k d a b dbl ord
  refine ⟨.of_amoOp (fun _ => rfl) fun _ _ _ => rfl, .of_amoOp (fun _ => rfl) fun _ _ _ => rfl, .of_amoOp (fun _ => rfl) fun _ _ _ => rfl,
    .of_amoOp (fun _ => rfl) fun _ _ _ => rfl, .of_amoOp (fun _ => rfl) fun _ _ _ => rfl, .of_amoOp (fun _ => rfl) fun _ _ _ => ?min,
    .of_amoOp (fun _ => rfl) fun _ _ _ => ?max, .of_amoOp (fun _ => rfl) fun _ _ _ => ?minu, .of_amoOp (fun _ => rfl) fun _ _ _ => ?maxu,
    .of_amoOp (fun _ => rfl) fun _ _ _ => rfl⟩
  case min => simp [minI, BitVec.slt]
  case max => simp [maxI, BitVec.slt]
  case minu => simp [minUns, BitVec.ult]
  case maxu => simp [maxUns, BitVec.ult]

/-! ### Branches and jumps (R248, R249) -/

/-- A body that ends at a target on a running core. -/
theorem to_finish {k : CoreId} {s : State} {c : CoreSt} {pc : W64} (h : c.run = .running) :
    (MRes.ok (Next.to pc) (s.setCore k c)).finish k = s.setCore k (c.goesTo pc) := by
  simp [MRes.finish, State.retire, h, CoreSt.goesTo]

/-- A body that ends with the next instruction, on a running core whose PC it kept. -/
theorem step_finish {k : CoreId} {s : State} {c : CoreSt} (h : c.run = .running) :
    (MRes.ok Next.step (s.setCore k c)).finish k = s.setCore k (c.goesTo (canon (c.pc + 4))) := by
  simp [MRes.finish, State.retire, h, CoreSt.goesTo]

/-- A conditional branch that is taken, and one that is not. -/
theorem Jumps.of_condBranch {k : CoreId} {i : Instr} {off : BitVec 16} {cond : CoreSt → Bool} {P : CoreSt → Prop}
    (he : ∀ s, exec i s = .next (condBranch k off cond s)) (hc : ∀ c, cond c = true ↔ P c) :
    Jumps k i P (fun c => c.pc + (off.signExtend 64 <<< 2)) (fun c => c.branched off true) ∧
    Jumps k i (fun c => ¬ P c) (fun c => canon (c.pc + 4)) (fun c => c.branched off false) := by
  refine ⟨fun s s1 h hP => ?_, fun s s1 h hP => ?_⟩ <;> rw [he, condBranch, h.instr]
  · have ht : cond (s1.core k) = true := (hc _).2 hP
    simp only [ht, if_true]
    exact congrArg _ (to_finish (by simpa using h.2.1))
  · have ht : cond (s1.core k) = false := eq_false_of_ne_true fun h => hP ((hc _).1 h)
    simp only [ht]
    exact congrArg _ ((step_finish (by simpa using h.2.1)).trans (by simp [CoreSt.branched, Pred.branched]))

/-- A jump that is legal. -/
theorem jumpTo_finish {k : CoreId} {s : State} (h : (s.core k).run = .running) (link : Reg) (target : W64) (kind : BrKind) (ras : List W64 → List W64) :
    (jumpTo k link target kind ras s).finish k =
      s.setCore k (((s.core k).linked link target kind (ras (s.core k).pred.ras)).goesTo target) :=
  to_finish (by simpa using h)

/-- Settles O45: a conditional branch goes by its condition, a jump by its target. -/
theorem branches : Obligations.Branches := by
  unfold Obligations.Branches
  intro k d a b off imm joff cond
  refine ⟨Jumps.of_condBranch (fun _ => rfl) (by simp), Jumps.of_condBranch (fun _ => rfl) (by simp), Jumps.of_condBranch (fun _ => rfl) (by simp [BitVec.slt]),
    Jumps.of_condBranch (fun _ => rfl) (by simp [BitVec.slt]), Jumps.of_condBranch (fun _ => rfl) (by simp [BitVec.ult]),
    Jumps.of_condBranch (fun _ => rfl) (by simp [BitVec.ult]), fun s s1 h _ => ?j, fun s s1 h _ => ?jal, fun s s1 h ht => ?jalr, fun s s1 h ht => ?misaligned⟩
  case j =>
    change Host.Outcome.next _ = _
    rw [h.instr]
    exact congrArg _ (jumpTo_finish h.2.1 ..)
  case jal =>
    change Host.Outcome.next _ = _
    rw [h.instr]
    exact congrArg _ (jumpTo_finish h.2.1 ..)
  case jalr =>
    change Host.Outcome.next _ = _
    rw [h.instr, if_neg (by simpa [bitsAt_zero, CoreSt.eaddr, simm] using ht), jumpTo_finish h.2.1]
    rfl
  case misaligned =>
    change Host.Outcome.next _ = _
    rw [h.instr, if_pos (by simpa [bitsAt_zero, CoreSt.eaddr, simm] using ht)]
    rfl

end Sys2Proof.Machine
end

section
/-! Floating-point instructions of a Scarab core (R250 to R253). -/

namespace Sys2Proof.Machine

/-! ### Operations that round (R250, R252, R253) -/

theorem RunsWhen.of_roundOp {k : CoreId} {i : Instr} {rnd : BitVec 3} {w : W32} {f : Nat → CoreSt → CoreSt} {g : CoreSt → CoreSt} {m : Nat}
    (he : ∀ s, exec i s = .next (roundOp k rnd w f s)) (hrun : ∀ c, (g c).run = c.run) (hv : ∀ c, f m c = g c) :
    RunsWhen k i (fun c => c.roundOf rnd = some m) g := by
  obtain rfl : f m = g := funext hv
  intro s s1 h hm
  rw [he, roundOp, h.instr]
  simp only [hm]
  rw [done_finish h.2.1 (hrun _)]

theorem IllegalWhen.of_roundOp {k : CoreId} {i : Instr} {rnd : BitVec 3} {w : W32} {f : Nat → CoreSt → CoreSt}
    (he : ∀ s, exec i s = .next (roundOp k rnd w f s)) (hw : sisWord i = some w) : IllegalWhen k i (fun c => c.roundOf rnd = none) :=
  .of_body he hw fun s hm => by simp only [hm]

theorem fopWord_some (sgl : Bool) (rnd : BitVec 3) (op : BitVec 7) (d a b : Reg) :
    some (wordR 0x34 d a b (fopFn sgl rnd op)) = some (fopWord sgl rnd.toNat op.toNat d a b) := congrArg some (fopWord_eq d a b sgl rnd op).symm

theorem fmaWord_some (op : BitVec 2) (sgl : Bool) (rnd : BitVec 3) (d a b c : Reg) :
    some (wordR5 0x35 d a b c (fmaFn op sgl rnd)) = some (fmaWord op.toNat sgl rnd.toNat d a b c) := congrArg some (fmaWord_eq d a b c op sgl rnd).symm

/-- Settles O46: each is one rounding operation, whose word is that of its row. -/
theorem floatRounding : Obligations.FloatRounding := by
  unfold Obligations.FloatRounding
  intro k sgl rnd d a b m ok bad
  exact ⟨.of_roundOp (fun _ => rfl) (by simp) fun _ => rfl, .of_roundOp (fun _ => rfl) (by simp) fun _ => rfl, .of_roundOp (fun _ => rfl) (by simp) fun _ => rfl,
    .of_roundOp (fun _ => rfl) (by simp) fun _ => rfl, .of_roundOp (fun _ => rfl) (by simp) fun _ => rfl, .of_roundOp (fun _ => rfl) (by simp) fun _ => rfl,
    .of_roundOp (fun _ => rfl) (by simp) fun _ => rfl, .of_roundOp (fun _ => rfl) (by simp) fun _ => rfl, .of_roundOp (fun _ => rfl) (by simp) fun _ => rfl,
    .of_roundOp (fun _ => rfl) (by simp) fun _ => rfl, .of_roundOp (fun _ => rfl) (by simp) fun _ => rfl, .of_roundOp (fun _ => rfl) (by simp) fun _ => rfl,
    .of_roundOp (fun _ => rfl) (by simp) fun _ => rfl, .of_roundOp (fun _ => rfl) (by simp) fun _ => rfl,
    .of_roundOp (fun _ => rfl) (fopWord_some sgl rnd 0x00 ..), .of_roundOp (fun _ => rfl) (fopWord_some sgl rnd 0x01 ..),
    .of_roundOp (fun _ => rfl) (fopWord_some sgl rnd 0x02 ..), .of_roundOp (fun _ => rfl) (fopWord_some sgl rnd 0x03 ..),
    .of_roundOp (fun _ => rfl) (fopWord_some sgl rnd 0x04 ..), .of_roundOp (fun _ => rfl) (fopWord_some sgl rnd 0x28 ..),
    .of_roundOp (fun _ => rfl) (fopWord_some sgl rnd 0x24 ..), .of_roundOp (fun _ => rfl) (fopWord_some sgl rnd 0x25 ..),
    .of_roundOp (fun _ => rfl) (fopWord_some sgl rnd 0x26 ..), .of_roundOp (fun _ => rfl) (fopWord_some sgl rnd 0x27 ..),
    .of_roundOp (fun _ => rfl) (fopWord_some sgl rnd 0x20 ..), .of_roundOp (fun _ => rfl) (fopWord_some sgl rnd 0x21 ..),
    .of_roundOp (fun _ => rfl) (fopWord_some sgl rnd 0x22 ..), .of_roundOp (fun _ => rfl) (fopWord_some sgl rnd 0x23 ..)⟩

/-- Settles O47: each is one rounding operation on the operands with their signs. -/
theorem fusedMultiplyAdd : Obligations.FusedMultiplyAdd := by
  unfold Obligations.FusedMultiplyAdd
  intro k sgl rnd d a b c m ok bad
  exact ⟨.of_roundOp (fun _ => rfl) (by simp) fun _ => rfl, .of_roundOp (fun _ => rfl) (by simp) fun _ => rfl, .of_roundOp (fun _ => rfl) (by simp) fun _ => rfl,
    .of_roundOp (fun _ => rfl) (by simp) fun _ => rfl,
    .of_roundOp (fun _ => rfl) (fmaWord_some 0 sgl rnd ..), .of_roundOp (fun _ => rfl) (fmaWord_some 1 sgl rnd ..),
    .of_roundOp (fun _ => rfl) (fmaWord_some 2 sgl rnd ..), .of_roundOp (fun _ => rfl) (fmaWord_some 3 sgl rnd ..)⟩

/-! ### Operations that do not round (R252) -/

/-- An instruction whose body is one effect completes with it. -/
theorem Runs.of_plainOp {k : CoreId} {i : Instr} {f g : CoreSt → CoreSt} (he : ∀ s, exec i s = .next (plainOp k f s)) (hrun : ∀ c, (f c).run = c.run)
    (hv : ∀ c, f c = g c) : Runs k i g := by
  obtain rfl : f = g := funext hv
  intro s s1 h
  rw [he, plainOp, h.instr, done_finish h.2.1 (hrun _)]

/-- One bit of a word, at its place. -/
theorem and_two_pow_eq (y n : Nat) : y &&& 2 ^ n = 2 ^ n * (y / 2 ^ n % 2) := by
  refine Nat.eq_of_testBit_eq fun i => ?_
  rw [Nat.testBit_and, Nat.testBit_two_pow, Nat.testBit_two_pow_mul, Nat.testBit_mod_two_pow (j := 1), Nat.testBit_div_two_pow]
  rcases Nat.lt_trichotomy i n with hi | rfl | hi
  · simp [Nat.ne_of_gt hi, Nat.not_le_of_gt hi]
  · simp
  · simp [Nat.ne_of_lt hi]; omega

/-- A magnitude below a sign bit and a sign, as one word. -/
theorem mag_or_sign (x y n : Nat) : (x &&& (2 ^ n - 1)) ||| (y &&& 2 ^ n) = x % 2 ^ n + y / 2 ^ n % 2 * 2 ^ n := by
  rw [Nat.and_two_pow_sub_one_eq_mod, and_two_pow_eq, Nat.or_comm, ← Nat.two_pow_add_eq_or_of_lt (Nat.mod_lt _ (Nat.two_pow_pos _)),
    Nat.add_comm, Nat.mul_comm]

/-- The sign bit flipped. -/
theorem xor_sign {x n : Nat} (hx : x < 2 ^ (n + 1)) : x ^^^ 2 ^ n = x % 2 ^ n + (1 - x / 2 ^ n % 2) * 2 ^ n := by
  have hlt : x % 2 ^ n < 2 ^ n := Nat.mod_lt _ (Nat.two_pow_pos _)
  have hq : x / 2 ^ n < 2 := Nat.div_lt_of_lt_mul (by rw [Nat.pow_succ] at hx; exact hx)
  refine Nat.eq_of_testBit_eq fun i => ?_
  rw [Nat.add_comm, Nat.mul_comm, Nat.testBit_two_pow_mul_add _ hlt, Nat.testBit_xor, Nat.testBit_two_pow, Nat.testBit_mod_two_pow]
  rcases Nat.lt_trichotomy i n with hi | rfl | hi
  · simp [hi, Nat.ne_of_gt hi]
  · rw [Nat.testBit_eq_decide_div_mod_eq]
    rcases Nat.le_one_iff_eq_zero_or_eq_one.1 (Nat.le_of_lt_succ hq) with h | h <;> simp [h]
  · have hx' : x.testBit i = false := Nat.testBit_lt_two_pow (Nat.lt_of_lt_of_le hx (Nat.pow_le_pow_right (by decide) hi))
    have hs : (1 - x / 2 ^ n % 2).testBit (i - n) = false :=
      Nat.testBit_lt_two_pow (Nat.lt_of_lt_of_le (by omega) (Nat.pow_le_pow_right (n := 2) (by decide) (show 1 ≤ i - n by omega)))
    simp [hx', hs, Nat.ne_of_lt hi, Nat.lt_asymm hi]

/-- The magnitude of an operand, as a mask of its register. -/
theorem ofNat_fMag (x : W64) : BitVec.ofNat 64 (fMag false (x.toNat % 2 ^ 64)) = x &&& 0x7fffffffffffffff ∧
    BitVec.ofNat 64 (fMag true (x.toNat % 2 ^ 32)) = x &&& 0x7fffffff := by
  have hd := Nat.and_two_pow_sub_one_eq_mod x.toNat 63
  have hs := Nat.and_two_pow_sub_one_eq_mod x.toNat 31
  constructor <;> apply BitVec.eq_of_toNat_eq <;> simp [fMag, fWidth, fSignBit] at hd hs ⊢ <;> omega

/-- The negated operand, as its register with the sign flipped. -/
theorem ofNat_fNeg (x : W64) :
    BitVec.ofNat 64 (fMag false (x.toNat % 2 ^ 64) + (1 - fSgn false (x.toNat % 2 ^ 64)) * 2 ^ fSignBit false) = x ^^^ 0x8000000000000000 ∧
    BitVec.ofNat 64 (fMag true (x.toNat % 2 ^ 32) + (1 - fSgn true (x.toNat % 2 ^ 32)) * 2 ^ fSignBit true) = (x &&& 0xffffffff) ^^^ 0x80000000 := by
  have hd := xor_sign (n := 63) x.isLt
  have hm := Nat.and_two_pow_sub_one_eq_mod x.toNat 32
  have hs := xor_sign (n := 31) (x := x.toNat % 2 ^ 32) (Nat.mod_lt _ (by decide))
  rw [← hm] at hs
  constructor <;> apply BitVec.eq_of_toNat_eq <;> simp [fMag, fSgn, fWidth, fSignBit] at hd hs hm ⊢ <;> omega

/-- The operand with another's sign, as masks of the two registers. -/
theorem ofNat_fCps (x y : W64) :
    BitVec.ofNat 64 (fMag false (x.toNat % 2 ^ 64) + fSgn false (y.toNat % 2 ^ 64) * 2 ^ fSignBit false) =
      ((x &&& 0x7fffffffffffffff) ||| (y &&& 0x8000000000000000)) ∧
    BitVec.ofNat 64 (fMag true (x.toNat % 2 ^ 32) + fSgn true (y.toNat % 2 ^ 32) * 2 ^ fSignBit true) = ((x &&& 0x7fffffff) ||| (y &&& 0x80000000)) := by
  have hd := mag_or_sign x.toNat y.toNat 63
  have hs := mag_or_sign x.toNat y.toNat 31
  constructor <;> apply BitVec.eq_of_toNat_eq <;> simp [fMag, fSgn, fWidth, fSignBit] at hd hs ⊢ <;> omega

/-- The low word of a register, as a mask. -/
theorem ofNat_low (x : W64) : BitVec.ofNat 64 (x.toNat % 2 ^ 64) = x ∧ BitVec.ofNat 64 (x.toNat % 2 ^ 32) = x &&& 0xffffffff := by
  have hm := Nat.and_two_pow_sub_one_eq_mod x.toNat 32
  constructor <;> apply BitVec.eq_of_toNat_eq <;> simp at hm ⊢ <;> omega

/-- Settles O48: each is one effect, its value by masks of the registers. -/
theorem floatPlain : Obligations.FloatPlain := by
  unfold Obligations.FloatPlain
  intro k sgl d a b
  exact ⟨.of_plainOp (fun _ => rfl) (by simp) fun _ => rfl, .of_plainOp (fun _ => rfl) (by simp) fun _ => rfl,
    .of_plainOp (fun _ => rfl) (by simp) fun _ => rfl, .of_plainOp (fun _ => rfl) (by simp) fun _ => rfl,
    .of_plainOp (fun _ => rfl) (by simp) fun c => congrArg _ (ofNat_fMag _).1, .of_plainOp (fun _ => rfl) (by simp) fun c => congrArg _ (ofNat_fNeg _).1,
    .of_plainOp (fun _ => rfl) (by simp) fun c => congrArg _ (ofNat_fCps _ _).1, .of_plainOp (fun _ => rfl) (by simp) fun c => congrArg _ (ofNat_fMag _).2,
    .of_plainOp (fun _ => rfl) (by simp) fun c => congrArg _ (ofNat_fNeg _).2, .of_plainOp (fun _ => rfl) (by simp) fun c => congrArg _ (ofNat_fCps _ _).2,
    .of_plainOp (fun _ => rfl) (by simp) fun _ => rfl, .of_plainOp (fun _ => rfl) (by simp) fun _ => rfl,
    .of_plainOp (fun _ => rfl) (by simp) fun _ => rfl, .of_plainOp (fun _ => rfl) (by simp) fun c => congrArg _ (ofNat_low _).1,
    .of_plainOp (fun _ => rfl) (by simp) fun c => congrArg _ (ofNat_low _).2, .of_plainOp (fun _ => rfl) (by simp) fun c => congrArg _ (ofNat_low _).1,
    .of_plainOp (fun _ => rfl) (by simp) fun c => congrArg _ (ofNat_low _).2⟩

end Sys2Proof.Machine
end

section
/-! Vector instructions of a Scarab core (R254, R255). -/

namespace Sys2Proof.Machine

/-! ### Vector instructions and their types (R254, R255) -/

/-- A vector instruction of a type its row allows completes with its one effect. -/
theorem Runs.of_vop {k : CoreId} {i : Instr} {lo hi : Nat} {ty : BitVec 3} {w : W32} {f g : CoreSt → CoreSt}
    (he : ∀ s, exec i s = .next (vop k lo hi ty w f s)) (hty : lo ≤ ty.toNat ∧ ty.toNat ≤ hi) (hrun : ∀ c, (g c).run = c.run) (hv : ∀ c, f c = g c) :
    Runs k i g := by
  obtain rfl : f = g := funext hv
  intro s s1 h
  rw [he, vop, h.instr, if_neg (by simpa using hty), done_finish h.2.1 (hrun _)]

/-- A vector instruction of another type is illegal. -/
theorem IllegalWhen.of_vop {k : CoreId} {i : Instr} {lo hi : Nat} {ty : BitVec 3} {w : W32} {f : CoreSt → CoreSt} {P : CoreSt → Prop}
    (he : ∀ s, exec i s = .next (vop k lo hi ty w f s)) (hw : sisWord i = some w) (hty : ty.toNat < lo ∨ hi < ty.toNat) : IllegalWhen k i P :=
  .of_body he hw fun _ _ => if_pos (by simpa using hty)

/-- A lane instruction of a type and a lane its row allows completes with its one effect. -/
theorem Runs.of_vlane {k : CoreId} {i : Instr} {lo hi op : Nat} {ty : BitVec 3} {d a : Reg} {l : BitVec 5} {f g : CoreSt → CoreSt}
    (he : ∀ s, exec i s = .next (vlane k lo hi ty op d a l f s)) (hty : lo ≤ ty.toNat ∧ ty.toNat ≤ hi) (hl : l.toNat < lanes ty.toNat)
    (hrun : ∀ c, (g c).run = c.run) (hv : ∀ c, f c = g c) : Runs k i g := by
  obtain rfl : f = g := funext hv
  intro s s1 h
  rw [he, vlane, h.instr, if_neg (by simpa using ⟨hty, hl⟩), done_finish h.2.1 (hrun _)]

/-- A lane instruction of another type or lane is illegal. -/
theorem IllegalWhen.of_vlane {k : CoreId} {i : Instr} {lo hi op : Nat} {ty : BitVec 3} {d a : Reg} {l : BitVec 5} {f : CoreSt → CoreSt} {P : CoreSt → Prop}
    (he : ∀ s, exec i s = .next (vlane k lo hi ty op d a l f s)) (hw : sisWord i = some (vopWord ty op d a l))
    (hty : (ty.toNat < lo ∨ hi < ty.toNat) ∨ lanes ty.toNat ≤ l.toNat) : IllegalWhen k i P :=
  .of_body he hw fun _ _ => if_pos (by simpa using hty)

theorem vopWord_some (ty : BitVec 3) (op : BitVec 6) (d a b : Reg) :
    some (wordR 0x38 d a b (vopFn ty op)) = some (vopWord ty op.toNat d a b) := congrArg some (vopWord_eq d a b ty op).symm

theorem vr4Word_some (op : BitVec 3) (ty : BitVec 2) (d a b c : Reg) :
    some (wordR5 0x39 d a b c (vr4Fn op ty)) = some (vr4Word op.toNat ty d a b c) := congrArg some (vr4Word_eq d a b c op ty).symm

/-- The lanes of a two-operand operation, by the type's number and by the type. -/
theorem vop2_lanes (c : CoreSt) (ty : BitVec 3) (d a b : Reg) (ff : Bool → Nat → Nat → Nat → FRes) {fi gi : W32 → W32 → W32} (h : ∀ x y, fi x y = gi x y) :
    c.mapLanes ty.toNat d 1 (fun i =>
      if ty.toNat = 2 then ⟨(fi (BitVec.ofNat 32 (lane ty.toNat (c.vr a) i)) (BitVec.ofNat 32 (lane ty.toNat (c.vr b) i))).toNat, 0⟩
      else ff (ty.toNat == 1) c.rnd (lane ty.toNat (c.vr a) i) (lane ty.toNat (c.vr b) i)) = c.lanes2 ty d a b ff gi := by
  obtain rfl : fi = gi := funext fun x => funext (h x)
  have h2 : ty.toNat = 2 ↔ ty = 2 := by simp [BitVec.toNat_eq]
  have h1 : (ty.toNat == 1) = (ty == 1) := by simp [BitVec.toNat_eq, Bool.beq_eq_decide_eq]
  unfold CoreSt.lanes2
  congr 1
  funext i
  by_cases hty : ty = 2
  · subst hty; rfl
  · simp only [h1, h2, if_neg hty]

@[simp] theorem lanes2_run (c : CoreSt) (ty : BitVec 3) (d a b : Reg) (ff : Bool → Nat → Nat → Nat → FRes) (fi : W32 → W32 → W32) :
    (c.lanes2 ty d a b ff fi).run = c.run := by simp [CoreSt.lanes2]

theorem Runs.of_vop2 {k : CoreId} {i : Instr} {hi op : Nat} {ty : BitVec 3} {d a b : Reg} {ff : Bool → Nat → Nat → Nat → FRes} {fi gi : W32 → W32 → W32}
    (he : ∀ s, exec i s = .next (vop2 k hi ty op d a b ff fi s)) (hty : 0 ≤ ty.toNat ∧ ty.toNat ≤ hi) (hfi : ∀ x y, fi x y = gi x y) :
    Runs k i (fun c => c.lanes2 ty d a b ff gi) :=
  .of_vop he hty (by simp) fun c => vop2_lanes c ty d a b ff hfi

theorem ones32_eq (x y : W32) : ones32 (x == y) = if x = y then 0xffffffff else 0 := by simp [ones32]
theorem ones32_slt (x y : W32) : ones32 (x.slt y) = if x.toInt < y.toInt then 0xffffffff else 0 := by simp [ones32, BitVec.slt]
theorem ones32_sle (x y : W32) : ones32 (!y.slt x) = if x.toInt ≤ y.toInt then 0xffffffff else 0 := by simp [ones32, BitVec.slt]

/-- Settles O50: each is one vector operation, lane by lane, of the types its row allows. -/
theorem vectorLaneOperations : Obligations.VectorLaneOperations := by
  unfold Obligations.VectorLaneOperations
  intro k ty d a b any
  refine ⟨fun hty => ?legal, fun hty => ?float, fun hty => ?illegal, fun hty => ?illegalFloat⟩
  case legal =>
    have ht : 0 ≤ ty.toNat ∧ ty.toNat ≤ 2 := ⟨Nat.zero_le _, hty⟩
    exact ⟨.of_vop2 (fun _ => rfl) ht fun _ _ => rfl,
      .of_vop2 (fun _ => rfl) ht fun _ _ => rfl,
      .of_vop2 (fun _ => rfl) ht fun _ _ => rfl,
      .of_vop2 (fun _ => rfl) ht fun x y => by simp [minI, BitVec.slt],
      .of_vop2 (fun _ => rfl) ht fun x y => by simp [maxI, BitVec.slt],
      .of_vop (fun _ => rfl) ht (by simp) fun _ => rfl, .of_vop (fun _ => rfl) ht (by simp) fun _ => rfl, .of_vop (fun _ => rfl) ht (by simp) fun _ => rfl,
      .of_vop2 (fun _ => rfl) ht ones32_eq,
      .of_vop2 (fun _ => rfl) ht ones32_slt,
      .of_vop2 (fun _ => rfl) ht ones32_sle⟩
  case float =>
    have ht : 0 ≤ ty.toNat ∧ ty.toNat ≤ 1 := ⟨Nat.zero_le _, hty⟩
    exact ⟨.of_vop2 (fun _ => rfl) ht fun _ _ => rfl,
      .of_vop (fun _ => rfl) ht (by simp) fun c => by simp [laneVal, BitVec.toNat_eq, Bool.beq_eq_decide_eq]⟩
  case illegal =>
    exact ⟨.of_vop (fun _ => rfl) (vopWord_some ty 0x00 ..) (.inr hty), .of_vop (fun _ => rfl) (vopWord_some ty 0x01 ..) (.inr hty),
      .of_vop (fun _ => rfl) (vopWord_some ty 0x02 ..) (.inr hty), .of_vop (fun _ => rfl) (vopWord_some ty 0x05 ..) (.inr hty),
      .of_vop (fun _ => rfl) (vopWord_some ty 0x06 ..) (.inr hty), .of_vop (fun _ => rfl) (vopWord_some ty 0x08 ..) (.inr hty),
      .of_vop (fun _ => rfl) (vopWord_some ty 0x09 ..) (.inr hty), .of_vop (fun _ => rfl) (vopWord_some ty 0x0a ..) (.inr hty),
      .of_vop (fun _ => rfl) (vopWord_some ty 0x10 ..) (.inr hty), .of_vop (fun _ => rfl) (vopWord_some ty 0x11 ..) (.inr hty),
      .of_vop (fun _ => rfl) (vopWord_some ty 0x12 ..) (.inr hty)⟩
  case illegalFloat =>
    exact ⟨.of_vop (fun _ => rfl) (vopWord_some ty 0x03 ..) (.inr hty), .of_vop (fun _ => rfl) (vopWord_some ty 0x04 ..) (.inr hty)⟩

/-! ### Moves, sums, conversions, shifts and selects -/

/-- An instruction whose body is one effect on the core completes with it. -/
theorem Runs.of_body {k : CoreId} {i : Instr} {body : State → MRes Next} {f g : CoreSt → CoreSt}
    (he : ∀ s, exec i s = .next (s.instr k body)) (hb : ∀ s, body s = s.done k f) (hrun : ∀ c, (g c).run = c.run) (hv : ∀ c, f c = g c) : Runs k i g := by
  obtain rfl : f = g := funext hv
  intro s s1 h
  rw [he, h.instr, hb, done_finish h.2.1 (hrun _)]

theorem Runs.of_vr4Fma {k : CoreId} {i : Instr} {op : Nat} {ty : BitVec 2} {d a b c : Reg} (he : ∀ s, exec i s = .next (vr4Fma k op ty d a b c s))
    (hty : ty.toNat ≤ 1) : Runs k i (fun x => x.mapLanes ty.toNat d 2 (fun i =>
      fmaRes op (ty == 1) x.rnd (laneVal ty.toNat (x.vr a) i) (laneVal ty.toNat (x.vr b) i) (laneVal ty.toNat (x.vr c) i))) :=
  .of_body he (fun _ => if_neg (by omega)) (by simp) fun _ => rfl

theorem IllegalWhen.of_vr4Fma {k : CoreId} {i : Instr} {op : Nat} {ty : BitVec 2} {d a b c : Reg} {P : CoreSt → Prop}
    (he : ∀ s, exec i s = .next (vr4Fma k op ty d a b c s)) (hw : sisWord i = some (vr4Word op ty d a b c)) (hty : 1 < ty.toNat) : IllegalWhen k i P :=
  .of_body he hw fun _ _ => if_pos hty

/-- A lane of a register is a field of it. -/
theorem lane_eq (ty : Nat) (v : V128) (i : Nat) : lane ty v i = (v.extractLsb' (laneW ty * i) (laneW ty)).toNat := by
  simp [lane, bitsAt, BitVec.extractLsb'_toNat]

theorem ofNat_lane_int (v : V128) (i : Nat) : BitVec.ofNat 32 (lane 2 v i) = v.extractLsb' (32 * i) 32 := by
  rw [lane_eq]
  exact (BitVec.ofNat_toNat ..).trans (BitVec.setWidth_eq _)

theorem ofNat_lane_single (v : V128) (i : Nat) : BitVec.ofNat 64 (lane 1 v i) = (v.extractLsb' (32 * i) 32).zeroExtend 64 := by
  rw [lane_eq]
  exact BitVec.ofNat_toNat ..

theorem ofNat_lane_double (v : V128) (i : Nat) : BitVec.ofNat 64 (lane 0 v i) = v.extractLsb' (64 * i) 64 := by
  rw [lane_eq]
  exact (BitVec.ofNat_toNat ..).trans (BitVec.setWidth_eq _)

theorem vextX_value (v : V128) (l : BitVec 5) : sext32 (BitVec.ofNat 32 (lane 2 v l.toNat)) = (v.extractLsb' (32 * l.toNat) 32).signExtend 64 := by
  rw [ofNat_lane_int, sext32]

theorem vsumh_value (v : V128) : sext32 (BitVec.ofNat 32 (lane 2 v 0 + lane 2 v 1 + lane 2 v 2 + lane 2 v 3)) =
    (v.extractLsb' 0 32 + v.extractLsb' 32 32 + v.extractLsb' 64 32 + v.extractLsb' 96 32).signExtend 64 := by
  rw [BitVec.ofNat_add, BitVec.ofNat_add, BitVec.ofNat_add, ofNat_lane_int, ofNat_lane_int, ofNat_lane_int, ofNat_lane_int, sext32]

theorem ne_two_iff {ty : BitVec 3} : ty ≠ 2 ↔ ty.toNat < 2 ∨ 2 < ty.toNat := by
  rw [Ne, BitVec.toNat_eq]; simp; omega

/-- Settles O51: each is one effect of the types and lanes its row allows, and illegal beyond them. -/
theorem vectorOtherOperations : Obligations.VectorOtherOperations := by
  unfold Obligations.VectorOtherOperations
  intro k ty t2 d a b c l
  refine ⟨fun hty => ?splats, fun hl => ?lanes32, fun hl => ?lanes64, ?sumDouble, ?sumSingle, ?sumInt, fun hty => ?cvt, ?shl, ?sra, fun hty => ?fma, ?sel,
    fun hty => ?fmaIllegal, fun hl => ?laneIllegal32, fun hl => ?laneIllegal64, fun hty => ?notInt, fun hty => ?cvtIllegal, fun hty => ?noType, fun hty => ?noFloat⟩
  case splats =>
    exact ⟨.of_vop (fun _ => rfl) ⟨Nat.zero_le _, hty⟩ (by simp) fun _ => rfl, .of_vop (fun _ => rfl) ⟨Nat.zero_le _, hty⟩ (by simp) fun _ => rfl⟩
  case lanes32 =>
    exact ⟨.of_vlane (fun _ => rfl) (by decide) hl (by simp) fun c => congrArg _ (vextX_value ..),
      .of_vlane (fun _ => rfl) (by decide) hl (by simp) fun _ => rfl,
      .of_vlane (fun _ => rfl) (by decide) hl (by simp) fun c => congrArg _ (ofNat_lane_single ..),
      .of_vlane (fun _ => rfl) (by decide) hl (by simp) fun _ => rfl⟩
  case lanes64 =>
    exact ⟨.of_vlane (fun _ => rfl) (by decide) hl (by simp) fun c => congrArg _ (ofNat_lane_double ..),
      .of_vlane (fun _ => rfl) (by decide) hl (by simp) fun _ => rfl⟩
  case sumDouble => exact .of_vop (fun _ => rfl) (by decide) (by simp) fun _ => rfl
  case sumSingle => exact .of_vop (fun _ => rfl) (by decide) (by simp) fun _ => rfl
  case sumInt => exact .of_vop (fun _ => rfl) (by decide) (by simp) fun c => congrArg (c.setX d) (vsumh_value _)
  case cvt =>
    refine .of_vop (fun _ => rfl) (by rcases hty with rfl | rfl <;> decide) (by simp) fun _ => rfl
  case shl => exact .of_vop (fun _ => rfl) (by decide) (by simp) fun _ => rfl
  case sra => exact .of_vop (fun _ => rfl) (by decide) (by simp) fun _ => rfl
  case fma =>
    exact ⟨.of_vr4Fma (fun _ => rfl) hty, .of_vr4Fma (fun _ => rfl) hty, .of_vr4Fma (fun _ => rfl) hty, .of_vr4Fma (fun _ => rfl) hty⟩
  case sel => exact .of_body (fun _ => rfl) (fun _ => rfl) (by simp) fun _ => rfl
  case fmaIllegal =>
    exact ⟨.of_vr4Fma (fun _ => rfl) (vr4Word_some 0 ..) hty, .of_vr4Fma (fun _ => rfl) (vr4Word_some 1 ..) hty,
      .of_vr4Fma (fun _ => rfl) (vr4Word_some 2 ..) hty, .of_vr4Fma (fun _ => rfl) (vr4Word_some 3 ..) hty⟩
  case laneIllegal32 =>
    exact ⟨.of_vlane (fun _ => rfl) (vopWord_some _ 0x22 ..) (.inr hl), .of_vlane (fun _ => rfl) (vopWord_some _ 0x23 ..) (.inr hl),
      .of_vlane (fun _ => rfl) (vopWord_some _ 0x24 ..) (.inr hl), .of_vlane (fun _ => rfl) (vopWord_some _ 0x25 ..) (.inr hl)⟩
  case laneIllegal64 =>
    exact ⟨.of_vlane (fun _ => rfl) (vopWord_some _ 0x24 ..) (.inr hl), .of_vlane (fun _ => rfl) (vopWord_some _ 0x25 ..) (.inr hl)⟩
  case notInt =>
    have ht := ne_two_iff.1 hty
    exact ⟨.of_vlane (fun _ => rfl) (vopWord_some _ 0x22 ..) (.inl ht), .of_vlane (fun _ => rfl) (vopWord_some _ 0x23 ..) (.inl ht),
      .of_vop (fun _ => rfl) (vopWord_some _ 0x2c ..) ht, .of_vop (fun _ => rfl) (vopWord_some _ 0x2d ..) ht⟩
  case cvtIllegal =>
    obtain ⟨h1, h2⟩ := hty
    have ht : ty.toNat < 1 ∨ 2 < ty.toNat := by
      rw [Ne, BitVec.toNat_eq] at h1 h2; simp at h1 h2; omega
    exact .of_vop (fun _ => rfl) (vopWord_some _ 0x28 ..) ht
  case noType =>
    exact ⟨.of_vop (fun _ => rfl) (vopWord_some _ 0x20 ..) (.inr hty), .of_vop (fun _ => rfl) (vopWord_some _ 0x21 ..) (.inr hty),
      .of_vop (fun _ => rfl) (vopWord_some _ 0x26 ..) (.inr hty)⟩
  case noFloat =>
    exact ⟨.of_vlane (fun _ => rfl) (vopWord_some _ 0x24 ..) (.inl (.inr hty)), .of_vlane (fun _ => rfl) (vopWord_some _ 0x25 ..) (.inl (.inr hty))⟩

end Sys2Proof.Machine
end

section
/-! System registers, fences, calls and maintenance of a Scarab core (R256, R257, R262, R353). -/

namespace Sys2Proof.Machine

/-! ### System registers (R262, R263) -/

theorem sysrWord_eq {k : CoreId} {d a : Reg} {n : BitVec 12} {x : W32} (h : sisWord (.sysr k d a n) = some x) : sysWord 0 d a n = x :=
  (sysWord_eq d a 0 n).trans (Option.some.inj h)

theorem syswWord_eq {k : CoreId} {d a : Reg} {n : BitVec 12} {x : W32} (h : sisWord (.sysw k d a n) = some x) : sysWord 1 d a n = x :=
  (sysWord_eq d a 1 n).trans (Option.some.inj h)

/-- No level reaches the last quarter of the numbers. -/
theorem sysLevel_none {n : Nat} (h : 0xc00 ≤ n) : sysLevel n = none := by
  simp [sysLevel, show ¬ n < 0x400 by omega, show ¬ n < 0x800 by omega, show ¬ n < 0xc00 by omega]

/-- Settles O52: the bodies go by the level, then by the core's reach, then by what is read-only. -/
theorem systemRegisters : Obligations.SystemRegisters := by
  unfold Obligations.SystemRegisters
  intro k d a n s s1 h
  have hr : exec (.sysr k d a n) s = .next _ := congrArg Host.Outcome.next (h.instr _)
  have hw : exec (.sysw k d a n) s = .next _ := congrArg Host.Outcome.next (h.instr _)
  refine ⟨fun l hl hreach => ⟨fun hrun => ?read, fun hro hrun => ?write, fun hro x hx => ?readOnly⟩, fun l hl hreach => ⟨fun x hx => ?denyRead, fun x hx => ?denyWrite⟩,
    fun hn => ⟨fun x hx => ?noRead, fun x hx => ?noWrite⟩⟩
  case read =>
    rw [hr]
    simp only [hl, hreach]
    exact congrArg _ (done_finish (f := fun c => c.setX d _) hrun (by simp))
  case write =>
    rw [hw]
    simp only [hl, hreach, hro]
    exact congrArg _ (done_finish (f := id) hrun rfl)
  case readOnly => rw [hw]; simp only [hl, hreach, hro, syswWord_eq hx]; rfl
  case denyRead => rw [hr]; simp only [hl, hreach, sysrWord_eq hx]; rfl
  case denyWrite => rw [hw]; simp only [hl, hreach, syswWord_eq hx]; rfl
  case noRead => rw [hr]; simp only [sysLevel_none hn, sysrWord_eq hx]; rfl
  case noWrite => rw [hw]; simp only [sysLevel_none hn, syswWord_eq hx]; rfl

/-! ### Fences and calls (R227, R256, R257, R290, R305, R321) -/

/-- An instruction whose body, where P holds, is a part of its work and then its one effect. -/
theorem RunsAfter.of_part {k : CoreId} {i : Instr} {part : State → MRes Unit} {f : CoreSt → CoreSt}
    (he : ∀ s, exec i s = .next (s.instr k fun s => (part s).andThen fun _ s => s.done k f)) (hrun : ∀ c, (f c).run = c.run) :
    RunsAfter k i part f := by
  intro s s1 s2 h hp hr
  rw [he, h.instr, hp, MRes.andThen, done_finish hr (hrun _)]

theorem miscWord_some (a b : Reg) (fn : BitVec 11) {w : W32} (h : some (wordR 0x3b 0 a b fn) = some w) : miscWord a b fn.toNat = w :=
  (miscWord_eq a b fn).trans (Option.some.inj h)

/-- Settles O53: each body is one case of the level or of the fence's bits. -/
theorem fencesAndCalls : Obligations.FencesAndCalls := by
  unfold Obligations.FencesAndCalls
  intro k a m code
  refine ⟨fun hm s s1 h => ?fence, fun hm s s1 s2 h hd hr => ?drain, fun s s1 h => ?ifence, .of_part (fun _ => rfl) fun _ => rfl,
    fun s s1 h hu => ?ecall, fun w hw s s1 h hu => ?ecallSup, fun s s1 h _ => ?brk, fun w hw s s1 h => ?wcall, fun s s1 h hu hc => ?eret,
    fun s s1 h hu hc => ?eretBad, fun w hw s s1 h hu => ?eretUser⟩
  case fence =>
    change Host.Outcome.next _ = _
    have hbits : ¬ (bitAt m 1 && bitAt m 2) = true := by
      simp only [Bool.and_eq_true, decide_eq_true_eq] at hm
      simp only [bitAt, hm.2]; simp
    rw [h.instr, if_neg hbits, done_finish h.2.1 rfl]
  case drain =>
    change Host.Outcome.next _ = _
    replace hd : s1.sqDrainAll k = .ok () s2 := hd
    rw [h.instr, if_pos (by simpa [bitAt] using hm), hd, MRes.andThen, done_finish hr rfl]
  case ifence =>
    change Host.Outcome.next _ = _
    rw [h.instr, done_finish (s := s1.setCc k _) h.2.1 (by simp)]
  case ecall =>
    change Host.Outcome.next _ = _
    rw [h.instr, if_neg (by simp [hu])]
    rfl
  case ecallSup =>
    change Host.Outcome.next _ = _
    rw [h.instr, if_pos hu, ← miscWord_some a code 0x20 hw]
    rfl
  case brk =>
    change Host.Outcome.next _ = _
    rw [h.instr]
    rfl
  case wcall =>
    change Host.Outcome.next _ = _
    rw [h.instr, ← miscWord_some a 0 0x21 hw]
    rfl
  case eret =>
    change Host.Outcome.next _ = _
    rw [h.instr, if_neg (by simp [hu]), if_pos hc]
    rfl
  case eretBad =>
    change Host.Outcome.next _ = _
    rw [h.instr, if_neg (by simp [hu]), if_neg hc]
    rfl
  case eretUser =>
    change Host.Outcome.next _ = _
    rw [h.instr, if_pos (by simp [hu]), ← miscWord_some a 0 0x22 hw]
    rfl

/-! ### Translation and cache maintenance (R256, R353, R363, R383) -/

/-- A supervisor's TLBI drains the older stores and then drops its entries of every core that is on, or of its own. -/
theorem tlbiOp_runs {k : CoreId} {i : Instr} {kind : Nat} {a : Reg} {bcast : Bool} (he : ∀ s, exec i s = .next (tlbiOp k kind a bcast s)) {s s1 s2 : State}
    (h : Fetched k s s1) (hsup : (s1.core k).sup = true) (hd : s1.sqDrainAll k = .ok () s2) :
    let c := s1.core k
    let f := fun c' : CoreSt => c'.tlbi kind c.sealed (c.tr c.sealed).asid (c.xr a)
    let t := if bcast then (List.range 144).foldl (fun s i =>
        if (s.core (coreOf i)).run == .off then s else s.setCore (coreOf i) (f (s.core (coreOf i)))) s2
      else s2.setCore k (f (s2.core k))
    (t.core k).run = .running → exec i s = .next (t.retired k id) := by
  intro c f t hrun
  rw [he, tlbiOp, h.instr, if_neg (by simp [hsup]), hd, MRes.andThen]
  exact congrArg _ (done_finish (f := id) hrun rfl)

theorem tlbiOp_privilege {k : CoreId} {i : Instr} {kind : Nat} {a : Reg} {bcast : Bool} (he : ∀ s, exec i s = .next (tlbiOp k kind a bcast s))
    (hw : sisWord i = some (miscWord a (BitVec.ofNat 5 (kind + b2n bcast * 8)) 0x30)) :
    ∀ w, sisWord i = some w → RaisesWhen k i (fun c => c.sup = false) (privilegeExc k w) := by
  intro w hw' s s1 h hu
  rw [he, tlbiOp, h.instr, if_pos (by simp [hu]), Option.some.inj (hw.symm.trans hw')]
  rfl

/-- Field b of a TLBI, by its kind (R353). -/
theorem tlbiField (a : Reg) : ∀ (bcast : Bool) (kind : BitVec 3), some (wordR 0x3b 0 a ((0 : BitVec 1) ++ bit1 bcast ++ kind) 0x30) =
    some (miscWord a (BitVec.ofNat 5 (kind.toNat + b2n bcast * 8)) 0x30) := by
  intro bcast kind
  rw [show (0x30 : Nat) = (0x30 : BitVec 11).toNat from rfl, miscWord_eq]
  congr 2
  revert bcast kind
  decide

/-- Maintenance of a line completes once it is performed. -/
theorem cmoOp_runs {k : CoreId} {i : Instr} {a : Reg} {fn : Nat} {supOnly clean inv : Bool} (he : ∀ s, exec i s = .next (cmoOp k a fn supOnly clean inv s))
    {s s1 s2 : State} (h : Fetched k s s1) (hsup : supOnly = true → (s1.core k).sup = true)
    (hp : s1.cmoLine k ((s1.core k).xr a) clean inv = .ok () s2) (hrun : (s2.core k).run = .running) : exec i s = .next (s2.retired k id) := by
  rw [he, cmoOp, h.instr, if_neg (by simpa using hsup), hp, MRes.andThen, done_finish hrun rfl]

/-- Settles O54: each drains or performs its part and then retires; a user's is refused where the row is a supervisor's. -/
theorem maintenance : Obligations.Maintenance := by
  unfold Obligations.Maintenance
  intro k a bcast tlbi line
  have htlbi (kind : BitVec 3) (i : Instr) (he : ∀ s, exec i s = .next (tlbiOp k kind.toNat a bcast s))
      (hw : sisWord i = some (wordR 0x3b 0 a ((0 : BitVec 1) ++ bit1 bcast ++ kind) 0x30)) : tlbi kind.toNat i :=
    ⟨fun s s1 s2 h hsup hd _ hrun => tlbiOp_runs he h hsup hd hrun, tlbiOp_privilege he (hw.trans (tlbiField a bcast kind))⟩
  refine ⟨htlbi 0 _ (fun _ => rfl) rfl, htlbi 1 _ (fun _ => rfl) rfl, htlbi 2 _ (fun _ => rfl) rfl, htlbi 3 _ (fun _ => rfl) rfl,
    htlbi 4 _ (fun _ => rfl) rfl, ⟨fun s s1 s2 h hsup hp hr => cmoOp_runs (fun _ => rfl) h hsup hp hr, nofun⟩,
    ⟨fun s s1 s2 h hsup hp hr => cmoOp_runs (fun _ => rfl) h hsup hp hr, fun _ w hw s s1 h hu => ?invUser⟩,
    ⟨fun s s1 s2 h hsup hp hr => cmoOp_runs (fun _ => rfl) h hsup hp hr, nofun⟩,
    fun s s1 s2 h hu hp hr => ?clinvSw, fun w hw s s1 h hu => ?clinvSwUser, fun s s1 s2 h hp hr => ?zero⟩
  case invUser =>
    change Host.Outcome.next _ = _
    rw [cmoOp, h.instr, if_pos (by simp [hu]), ← miscWord_some a 0 0x41 hw]
    rfl
  case clinvSw =>
    change Host.Outcome.next _ = _
    rw [h.instr, if_neg (by simp [hu]), hp, MRes.andThen, done_finish hr rfl]
  case clinvSwUser =>
    change Host.Outcome.next _ = _
    rw [h.instr, if_pos (by simp [hu]), ← miscWord_some a 0 0x43 hw]
    rfl
  case zero =>
    change Host.Outcome.next _ = _
    rw [h.instr, hp, MRes.andThen, done_finish hr (by simp)]

end Sys2Proof.Machine
end

section
/-! Block operations, samples, stamps, frames and DONE of a Scarab core (R272 to R284). -/

namespace Sys2Proof.Machine

/-! ### Block operations (R272 to R279) -/

/-- Settles O56: each goes on from its record, VDOT once its operands are aligned. -/
theorem blockOperations : Obligations.BlockOperations := by
  unfold Obligations.BlockOperations
  intro k d a b c s s1 h x
  have hv : exec (.vdot k d a b c) s = .next _ := congrArg Host.Outcome.next (h.instr _)
  refine ⟨congrArg Host.Outcome.next (h.instr _), congrArg Host.Outcome.next (h.instr _), fun ha hb => ?_, fun ha => ?_, fun ha hb => ?_⟩
  · rw [hv, if_neg (by simpa using ha), if_neg (by simpa using hb)]
    rfl
  · rw [hv, if_pos (by simpa using ha)]
    rfl
  · rw [hv, if_neg (by simpa using ha), if_pos (by simpa using hb)]
    rfl

/-! ### Samples, stamps, frames and DONE (R282 to R284, R98) -/

theorem mul_four_eq_shift (x : W64) : x * (4 : W64) = x <<< (2 : Nat) := by
  apply BitVec.eq_of_toNat_eq
  simp [Nat.shiftLeft_eq]

theorem mul_eight_eq_shift (x : W64) : x * (8 : W64) = x <<< (3 : Nat) := by
  apply BitVec.eq_of_toNat_eq
  simp [Nat.shiftLeft_eq]

/-- A DONE's drain that is over ends the task. -/
theorem drainDone_finish {k : CoreId} {status : Byte} {s t : State} (h : s.sqDrainAll k = .ok () t) :
    (s.drainDone k status).finish k = (t.setCore k ((t.core k).ev 0x01 1)).taskDoneOn k status := by
  rw [State.drainDone, h]
  rfl

/-- Settles O57: each body is one read and its effect; DONE ends with its drain, and a word that is no instruction is illegal. -/
theorem samplesAndDone : Obligations.SamplesAndDone := by
  unfold Obligations.SamplesAndDone
  intro k d a b c status w
  refine ⟨fun hd0 hd2 s s1 v st s2 h => ?sld, fun s t u w z p q v st l m hl hm hv hst => ?reads, fun hd => ?odd, fun s s1 h => ?stamp,
    fun s s1 h => congrArg Host.Outcome.next (intOp_runs h d _), fun s s1 t h ht => ?frame, fun s s1 h ht => ?frameWait, fun s s1 s2 hs h hd => ?done, fun s s1 hs hr hd => ?again,
    fun s hs => congrArg Host.Outcome.next (if_pos hs), fun hw s s1 h _ => ?illegal, fun hw s => ?legal⟩
  case sld =>
    intro x p q hp hq hr hrun
    have ep : p = x.xr a + x.xr b <<< 2 := congrArg (x.xr a + ·) (mul_four_eq_shift _)
    have eq : q = x.xr c + x.xr b <<< 3 := congrArg (x.xr c + ·) (mul_eight_eq_shift _)
    rw [ep] at hp hr
    rw [eq] at hq hr
    change Host.Outcome.next _ = _
    rw [h.instr, if_neg (by simpa using ⟨hd0, hd2⟩), if_neg (by simpa using hp), if_neg (by simpa using hq), hr, MRes.andThen,
      done_finish hrun (by simp)]
    rfl
  case reads => simp [State.sldReads, hl, hm, hv, hst, MRes.andThen]
  case odd =>
    refine .of_body (fun _ => rfl) rfl fun s _ => ?_
    have hbad : (decide (d = 0) || d.toNat % 2 != 0) = true := by
      rcases hd with hd | hd <;> simp [hd]
    rw [if_pos hbad, ← encR5_eq]
    rfl
  case stamp =>
    change Host.Outcome.next _ = _
    rw [h.instr, done_finish h.2.1 (by simp)]
    rfl
  case frame =>
    change Host.Outcome.next _ = _
    rw [h.instr]
    simp only [ht]
    rw [done_finish h.2.1 (by simp)]
  case frameWait =>
    change Host.Outcome.next _ = _
    rw [h.instr]
    simp only [ht]
    rfl
  case done =>
    have hrun : ¬ ((s.core k).run == .draining) = true := by rcases h.1 with hr | hr <;> simp [hr]
    change Host.Outcome.next _ = _
    rw [if_neg (by simp [hs]), if_neg hrun, h.instr, drainDone_finish hd]
  case again =>
    change Host.Outcome.next _ = _
    rw [if_neg (by simp [hs]), if_pos (by simp [hr]), drainDone_finish hd]
  case illegal =>
    change Host.Outcome.next (illegalInstruction k w s) = _
    rw [illegalInstruction, if_neg (by simp [hw]), h.instr]
    rfl
  case legal =>
    change Host.Outcome.next (illegalInstruction k w s) = _
    rw [illegalInstruction, if_pos (Option.isSome_iff_ne_none.2 hw)]

end Sys2Proof.Machine
end

section
/-! Instructions of an Ant engine: registers, memory and branches (R124 to R130). -/

namespace Sys2Proof.Machine

/-! ### Engines and the shapes of their instructions (R129, R130) -/

@[simp] theorem setEng_setEng (s : State) (b : BayId) (e : Nat) (x y : Engine) : (s.setEng b e x).setEng b e y = s.setEng b e y := by
  simp [State.setEng, State.setBay, State.bay]

@[simp] theorem eng_setEng_same (s : State) (b : BayId) (e : Nat) (x : Engine) : (s.setEng b e x).eng b e = x := by
  rw [eng_setEng, if_pos rfl]

@[simp] theorem Engine.setReg_slot (x : Engine) (n : AReg) (v : W32) : (x.setReg n v).slot = x.slot := by
  unfold Engine.setReg; split <;> rfl

@[simp] theorem Engine.setReg_pc (x : Engine) (n : AReg) (v : W32) : (x.setReg n v).pc = x.pc := by
  unfold Engine.setReg; split <;> rfl

theorem antNext_eq (s : State) (b : BayId) (e : EngId) : s.antNext b e = s.setEng b e.val (s.eng b e.val).past := by
  unfold State.antNext Engine.past
  dsimp only
  cases (s.eng b e.val).slot <;> rfl

/-- The next word after one effect on the engine. -/
theorem antNext_setEng (s : State) (b : BayId) (e : EngId) (x : Engine) : (s.setEng b e.val x).antNext b e = s.setEng b e.val x.past := by
  rw [antNext_eq, setEng_setEng, eng_setEng_same]

/-- What an engine's body leaves, by what it answers. -/
def AntRes.leave (b : BayId) (e : EngId) (s : State) : AntRes → State
  | .fault c => s.antFault b e c
  | .next t => t.antNext b e
  | .branch t target annul => t.antBranch b e target annul
  | .stay t => t

section
variable {b : BayId} {e : EngId} {r s : State}

/-- An engine that is ready runs its body; a transfer of control is not in a slot. -/
theorem antRun_ready (hr : r.bayDue b = s) (h : AntReady b e s) {ctl : Bool} (hs : ctl = true → (s.eng b e.val).slot = none) (body : State → AntRes) :
    r.antRun b e ctl body = (body s).leave b e s := by
  obtain ⟨hst, hclk, hann, hal, hin⟩ := h
  have hctl : (ctl && (s.eng b e.val).slot.isSome) = false := by
    cases hc : ctl with
    | false => rfl
    | true => simp [hs hc]
  subst hr
  unfold State.antRun
  cases hsl : ((r.bayDue b).eng b e.val).slot with
  | none =>
    simp only [hst, hclk, hsl, hal, Nat.not_le.2 hin]
    cases body (r.bayDue b) <;> simp [AntRes.leave]
  | some sl =>
    rw [hsl] at hctl
    simp only [hst, hclk, hsl, hann sl hsl, hal, hctl, Nat.not_le.2 hin]
    cases body (r.bayDue b) <;> simp [AntRes.leave]

/-- A transfer of control in a slot faults with cause 5. -/
theorem antRun_slot (hr : r.bayDue b = s) (h : AntReady b e s) (hs : (s.eng b e.val).slot ≠ none) (body : State → AntRes) :
    r.antRun b e true body = s.antFault b e 5 := by
  obtain ⟨hst, hclk, hann, hal, hin⟩ := h
  obtain ⟨sl, hsl⟩ := Option.ne_none_iff_exists'.1 hs
  subst hr
  unfold State.antRun
  simp [hst, hclk, hsl, hann sl hsl, hal, Nat.not_le.2 hin]

theorem AntDoes.of_antRun {i : Instr} {P : State → Prop} {g : State → State} {body : State → AntRes} (he : ∀ r, exec i r = .next (r.antRun b e false body))
    (hb : ∀ s, P s → body s = .next (g s)) : AntDoes b e i P g := by
  intro r s hr h hP
  rw [he, antRun_ready hr h (by simp), hb s hP]
  rfl

theorem AntFaults.of_antRun {i : Instr} {P : State → Prop} {cause : Nat} {body : State → AntRes} (he : ∀ r, exec i r = .next (r.antRun b e false body))
    (hb : ∀ s, P s → body s = .fault cause) : AntFaults b e i P cause := by
  intro r s hr h hP
  rw [he, antRun_ready hr h (by simp), hb s hP]
  rfl

/-- An instruction whose body is one effect on its engine. -/
theorem AntRuns.of_antRun {i : Instr} {f : State → Engine → Engine} {body : State → AntRes} (he : ∀ r, exec i r = .next (r.antRun b e false body))
    (hb : ∀ s, body s = .next (s.setEng b e.val (f s (s.eng b e.val)))) : AntRuns b e i f := by
  intro r s hr h
  rw [he, antRun_ready hr h (by simp), hb s]
  exact congrArg _ (antNext_setEng ..)

/-- An instruction that writes one register. -/
theorem AntRuns.of_antAlu {i : Instr} {d : AReg} {v : State → W32} {g : State → Engine → W32} (he : ∀ r, exec i r = .next (r.antAlu b e d v))
    (hv : ∀ s, v s = g s (s.eng b e.val)) : AntRuns b e i (fun s x => x.setReg d (g s x)) :=
  .of_antRun he fun s => by rw [hv]; rfl

end

theorem w32of_decide (p : Prop) [Decidable p] : w32of (decide p) = if p then 1 else 0 := by
  by_cases h : p <;> simp [w32of, h]

theorem mul_eq_ofInt (x y : W32) : x * y = BitVec.ofInt 32 (x.toInt * y.toInt) := by
  rw [BitVec.ofInt_mul, BitVec.ofInt_toInt, BitVec.ofInt_toInt]

theorem AntRuns.setPair {b : BayId} {e : EngId} {i : Instr} {d : AReg} {v : State → W64} {body : State → AntRes}
    (he : ∀ r, exec i r = .next (r.antRun b e false body)) (hb : ∀ s, body s = .next (s.setPair b e d (v s))) :
    AntRuns b e i (fun s x => (x.setReg d (lo32 (v s))).setReg (d + 1) (hi32 (v s))) :=
  .of_antRun he fun s => by simp [hb, State.setPair, State.setAreg]

/-- Settles O30: each register form is one write of a register, or one change of the engine. -/
theorem antRegisterForms : Obligations.AntRegisterForms := by
  unfold Obligations.AntRegisterForms
  intro b e d ra rb imm sh op one
  refine ⟨fun r s hr h => ?nop, .of_antAlu (fun _ => rfl) fun _ => rfl, .of_antAlu (fun _ => rfl) fun _ => rfl, .of_antAlu (fun _ => rfl) fun _ => rfl,
    .of_antAlu (fun _ => rfl) fun _ => rfl, .of_antAlu (fun _ => rfl) fun _ => rfl,
    .of_antAlu (fun _ => rfl) fun _ => ?shl, .of_antAlu (fun _ => rfl) fun _ => ?shr, .of_antAlu (fun _ => rfl) fun _ => ?sar,
    .of_antAlu (fun _ => rfl) fun _ => ?slt, .of_antAlu (fun _ => rfl) fun _ => ?sltu, .of_antAlu (fun _ => rfl) fun _ => ?mul,
    .of_antAlu (fun _ => rfl) fun _ => rfl, .of_antAlu (fun _ => rfl) fun _ => rfl,
    .of_antAlu (fun _ => rfl) fun _ => rfl, .of_antAlu (fun _ => rfl) fun _ => rfl, .of_antAlu (fun _ => rfl) fun _ => rfl,
    .of_antAlu (fun _ => rfl) fun _ => rfl, .of_antAlu (fun _ => rfl) fun _ => ?slti, .of_antAlu (fun _ => rfl) fun _ => rfl,
    .of_antAlu (fun _ => rfl) fun _ => rfl, .of_antAlu (fun _ => rfl) fun _ => rfl, .of_antAlu (fun _ => rfl) fun _ => rfl,
    .of_antAlu (fun _ => rfl) fun _ => rfl, .of_antAlu (fun _ => rfl) fun _ => rfl, .of_antAlu (fun _ => rfl) fun _ => rfl,
    .of_antRun (fun _ => rfl) fun _ => rfl, .of_antAlu (fun _ => rfl) fun _ => rfl,
    fun hd => .setPair (fun _ => rfl) fun s => if_neg (by rw [bitAt, hd]; decide), fun hd => .of_antRun (fun _ => rfl) fun s _ => if_pos hd,
    .of_antRun (fun _ => rfl) fun _ _ => rfl⟩
  case nop =>
    change Host.Outcome.next _ = _
    rw [antRun_ready hr h (by simp)]
    exact congrArg _ (antNext_eq ..)
  case shl | shr | sar => simp only [bitsAt_zero]; rfl
  case slt | sltu => exact w32of_decide _
  case slti =>
    refine (w32of_decide _).trans ?_
    rw [BitVec.toInt_signExtend_of_le (by decide)]
    rfl
  case mul => exact mul_eq_ofInt _ _

/-! ### Loads and stores of an engine (R124, R128) -/

theorem ofInt_signed (w v : Nat) : BitVec.ofInt 32 (signed w v) = (BitVec.ofNat w v).signExtend 32 := by
  rw [BitVec.signExtend, signed, BitVec.toInt_eq_toNat_cond, BitVec.toNat_ofNat]
  congr 1
  have hlt : v % 2 ^ w < 2 ^ w := Nat.mod_lt _ (Nat.two_pow_pos _)
  cases w with
  | zero => simp [Nat.mod_one]
  | succ w => exact ite_congr (propext (by rw [Nat.pow_succ, Nat.add_sub_cancel]; omega)) (fun _ => rfl) (fun _ => rfl)

theorem antLoad_zero {b : BayId} {e : EngId} {i : Instr} {d ra : AReg} {imm : BitVec 18} {n : Nat} (c : Nat)
    (he : ∀ r, exec i r = .next (r.antLoad b e d ra imm n false)) :
    AntDoes b e i (fun s => accessFault (s.antAddr b e ra imm) n false = none)
      (fun s => s.setAreg b e d (BitVec.ofNat 32 (s.antRead b e (s.antAddr b e ra imm) n))) ∧
    AntFaults b e i (fun s => accessFault (s.antAddr b e ra imm) n false = some c) c :=
  ⟨.of_antRun he fun s hs => by simp only [hs]; rfl, .of_antRun he fun s hs => by simp only [hs]⟩

theorem antLoad_sign {b : BayId} {e : EngId} {i : Instr} {d ra : AReg} {imm : BitVec 18} {n : Nat} (c : Nat)
    (he : ∀ r, exec i r = .next (r.antLoad b e d ra imm n true)) :
    AntDoes b e i (fun s => accessFault (s.antAddr b e ra imm) n false = none)
      (fun s => s.setAreg b e d ((BitVec.ofNat (8 * n) (s.antRead b e (s.antAddr b e ra imm) n)).signExtend 32)) ∧
    AntFaults b e i (fun s => accessFault (s.antAddr b e ra imm) n false = some c) c :=
  ⟨.of_antRun he fun s hs => by simp only [hs, ← ofInt_signed]; rfl, .of_antRun he fun s hs => by simp only [hs]⟩

theorem antStore_goes {b : BayId} {e : EngId} {i : Instr} {d ra : AReg} {imm : BitVec 18} {n : Nat} (c : Nat)
    (he : ∀ r, exec i r = .next (r.antStore b e d ra imm n)) :
    AntDoes b e i (fun s => accessFault (s.antAddr b e ra imm) n true = none)
      (fun s => s.antWrite b e (s.antAddr b e ra imm) n ((s.areg b e d).toNat % 2 ^ (8 * n))) ∧
    AntFaults b e i (fun s => accessFault (s.antAddr b e ra imm) n true = some c) c :=
  ⟨.of_antRun he fun s hs => by simp only [hs], .of_antRun he fun s hs => by simp only [hs]⟩

/-- Settles O31: a load or a store goes by the checks of its address. -/
theorem antMemory : Obligations.AntMemory := by
  unfold Obligations.AntMemory
  intro b e d ra imm c load store
  refine ⟨antLoad_zero c ?_, antLoad_sign c ?_, antLoad_zero c ?_, antLoad_sign c ?_, antLoad_zero c ?_, antStore_goes c ?_, antStore_goes c ?_, antStore_goes c ?_⟩
  all_goals exact fun _ => rfl

/-! ### Branches of an engine (R129) -/

/-- A branch of an engine's state is a branch of the engine. -/
theorem antBranch_setEng (s : State) (b : BayId) (e : EngId) (x : Engine) (target : W32) (annul : Bool) :
    (s.setEng b e.val x).antBranch b e target annul = s.setEng b e.val (x.branching target annul) := by
  simp [State.antBranch, Engine.branching]

theorem antCond_goes {b : BayId} {e : EngId} {i : Instr} {n : Bool} {ra rb : AReg} {off : BitVec 17} {P : W32 → W32 → Bool}
    (he : ∀ r, exec i r = .next (r.antCond b e n ra rb off P)) :
    (∀ r s, r.bayDue b = s → AntFree b e s → exec i r = .next (s.setEng b e.val
      (if P ((s.eng b e.val).reg ra) ((s.eng b e.val).reg rb) then (s.eng b e.val).branching ((s.eng b e.val).pc + (off.signExtend 32 <<< 2)) false
        else (s.eng b e.val).branching ((s.eng b e.val).pc + 8) n))) ∧
    (∀ r s, r.bayDue b = s → AntReady b e s → (s.eng b e.val).slot ≠ none → exec i r = .next (s.antFault b e 5)) := by
  refine ⟨fun r s hr h => ?_, fun r s hr h hs => by rw [he, State.antCond, antRun_slot hr h hs]⟩
  rw [he, State.antCond, antRun_ready hr h.1 fun _ => h.2]
  by_cases hP : P ((s.eng b e.val).reg ra) ((s.eng b e.val).reg rb) = true
  · simp only [State.areg, hP, if_true]
    rfl
  · simp only [State.areg, hP]
    rfl

theorem antJump_goes {b : BayId} {e : EngId} {i : Instr} {n link : Bool} {target : State → W32} {tgt : Engine → W32}
    (he : ∀ r, exec i r = .next (r.antJump b e n link target)) (ht : ∀ s, target s = tgt (s.eng b e.val)) :
    (∀ r s, r.bayDue b = s → AntFree b e s → exec i r = .next (s.setEng b e.val
      ((if link then (s.eng b e.val).setReg 14 ((s.eng b e.val).pc + 8) else s.eng b e.val).branching (tgt (s.eng b e.val)) n))) ∧
    (∀ r s, r.bayDue b = s → AntReady b e s → (s.eng b e.val).slot ≠ none → exec i r = .next (s.antFault b e 5)) := by
  refine ⟨fun r s hr h => ?_, fun r s hr h hs => by rw [he, State.antJump, antRun_slot hr h hs]⟩
  rw [he, State.antJump, antRun_ready hr h.1 fun _ => h.2]
  cases link with
  | false => simp only [ht]; rfl
  | true =>
    simp only [ht]
    exact congrArg _ (antBranch_setEng ..)

/-- Settles O33: a branch of an engine goes by its condition, a jump by its register or its offset, and neither in a slot. -/
theorem antBranches : Obligations.AntBranches := by
  unfold Obligations.AntBranches
  intro b e n ra rb off far goes cond
  exact ⟨antCond_goes (i := .antBeq b e n ra rb off) fun _ => rfl, antCond_goes (i := .antBne b e n ra rb off) fun _ => rfl,
    antCond_goes (i := .antBlt b e n ra rb off) fun _ => rfl, antCond_goes (i := .antBge b e n ra rb off) fun _ => rfl,
    antCond_goes (i := .antBltu b e n ra rb off) fun _ => rfl, antCond_goes (i := .antBgeu b e n ra rb off) fun _ => rfl,
    antJump_goes (link := false) (tgt := fun x => x.reg ra) (target := fun s => s.areg b e ra) (fun _ => rfl) fun _ => rfl,
    antJump_goes (link := true) (tgt := fun x => x.reg ra) (target := fun s => s.areg b e ra) (fun _ => rfl) fun _ => rfl,
    antJump_goes (link := false) (tgt := fun x => x.pc + (far.signExtend 32 <<< 2)) (target := fun s => s.apc b e + (far.signExtend 32 <<< 2))
      (fun _ => rfl) fun _ => rfl,
    antJump_goes (link := true) (tgt := fun x => x.pc + (far.signExtend 32 <<< 2)) (target := fun s => s.apc b e + (far.signExtend 32 <<< 2))
      (fun _ => rfl) fun _ => rfl⟩

end Sys2Proof.Machine
end

section
/-! Instructions of an Ant engine: pins, the shift unit, posts and events (R128 to R146). -/

namespace Sys2Proof.Machine

/-! ### Pins, the shift unit and posts (R128, R138, R142 to R146) -/

section
variable {b : BayId} {e : EngId} {i : Instr} {u : Byte} {body : State → AntRes}

theorem AntDoes.of_antPin {P : State → Prop} {g : State → State} (he : ∀ r, exec i r = .next (r.antPin b e u body))
    (hP : ∀ s, P s → s.engOwns b e u.toNat = true) (hb : ∀ s, P s → body s = .next (g s)) : AntDoes b e i P g :=
  .of_antRun he fun s hs => (if_pos (hP s hs)).trans (hb s hs)

theorem AntFaults.of_antPin (he : ∀ r, exec i r = .next (r.antPin b e u body)) : AntFaults b e i (fun s => s.engOwns b e u.toNat = false) 4 :=
  .of_antRun he fun s hs => if_neg (by simp [hs])

/-- The body of an instruction with a pair and a pin, on a pair and a pin it may use. -/
theorem pairPin_body {s : State} {d : AReg} (hd : d.getLsbD 0 = false) (ho : s.engOwns b e u.toNat = true) (x : AntRes) :
    (if bitAt d 0 then .fault 1 else if !s.engOwns b e u.toNat then .fault 4 else x) = x := by
  rw [bitAt, hd, ho]
  rfl

end

/-- The action of a PWR by its low two bits. -/
theorem bitsAt_low2 (imm : BitVec 10) : bitsAt imm 0 2 = imm.toNat % 4 := bitsAt_zero imm 2

/-- Settles O34: the instructions go by the pair, the pin's owner, and the room in a queue. -/
theorem antPinsAndPosts : Obligations.AntPinsAndPosts := by
  unfold Obligations.AntPinsAndPosts
  intro b e d ra u imm ch act n own not
  refine ⟨.of_antPin (fun _ => rfl) (fun _ h => h) fun _ _ => rfl, fun hb2 => .of_antPin (fun _ => rfl) (fun _ h => h) fun s _ => if_pos hb2,
    fun hb2 h4 => .of_antPin (fun _ => rfl) (fun _ h => h) fun s _ => ?pwr0, fun hb2 h4 => .of_antPin (fun _ => rfl) (fun _ h => h) fun s _ => ?pwr1,
    fun hb2 h4 => .of_antPin (fun _ => rfl) (fun _ h => h) fun s _ => ?pwr2, fun hb2 h4 => .of_antPin (fun _ => rfl) (fun _ h => h) fun s _ => ?pwr3,
    fun hd => .of_antRun (fun _ => rfl) fun s hs => ?capEmpty, fun hd t r rest => .of_antRun (fun _ => rfl) fun s hs => ?cap,
    fun hd => .of_antRun (fun _ => rfl) fun s hs => ?cmp, fun hd => .of_antRun (fun _ => rfl) fun s hs => ?cmpLate,
    .of_antPin (fun _ => rfl) (fun _ h => h) fun _ _ => rfl, .of_antRun (fun _ => rfl) fun s hs => ?suw, .of_antRun (fun _ => rfl) fun s hs => ?sutx,
    fun w p fr rest => .of_antRun (fun _ => rfl) fun s hs => ?surx, fun hd pt => .of_antRun (fun _ => rfl) fun s hs => ?post,
    .of_antRun (fun _ => rfl) fun s hs => ?surxEmpty, fun r s hr h hs => ?sutxFull, fun hd r s pt hr h hp hl hst => ?postFull,
    fun hd r s pt hr h hp hl hst => ?postStalls, .of_antRun (fun _ => rfl) fun s hs => if_pos hs, .of_antPin fun _ => rfl, .of_antPin fun _ => rfl,
    .of_antPin fun _ => rfl, fun hd => ⟨.of_antRun (fun _ => rfl) fun s hs => ?capOwner, .of_antRun (fun _ => rfl) fun s hs => ?cmpOwner⟩,
    fun hd => ⟨.of_antRun (fun _ => rfl) fun s _ => if_pos hd, .of_antRun (fun _ => rfl) fun s _ => if_pos hd, .of_antRun (fun _ => rfl) fun s _ => if_pos hd⟩,
    fun hd => .of_antRun (fun _ => rfl) fun s hs => ?noPoint⟩
  case pwr0 | pwr1 | pwr2 | pwr3 =>
    have hb2' : ¬ bitAt imm 2 = true := by rw [bitAt, hb2]; decide
    rw [if_neg hb2', bitsAt_low2, h4]
    rfl
  case capEmpty => simp only [pairPin_body hd hs.1, hs.2]
  case cap => simp only [pairPin_body hd hs.1, hs.2]; rfl
  case cmp => simp only [pairPin_body hd hs.1, hs.2]; rfl
  case cmpLate => simp only [pairPin_body hd hs.1, hs.2]; rfl
  case suw =>
    refine if_neg ?_
    simpa using hs
  case sutx => exact if_neg (Nat.not_le.2 hs)
  case surx => simp only [hs]; rfl
  case surxEmpty => simp only [hs]; rfl
  case post =>
    have hd' : ¬ bitAt d 0 = true := by rw [bitAt, hd]; decide
    rw [if_neg hd', hs.1]
    exact if_neg (Nat.not_le.2 hs.2)
  case sutxFull =>
    change Host.Outcome.next _ = _
    rw [antSutx, antRun_ready hr h (by simp), if_pos hs]
    rfl
  case postFull | postStalls =>
    have hd' : ¬ bitAt d 0 = true := by rw [bitAt, hd]; decide
    change Host.Outcome.next _ = _
    rw [antPost, antRun_ready hr h (by simp), if_neg hd', hp]
    simp only [hl, hst, if_true]
    rfl
  case capOwner | cmpOwner =>
    have hd' : ¬ bitAt d 0 = true := by rw [bitAt, hd]; decide
    exact (if_neg hd').trans (if_pos (by simp [not] at hs; simp [hs]))
  case noPoint =>
    have hd' : ¬ bitAt d 0 = true := by rw [bitAt, hd]; decide
    rw [if_neg hd', hs]

/-! ### Events of an engine (R132 to R134) -/

/-- A field of a word, as a bit vector of the field's width. -/
theorem ofNat_bitsAt {n : Nat} (x : BitVec n) (lo w : Nat) : BitVec.ofNat w (bitsAt x lo w) = x.extractLsb' lo w := by
  apply BitVec.eq_of_toNat_eq
  simp [bitsAt]

/-- The level that a stacked STATUS holds. -/
theorem bitsAt_status (v : Nat) : bitsAt (BitVec.ofNat 32 v) 0 4 = v % 16 := by
  simp [bitsAt]

/-- Settles O35: an event instruction goes by the stack check and by what is pending. -/
theorem antEvents : Obligations.AntEvents := by
  unfold Obligations.AntEvents
  intro b e ev prio en l
  refine ⟨fun r s n p t hr h hs ht => ?chain, fun r s hr h hs ht => ?pop, fun r s hr h hs => ?stack, fun r s hr h => ?wait,
    fun r s hr h hs => ⟨?slotRet, ?slotWait⟩, fun hlo hhi => .of_antRun (fun _ => rfl) fun s => if_pos ⟨hlo, hhi⟩,
    fun hev r s hr h => ?cfgNone, .of_antRun (fun _ => rfl) fun _ _ => rfl, fun r s n p t hr hst hclk hsl ht => ?entry, fun r s hr hno => ?stay⟩
  case chain =>
    change Host.Outcome.next _ = _
    rw [antEvret, antRun_ready hr h.1 fun _ => h.2, if_neg (by rw [hs]; decide)]
    simp only [bitsAt_status, ht]
    rfl
  case pop =>
    change Host.Outcome.next _ = _
    rw [antEvret, antRun_ready hr h.1 fun _ => h.2, if_neg (by rw [hs]; decide)]
    simp only [bitsAt_status, ht, ofNat_bitsAt]
    simp only [← bitsAt_status, ofNat_bitsAt]
    rfl
  case stack =>
    change Host.Outcome.next _ = _
    rw [antEvret, antRun_ready hr h.1 fun _ => h.2, if_pos (by rw [hs]; decide)]
    rfl
  case wait =>
    change Host.Outcome.next _ = _
    rw [antEvwait, antRun_ready hr h.1 fun _ => h.2]
    rfl
  case slotRet => exact congrArg Host.Outcome.next (antRun_slot hr h hs _)
  case slotWait => exact congrArg Host.Outcome.next (antRun_slot hr h hs _)
  case cfgNone =>
    change Host.Outcome.next _ = _
    rw [antEvcfg, antRun_ready hr h (by simp), if_neg (by omega)]
    exact congrArg _ (antNext_eq ..)
  case entry =>
    change Host.Outcome.next _ = _
    subst hr
    rw [antEventEntry, if_neg (by rcases hst with hst | hst <;> simp [hst, hclk, hsl])]
    simp only [ht]
  case stay =>
    change Host.Outcome.next _ = _
    subst hr
    unfold antEventEntry
    rcases hno with hsl | ht
    · rw [if_pos (by simp [Option.isSome_iff_ne_none.2 hsl])]
    · simp only [ht, ite_self]

end Sys2Proof.Machine
end

section
/-! The idle clock, resets, references and the beacon's commands -/

namespace Sys2Proof.Machine

/-! ### The idle clock and the resets -/

/-- At a rate of at most half a unit, one clock of 2/3 ns adds at most one nanosecond to a fraction below one. -/
theorem clockFraction_lt {frac : Nat} {rate : Int} (hf : frac < 3 * 2 ^ 40) (hr : rate ≤ 2 ^ 39) :
    (frac + (2 * (2 ^ 40 + rate)).toNat) / (3 * 2 ^ 40) < 2 := by
  have : (2 * (2 ^ 40 + rate)).toNat ≤ 3 * 2 ^ 40 := by omega
  omega

/-- Settles O2: a step on an empty queue is the idle step, whose clock moves the two clocks alone. -/
theorem idleStep : Obligations.IdleStep := by
  unfold Obligations.IdleStep
  intro s hp
  have hstep : step s = .next s.idle := by rw [step, hp]
  refine ⟨fun hr => ?_, fun hr => ?_, rfl, Nat.le_add_right .., Nat.mod_lt _ (by decide), fun hf hrate => ?_⟩
  · rw [hstep, State.idle, if_neg (by simp [hr])]
  · rw [hstep, State.idle, if_pos hr]
  · have hq := clockFraction_lt hf hrate
    rw [State.clockPass]
    generalize (s.tb.frac + (2 * (2 ^ 40 + s.rateNow)).toNat) / (3 * 2 ^ 40) = q at hq ⊢
    change s.tb.now + BitVec.ofNat 64 q - s.tb.now = 0 ∨ s.tb.now + BitVec.ofNat 64 q - s.tb.now = 1
    rw [BitVec.add_comm, BitVec.add_sub_cancel]
    obtain rfl | rfl : q = 0 ∨ q = 1 := by omega
    · exact .inl rfl
    · exact .inr rfl

/-- Settles O7: each command that resets names its cause, and one that cannot expire changes nothing. -/
theorem resetCommands : Obligations.ResetCommands := by
  unfold Obligations.ResetCommands
  intro s u k
  refine ⟨rfl, rfl, fun h => ?_, fun h => ?_, fun h => ?_, fun h => ?_, fun t h => ?_, fun h => ?_, fun h => ?_, fun hd ha => ?_⟩ <;>
    change Host.Outcome.next _ = _
  · rw [resetNLow, if_neg (by simp [h])]
  · rw [resetNLow, if_pos h]
  · rw [resetNRelease, if_pos h]
  · rw [lanternWatchdogExpire, h]
  · rw [lanternWatchdogExpire, h]
  · rw [unitWatchdogExpire, if_pos (by simp [h])]
  · rw [unitWatchdogExpire, if_neg (by simp [h])]
  · rw [wdExpire, if_pos hd, ha]
    rfl

/-! ### References and settings of the timebase and the beacon -/

/-- Settles O9: the crystal and a reference go by the boot step, a lost one by the timebase's source. -/
theorem referenceCommands : Obligations.ReferenceCommands := by
  unfold Obligations.ReferenceCommands
  intro s refB
  refine ⟨fun h1 ha => ?crystal, fun h => ?noCrystal, fun h => ?early, fun ha h2 hb => ?clocks, fun ha h3 => ?defaults, fun ha h4 => ?back,
    ?lost⟩
  case lost =>
    intro lost
    refine ⟨fun ha => congrArg _ (State.awake_off ha _), fun ha => ?_⟩
    have he : exec (.refLoss refB) s = .next (if lost.tb.src.val != b2n refB then lost else match lost.refChoice with
        | some r => lost.refMove r 1
        | none => lost.holdover) := by
      refine congrArg _ ((State.awake_on ha _).trans ?_)
      cases refB <;> rfl
    refine ⟨fun hs => ?_, fun r hs hr => ?_, fun hs hr => ?_⟩
    · rw [he, if_pos (by simpa using hs)]
    · rw [he, if_neg (by simpa using hs), hr]
    · rw [he, if_neg (by simpa using hs), hr]
  all_goals change Host.Outcome.next _ = _
  case crystal => rw [crystalStable, if_neg (by simp [h1, ha])]
  case noCrystal => rw [crystalStable, if_pos (by simpa using h)]
  case early => rw [refStable, if_pos (by simpa [or_comm] using h)]
  case clocks => rw [refStable, if_neg (by simp [ha, h2])]; cases refB <;> simp [h2, hb]
  case defaults => rw [refStable, if_neg (by simp [ha, h3])]; cases refB <;> simp [h3]
  case back =>
    rw [refStable, if_neg (by simp [ha]; omega), if_neg (show ¬ s.boot.step ≤ 3 by omega)]
    simp only [if_neg (show ¬ s.boot.step = 2 by omega), if_neg (show ¬ s.boot.step = 3 by omega)]

/-- Settles O11: each write breaks the pair of its block, and then goes by whether the beacon runs. -/
theorem beaconSettings : Obligations.BeaconSettings := by
  unfold Obligations.BeaconSettings
  intro s0 v
  refine ⟨fun ha => ⟨?_, ?_, ?_⟩, fun ha => ⟨?tai, ?beacon⟩⟩
  · exact congrArg _ (State.blockWrite_off ha ..)
  · exact congrArg _ (State.blockWrite_off ha ..)
  · exact congrArg _ (State.blockWrite_off ha ..)
  case tai =>
    have he : exec (.taiWrite v) s0 = .next (taiWrite v (s0.guardBreak 1)) := congrArg _ (State.blockWrite_on ha ..)
    refine ⟨fun ht => ?_, fun ht => ?_⟩
    · rw [he, taiWrite]
      exact congrArg _ (if_pos ht)
    · rw [he, taiWrite]
      exact congrArg _ (if_neg (by simp [ht]))
  case beacon =>
    have hep : exec (.epochWrite v) s0 = .next (epochWrite v (s0.guardBreak 2)) := congrArg _ (State.blockWrite_on ha ..)
    have hrun : exec (.beaconRun v) s0 = .next (beaconRun v (s0.guardBreak 2)) := congrArg _ (State.blockWrite_on ha ..)
    refine ⟨fun hr => ?set, fun hr => ?clear, fun h => ?stays, fun hr hv hb hp => ?starts, fun hr hv hb hp => ?listens⟩
    case set => rw [hep, epochWrite, if_pos hr]
    case clear => rw [hep, epochWrite, if_neg (by simp [hr])]
    case stays =>
      rw [hrun, beaconRun]
      refine congrArg _ (if_pos ?_)
      rcases h with h | h | h <;> simp only [h, bitAt] <;> simp
    case starts =>
      rw [hrun, beaconRun]
      refine congrArg _ ((if_neg ?_).trans (if_neg (by simpa using hp)))
      simp only [hr, bitAt, hv]
      simpa using hb
    case listens =>
      rw [hrun, beaconRun]
      refine congrArg _ ((if_neg ?_).trans (if_pos hp))
      simp only [hr, bitAt, hv]
      simpa using hb

/-- Settles O12: the tick runs only on a started beacon, at the stamp its period and epoch give. -/
theorem tickFires : Obligations.TickFires := by
  unfold Obligations.TickFires
  intro s s1 s2
  refine ⟨fun h => ?_, fun h hp he => ?_⟩
  · change Host.Outcome.next _ = _
    rw [tick, if_pos (by simp [h])]
  · intro n r
    have ht : exec .tick s = .next (if r.1 then r.2.fullReset 5 else r.2) := by
      change Host.Outcome.next _ = _
      rw [tick, if_neg (by simp [h])]
      simp only [hp, he]
      rfl
    exact ⟨fun hr => by rw [ht, if_neg (by simp [hr])], fun hr => by rw [ht, if_pos hr]⟩

/-- The timebase moved ahead leaves the end of an edge's window where it was. -/
theorem advanceTo_edgeEnd (s : State) (t : Stamp) : (s.advanceTo t).edgeEnd = s.edgeEnd := by
  simp only [State.edgeEnd, State.period, State.advanceTo_bcn, State.advanceTo_trip]

/-- The timebase moved ahead leaves the wait for an edge as it was. -/
theorem advanceTo_edgeDue (s : State) (t : Stamp) : (s.advanceTo t).edgeDue = s.edgeDue := by
  simp only [State.edgeDue, State.nonHolder, State.expects, State.inDiv, State.flagAt, State.fld, State.rd, State.advanceTo_bcn,
    State.advanceTo_tw, State.advanceTo_regs]

/-- The third expected edge missed in a row is the loss of BCN_IN. -/
theorem edgeJudge_of_third {u : State} (hd : u.edgeDue = true) (hg : u.bcn.edgeGot = false) (hl : u.bcn.inLost = false)
    (hm : u.bcn.edgeMiss = 2) : u.edgeJudge =
      (State.flag { u with bcn := { u.bcn with edgeJudged := true, edgeMiss := 3, inLost := true, aligned := false } } R.BCN_STATUS 4).jlog
        u.edgeEnd 104 0 0x0031 [(0, 8, u.bcn.inLast.toNat)] := by
  rw [State.edgeJudge, if_neg (by simp [hd])]
  simp only [hg, hl, hm]
  rfl

/-- Settles O13: the pulses and the edges go by the polarity, the holder, and the error of the edge. -/
theorem beaconPins : Obligations.BeaconPins := by
  unfold Obligations.BeaconPins
  intro s falling
  refine ⟨fun h => ?falls, fun h => ?low, fun h => ?wrong, ?edge, fun hd hg hl hm => ?lost, fun h => ?notLost⟩
  case edge =>
    intro t hf hin hn hp
    have he : exec (.bcnInEdge falling) s = .next (if !t.bcn.started then
        if t.runSet && t.boot.step != 15 && (t.tw.listenFrom.isNone || !t.flagAt R.TW_CFG 0) then
          (State.tripPut { t with bcn := { t.bcn with aligned := true } } 1 (t.now + BitVec.ofNat 64 (t.inDiv * t.period)).toNat).firstTick 0
        else t
      else match t.edgeErr t.now with
        | none => t
        | some x => t.edgeTaken x.1 x.2) := by
      have hquiet : (!t.flagAt R.BCN_CTL 1 || t.nonHolder || t.period == 0) = false := by
        change (!s.flagAt R.BCN_CTL 1 || s.nonHolder || s.period == 0) = false
        simp [hin, hn, hp]
      change Host.Outcome.next _ = _
      rw [bcnInEdge, if_neg (by simpa using hf)]
      exact congrArg _ (if_neg (ne_true_of_eq_false hquiet))
    refine ⟨fun m e hs hm => ?_, fun hs hm => ?_, fun hs hr hb ht => ?_⟩ <;> rw [he]
    · rw [if_neg (by simp [show t.bcn.started = true from hs])]
      simp only [show t.edgeErr t.now = some (m, e) from hm]
    · rw [if_neg (by simp [show t.bcn.started = true from hs])]
      simp only [show t.edgeErr t.now = none from hm]
    · rw [if_pos (by simp [show t.bcn.started = false from hs]), if_pos]
      change (s.runSet && s.boot.step != 15 && (s.tw.listenFrom.isNone || !s.flagAt R.TW_CFG 0)) = true
      simp [hr, hb, ht]
  all_goals change Host.Outcome.next _ = _
  case falls =>
    rw [bcnOutFall, if_pos h]
    simp
  case low => rw [bcnOutFall, if_neg (by simp [h])]
  case wrong => rw [bcnInEdge, if_pos (by simpa using h)]
  case lost =>
    have hlost := edgeJudge_of_third ((advanceTo_edgeDue s s.edgeEnd).trans hd) (by simpa using hg) (by simpa using hl) (by simpa using hm)
    rw [bcnInLost, if_pos (by simp [hd, hg, hl, hm]), hlost, advanceTo_edgeEnd, State.advanceTo_bcn]
  case notLost =>
    rw [bcnInLost, if_neg (by rcases h with h | h | h | h <;> simp [h])]

/-- Settles O14: the inputs freeze once a frame, and a sample goes from the head of its bay's queue. -/
theorem inputCommands : Obligations.InputCommands := by
  unfold Obligations.InputCommands
  intro s p
  refine ⟨fun h => ?frozen, fun ht hf hn hl hw => ?freeze, fun ha => ?asleep, fun ha hs => ?plain, fun ha hlo hhi => ?bay⟩
  case frozen =>
    change Host.Outcome.next _ = _
    rw [inputFreeze, if_pos (by simp [h])]
  case freeze =>
    intro t u hu v hv
    change Host.Outcome.next _ = _
    rw [inputFreeze, if_neg (by simp [ht, hf, hl])]
    refine congrArg _ ((if_neg (ne_true_of_eq_false hu)).trans ?_)
    exact congrArg State.freezeEnd (if_neg (ne_true_of_eq_false hv))
  case asleep => exact congrArg _ (State.awake_off ha _)
  case plain =>
    refine congrArg _ ((State.awake_on ha _).trans ?_)
    rw [samplePost, if_neg (by omega)]
  case bay =>
    intro b
    have he : exec (.samplePost p) s = .next (s.bayPost b p) := by
      refine congrArg _ ((State.awake_on ha _).trans ?_)
      rw [samplePost, if_pos ⟨hlo, hhi⟩]
    refine ⟨fun hp hd => ?_, fun h => ?_⟩ <;> rw [he, State.bayPost]
    · exact congrArg _ (if_pos ⟨hp, hd⟩)
    · refine congrArg _ (if_neg fun hc => ?_)
      rcases h with h | h
      · exact h hc.1
      · exact h hc.2

end Sys2Proof.Machine
end

section
/-! Tasks and switch groups -/

namespace Sys2Proof.Machine

/-! ### Tasks and their frames -/

/-- A read of a line's metadata gives the line's where a region holds it, unless it is Sealed and the requester is not. -/
theorem dbgMetaRead_of_region {s : State} (q : Requester) {line : Nat}
    (hl : (s.rd64 R.DBG_ADDR_LO R.DBG_ADDR_HI).toNat % 2 ^ 46 / 64 = line) (h : (s.regionOf line).isSome = true) :
    dbgMetaRead q s = State.flag { s with su := { s.su with dbgMeta :=
      (if s.lineSealed line = true ∧ q.sealed = false then 0 else (s.sline line).meta) } } R.ST_STATUS 7 := by
  obtain ⟨r, hr⟩ := Option.isSome_iff_exists.1 h
  simp only [dbgMetaRead, hl, hr, Bool.and_eq_true, Bool.not_eq_true']

/-- A read of the metadata of a line outside every region gives a free value. -/
theorem dbgMetaRead_of_none {s : State} (q : Requester) {line : Nat}
    (hl : (s.rd64 R.DBG_ADDR_LO R.DBG_ADDR_HI).toNat % 2 ^ 46 / 64 = line) (h : s.regionOf line = none) :
    dbgMetaRead q s = State.flag { (s.free 128).2 with su := { (s.free 128).2.su with dbgMeta := (s.free 128).1 } } R.ST_STATUS 7 := by
  simp only [dbgMetaRead, hl, h]

/-- Settles O16: each command acts where its condition holds, and changes nothing elsewhere. -/
theorem taskCommands : Obligations.TaskCommands := by
  unfold Obligations.TaskCommands
  intro s t frame q items
  refine ⟨fun k f hr hl hc => ?late, fun hr => ?notRun, fun ht => ?missed, fun e he => ?walk, fun ho hw => ?digest,
    fun ha => ?asleep, fun ha => ?metadata, fun h1 h2 h3 h4 h5 => ?dispatch, fun j h1 h2 h3 h4 h5 h6 => ?steal, fun hp => ?plan, fun hp => ?noPlan⟩
  case asleep => exact congrArg _ (State.blockWrite_off ha ..)
  case metadata =>
    intro s0 s' line
    have he : exec (.dbgMetaRead q) s0 = .next (dbgMetaRead q s') := congrArg _ (State.blockWrite_on ha ..)
    refine ⟨fun hr => ?_, fun hr => ?_⟩ <;> rw [he]
    · exact congrArg _ (dbgMetaRead_of_region q rfl hr)
    · exact congrArg _ (dbgMetaRead_of_none q rfl hr)
  all_goals change Host.Outcome.next _ = _
  case late =>
    rw [deadlineLate]
    simp only [hr]
    rw [if_neg (by simp [hl, hc])]
  case notRun =>
    rw [deadlineLate]
    simp only [hr]
  case missed =>
    rw [Sys2Proof.Machine.missed, if_neg (by simp [ht])]
  case walk =>
    rw [walkCmd, he]
  case digest =>
    rw [digestFinal, if_neg]
    rw [← List.not_any_eq_all_not, Bool.not_eq_true'] at hw
    simp only [ho, hw]
    decide
  case dispatch => rw [taskDispatch, if_pos (by simp only [h1, h2, h3, h4, h5]; rfl)]
  case steal =>
    have h7 : (s.taskPlace t == 2 && s.pool t == [(s.rt t).assigned]) = false := by
      simpa using h5
    rw [dispatchSteal, if_pos (by simp only [h1, h2, h3, h4, h7]; rfl)]
    simp only [h6]
  case plan => rw [planComplete, if_pos hp]
  case noPlan => rw [planComplete, if_neg (by simp [hp])]

/-! ### Switch groups -/

/-- Settles O17: a write of the switch block goes by the side's role, the open slot, and the state of the group. -/
theorem switchCommands : Obligations.SwitchCommands := by
  unfold Obligations.SwitchCommands
  intro s0 v i
  refine ⟨fun ha => ?_, fun ha => ?_⟩
  · exact ⟨congrArg _ (State.blockWrite_off ha ..), congrArg _ (State.blockWrite_off ha ..), congrArg _ (State.blockWrite_off ha ..),
      congrArg _ (State.blockWrite_off ha ..)⟩
  intro s
  have hopen : exec (.swOpen v) s0 = .next (swOpen v s) := congrArg _ (State.blockWrite_on ha ..)
  have hent : exec (.swEntVal v) s0 = .next (swEntVal v s) := congrArg _ (State.blockWrite_on ha ..)
  have harm : exec (.swArmLo v) s0 = .next (swArmLo v s) := congrArg _ (State.blockWrite_on ha ..)
  have hcan : exec (.swCancel v) s0 = .next (swCancel v s) := congrArg _ (State.blockWrite_on ha ..)
  refine ⟨fun h => ?other, fun h => ⟨?openSlot, fun ho => ?noSlot, fun ho hl => ?room, fun ho hl => ?full, ?arm, ?cancel⟩⟩
  case other =>
    have h' : (!s.holder) = true := by simp [h]
    exact ⟨by rw [hopen, swOpen, if_pos h'], by rw [hent, swEntVal, if_pos h'], by rw [harm, swArmLo, if_pos h'],
      by rw [hcan, swCancel, if_pos h']⟩
  all_goals have h' : ¬ (!s.holder) = true := by simp [h]
  case openSlot =>
    rw [hopen, swOpen, if_neg h', bitsAt_zero, ofNat_bitsAt]
    rfl
  case noSlot =>
    rw [hent, swEntVal, if_neg h']
    simp only [ho]
  case room =>
    rw [hent, swEntVal, if_neg h']
    simp only [ho, if_pos hl]
  case full =>
    rw [hent, swEntVal, if_neg h']
    simp only [ho, if_neg (Nat.not_lt.2 hl)]
  case arm =>
    intro u a
    refine ⟨fun ho => ?_, fun ho h1 => ?_, fun ho h1 h2 => ?_, fun ho h1 h2 => ?_⟩ <;> rw [harm, swArmLo, if_neg h'] <;> simp only [ho]
    · exact congrArg _ (if_neg (by change ¬ (a.1 && u.twin) = true; simp [h1]))
    · exact congrArg _ (if_neg (by change ¬ (a.1 && u.twin) = true; simp [h2]))
    · exact congrArg _ (if_pos (by change (a.1 && u.twin) = true; simp [h1, h2]))
  case cancel =>
    intro c u done
    have he : exec (.swCancel v) s0 = .next (if (u.slot c).st != 2 then u.cancelLog c 2
        else if u.cancellable c then
          if done.twin then done.linkSend (.swCancel ⟨c % 8, Nat.mod_lt c (by decide)⟩ (u.slot c).frame) else done
        else u.cancelLog c 1) := by
      rw [hcan, swCancel, if_neg h']
      rfl
    refine ⟨fun h1 => ?_, fun h1 h2 => ?_, fun h1 h2 h3 => ?_, fun h1 h2 h3 => ?_⟩ <;> rw [he]
    · rw [if_pos (by simpa using h1)]
    · rw [if_neg (by simpa using h1), if_neg (ne_true_of_eq_false h2)]
    · rw [if_neg (by simpa using h1), if_pos h2, if_neg (ne_true_of_eq_false h3)]
    · rw [if_neg (by simpa using h1), if_pos h2, if_pos h3]

end Sys2Proof.Machine
end

section
/-! Events of the bays, the grid front end and the sector -/

namespace Sys2Proof.Machine

/-! ### Pins, shift units and engines -/

/-- An edge of a kind that is not selected is not captured. -/
theorem capTake_off {s : State} {b : BayId} {u : Nat} {rising : Bool} (t : Stamp)
    (h : (s.pinCfg b u).getLsbD (if rising then 22 else 23) = false) : s.capTake b u t rising = s := by
  rw [State.capTake]
  exact if_pos (by simp [bitAt, h])

/-- A selected edge is stamped into a queue with room, and raises event 4. -/
theorem capTake_room {s : State} {b : BayId} {u : Nat} {rising : Bool} (t : Stamp)
    (h : (s.pinCfg b u).getLsbD (if rising then 22 else 23) = true) (hl : (s.pin b u).cap.length < 4) : s.capTake b u t rising =
      (s.setPin b u { s.pin b u with cap := (s.pin b u).cap ++ [(t, rising)] }).raiseOwner b u 4 t := by
  rw [State.capTake]
  exact (if_neg (by simp [bitAt, h])).trans (if_neg (by omega))

/-- A selected edge that finds the queue full is counted and journaled. -/
theorem capTake_full {s : State} {b : BayId} {u : Nat} {rising : Bool} (t : Stamp)
    (h : (s.pinCfg b u).getLsbD (if rising then 22 else 23) = true) (hl : 4 ≤ (s.pin b u).cap.length) : s.capTake b u t rising =
      ((s.flag (R.BAY_STATUS b.val) 4).bump (R.CNT_CAP_OVF b.val)).jlogW (s.baySealed b.val) s.now (80 + b.val) (s.pinUnit b u) 0x0310
        [(0, 1, b.val), (1, 1, u), (4, 8, t.toNat)] [] := by
  rw [State.capTake]
  exact (if_neg (by simp [bitAt, h])).trans (if_pos hl)

/-- A word received in full is kept while the FIFO has room, and raises event 6. -/
theorem suStore_room {s : State} {b : BayId} {e : Nat} (data : W32) (par frm : Bool) (h : (s.eng b e).su.rx.length < 16) :
    s.suStore b e data par frm = (s.setSu b e { (s.eng b e).su with
      rx := (s.eng b e).su.rx ++ [(suData (s.eng b e).su data, (par, frm))] }).raiseEv b e 6 s.now := by
  rw [State.suStore]
  exact if_neg (by omega)

/-- The seventeenth word sets OVERRUN. -/
theorem suStore_full {s : State} {b : BayId} {e : Nat} (data : W32) (par frm : Bool) (h : 16 ≤ (s.eng b e).su.rx.length) :
    s.suStore b e data par frm = s.setSu b e { (s.eng b e).su with overrun := true } := by
  rw [State.suStore]
  exact if_pos h

/-- A shift unit written reads as written. -/
theorem su_setSu (s : State) (b : BayId) (e : Nat) (u : ShiftUnit) : ((s.setSu b e u).eng b e).su = u := by
  rw [State.setSu, eng_setEng_same]

/-- While the engine runs or waits, a UART stores a word received unless DE is asserted. -/
theorem suRx_uart {s w : State} {b : BayId} {e : EngId} (d : W32) (par frm : Bool) (hw : s.suTail b e.val = w)
    (h : (w.eng b e.val).st = .running ∨ (w.eng b e.val).st = .waiting) (hm : (w.eng b e.val).su.mode.toNat % 4 = 1) :
    suRx b e d par frm s = if (w.eng b e.val).su.de then w else w.suStore b e.val d par frm := by
  subst hw
  rw [suRx]
  refine (if_neg (by rcases h with h | h <;> simp [h])).trans ?_
  simp only [bitsAt_zero, Nat.reducePow, hm]

/-- While the engine runs or waits, the synchronous unit samples a word once while it shifts. -/
theorem suRx_synchronous {s w : State} {b : BayId} {e : EngId} (d : W32) (par frm : Bool) (hw : s.suTail b e.val = w)
    (h : (w.eng b e.val).st = .running ∨ (w.eng b e.val).st = .waiting) (hm : (w.eng b e.val).su.mode.toNat % 4 = 2) :
    suRx b e d par frm s = if !(w.eng b e.val).su.busy || (w.eng b e.val).su.sampled then w
      else (w.setSu b e.val { (w.eng b e.val).su with sampled := true }).suStore b e.val d false false := by
  subst hw
  rw [suRx]
  refine (if_neg (by rcases h with h | h <;> simp [h])).trans ?_
  simp only [bitsAt_zero, Nat.reducePow, hm]

/-- The end of a burst on a unit without DE only empties it. -/
theorem burstEnd_plain {s : State} {b : BayId} {e : Nat} (h : (s.eng b e).su.mode.toNat % 4 ≠ 1) :
    s.burstEnd b e = s.setSu b e { (s.eng b e).su with tx := [], busy := false, go := false } := by
  rw [State.burstEnd]
  exact if_pos (by simpa [bitsAt_zero] using h)

/-- The end of a UART's burst without a tail releases DE. -/
theorem burstEnd_release {s : State} {b : BayId} {e : Nat} (h : (s.eng b e).su.mode.toNat % 4 = 1) (hn : (s.eng b e).su.tail.toNat % 16 = 0) :
    s.burstEnd b e = (s.setSu b e { (s.eng b e).su with tx := [], busy := false, go := false }).suDe b e false := by
  rw [State.burstEnd]
  exact (if_neg (by simp [bitsAt_zero, h])).trans (if_pos (by simpa [bitsAt_zero] using hn))

/-- The end of a UART's burst with a tail says when DE is over. -/
theorem burstEnd_tail {s t : State} {b : BayId} {e : Nat} (h : (s.eng b e).su.mode.toNat % 4 = 1) (hn : (s.eng b e).su.tail.toNat % 16 ≠ 0)
    (ht : s.setSu b e { (s.eng b e).su with tx := [], busy := false, go := false } = t) :
    s.burstEnd b e = t.setSu b e { (t.eng b e).su with
      deEnd := some (s.now + BitVec.ofNat 64 ((s.eng b e).su.tail.toNat % 16 * ((s.eng b e).su.div.toNat % 2 ^ 24) * 2 / 3)) } := by
  subst ht
  rw [State.burstEnd]
  refine (if_neg (by simp [bitsAt_zero, h])).trans ((if_neg (by simpa [bitsAt_zero] using hn)).trans ?_)
  simp only [bitsAt_zero]
  rfl

/-- Settles O18: each event of a bay acts where its unit is ready for it, and the FIFOs and queues keep their depth. -/
theorem bayEvents : Obligations.BayEvents := by
  unfold Obligations.BayEvents
  intro s b e u rising d v par frm q
  refine ⟨fun hd => ?down, fun hd => ?edge, fun hc => ?noCompare, fun t a hc => ?compare, ?rx, ?tx, fun hb hl => ?wordEnd,
    fun hm hi => ?idle, fun ht => ?timer, fun ht => ?timerOff, fun hs => ?spare, fun ha => ?asleep, fun ha => ?safe, fun ha hs hq => ?hidden,
    fun ha h => ?word⟩
  case edge =>
    intro v pad x
    have he : exec (.captureEdge b u rising) s = .next (v.pinEdge b u.val rising) := by
      change Host.Outcome.next _ = _
      rw [captureEdge, if_neg (by simp [hd])]
    refine ⟨fun hf => ?_, fun hf => ?_⟩
    · rw [he, State.pinEdge]
      refine congrArg _ ((if_neg hf).trans ?_)
      simp only [beq_iff_eq]
      rfl
    · intro t
      have ht : exec (.captureEdge b u rising) s = .next (t.capTake b u.val v.now rising) := by
        rw [he, State.pinEdge]
        exact congrArg _ (if_pos hf)
      have hx : (t.pin b u.val).cap = x.cap := by rw [pin_setPin, if_pos rfl]
      refine ⟨fun hc => ?_, fun hc hl => ?_, fun hc hl => ?_⟩ <;> rw [ht]
      · exact congrArg _ (capTake_off (s := t) _ hc)
      · rw [capTake_room (s := t) _ hc (by rwa [hx]), hx]
      · exact congrArg _ (capTake_full (s := t) _ hc (by rwa [hx]))
  case rx =>
    intro w x y hrun
    have he : exec (.suRx b e d par frm) s = .next (suRx b e d par frm s) := rfl
    have hy : ((w.setSu b e.val y).eng b e.val).su = y := su_setSu ..
    refine ⟨fun hm hde => ?uart, fun hm hb hsm => ?synchronous, fun hm hde => ?driving⟩
    case uart =>
      rw [he, suRx_uart d par frm rfl hrun hm, if_neg (ne_true_of_eq_false hde)]
      exact ⟨fun hl => congrArg _ (suStore_full (s := w) _ _ _ hl), fun hl => congrArg _ (suStore_room (s := w) _ _ _ hl)⟩
    case synchronous =>
      rw [he, suRx_synchronous d par frm rfl hrun hm, if_neg (by change ¬ (!x.su.busy || x.su.sampled) = true; simp [hb, hsm])]
      refine ⟨fun hl => congrArg _ ?_, fun hl => congrArg _ ?_⟩
      · exact (suStore_full (s := w.setSu b e.val y) _ _ _ (by rwa [hy])).trans (by rw [hy])
      · exact (suStore_room (s := w.setSu b e.val y) _ _ _ (by rwa [hy])).trans (by rw [hy]; rfl)
    case driving => rw [he, suRx_uart d par frm rfl hrun hm, if_pos hde]
  case tx =>
    intro w y t hb hl
    have he : exec (.suTx b e) s = .next ((w.burstEnd b e.val).raiseEv b e.val 7 s.now) := by
      change Host.Outcome.next _ = _
      rw [suTx, if_pos (by simp [hb, hl])]
    refine ⟨fun hm => ?_, fun hm hn => ?_, fun hm hn => ?_⟩ <;> rw [he]
    · rw [burstEnd_plain hm]
    · rw [burstEnd_release hm hn]
    · rw [burstEnd_tail hm hn rfl]
  case asleep => exact ⟨congrArg Host.Outcome.next (State.blockWrite_off ha _ _), congrArg Host.Outcome.next (State.awake_off ha _)⟩
  case safe => exact congrArg Host.Outcome.next (State.blockWrite_on ha _ _)
  case hidden =>
    refine congrArg Host.Outcome.next ((State.awake_on ha _).trans ?_)
    rw [memDataRead, if_pos (by simp [hs, hq])]
  case word =>
    refine congrArg Host.Outcome.next ((State.awake_on ha _).trans ?_)
    rw [memDataRead, if_neg (by rcases h with h | h <;> simp [h])]
  all_goals change Host.Outcome.next _ = _
  case down => rw [captureEdge, if_pos (by simpa using hd)]
  case noCompare =>
    rw [compareAction]
    simp only [hc]
  case compare =>
    rw [compareAction]
    simp only [hc]
  case wordEnd =>
    rw [shiftUnitWordEnd, if_pos (by simp [hb, hl])]
    simp only [List.drop_one]
  case idle => rw [suIdle, if_pos (by simp [bitsAt_zero, hm, hi])]
  case timer => rw [engineTimer, if_pos (by simpa using ht)]
  case timerOff => rw [engineTimer, if_neg (by simp [ht])]
  case spare => rw [spareLoadDone, if_neg (by simp [hs])]

/-! ### The grid front end and the sector -/

/-- A command that changes nothing of the state changes nothing whether or not the device is awake. -/
theorem awake_eq_self {s : State} {f : State → State} (h : f s = s) : s.awake f = s := by
  rw [State.awake, h, ite_self]

/-- Settles O19: a sample, a fault, a lost sync, an evaluation and the supply each act where they are due. -/
theorem gridAndSector : Obligations.GridAndSector := by
  unfold Obligations.GridAndSector
  intro s i raw g
  refine ⟨fun h => ?unitOff, fun h1 h2 h3 => ?sample, fun ha => ?asleep, fun h => ?stands, fun h => ?clean, fun ha h => ?faults,
    fun ha h => ?clears, fun h => ?inSync, fun h1 h2 => ?noSync, fun t h1 h2 h3 h4 h5 => ?evaluation, fun h => ?notFrozen,
    fun ha => ?warn, fun h => ?notLow, fun ha h => ?supply⟩
  case sample =>
    intro x good
    have hon : (!s.flagAt R.GS_CTL 0 || !s.flagAt (R.CH_CFG i.val) 2 || !s.flagAt (R.MCLK_CFG (s.mclk i.val)) 21) = false := by
      simp [h1, h2, h3]
    refine ⟨fun hd => ?_, fun hd => ?_⟩
    · change Host.Outcome.next _ = _
      rw [decimatedSample]
      exact congrArg _ ((if_neg (ne_true_of_eq_false hon)).trans (if_pos hd))
    · intro a y sat smp t
      change Host.Outcome.next _ = _
      rw [decimatedSample]
      exact congrArg _ ((if_neg (ne_true_of_eq_false hon)).trans (if_neg (Nat.not_lt.2 (Nat.le_of_eq hd))))
  case asleep =>
    exact ⟨fun x => congrArg Host.Outcome.next (State.awake_off ha _), congrArg Host.Outcome.next (State.awake_off ha _),
      congrArg Host.Outcome.next (State.awake_off ha _)⟩
  case stands =>
    refine congrArg Host.Outcome.next (awake_eq_self ?_)
    rw [modFault, if_pos (by simp [h])]
  case clean =>
    refine congrArg Host.Outcome.next (awake_eq_self ?_)
    rw [modFault, if_pos (by simp [h])]
  case faults =>
    refine congrArg Host.Outcome.next ((State.awake_on ha _).trans ?_)
    rw [modFault, if_neg (by simp [h]), if_pos rfl]
  case clears =>
    refine congrArg Host.Outcome.next ((State.awake_on ha _).trans ?_)
    rw [modFault, if_neg (by simp [h]), if_neg (by decide)]
  case noSync =>
    have he : exec (.noSync g) s = .next (if (s.grp g.val).sync then s.loseSync g.val else s.flag R.GS_STATUS 2) := by
      change Host.Outcome.next _ = _
      rw [Sys2Proof.Machine.noSync, if_neg (by simp [h1, h2])]
    refine ⟨?_, fun hs => ?_⟩
    · intro o hs
      rw [he, if_pos hs]
      rfl
    · rw [he, if_neg (ne_true_of_eq_false hs)]
  case warn => exact congrArg Host.Outcome.next (State.awake_on ha _)
  case supply =>
    intro u back w x
    refine congrArg Host.Outcome.next ((State.awake_on ha _).trans ?_)
    rw [supplyClear]
    refine (if_neg (by simp [h])).trans ?_
    simp only [State.advanceTo_sector]
    rfl
  case notLow =>
    refine congrArg Host.Outcome.next (awake_eq_self ?_)
    rw [supplyClear]
    exact if_pos (by simp [h])
  all_goals change Host.Outcome.next _ = _
  case unitOff => rw [decimatedSample, if_pos (by simp [h])]
  case inSync => rw [Sys2Proof.Machine.noSync, if_pos (by rcases h with h | h <;> simp [h])]
  case evaluation =>
    rw [interlockEvaluation]
    simp only [h1]
    exact congrArg _ (if_neg (by simp [h2, h3, h4, h5]))
  case notFrozen =>
    rw [interlockEvaluation]
    simp only [h]

end Sys2Proof.Machine
end

section
/-! Heartbeats, roles and the token -/

namespace Sys2Proof.Machine

/-! ### Heartbeats, roles and the token -/

/-- A message sent leaves the device's side. -/
@[simp] theorem linkSend_sideB (s : State) (m : LinkMsg) : (s.linkSend m).tw.sideB = s.tw.sideB := by
  unfold State.linkSend
  split <;> rfl

/-- A write of a line through the homes leaves the unit of the pair. -/
@[simp] theorem naWriteIn_tw (s : State) (pa n v : Nat) : (s.naWriteIn pa n v).tw = s.tw := by rw [(naWriteIn_step s pa n v).frame]

@[simp] theorem ringWrite_sideB (s : State) (r : JRec) : (s.ringWrite r).tw.sideB = s.tw.sideB := by
  unfold State.ringWrite
  dsimp only
  split <;> simp

@[simp] theorem sealedRingWrite_sideB (s : State) (r : JRec) : (s.sealedRingWrite r).tw.sideB = s.tw.sideB := by
  unfold State.sealedRingWrite
  dsimp only
  split <;> simp

@[simp] theorem lanRam_tw (s : State) (r : JRec) : (s.lanRam r).tw = s.tw := by
  unfold State.lanRam
  extract_lets _ l u
  have hu : u.tw = s.tw := rfl
  split
  · exact hu
  · exact hu

@[simp] theorem lanAdmit_tw (s : State) (r : JRec) : (s.lanAdmit r).tw = s.tw := rfl

@[simp] theorem lanReceive_tw (s : State) (r : JRec) : (s.lanReceive r).2.tw = s.tw := by
  unfold State.lanReceive
  dsimp only
  split
  · simp
  · split
    · simp
    · split <;> simp

@[simp] theorem deliver_sideB (s : State) (r : JRec) (full : Option JRec) : (s.deliver r full).2.tw.sideB = s.tw.sideB := by
  unfold State.deliver
  rw [lanReceive_tw]
  split
  · cases full <;> simp
  · rfl

/-- A journal record leaves the device's side. -/
@[simp] theorem jlog_sideB (s : State) (stamp : Stamp) (st u ty : Nat) (l : List (Nat × Nat × Nat)) :
    (s.jlog stamp st u ty l).tw.sideB = s.tw.sideB := by
  unfold State.jlog State.jlogFull
  dsimp only
  split <;> simp

/-- The record of two tokens leaves the device's side. -/
theorem dualLog_sideB (s : State) (g : W32) (side lost : Bool) (path : Nat) : (s.dualLog g side lost path).tw.sideB = s.tw.sideB := by
  rw [State.dualLog, jlog_sideB, State.flag_tw]

/-- A low of 1 to 4 us outside the device's own slot is heard, and in the other side's slot it shows a holder two tokens. -/
theorem twinHbPulse_fall {s t : State} {w : W32} {fall : Stamp} (h1 : s.twin = true) (hlo : 1000 ≤ w.toNat) (hhi : w.toNat ≤ 4000)
    (hf : s.now - w.setWidth 64 = fall) (hs : s.inSlot fall s.tw.sideB = false)
    (ht : { s with tw := { s.tw with heardLine := true, listenPulse := s.tw.listenPulse || s.tw.listenFrom.isSome } } = t) :
    twinHbPulse w s = if t.tw.role == .listen || !t.holder then t
      else if t.inSlot fall (!t.tw.sideB) then
        if t.tw.sideB then ((t.free 32).2.dualLog (t.free 32).1 (!t.tw.sideB) t.tw.sideB 1).dualLost
        else (t.free 32).2.dualLog (t.free 32).1 (!t.tw.sideB) t.tw.sideB 1
      else t := by
  subst hf ht
  rw [twinHbPulse, if_neg (by simp [h1]; omega), if_neg (by omega), if_neg (ne_true_of_eq_false hs)]
  simp only [dualLog_sideB, State.free_tw]

/-- Settles O20: each command of the pair acts by the side's role, the heartbeat line and the token. -/
theorem twinRoles : Obligations.TwinRoles := by
  unfold Obligations.TwinRoles
  intro s h w f
  refine ⟨fun h1 h2 h3 => ?send, fun h1 h2 => ?own, fun h1 h2 => ?taken, fun h1 => ?deaf, fun h1 h2 h3 h4 => ?drive, fun h1 => ?release,
    fun h1 => ?pulse, fun t h1 h2 h3 => ?alone, fun h1 => ?heard, fun t h1 => ?outputs, fun h1 h2 h3 => ?wait, fun ha => ?asleep,
    fun ha => ?requests, fun h1 h2 => ?standby, fun h1 h2 => ?notStandby, fun h1 h2 h3 h4 => ?acked, fun h1 h2 => ?notAcked⟩
  case pulse =>
    intro fall
    refine ⟨fun hw => ?_, fun hw => ?_, fun hlo hhi hs => ?_, fun hlo hhi hs => ?_⟩
    · exact congrArg Host.Outcome.next (if_pos (by simp [hw]))
    · exact congrArg Host.Outcome.next ((if_neg (by simp [h1]; omega)).trans (if_pos hw))
    · exact congrArg Host.Outcome.next ((if_neg (by simp [h1]; omega)).trans ((if_neg (by omega)).trans (if_pos hs)))
    · intro t
      have he : exec (.twinHbPulse w) s = _ := congrArg Host.Outcome.next (twinHbPulse_fall (t := t) h1 hlo hhi rfl hs rfl)
      refine ⟨fun h => ?_, fun h2 h3 h4 => ?_⟩
      · rw [he]
        refine congrArg Host.Outcome.next ?_
        rcases h with h | h | h
        · exact if_pos (by change (s.tw.role == .listen || _) = true; simp [h])
        · exact if_pos (by change (_ || !s.holder) = true; simp [h])
        · exact ite_eq_left_iff.2 fun _ => if_neg (ne_true_of_eq_false h)
      · have hc : ¬ (t.tw.role == .listen || !t.holder) = true := by
          change ¬ (s.tw.role == .listen || !s.holder) = true
          simp [h2, h3]
        refine ⟨fun hb => ?_, fun hb => ?_⟩ <;> rw [he]
        · refine congrArg Host.Outcome.next ((if_neg hc).trans ((if_pos h4).trans ((if_pos hb).trans ?_)))
          simp only [show t.tw.sideB = true from hb, Bool.not_true]
        · refine congrArg Host.Outcome.next ((if_neg hc).trans ((if_pos h4).trans ((if_neg (ne_true_of_eq_false hb)).trans ?_)))
          simp only [show t.tw.sideB = false from hb, Bool.not_false]
  case requests =>
    intro v
    have hre : exec .rejoin s = .next (rejoin v) := congrArg Host.Outcome.next (State.blockWrite_on ha _ _)
    have his : exec .isolate s = .next (isolate v) := congrArg Host.Outcome.next (State.blockWrite_on ha _ _)
    refine ⟨fun hr => ?_, fun hr => ?_, fun h1 h2 h3 => ?_⟩
    · rw [hre, his, rejoin, isolate, if_pos (by simp [hr]), if_pos (by simp [hr])]
      exact ⟨rfl, rfl⟩
    · rw [hre, his, rejoin, isolate, if_neg (by simp [hr]), if_neg (by simp [hr])]
      exact ⟨rfl, rfl⟩
    · have hreq : exec .handoverRequest s = .next (handoverRequest v) := congrArg Host.Outcome.next (State.blockWrite_on ha _ _)
      rw [hreq]
      refine ⟨fun h4 h5 h6 h7 => ?_, fun h => ?_⟩
      · exact congrArg Host.Outcome.next ((if_neg (by simp [h1, h2, h3])).trans (if_pos (by simp [h4, h5, h6, h7])))
      · refine congrArg Host.Outcome.next ((if_neg (by simp [h1, h2, h3])).trans (if_neg ?_))
        rcases h with h | h | h | h <;> simp [h]
  case asleep =>
    exact ⟨congrArg Host.Outcome.next (State.blockWrite_off ha _ _), congrArg Host.Outcome.next (State.blockWrite_off ha _ _),
      congrArg Host.Outcome.next (State.blockWrite_off ha _ _)⟩
  case send => exact congrArg Host.Outcome.next (if_pos (by simp [h1, h2, h3]))
  case own => exact congrArg Host.Outcome.next ((if_neg (by simp [h1])).trans (if_pos (by simp [h2])))
  case taken => exact congrArg Host.Outcome.next ((if_neg (by simp [h1])).trans (if_neg (by simp [h2])))
  case deaf => exact congrArg Host.Outcome.next (if_pos (by simp [h1]))
  case drive => exact congrArg Host.Outcome.next (if_pos (by simp [h1, h2, h3, h4]))
  case release => exact congrArg Host.Outcome.next (if_pos h1)
  case alone =>
    intro n u v
    change Host.Outcome.next _ = _
    rw [listenWindowEnd]
    simp only [h1]
    refine congrArg Host.Outcome.next ((if_neg (by simp [h2, h3])).trans ?_)
    rfl
  case heard =>
    change Host.Outcome.next _ = _
    rw [listenWindowEnd]
    cases s.tw.listenFrom with
    | none => rfl
    | some t => exact congrArg Host.Outcome.next (if_pos (by simp [h1]))
  case outputs =>
    change Host.Outcome.next _ = _
    rw [outputEnable]
    simp only [h1]
  case wait =>
    have hfix : s.tw.fixedT.any (fun p => p.1 == s.bcn.frame.toNat) = false :=
      List.any_eq_false.2 fun p hp => by simpa using h3 p hp
    exact congrArg Host.Outcome.next (if_neg (by simp only [h1, h2, hfix]; decide))
  case standby => exact congrArg Host.Outcome.next ((if_neg (by simp [h1])).trans (if_pos (by simp [h2])))
  case notStandby => exact congrArg Host.Outcome.next ((if_neg (by simp [h1])).trans (if_neg (by simp [h2])))
  case acked => exact congrArg Host.Outcome.next ((if_neg (by simp [h1])).trans (if_pos (by simp only [h2, h3, h4, beq_self_eq_true, Bool.and_self])))
  case notAcked =>
    refine congrArg Host.Outcome.next ((if_neg (by simp [h1])).trans (if_neg ?_))
    rcases h2 with h | h | h <;> simp only [h, Bool.and_eq_true, beq_iff_eq, Bool.false_eq_true, false_and, and_false, not_false_iff]

end Sys2Proof.Machine
end

section
/-! Messages of the link -/

namespace Sys2Proof.Machine

/-! ### Messages of the link -/

/-- A device that does not hear the link takes no message of it. -/
theorem linkMessage_deaf {s : State} (h : s.hears = false) (f : W64) (off : BitVec 26) (lines : List Line) (dg od : V128) (fl : Byte)
    (sl : Fin 8) (tag : Byte) (last : Bool) (ents : List SwEntry) (warn : Bool) (m : BitVec 9) (q : W32) (recs : List JRec) :
    ∀ i ∈ [Instr.mirror f off lines, .mirrorEnd f, .digest f dg od fl, .swArm sl tag last f ents, .swCancelMsg sl f, .supply warn,
      .laneMap m, .ack q, .ackTimer, .nak q, .linkSilence, .journal recs, .linkMessageError warn], exec i s = .next s := by
  have hoff {t : State} : (if s.hears then t else s) = s := if_neg (ne_true_of_eq_false h)
  have hon {t : State} : (if !s.hears then s else t) = s := if_pos (by simp [h])
  simp only [List.forall_mem_cons, List.not_mem_nil, false_implies, implies_true, and_true]
  exact ⟨congrArg Host.Outcome.next hoff, congrArg Host.Outcome.next hoff, congrArg Host.Outcome.next hoff, congrArg Host.Outcome.next hon,
    congrArg Host.Outcome.next hon, congrArg Host.Outcome.next hoff, congrArg Host.Outcome.next hon, congrArg Host.Outcome.next hon,
    congrArg Host.Outcome.next hoff, congrArg Host.Outcome.next hon, congrArg Host.Outcome.next hoff, congrArg Host.Outcome.next hoff,
    congrArg Host.Outcome.next hon⟩

/-- A third NAK of one message, or a NAK of one not sent, loses the link; another sends it again. -/
theorem nak_heard {s u : State} {q : W32} {n : Nat} (h : s.hears = true)
    (hn : (if s.rx.tw.nakSeq = q ∧ s.rx.tw.nakCount ≠ 0 then s.rx.tw.nakCount + 1 else 1) = n)
    (hu : { s.rx with tw := { s.rx.tw with nakSeq := q, nakCount := n } } = u) :
    nak q s = if 3 ≤ n || !u.tw.sent.any (fun x => x.1 == q) then u.linkLost 1
      else { u.handLate (u.sentFrom q) with tw := { (u.handLate (u.sentFrom q)).tw with txPos := q } } := by
  subst hn hu
  rw [nak, if_neg (by simp [h])]
  simp only [Bool.and_eq_true, beq_iff_eq, bne_iff_ne]

/-- The partner's lane map joins the device's own, which is told once, and the link is lost with fewer than four lanes left. -/
theorem laneMap_heard {s u v : State} {m j : BitVec 9} (h : s.hears = true) (hj : s.rx.tw.failed ||| m = j)
    (hu : (if s.rx.tw.mapSent = true then s.rx else s.rx.linkSend (.laneMap j)) = u)
    (hv : { u with tw := { u.tw with failed := j, mapRcvd := true, mapSent := true } } = v) :
    laneMap m s = if v.healthyLanes.length < 4 then v.linkLost 3 else v := by
  subst hj hv hu
  rw [laneMap, if_neg (by simp [h])]

/-- A retrain takes the lanes that are found and counts the others as failed; with fewer than four it does nothing. -/
theorem linkRetrain_lanes {s : State} {m : BitVec 9} {l : List Nat} (h1 : s.twin = true) (h2 : s.tw.linkUp = false)
    (hl : s.healthyLanes.filter (fun i => m.getLsbD i) = l) :
    linkRetrain m s = if l.length < 4 then s
      else (((List.range 9).filter (fun i => s.tw.inUse.getLsbD i && !l.contains i)).zip (List.range 9)).foldl
        (fun (t : State) p => t.laneLog p.1 (if s.tw.x4 = false ∧ l.length < 8 then 0xff
          else listAt ((s.retrainUse l).filter (fun i => !s.tw.inUse.getLsbD i)) p.2 0xff))
        { s with tw := { s.tw with inUse := laneMask (s.retrainUse l), x4 := decide (l.length < 8), failed := ~~~(laneMask l) } } := by
  subst hl
  rw [linkRetrain, if_neg (by simp [h1, h2])]
  have hfell {n : Nat} {x y : Nat} : (if (!s.tw.x4 && decide (n < 8)) = true then x else y) = if s.tw.x4 = false ∧ n < 8 then x else y := by
    simp
  simp only [hfell]
  rfl

/-- Settles O21: each message is taken by the device's role and the state of the link, and the link by its lanes and the partner's hello. -/
theorem twinMessages : Obligations.TwinMessages := by
  unfold Obligations.TwinMessages
  intro s f off lines dg od fl sl tag last ents warn ln m q recs key share sig
  refine ⟨fun h => linkMessage_deaf h f off lines dg od fl sl tag last ents warn m q recs, fun h => ?hears, fun h1 h2 h3 => ?miss, fun h1 h2 h3 h4 => ?digest, fun h1 h2 => ?laneFail,
    fun h1 h2 => ?retrain, fun h => ?linked, fun h1 h2 h3 => ?up⟩
  case hears =>
    have hon {t : State} : (if s.hears then t else s) = t := if_pos h
    have hoff {t : State} : (if !s.hears then s else t) = t := if_neg (by simp [h])
    refine ⟨congrArg Host.Outcome.next hon, congrArg Host.Outcome.next hon, congrArg Host.Outcome.next hon, fun ht => ?armHolder, ?arm,
      fun ht hf hc => ?cancel, ?supply, congrArg Host.Outcome.next hoff, congrArg Host.Outcome.next hon, congrArg Host.Outcome.next hon,
      congrArg Host.Outcome.next hon, congrArg Host.Outcome.next hoff, congrArg Host.Outcome.next hoff, ?nak, ?map⟩
    case armHolder =>
      exact ⟨congrArg Host.Outcome.next (hoff.trans (if_pos ht)), congrArg Host.Outcome.next (hoff.trans (if_pos (by simp [ht])))⟩
    case arm =>
      intro u a r
      have he (ht : s.holder = false) : exec (.swArm sl tag last f ents) s = .next (if a.1 then a.2 else
          if r.tw.role == .standby then r.setRole .joining 6 else r) :=
        congrArg Host.Outcome.next (hoff.trans (if_neg (ne_true_of_eq_false ht)))
      refine ⟨fun ht h1 => ?_, fun ht h1 h2 => ?_, fun ht h1 h2 => ?_⟩ <;> rw [he ht]
      · rw [if_pos h1]
      · rw [if_neg (ne_true_of_eq_false h1), if_pos (by simp [h2])]
      · rw [if_neg (ne_true_of_eq_false h1), if_neg (by simp [h2])]
    case cancel => exact congrArg Host.Outcome.next (hoff.trans (if_neg (by simp [ht, hf, hc])))
    case supply =>
      cases warn <;> exact congrArg Host.Outcome.next hon
    case nak =>
      intro n u
      have he : exec (.nak q) s = _ := congrArg Host.Outcome.next (nak_heard (u := u) h (n := n) rfl rfl)
      refine ⟨fun hc => ?_, fun hn3 hx => ?_⟩ <;> rw [he]
      · exact congrArg Host.Outcome.next (if_pos (by simpa using hc))
      · obtain ⟨x, hx, hq⟩ := hx
        have hany : u.tw.sent.any (fun x => x.1 == q) = true := List.any_eq_true.2 ⟨x, hx, by simpa using hq⟩
        exact congrArg Host.Outcome.next (if_neg (by simp only [hany]; simpa using hn3))
    case map =>
      intro j u v
      exact congrArg Host.Outcome.next (laneMap_heard h rfl rfl rfl)
  case miss =>
    change Host.Outcome.next _ = _
    rw [mirrorMiss, if_neg (by simp [h1, h2, h3])]
    simp only [State.mirDeadline]
    rfl
  case digest => exact congrArg Host.Outcome.next (if_neg (by simp [h1, h2, h3, h4]))
  case laneFail => exact congrArg Host.Outcome.next (if_neg (by simp only [h1, bitAt, h2]; decide))
  case retrain =>
    intro l
    have he : exec (.linkRetrain m) s = _ := congrArg Host.Outcome.next (linkRetrain_lanes (l := l) h1 h2 rfl)
    refine ⟨fun hl => ?_, fun hl => ?_⟩ <;> rw [he]
    · rw [if_pos hl]
    · rw [if_neg (by omega)]
  case linked => exact ⟨congrArg Host.Outcome.next (if_pos (by simp [h])), congrArg Host.Outcome.next (if_pos (by simp [h]))⟩
  case up =>
    have hup {t : State} : (if !s.twin || s.tw.linkUp || s.healthyLanes.length < 4 then s else t) = t :=
      if_neg (by simp [h1, h2]; omega)
    refine ⟨fun hk => ?_, fun hk => ?_⟩
    · exact congrArg Host.Outcome.next (hup.trans (if_pos hk))
    · intro r t
      refine ⟨fun hv => ?_, fun hv => ?_⟩
      · exact congrArg Host.Outcome.next (hup.trans ((if_neg (ne_true_of_eq_false hk)).trans (if_pos (by change (!t.helloValid _) = true; simp only [hv]; rfl))))
      · exact congrArg Host.Outcome.next (hup.trans ((if_neg (ne_true_of_eq_false hk)).trans (if_neg (by change ¬ (!t.helloValid _) = true; simp only [hv]; decide))))

end Sys2Proof.Machine
end

section
/-! The steps of a join -/

namespace Sys2Proof.Machine

/-! ### The steps of a join -/

/-- A message of a join taken by a joiner that the holder has accepted. -/
theorem joinTake_accepted {s : State} (f : State → State) (h : s.hears = true) (ha : s.accepted = true) : s.joinTake f = f s.rx := by
  rw [State.joinTake]
  simp [h, ha]

/-- A message of a join that another device hears is received and nothing more. -/
theorem joinTake_other {s : State} (f : State → State) (h : s.hears = true) (ha : s.accepted = false) : s.joinTake f = s.rx := by
  rw [State.joinTake]
  simp [h, ha]

/-- A message of a join that is not heard changes nothing. -/
theorem joinTake_deaf {s : State} (f : State → State) (h : s.hears = false) : s.joinTake f = s := by
  rw [State.joinTake]
  simp [h]

/-- Settles O22: each message of a join is taken by the role it is for, and only received by another. -/
theorem joinMessages : Obligations.JoinMessages := by
  unfold Obligations.JoinMessages
  intro s dg f c lines u
  have hon (h : s.hears = true) {t : State} : (if !s.hears then s else t) = t := if_neg (by simp [h])
  refine ⟨fun h hh => ?request, fun h hr => ?joining, fun h hh => ?notHolder, fun h hr => ?notJoining, fun h => ?deaf,
    fun h ha => ?other, fun h ha => ?accepted, fun h => ?abort⟩
  case request =>
    have he : exec (.joinReq dg) s = _ := congrArg Host.Outcome.next ((hon h).trans (if_neg (by simp [hh])))
    refine ⟨fun hd => ?_, fun hd ha => ?_, fun hd ha => ?_⟩ <;> rw [he]
    · exact congrArg Host.Outcome.next (if_pos (by simpa using hd))
    · exact congrArg Host.Outcome.next ((if_neg (by simp [hd])).trans (if_pos ha))
    · exact congrArg Host.Outcome.next ((if_neg (by simp [hd])).trans (if_neg (ne_true_of_eq_false ha)))
  case joining =>
    have hj : (s.tw.role == .joining) = true := by simp [hr]
    exact ⟨congrArg Host.Outcome.next ((hon h).trans (if_pos hj)),
      fun hc => congrArg Host.Outcome.next ((hon h).trans ((if_pos hj).trans (if_pos (by simp [hc])))),
      fun hc => congrArg Host.Outcome.next ((hon h).trans ((if_pos hj).trans (if_neg (by simpa using hc))))⟩
  case notHolder => exact congrArg Host.Outcome.next ((hon h).trans (if_pos (by simp [hh])))
  case notJoining =>
    exact ⟨congrArg Host.Outcome.next ((hon h).trans (if_neg (by simp [hr]))), congrArg Host.Outcome.next ((hon h).trans (if_neg (by simp [hr])))⟩
  case deaf =>
    have hoff {t : State} : (if !s.hears then s else t) = s := if_pos (by simp [h])
    simp only [List.forall_mem_cons, List.not_mem_nil, false_implies, implies_true, and_true]
    exact ⟨congrArg Host.Outcome.next hoff, congrArg Host.Outcome.next hoff, congrArg Host.Outcome.next hoff,
      congrArg Host.Outcome.next (joinTake_deaf _ h), congrArg Host.Outcome.next (joinTake_deaf _ h),
      congrArg Host.Outcome.next (joinTake_deaf _ h), congrArg Host.Outcome.next (joinTake_deaf _ h),
      congrArg Host.Outcome.next (joinTake_deaf _ h), congrArg Host.Outcome.next (joinTake_deaf _ h),
      congrArg Host.Outcome.next (joinTake_deaf _ h), congrArg Host.Outcome.next hoff⟩
  case other =>
    simp only [List.forall_mem_cons, List.not_mem_nil, false_implies, implies_true, and_true]
    exact ⟨congrArg Host.Outcome.next (joinTake_other _ h ha), congrArg Host.Outcome.next (joinTake_other _ h ha),
      congrArg Host.Outcome.next (joinTake_other _ h ha), congrArg Host.Outcome.next (joinTake_other _ h ha),
      congrArg Host.Outcome.next (joinTake_other _ h ha), congrArg Host.Outcome.next (joinTake_other _ h ha),
      congrArg Host.Outcome.next (joinTake_other _ h ha)⟩
  case accepted =>
    exact ⟨congrArg Host.Outcome.next (joinTake_accepted _ h ha), congrArg Host.Outcome.next (joinTake_accepted _ h ha),
      congrArg Host.Outcome.next (joinTake_accepted _ h ha), congrArg Host.Outcome.next (joinTake_accepted _ h ha),
      congrArg Host.Outcome.next (joinTake_accepted _ h ha), congrArg Host.Outcome.next (joinTake_accepted _ h ha),
      congrArg Host.Outcome.next (joinTake_accepted _ h ha)⟩
  case abort =>
    refine ⟨fun hh => ?_, fun hh hr => ?_, fun hh hr => ?_⟩
    · exact congrArg Host.Outcome.next ((hon h).trans (if_pos hh))
    · exact congrArg Host.Outcome.next ((hon h).trans ((if_neg (ne_true_of_eq_false hh)).trans (if_pos (by simp [hr]))))
    · exact congrArg Host.Outcome.next ((hon h).trans ((if_neg (ne_true_of_eq_false hh)).trans (if_neg (by simp [hr]))))

end Sys2Proof.Machine
end

section
/-! Requests, snoops and answers of the homes -/

namespace Sys2Proof.Machine

/-! ### Requests at their home -/

/-- A request goes to its home, if its line has one, where the window answers it or the line's home admits it. -/
theorem ask_split {i : Instr} {s : State} {r : Txn} {zero : Bool} {e : L3Ecc} {n : Nat} (he : exec i s = .next (s.ask r e))
    (hl : r.line = n) (hz : (r.zero && r.kind == .rdX) = zero) :
    (homed n = false → exec i s = .next s) ∧
    (homed n = true → windowLine ≤ n → exec i s = .next ((s.reqOpen r.who n r.kind r.fallback zero).windowAsk r)) ∧
    (homed n = true → n < windowLine → exec i s = .next
      ((if (s.reqOpen r.who n r.kind r.fallback zero).lineBlocked n = true then s.reqOpen r.who n r.kind r.fallback zero
        else (s.reqOpen r.who n r.kind r.fallback zero).l3Check n e).homeAdmit r)) := by
  subst hl hz
  rw [he]
  refine ⟨fun h => ?_, fun h hw => ?_, fun h hw => ?_⟩ <;> rw [State.ask]
  · rw [if_pos (by simp [h])]
  · rw [if_neg (by simp [h])]
    exact congrArg _ (if_pos hw)
  · rw [if_neg (by simp [h])]
    exact congrArg _ (if_neg (by omega))

/-- A command of the homes to a device in reset changes nothing. -/
theorem coherence_asleep {s : State} (h : s.boot.aon = false) (k : CoreId) (l : LineAddr) (fb fetch keep : Bool) (ecc : L3Ecc) (x : XAsk)
    (qa : CohAsk) (cm : CmoAsk) (a z : Fin 64) (d : Line) (slot : Bool) (tick v : W32) (ans : SnpAns) (po : Bool) (mp : Fin 3) (t : TileId)
    (w : Requester) (way : BitVec 4) :
    ∀ i ∈ [Instr.rdS k l fb fetch ecc, .rdX k l fb x, .rdNa qa l, .wrNa qa l a z d keep, .wb k l d po, .cmo k l cm, .reval k l slot tick,
      .snpRet l ans, .same k l, .memData l d mp, .doneMessage k l, .l3Lock t v w, .lockFill t way w,
      .rangeClean t fb w, .rangeInv t fb w, .rangeClinv t fb w], exec i s = .next s := by
  have hoff (f : State → State) : Host.Outcome.next (s.awake f) = (.next s : Host.Outcome State Fault Refusal) :=
    congrArg Host.Outcome.next (State.awake_off h f)
  have hblock (b : Nat) (f : State → State) : Host.Outcome.next (s.blockWrite b f) = (.next s : Host.Outcome State Fault Refusal) :=
    congrArg Host.Outcome.next (State.blockWrite_off h b f)
  simp only [List.forall_mem_cons, List.not_mem_nil, false_implies, implies_true, and_true]
  exact ⟨hoff _, hoff _, hoff _, hoff _, hoff _, hoff _, hoff _, hoff _, hoff _, hoff _, hoff _, hblock _ _, hblock _ _, hblock _ _,
    hblock _ _, hblock _ _⟩

/-- A range operation is refused while one is under way, and starts otherwise. -/
theorem rangeGo_split {i : Instr} {s h u : State} {t : TileId} {force : Bool} {w : Requester} (o : Fin 4)
    (he : exec i s = .next (rangeGo o t force w h)) (hu : h.wr (R.RNG_CTL 0) (BitVec.ofNat 32 (o.val * 2 + bitIf force 3)) = u) :
    (u.cache.range ≠ none → exec i s = .next (u.flag (R.L3_STATUS t.val) 7)) ∧
    (u.cache.range = none → exec i s = .next { u with cache := { u.cache with range := some ⟨t, o, force, w.sealed,
      (u.fld (R.RNG_BASE_HI 0) 0 14 * 2 ^ 32 + (u.rd (R.RNG_BASE_LO 0)).toNat) / 64,
      (u.fld (R.RNG_END_HI 0) 0 14 * 2 ^ 32 + (u.rd (R.RNG_END_LO 0)).toNat) / 64,
      (u.fld (R.RNG_BASE_HI 0) 0 14 * 2 ^ 32 + (u.rd (R.RNG_BASE_LO 0)).toNat) / 64, 0, 0⟩ } }) := by
  subst hu
  rw [he]
  refine ⟨fun hr => ?_, fun hr => ?_⟩ <;> rw [rangeGo]
  · exact congrArg _ (if_pos (Option.isSome_iff_ne_none.2 hr))
  · exact congrArg _ (if_neg (by rw [hr]; decide))

/-- A writeback of a window line is applied while its core still holds a pending one, and is stale otherwise. -/
theorem wbMsg_window {s r : State} {k : CoreId} {l : LineAddr} (d : Line) (po : Bool) (hr : s.ebSend k l.toNat = r) (hw : windowLine ≤ l.toNat) :
    ((r.ebFind k l.toNat).any (fun e => pendOf (r.core k).task e.key) = true → wbMsg k l d po s =
      (((r.windowHome k l.toNat fullMask d).2.sendCoh (.wbAck k l.toNat)).fullStops (r.windowHome k l.toNat fullMask d).1)) ∧
    ((r.ebFind k l.toNat).any (fun e => pendOf (r.core k).task e.key) = false → wbMsg k l d po s =
      (r.bump (R.CNT_WB_STALE (r.homeOf l.toNat).val)).sendCoh (.wbStale k l.toNat)) := by
  subst hr
  refine ⟨fun h => ?_, fun h => ?_⟩ <;> rw [wbMsg]
  · exact (if_pos hw).trans (if_pos h)
  · exact (if_pos hw).trans (if_neg (ne_true_of_eq_false h))

/-- A writeback of a DRAM line goes by its open transaction, and by its directory entry where none is open. -/
theorem wbMsg_dram {s r : State} {k : CoreId} {l : LineAddr} {n : Nat} (d : Line) (po : Bool) (hn : l.toNat = n) (hr : s.ebSend k n = r) (hw : n < windowLine) :
    wbMsg k l d po s = match r.txnFind n with
      | some x =>
        match x.st with
        | .mem => (r.bump (R.CNT_WB_STALE x.home.val)).sendCoh (.wbStale k n)
        | .ack => (r.bump (R.CNT_WB_STALE x.home.val)).sendCoh (.wbStale k n)
        | _ => r.setTxn n (some { x with heldWb := x.heldWb ++ [k] })
      | none =>
        match r.dirFind n with
        | some e =>
          if e.excl && e.owner == k then
            (((r.homeWrite n fullMask d true (if po then 9 else 0)).setDir n none).sendCoh (.wbAck k n)).homeNext
          else (r.bump (R.CNT_WB_STALE e.home.val)).sendCoh (.wbStale k n)
        | none => (r.bump (R.CNT_WB_STALE (r.homeOf n).val)).sendCoh (.wbStale k n) := by
  subst hr hn
  unfold wbMsg
  exact if_neg (by omega)

/-- A lock fill is taken where its line, its home, its class and its way allow it. -/
theorem lockFill_split {t : TileId} {way : BitVec 4} {h u : State} (hu : h.wr (R.LF_CTL t.val) (BitVec.ofNat 32 (way.toNat * 2)) = u) {ok : Prop}
    (hok : ok ↔ (homed (u.lfLine t) = true ∧ u.homeOf (u.lfLine t) = t ∧ u.flagAt (R.HOME_PIN (u.classOf (u.lfLine t))) 0 = true ∧
      u.flagAt (R.L3_LOCK t.val) way.toNat = true ∧ (assocD u.cache.deadWays t.val []).contains way.toNat = false)) :
    (ok → lockFill t way h = { u with cache := { u.cache with
      lockFill := u.cache.lockFill ++ [({ tile := t, line := u.lfLine t, way := way.toNat } : LockFill)] } }) ∧
    (¬ ok → lockFill t way h = u.flag (R.L3_STATUS t.val) 4) := by
  subst hu
  rw [hok]
  refine ⟨fun hc => ?_, fun hc => ?_⟩ <;> rw [lockFill]
  · obtain ⟨h1, h2, h3, h4, h5⟩ := hc
    exact if_neg (by simp only [h1, h2, h3, h4, h5]; simp)
  · refine if_pos (Classical.byContradiction fun hn => hc ?_)
    simpa [and_assoc] using hn

/-- A data message for a DRAM line fills the cache of a core that waits for it and has room. -/
theorem dataMsg_dram {s : State} {k : CoreId} {l : LineAddr} {d : Line} {g : Grant} {sub : Byte} {m : Mshr} (hw : l.toNat < windowLine)
    (hm : s.mshrFind k l.toNat = some m) (hr : s.noRoom k l.toNat = false) :
    dataMsg k l ⟨d, sub⟩ g s = ((((s.setMshr k l.toNat none).l2Fill k l.toNat (grantSt g) d sub.toNat).count k (s.fillEvent k l.toNat) 1).outDrop
      (CohMsg.grants k l.toNat)).sendCoh (.done k l.toNat) := by
  rw [dataMsg]
  refine (if_neg (by omega)).trans ((if_neg (by simp [hm, hr])).trans ?_)
  rw [State.dataIn, hm]
  exact congrArg (fun u : State => u.sendCoh _) (if_neg (ne_true_of_eq_false hr))

/-- The requester's DONE ends its transaction with the directory entry its grant asks for. -/
theorem doneIn_ack {s : State} {k : CoreId} {l : Nat} {y : Txn} {b : Bool} (hy : s.txnFind l = some y) (hst : y.st = .ack) (hw : y.who = .core k b) :
    s.doneIn k l = ((s.setTxn l none).putDir
      (if y.grant = .s then s.dirEnt l false (((s.dirFind l).map (·.mask)).getD 0 ||| ((1 : BitVec 9) <<< ringOf k)) k
        else s.dirEnt l true ((1 : BitVec 9) <<< ringOf k) k)).homeNext := by
  rw [State.doneIn, hy]
  simp only [hst, hw, bne_self_eq_false, beq_self_eq_true, Bool.not_true, Bool.or_self, Bool.false_eq_true, if_false, beq_iff_eq]
  cases s.dirFind l <;> rfl

/-- A flag leaves the time. -/
theorem flag_now (s : State) (key i : Nat) : (s.flag key i).now = s.now := rfl

/-- A range operation with no line of it busy is performed on every line held, and its end is journaled. -/
theorem rngEnd_done {s u y : State} {r : RangeOp} {t : TileId} {x : Nat × State} (hr : s.cache.range = some r) (ht : r.tile = t)
    (h : ∀ j ∈ s.rangeHeld r, s.lineBusy j = false)
    (hx : (s.rangeHeld r).foldl (fun (acc : Nat × State) j =>
      (acc.1 + b2n (acc.2.cohCmo j (decide (r.op.val = 1 ∨ r.op.val = 3)) (decide (r.op.val = 2 ∨ r.op.val = 3)) r.force).1,
        (acc.2.cohCmo j (decide (r.op.val = 1 ∨ r.op.val = 3)) (decide (r.op.val = 2 ∨ r.op.val = 3)) r.force).2)) (0, s) = x)
    (hu : { x.2 with cache := { x.2.cache with range := none } } = u)
    (hy : u.flag (R.L3_STATUS t.val) 6 = y) :
    rngEnd t s = y.jlog y.now t.val 2 0x0b10
      [(0, 1, r.op.val), (1, 1, b2n r.force), (2, 4, s.rangeLines r), (6, 4, x.1)] := by
  have hb : (s.rangeHeld r).any s.lineBusy = false := List.any_eq_false.2 fun j hj => by simp [h j hj]
  subst hx hu hy
  rw [rngEnd, hr]
  simp only [flag_now, Bool.decide_or, ← Bool.beq_eq_decide_eq, ht, hb, bne_self_eq_false, Bool.or_self, Bool.false_eq_true, if_false]

/-- Settles O23: each request, snoop and answer acts on the transaction, the directory entry or the copy it names. -/
theorem coherenceCommands : Obligations.CoherenceCommands := by
  unfold Obligations.CoherenceCommands
  intro s k l fb fetch keep ecc x qa cm q a z d slot tick v ans g sub po mp t w way n
  refine ⟨fun h => coherence_asleep h k l fb fetch keep ecc x qa cm a z d slot tick v ans po mp t w way, fun ha => ?awake, rfl, rfl, rfl,
    fun hw => ?dataWindow, fun hw => ⟨fun h => ?dataNot, fun m hm hr => ?data⟩, fun m hm hz hr => ?grant, fun h => ?noGrant,
    fun h => ?noNack, fun m hm => ?nack, fun e he => ?freed, fun he => ?notFreed, fun h => ?noRange, fun r hr h => ?rangeHeld, fun r hr ht h => ?range⟩
  case awake =>
    have hon (f : State → State) : Host.Outcome.next (s.awake f) = (.next (f s) : Host.Outcome State Fault Refusal) :=
      congrArg Host.Outcome.next (State.awake_on ha f)
    intro asks me
    refine ⟨ask_split (hon _) rfl rfl, ask_split (hon _) rfl (Bool.and_true _), fun u hu => ?refusedRead, fun hu => ?read,
      fun u hu => ?refusedWrite, fun hu => ?write, fun ho => ?noCmo, fun ho => ?cmo, ?wb, ?reval, fun hx => ?noTxn, fun y hy hr => ?snpRet,
      fun y hy => ?same, fun y hy hst => ?mem, fun y hy hst => ?snpm, fun y hy h1 h2 => ?otherSt, fun y j b hy hst hw hj => ?done, ?block⟩
    case refusedRead => exact (hon _).trans (by rw [rdNaMsg, hu]; rfl)
    case read => exact ask_split ((hon _).trans (by rw [rdNaMsg, hu]; rfl)) rfl rfl
    case refusedWrite => exact (hon _).trans (by rw [wrNaMsg, hu]; rfl)
    case write => exact ask_split ((hon _).trans (by rw [wrNaMsg, hu]; rfl)) rfl (Bool.and_false _)
    case noCmo => exact (hon _).trans (congrArg Host.Outcome.next (if_pos ho))
    case cmo =>
      intro r
      have he : exec (.cmo k l cm) s = .next (if n < windowLine && s.rangeBars (s.core k).sealed (n / 32768) then s.txnReply r (0, 0)
          else s.ask r cm.ecc) := (hon _).trans (congrArg Host.Outcome.next (if_neg ho))
      refine ⟨fun h1 h2 => ?_, fun h => ?_⟩
      · rw [he, if_pos (by simp [h1, h2])]
      · refine ask_split (he.trans (congrArg Host.Outcome.next (if_neg ?_))) rfl (Bool.and_false _)
        rcases h with h | h
        · simp [Nat.not_lt.2 h]
        · simp [h]
    case wb =>
      intro r
      refine ⟨fun hw => ?_, fun hw => ?_⟩
      · obtain ⟨hfull, hstale⟩ := wbMsg_window (s := s) (k := k) (r := r) d po rfl hw
        exact ⟨fun h => (hon _).trans (congrArg Host.Outcome.next (hfull h)), fun h => (hon _).trans (congrArg Host.Outcome.next (hstale h))⟩
      · have he := (hon (wbMsg k l d po)).trans (congrArg Host.Outcome.next (wbMsg_dram (n := n) (r := r) d po rfl rfl hw))
        have go {u : State} (h : _ = u) : exec (.wb k l d po) s = .next u := he.trans (congrArg Host.Outcome.next h)
        refine ⟨fun e h1 h2 h3 h4 => go ?_, fun e h1 h2 h3 => go ?_, fun h1 h2 => go ?_, fun y h1 h2 h3 => go ?_, fun y h1 h2 => go ?_⟩
        · simp only [h1, h2]
          exact if_pos (by simp [h3, h4])
        · simp only [h1, h2]
          exact if_neg (by simpa [Decidable.imp_iff_not_or] using h3)
        · simp only [h1, h2]
        · simp only [h1]
        · simp only [h1]
          rcases h2 with h | h <;> simp only [h]
    case reval =>
      intro u m
      refine (hon _).trans (congrArg Host.Outcome.next ?_)
      rw [Sys2Proof.Machine.reval]
      by_cases h : m.committed = slot ∧ m.tag m.committed + 1 = tick
      · rw [if_pos h]
        exact if_pos (by simpa using h)
      · rw [if_neg h]
        exact if_neg (by simpa using h)
    case noTxn =>
      refine ⟨(hon _).trans ?_, (hon _).trans ?_, (hon _).trans ?_⟩
      · rw [Sys2Proof.Machine.snpRet, hx]
      · rw [memData, hx]
      · rw [doneMessage, State.doneIn, hx]
    case snpRet =>
      intro y'
      refine (hon _).trans ?_
      rw [Sys2Proof.Machine.snpRet, hy]
      exact congrArg Host.Outcome.next (if_neg hr)
    case same =>
      refine ⟨fun key hk ht => (hon _).trans ?_, fun key hk ht => (hon _).trans ?_, fun hk => (hon _).trans ?_⟩ <;> rw [sameMsg, hy] <;>
        simp only [hk]
      · rw [if_pos (by simp [ht])]
      · rw [if_neg (by simpa using ht)]
    case mem =>
      intro u
      refine (hon _).trans ?_
      have hmp : (if mp.val = 0 then 0 else 2) = if mp = 0 then 0 else 2 := by simp only [Fin.val_eq_zero_iff]
      rw [memData, hy]
      simp only [hst, State.memArrive, Bool.or_eq_true, beq_iff_eq, hmp]
      rfl
    case snpm =>
      refine (hon _).trans ?_
      rw [memData, hy]
      simp only [hst]
      rfl
    case otherSt =>
      refine (hon _).trans ?_
      rw [memData, hy]
      cases h : y.st <;> simp_all
    case done =>
      intro ring old
      refine (hon _).trans ?_
      subst hj
      exact congrArg Host.Outcome.next (doneIn_ack hy hst hw)
    case block =>
      have hblock (f : State → State) : Host.Outcome.next (s.blockWrite (0x50 + t.val) f) =
          (.next (f (s.guardBreak (0x50 + t.val))) : Host.Outcome State Fault Refusal) :=
        congrArg Host.Outcome.next (State.blockWrite_on ha _ f)
      intro h
      refine ⟨fun hc => ?_, fun hc => ?_, ?_, ?_⟩
      · exact (hblock _).trans (congrArg Host.Outcome.next (if_pos hc))
      · exact (hblock _).trans (congrArg Host.Outcome.next ((if_neg (by omega)).trans (by rw [bitsAt_zero])))
      · intro u ok
        obtain ⟨hyes, hno⟩ := lockFill_split (t := t) (way := way) (h := h) (u := u) rfl (ok := ok) Iff.rfl
        exact ⟨fun hc => (hblock _).trans (congrArg Host.Outcome.next (hyes hc)), fun hc => (hblock _).trans (congrArg Host.Outcome.next (hno hc))⟩
      · intro go
        exact ⟨rangeGo_split 1 (hblock _) rfl, rangeGo_split 2 (hblock _) rfl, rangeGo_split 3 (hblock _) rfl⟩
  case noNack =>
    refine ⟨?_, ?_⟩ <;> change Host.Outcome.next _ = _
    · rw [nackMsg, h]
    · rw [nackRetry, h]
  case nack =>
    intro u
    refine ⟨?_, fun h => ?_, fun hw hf => ?_⟩
    · change Host.Outcome.next _ = _
      cases q <;> rw [nackMsg, hm]
    · change Host.Outcome.next _ = _
      rw [nackRetry, hm]
      exact congrArg Host.Outcome.next (if_pos (by rcases h with h | h <;> simp [h]))
    · intro u
      change Host.Outcome.next _ = _
      rw [nackRetry, hm]
      exact congrArg Host.Outcome.next (if_neg (by simp [hw, hf]))
  case freed =>
    have hfreed : wbFreed k l s = if e.sent = true then s.ebFree k n else s := by rw [wbFreed, he]
    exact ⟨congrArg Host.Outcome.next hfreed, congrArg Host.Outcome.next hfreed⟩
  case notFreed =>
    have hfreed : wbFreed k l s = s := by rw [wbFreed, he]
    exact ⟨congrArg Host.Outcome.next hfreed, congrArg Host.Outcome.next hfreed⟩
  case range =>
    intro c i x u y
    change Host.Outcome.next _ = _
    exact congrArg Host.Outcome.next (rngEnd_done (x := x) (u := u) (y := y) hr ht h rfl rfl rfl)
  all_goals change Host.Outcome.next _ = _
  case dataWindow => exact congrArg Host.Outcome.next (if_pos hw)
  case dataNot =>
    refine congrArg Host.Outcome.next ((if_neg (by omega)).trans (if_pos ?_))
    rcases h with h | h
    · simp [show s.mshrFind k l.toNat = none from h]
    · simp [show s.noRoom k l.toNat = true from h]
  case data =>
    rw [dataMsg_dram hw hm hr]
    cases g <;> rfl
  case grant =>
    have hc : (s.mshrFind k l.toNat).any (·.zero) && !s.noRoom k l.toNat := by
      rw [show s.mshrFind k l.toNat = some m from hm, show s.noRoom k l.toNat = false from hr]
      simpa using hz
    rw [grantMsg]
    refine congrArg Host.Outcome.next ((if_pos hc).trans ?_)
    rw [State.grantIn, show s.mshrFind k l.toNat = some m from hm]
    exact congrArg (fun u : State => u.sendCoh _) (if_pos (by simp [hz, show s.noRoom k l.toNat = false from hr]))
  case noGrant =>
    rw [grantMsg]
    refine congrArg Host.Outcome.next (if_neg ?_)
    rcases h with h | h
    · simp only [show (s.mshrFind k l.toNat).any (·.zero) = false from h]
      simp
    · simp only [show s.noRoom k l.toNat = true from h]
      simp
  case noRange => rw [rngEnd, h]
  case rangeHeld =>
    rw [rngEnd, hr]
    refine congrArg Host.Outcome.next (if_pos ?_)
    rcases h with h | ⟨j, hj, hb⟩
    · simp [h]
    · simp only [List.any_eq_true.2 ⟨j, hj, hb⟩, Bool.or_true]

end Sys2Proof.Machine
end

section
/-! Lock fills, drained classes and a core's agents -/

namespace Sys2Proof.Machine

/-! ### Lock fills, drained classes and a core's agents -/

/-- A lock fill whose lines no transaction holds cleans and drops what its way held, and puts its line there. -/
theorem lfDone_free {s u v : State} {t : TileId} {f : LockFill} {olds : List Nat} (hf : s.cache.lockFill.find? (fun x => x.tile == t) = some f)
    (holds : (s.cache.l3.filter (fun x => x.home == t && x.way == f.way && x.line % 2048 == f.line % 2048 && x.line != f.line)).map (·.line) = olds)
    (hu : { s with cache := { s.cache with lockFill := s.cache.lockFill.erase f } } = u)
    (hv : olds.foldl (fun (w : State) j => (w.cohCmo j true true true).2) u = v)
    (h : (f.line :: olds).any s.lineBusy = false) :
    lfDone t s = ((v.l3PutWay t f.line f.way (v.memoryRead f.line).1 (((v.l3Find f.line).map (·.dirty)).getD false) (v.memoryRead f.line).2).flag
      (R.L3_STATUS t.val) 5) := by
  subst holds hu
  rw [lfDone, hf]
  refine (if_neg (ne_true_of_eq_false h)).trans ?_
  simp only [hv]
  cases v.l3Find f.line <;> rfl

/-- A drained class that no transaction is open in has its lines taken, its end journaled and its queue tried. -/
theorem rhDrain_free {s u v y w : State} {c : Fin 64} {dr : Drain} {ls : List Nat} (hf : s.cache.drains.find? (fun d => d.cls == c.val) = some dr)
    (h : s.cache.txns.any (fun x => s.classOf x.line == c.val) = false) (hls : s.drainLines c.val = ls)
    (hu : ls.foldl (fun (w : State) j => w.drainLine j) s = u) (hv : { u with cache := { u.cache with drains := u.cache.drains.erase dr } } = v)
    (hy : (v.free 8).2 = y)
    (hw : y.jlog y.now ((dr.first + (v.free 8).1.toNat % 2 ^ dr.size) % 72) 2 0x0b11 [(0, 1, c.val), (1, 4, dr.lines + ls.length)] = w) :
    rhDrain c s = w.cache.queue.foldl (fun (x : State) _ => x.homeNext) w := by
  subst hls hu hv hy hw
  rw [rhDrain, hf]
  exact if_neg (ne_true_of_eq_false h)

/-- With no interrupt to take, an instruction boundary only brings the core's event counters up to date. -/
theorem interruptEntry_none {s : State} {k : CoreId}
    (h : ((s.setCore k ((s.core k).evSync s.coreCycles)).evDraw k).nextIrq k = none) :
    interruptEntry k s = (s.setCore k ((s.core k).evSync s.coreCycles)).evDraw k := by
  simp only [interruptEntry, h]

/-- An instruction boundary takes the interrupt that comes first. -/
theorem interruptEntry_some {s : State} {k : CoreId} {j : Nat}
    (h : ((s.setCore k ((s.core k).evSync s.coreCycles)).evDraw k).nextIrq k = some j) :
    interruptEntry k s = ((s.setCore k ((s.core k).evSync s.coreCycles)).evDraw k).irqEntry k j
      (((s.setCore k ((s.core k).evSync s.coreCycles)).evDraw k).core k).blkWait := by
  simp only [interruptEntry, h]

/-- Settles O24: each event of a home or a core acts where what it waits for is there. -/
theorem homeAndCoreEvents : Obligations.HomeAndCoreEvents := by
  unfold Obligations.HomeAndCoreEvents
  intro s t c f dr k n
  refine ⟨fun hf => ?fill, fun hf => ?noFill, fun hd => ?noDrain, fun hd h => ?drainBusy, fun hd h => ?drain, fun h => ?emptyQueue,
    fun u h => ?store, fun ha => ?asleep, fun ha => ?interrupt, fun h => ?noTimer, fun h => ?timer, fun h1 h2 => ?doorbell, fun h => ?noDoorbell⟩
  case fill =>
    intro olds
    refine ⟨fun h => ?_, fun h => ?_⟩
    · change Host.Outcome.next _ = _
      rw [lfDone, hf]
      obtain ⟨j, hj, hb⟩ := h
      exact congrArg Host.Outcome.next (if_pos (List.any_eq_true.2 ⟨j, hj, hb⟩))
    · intro u v r
      exact congrArg Host.Outcome.next (lfDone_free (olds := olds) (u := u) (v := v) hf rfl rfl rfl
        (List.any_eq_false.2 fun j hj => ne_true_of_eq_false (h j hj)))
  case drain =>
    intro ls u v y w
    refine congrArg Host.Outcome.next (rhDrain_free (ls := ls) (u := u) (v := v) (y := y) (w := w) hd (List.any_eq_false.2 fun x hx => by simpa using h x hx)
      rfl ?_ rfl rfl rfl)
    rfl
  case asleep => exact congrArg Host.Outcome.next (State.awake_off ha _)
  case interrupt =>
    intro u
    have he : exec (.interruptEntry k) s = .next (interruptEntry k s) := congrArg Host.Outcome.next (State.awake_on ha _)
    refine ⟨fun hn => ?_, fun j hn => ?_⟩
    · rw [he, interruptEntry_none hn]
    · rw [he, interruptEntry_some hn]
  all_goals change Host.Outcome.next _ = _
  case noFill => rw [lfDone, hf]
  case noDrain => rw [rhDrain, hd]
  case drainBusy =>
    rw [rhDrain, hd]
    obtain ⟨x, hx, hc⟩ := h
    exact congrArg Host.Outcome.next (if_pos (List.any_eq_true.2 ⟨x, hx, by simp [hc]⟩))
  case emptyQueue => rw [storeDrain, State.sqOne, h]
  case store =>
    rw [storeDrain]
    rcases h with h | h | ⟨x, h⟩ <;> rw [h]
  case noTimer => rw [timerSource, if_pos h]
  case timer => rw [timerSource, if_neg h]
  case doorbell => rw [doorbellWrite, if_pos (by simp [h1, h2])]
  case noDoorbell => rw [doorbellWrite, if_neg (by rcases h with h | h <;> simp [h])]

end Sys2Proof.Machine
end

section
/-! Ring slots, timeouts and memory controllers -/

namespace Sys2Proof.Machine

/-! ### Slots at a station -/

/-- What a slot at a station of the ring does, by the parity of its header, its type and its destination. -/
theorem ringPass_at {p : RingPass} {s u : State} (h : p.pos.val < ringLen p.ring.val) (hu : s.offered (stationAt p.ring.val p.pos.val) p.offer = u) :
    ringPass p s = if p.hpar then (u.hparDrop p).emptyOn p
      else if p.pkt.type.val = 0 then u.emptySlot p
      else if 30 ≤ p.pkt.type.val then (u.bump (R.CNT_HPAR p.ring.val)).emptyOn p
      else u.fullSlot p := by
  subst hu
  rw [ringPass]
  exact if_neg (by omega)

/-- The escape register takes an empty slot first. -/
theorem emptySlot_escape {u : State} {p : RingPass} {x : Packet} (h : assoc? (u.rg p.ring.val).esc (passKey p) = some x) :
    u.emptySlot p = (u.setRg p.ring.val { u.rg p.ring.val with esc := assocDel (u.rg p.ring.val).esc (passKey p) }).hopOn p x := by
  rw [State.emptySlot]
  simp only [h]

/-- A turning packet takes an empty slot next. -/
theorem emptySlot_turning {u : State} {p : RingPass} {x : Packet} (h : assoc? (u.rg p.ring.val).esc (passKey p) = none)
    (ht : assoc? (u.rg p.ring.val).turning (passKey p * 4 + p.lane.val) = some x) :
    u.emptySlot p = (u.setRg p.ring.val { u.rg p.ring.val with
      turning := assocDel (u.rg p.ring.val).turning (passKey p * 4 + p.lane.val) }).hopOn p x := by
  rw [State.emptySlot]
  simp only [h, ht]

/-- A local packet takes an empty slot last, on an active lane that HOLD does not close. -/
theorem emptySlot_local {u : State} {p : RingPass} (h : assoc? (u.rg p.ring.val).esc (passKey p) = none)
    (ht : assoc? (u.rg p.ring.val).turning (passKey p * 4 + p.lane.val) = none) :
    u.emptySlot p = if ((u.rg p.ring.val).dir p.dir).inUse.getLsbD p.lane.val = true ∧ u.holdOut p = false ∧ (u.holdSt p).quiet = 0 then
        match u.ring.waiting.find? (u.fits p) with
        | none => u.emptyOn p
        | some x => ((State.tokenTake { u with ring := { u.ring with waiting := u.ring.waiting.erase x } }
            (stationAt p.ring.val p.pos.val) x.cls.val).sampled p.ring.val x).hopOn p x
      else u.emptyOn p := by
  rw [State.emptySlot]
  simp only [h, ht]
  split
  · rename_i hc
    exact (if_neg (by simpa [bitAt, or_assoc, Decidable.imp_iff_not_or] using hc)).symm
  · rename_i hc
    refine Eq.trans ?_ (if_pos (by simpa [bitAt, and_assoc] using hc)).symm
    cases u.ring.waiting.find? (u.fits p) <;> rfl

/-- A slot that has reached its station is taken where there is room or it has priority, and goes round otherwise. -/
theorem fullSlot_arrived {u : State} {p : RingPass} (h : p.pkt.dst.val = stationAt p.ring.val p.pos.val) :
    u.fullSlot p = if u.unitRoom (stationAt p.ring.val p.pos.val) p || p.pkt.prio then (u.eject p).emptyOn p else u.deflect p := by
  rw [State.fullSlot]
  exact if_pos h

/-- A unit has room for a packet where the slot says so and, at a memory controller, its input entry is free. -/
theorem unitRoom_iff (u : State) (st : Nat) (p : RingPass) :
    u.unitRoom st p = true ↔ p.room = true ∧ ¬ ∃ ch, memcAt st = some ch ∧ (u.memc ch).input ≠ none := by
  rw [State.unitRoom]
  cases memcAt st <;> simp

/-- A slot under way to another station hops on where it has no further leg. -/
theorem fullSlot_hop {u : State} {p : RingPass} (h : p.pkt.dst.val ≠ stationAt p.ring.val p.pos.val)
    (hn : hasNextLeg p.pkt = false ∨ nextRing p.pkt = none) : u.fullSlot p = u.hopOn p p.pkt := by
  rw [State.fullSlot]
  refine (if_neg h).trans ?_
  rcases hn with hn | hn
  · exact if_neg (ne_true_of_eq_false hn)
  · rw [hn]
    exact ite_self _

/-- A slot whose next ring does not pass the station hops on. -/
theorem fullSlot_pass {u : State} {p : RingPass} {nr : Nat} (h : p.pkt.dst.val ≠ stationAt p.ring.val p.pos.val) (hn : nextRing p.pkt = some nr)
    (hp : posOn nr (stationAt p.ring.val p.pos.val) = none) : u.fullSlot p = u.hopOn p p.pkt := by
  rw [State.fullSlot]
  refine (if_neg h).trans ?_
  simp only [hn, hp, ite_self]

/-- A slot turns onto its next ring where both rings have a station. -/
theorem fullSlot_turn {u : State} {p : RingPass} {nr np : Nat} (h : p.pkt.dst.val ≠ stationAt p.ring.val p.pos.val)
    (hl : hasNextLeg p.pkt = true) (hn : nextRing p.pkt = some nr) (hp : posOn nr (stationAt p.ring.val p.pos.val) = some np) :
    u.fullSlot p = u.turn p nr np := by
  rw [State.fullSlot]
  refine (if_neg h).trans ((if_pos hl).trans ?_)
  simp only [hn, hp]

/-! ### Timeouts of the ring -/

/-- A core's request that is late is dropped and recorded, and the core takes a machine check where it runs. -/
theorem ringTimeout_core {s u : State} {k : CoreId} {b : Bool} {l : LineAddr} {m : Mshr} (hm : s.reqFind (.core k b) l.toNat = some m)
    (hl : s.ringLate m.since = true) (hu : (s.reqSet (.core k b) l.toNat none).timeoutLog false (askStation (.core k b)) l.toNat = u) :
    ringTimeout (.core k b) l s = (u.outDrop (CohMsg.grants k l.toNat)).ringCheck k l.toNat := by
  subst hu
  unfold ringTimeout
  simp only [hm]
  exact if_neg (by simp [hl])

/-- An agent's request that is late is dropped and recorded. -/
theorem ringTimeout_agent {s : State} {q : CohReq} {l : LineAddr} {m : Mshr} (hq : ∀ j b, q ≠ .core j b) (hm : s.reqFind q l.toNat = some m)
    (hl : s.ringLate m.since = true) : ringTimeout q l s = (s.reqSet q l.toNat none).timeoutLog false (askStation q) l.toNat := by
  unfold ringTimeout
  simp only [hm]
  refine (if_neg (by simp [hl])).trans ?_
  cases q with
  | core j b => exact absurd rfl (hq j b)
  | _ => rfl

/-- A line that waits in the eviction buffer of a core and is late is given up there. -/
theorem ringTimeout_evict {s : State} {k : CoreId} {b : Bool} {l : LineAddr} (hm : s.mshrFind k l.toNat = none) :
    ringTimeout (.core k b) l s = if (s.ebFind k l.toNat).any (fun e => e.sent && s.ringLate e.since) then
      ((s.ebFree k l.toNat).timeoutLog false (k.val / 2) l.toNat).ringCheck k l.toNat else s := by
  rw [ringTimeout, State.reqFind, hm]
  rfl

/-- A transaction that is late at its home writes its dirty data back and ends. -/
theorem ringHomeTimeout_late {s u : State} {l : LineAddr} {x : Txn} (hx : s.txnFind l.toNat = some x) (hl : s.ringLate x.since = true)
    (hu : (match x.dirty with
      | some d => s.homeWrite l.toNat fullMask d.1 true d.2
      | none => s) = u) :
    ringHomeTimeout l s =
      ((((((u.wbStales x).setTxn l.toNat none).setDir l.toNat none).unpark l.toNat).timeoutLog true x.home.val l.toNat).homeNext) := by
  subst hu
  rw [ringHomeTimeout, hx]
  refine (if_neg (by simp [hl])).trans ?_
  cases x.dirty <;> rfl

/-! ### Memory controllers -/

/-- A place of a channel is sealed whole, or merged with the bytes it held. -/
theorem sealChan_split {s : State} {pa ch cl : Nat} {m : BitVec 64} (d : Line) (po : Bool) :
    (s.sealedAt pa = none → s.sealChan pa ch cl m d po = s.chanWrite ch cl m d po (m == fullMask)) ∧
    (s.sealedAt pa ≠ none → m = fullMask → s.sealChan pa ch cl m d po = s.chanWrite ch cl fullMask (s.cipher xtsSeal pa d) po true) ∧
    (s.sealedAt pa ≠ none → m ≠ fullMask → s.sealChan pa ch cl m d po = s.chanWrite ch cl fullMask
      (s.cipher xtsSeal pa (mergeLine (s.openChan pa ch cl).1 d m)) (po || (s.openChan pa ch cl).2) false) := by
  refine ⟨fun h => ?_, fun h hm => ?_, fun h hm => ?_⟩ <;> rw [State.sealChan]
  · exact if_pos (by simp [h])
  · exact (if_neg (by simpa [Option.isNone_iff_eq_none] using h)).trans (if_pos (by simp [hm]))
  · exact (if_neg (by simpa [Option.isNone_iff_eq_none] using h)).trans (if_neg (by simpa using hm))

/-- A write at a controller that is up goes to the channel plainly, or sealed where a berth holds its line. -/
theorem memWr_of {s : State} {c : Fin 13} {line : BitVec 32} {a z : Fin 64} {m : BitVec 64} {pa : Nat} (d : Line) (po : Bool) (hc : s.chanUp c.val = true)
    (hm : maskOf a.val z.val = m) (hpa : s.addrOf c.val line.toNat = pa) :
    memWr c line a z d po s = (if s.berthAt c.val line.toNat = none then s.chanWrite c.val line.toNat m d po (m == fullMask)
      else s.sealChan pa c.val line.toNat m d po).memNotes := by
  subst hm hpa
  rw [memWr]
  refine (if_neg (by simp [hc])).trans ?_
  cases s.berthAt c.val line.toNat <;> rfl

/-- A copy's line is read at the source and written at the target. -/
theorem migrationCopyLine_next {s u : State} {slot : Fin 16} {e : EccOutcome} {x y : Copy} (hx : assoc? s.mem.copies slot.val = some x)
    (h1 : x.readSent = false) (h2 : x.ptr < 32768)
    (hu : (s.migPace.eccRead x.srcCh (x.srcOff * 32768 + x.ptr) .copy e).2.arrayWrite x.dstCh (x.dstOff * 32768 + x.ptr) fullMask
      (s.migPace.eccRead x.srcCh (x.srcOff * 32768 + x.ptr) .copy e).1.1
      ((s.migPace.eccRead x.srcCh (x.srcOff * 32768 + x.ptr) .copy e).1.2 != 0) = u) (hy : assoc? u.mem.copies slot.val = some y) :
    migrationCopyLine slot e s = u.setCopy slot.val { y with readSent := true } := by
  subst hu
  rw [migrationCopyLine, hx]
  refine (if_neg (by simp [h1]; omega)).trans ?_
  simp only [hy]

/-- An acknowledged copy write goes by the copy's pointer and by the writes forwarded past it. -/
theorem copyWriteAck_of {s : State} {slot : Fin 16} {cl : BitVec 15} {x : Copy} (hx : assoc? s.mem.copies slot.val = some x) :
    copyWriteAck slot cl s = if cl.toNat = x.ptr ∧ x.readSent then
        (if x.ptr + 1 = 32768 then ((s.setCopy slot.val { x with ptr := x.ptr + 1, readSent := false }).flag R.BT_STATUS 1).bump R.CNT_COPY
          else s.setCopy slot.val { x with ptr := x.ptr + 1, readSent := false }).releaseHeld slot.val cl.toNat
      else if x.unacked.contains cl.toNat then
        (s.setCopy slot.val { x with unacked := x.unacked.erase cl.toNat }).releaseHeld slot.val cl.toNat
      else s := by
  rw [copyWriteAck, hx]

/-- The initialisation pass ends where no place is left, and writes the next place's line with zeros. -/
theorem initialisationPass_place {s t u w : State} {c : Fin 13} {pos o x : Nat} (hp : assoc? s.boot.initPass c.val = some pos)
    (ho : s.initPlace c.val (pos / 32768) (s.placesOf c.val - pos / 32768) = some o) (hx : (if o = pos / 32768 then pos else o * 32768) = x)
    (ht : s.advanceTo ((s.memc c.val).patrolAt + 32) = t)
    (hu : (t.setMemc c.val { t.memc c.val with patrolAt := t.now }).arrayWrite c.val x fullMask 0 false = u)
    (hw : { u with boot := { u.boot with initPass := assocSet u.boot.initPass c.val (x + 1) } } = w) :
    initialisationPass c s = if w.initPlace c.val ((x + 1) / 32768) (w.placesOf c.val - (x + 1) / 32768) = none then
      { w with boot := { w.boot with initPass := assocDel w.boot.initPass c.val } } else w := by
  subst hx ht hu hw
  rw [initialisationPass, hp]
  simp only [ho, Option.isNone_iff_eq_none]

/-- The patrol reads its next line, moves on, and ends its pass after the last one. -/
theorem patrolRead_line {s u w : State} {c : Fin 13} {e : EccOutcome} {o n : Nat} (h1 : s.boot.step = 14) (h2 : s.flagAt (R.PATROL_CTL c.val) 0 = true)
    (h3 : assoc? s.boot.initPass c.val = none) (hn : s.patrolNext c.val = some (o, n))
    (hu : ((s.advanceTo ((s.memc c.val).patrolAt + BitVec.ofNat 64 (s.patrolGap c.val))).eccRead c.val (o * 32768 + n) .patrol e).2 = u)
    (hw : u.setMemc c.val { u.memc c.val with
      patrolAt := u.now, patrolOff := if n + 1 < 32768 then o else o + 1, patrolLine := if n + 1 < 32768 then n + 1 else 0 } = w) :
    patrolRead c e s = if w.patrolNext c.val = none then w.patrolEnd c.val else w := by
  subst hu hw
  rw [patrolRead]
  refine (if_neg (by simp [h1, h2, h3])).trans ?_
  simp only [hn, Option.isNone_iff_eq_none]

/-- Settles O25: slots, late requests and the memory controllers act by the ring's rules and the line's place. -/
theorem ringAndMemory : Obligations.RingAndMemory := by
  unfold Obligations.RingAndMemory
  intro s p k q l ring dir lane v c line e a z d po slot cl
  refine ⟨fun ha => ?asleep, fun h => ?noPlace, fun ha h => ?pass, fun m hm hl => ?early, fun m hm hl => ?late, fun hm hq => ?noRequest,
    fun b hm he => ?notEvicted, fun b x hm he hl => ?evicted, fun hx => ?noTxn, fun x hx hl => ?homeEarly, fun x hx hl => ?home,
    fun ha => ?laneFails, fun ha => ?laneTested, fun ha => ?trace, fun hc => ?chanDown, fun ha hc => ⟨?read, ?write⟩, rfl, fun h => ?noPatrol,
    fun h1 h2 h3 => ⟨fun hn => ?patrolEnds, fun o n hn => ?patrol⟩, fun h => ?noPass, fun pos hp => ⟨fun ho => ?passEnds, fun o ho => ?place⟩,
    fun h => ?noCopy, fun x y hx h1 h2 => ?copy, fun x hx => ?ack⟩
  case asleep =>
    have hoff (f : State → State) : Host.Outcome.next (s.awake f) = (.next s : Host.Outcome State Fault Refusal) :=
      congrArg Host.Outcome.next (State.awake_off ha f)
    have hblock (b : Nat) (f : State → State) : Host.Outcome.next (s.blockWrite b f) = (.next s : Host.Outcome State Fault Refusal) :=
      congrArg Host.Outcome.next (State.blockWrite_off ha b f)
    simp only [List.forall_mem_cons, List.not_mem_nil, false_implies, implies_true, and_true]
    exact ⟨hoff _, hoff _, hblock _ _, hblock _ _, hoff _, hoff _⟩
  case noPlace => exact congrArg Host.Outcome.next (awake_eq_self (if_pos h))
  case pass =>
    intro st u g
    have he : exec (.ringPass p) s = _ := congrArg Host.Outcome.next ((State.awake_on ha _).trans (ringPass_at (u := u) h rfl))
    refine ⟨fun hh => ?_, fun hh ht => ?_, fun hh ht => ?_, fun hh h0 h30 hd => ?_, fun hh h0 h30 hd => ?_⟩
    · rw [he, if_pos hh]
    all_goals rw [if_neg (ne_true_of_eq_false hh)] at he
    · rw [if_pos ht] at he
      refine ⟨fun x hx => ?_, fun x hx hx' => ?_, fun hx hx' => ?_⟩
      · rw [he, emptySlot_escape hx]
      · rw [he, emptySlot_turning hx hx']
      · intro mayInject
        rw [he, emptySlot_local hx hx']
        refine ⟨fun hm => ?_, fun hm hw => ?_, fun x hm hw => ?_⟩
        · exact congrArg Host.Outcome.next (if_neg hm)
        · refine congrArg Host.Outcome.next ((if_pos hm).trans ?_)
          rw [hw]
        · refine congrArg Host.Outcome.next ((if_pos hm).trans ?_)
          rw [hw]
    · rw [he, if_neg (by omega), if_pos ht]
    all_goals rw [if_neg h0, if_neg (by omega)] at he
    · intro full
      rw [he, fullSlot_arrived hd]
      have hroom := unitRoom_iff u st p
      refine ⟨fun hr => ?_, fun hr hp => ?_⟩
      · refine congrArg Host.Outcome.next (if_pos ?_)
        rcases hr with hr | hr
        · rw [hroom.2 hr, Bool.true_or]
        · rw [hr, Bool.or_true]
      · refine congrArg Host.Outcome.next (if_neg ?_)
        have hno : u.unitRoom st p = false := by
          refine Bool.eq_false_iff.2 fun hc => ?_
          obtain ⟨h1, h2⟩ := hroom.1 hc
          rcases hr with hr | hr
          · simp [hr] at h1
          · exact h2 hr
        rw [hno, hp]
        decide
    · refine ⟨fun hn => ?_, fun nr hn hp => ?_, fun nr np hl hn hp => ?_⟩
      · rw [he, fullSlot_hop hd hn]
      · rw [he, fullSlot_pass hd hn hp]
      · rw [he, fullSlot_turn hd hl hn hp]
  case late =>
    intro u
    refine ⟨fun j b hq => ?_, fun hq => ?_⟩
    · intro r
      subst hq
      have he : exec (.ringTimeout (.core j b) l) s = _ := congrArg Host.Outcome.next (ringTimeout_core (u := u) hm hl rfl)
      refine ⟨fun hr => ?_, fun hr => ?_⟩ <;> rw [he]
      · exact congrArg Host.Outcome.next (if_pos (by simpa using hr))
      · exact congrArg Host.Outcome.next (if_neg (by simpa using hr))
    · exact congrArg Host.Outcome.next (ringTimeout_agent hq hm hl)
  case laneFails => exact congrArg Host.Outcome.next (State.awake_on ha _)
  case laneTested =>
    intro u
    refine congrArg Host.Outcome.next ((State.blockWrite_on ha _ _).trans ?_)
    rw [laneTest, bitsAt_zero]
    rfl
  case trace => exact congrArg Host.Outcome.next (State.blockWrite_on ha _ _)
  case chanDown =>
    exact ⟨congrArg Host.Outcome.next (awake_eq_self (if_pos (by simp [hc]))), congrArg Host.Outcome.next (awake_eq_self (if_pos (by simp [hc])))⟩
  case read =>
    intro r pa
    have he : exec (.memRd c line e) s = _ := congrArg Host.Outcome.next ((State.awake_on ha _).trans (if_neg (by simp [hc])))
    refine ⟨fun hb => ?_, fun b hb => ?_⟩ <;> rw [he]
    · refine congrArg (fun x => Host.Outcome.next (r.2.memNotes.sendCoh (.memData (pa / 64) x r.1.2))) (if_neg ?_)
      rw [hb]
      decide
    · refine congrArg (fun x => Host.Outcome.next (r.2.memNotes.sendCoh (.memData (pa / 64) x r.1.2))) (if_pos ?_)
      rw [hb]
      rfl
  case write =>
    intro m pa
    have he : exec (.memWr c line a z d po) s = _ := congrArg Host.Outcome.next ((State.awake_on ha _).trans (memWr_of d po hc (pa := pa) (m := m) rfl rfl))
    obtain ⟨hplain, hwhole, hmerge⟩ := sealChan_split (s := s) (pa := pa) (ch := c.val) (cl := line.toNat) (m := m) d po
    refine ⟨fun h => ?_, fun b r hb hr hm => ?_, fun b r hb hr hm => ?_⟩ <;> rw [he]
    · by_cases hb : s.berthAt c.val line.toNat = none
      · rw [if_pos hb]
      · rw [if_neg hb, hplain (h.resolve_left hb)]
    · rw [if_neg (by simp [hb]), hwhole (by simp [hr]) hm]
    · rw [if_neg (by simp [hb]), hmerge (by simp [hr]) hm]
  case place =>
    intro x t u w
    exact congrArg Host.Outcome.next (initialisationPass_place (t := t) (u := u) (w := w) hp ho rfl rfl rfl rfl)
  case patrol =>
    intro u w
    exact congrArg Host.Outcome.next (patrolRead_line (u := u) (w := w) h1 h2 h3 hn rfl rfl)
  case copy =>
    intro r u hy
    exact congrArg Host.Outcome.next (migrationCopyLine_next (u := u) hx h1 h2 rfl hy)
  case noCopy =>
    refine ⟨?_, ?_⟩ <;> change Host.Outcome.next _ = _
    · rw [migrationCopyLine, h]
    · rw [copyWriteAck, h]
  case ack =>
    have he : exec (.copyWriteAck slot cl) s = _ := congrArg Host.Outcome.next (copyWriteAck_of hx)
    refine ⟨fun h1 h2 => ?_, fun h h3 => ?_, fun h h3 => ?_⟩
    · intro u
      rw [he, if_pos ⟨h1, h2⟩]
    all_goals
      have hn : ¬ (cl.toNat = x.ptr ∧ x.readSent = true) := fun hc => h.elim (fun h => h hc.1) (fun h => by simp [h] at hc)
    · rw [he, if_neg hn, if_pos h3]
    · rw [he, if_neg hn, if_neg (ne_true_of_eq_false h3)]
  all_goals change Host.Outcome.next _ = _
  case early =>
    unfold ringTimeout
    simp only [hm]
    exact congrArg Host.Outcome.next (if_pos (by simp [hl]))
  case noRequest =>
    unfold ringTimeout
    simp only [hm]
  case notEvicted =>
    rw [ringTimeout_evict hm]
    refine congrArg Host.Outcome.next (if_neg ?_)
    cases hf : s.ebFind k l.toNat with
    | none => simp
    | some x => simpa using he x hf
  case evicted =>
    rw [ringTimeout_evict hm]
    exact congrArg Host.Outcome.next (if_pos (by simpa [he] using hl))
  case noTxn => rw [ringHomeTimeout, hx]
  case homeEarly =>
    rw [ringHomeTimeout, hx]
    exact congrArg Host.Outcome.next (if_pos (by simp [hl]))
  case home =>
    exact congrArg Host.Outcome.next (ringHomeTimeout_late hx hl rfl)
  case noPatrol =>
    rw [patrolRead]
    exact congrArg Host.Outcome.next (if_pos (by rcases h with h | h <;> simp [h]))
  case patrolEnds =>
    rw [patrolRead]
    refine congrArg Host.Outcome.next ((if_neg (by simp [h1, h2, h3])).trans ?_)
    simp only [hn, List.isEmpty_iff]
  case noPass => rw [initialisationPass, h]
  case passEnds =>
    rw [initialisationPass, hp]
    simp only [ho]

end Sys2Proof.Machine
end

section
/-! The link of a root port in reset -/

namespace Sys2Proof.Machine

/-! ### The link of a root port in reset -/

/-- A device at power-on whose always-on domain is still held. -/
def heldAtReset : State := { State.reset with boot := { State.reset.boot with aon := false } }

/-- The status register of root port 0 reads 0 there. -/
theorem rd_heldAtReset : heldAtReset.rd (R.PH_STATUS 0) = 0 := rfl

/-- Refutes O26: PCIE_LINK is stated for a device in reset too, where it changes nothing: with the always-on domain held, a link that goes
down leaves PH_STATUS at 0, and the statement's state has bit 1 set. -/
theorem not_portCommands : ¬ Obligations.PortCommands := by
  unfold Obligations.PortCommands
  intro h
  have hs := h heldAtReset 0 0 0 0 [] false false ⟨0, 0, false, false⟩ ⟨0, false, false, false, 0, false, 0, [], 0⟩ 0 0 0 0 0 []
  obtain ⟨-, -, -, -, -, -, -, -, -, -, -, -, -, -, -, -, -, -, -, -, -, -, -, -, -, -, hlink, -, -⟩ := hs
  have hsame : exec (.pcieLink 0 false 0 0) heldAtReset = .next heldAtReset := congrArg Host.Outcome.next (State.awake_off rfl _)
  have hstep := Host.Outcome.next.inj (hsame.symm.trans (hlink (.inl rfl)))
  have hrd := congrArg (fun s : State => s.rd (R.PH_STATUS 0)) hstep
  simp only [rd_heldAtReset] at hrd
  rw [(jlogW_step _ _ _ _ _ _ _ _).rd _ (by decide) (by decide)] at hrd
  exact absurd hrd (by decide)

end Sys2Proof.Machine
end

section
/-! Lantern's services -/

namespace Sys2Proof.Machine

/-! ### Lantern's services -/

/-- The mailbox that is next has its request served by the service it names. -/
theorem lnServe_asked {s : State} {m : LnMbox} {code : Nat} (f : List Byte → State → State)
    (h : s.lnNext m = true ∧ descNum (s.lnReq m) 0 1 = code) : s.lnServe m code f = f (s.lnReq m) s := by
  rw [State.lnServe]
  exact if_pos (by simp [h.1, h.2])

/-- A mailbox that is not next is not served. -/
theorem lnServe_idle {s : State} {m : LnMbox} (code : Nat) (f : List Byte → State → State) (h : s.lnNext m = false) : s.lnServe m code f = s := by
  rw [State.lnServe]
  exact if_neg (by simp [h])

/-- A known request at the front of the mailboxes waits for its service. -/
theorem lnUnknown_known {u : State} {n : Nat} {j : Fin 8} (hj : allMb.find? (fun x => (u.lnMb x.val).st == 1) = some j)
    (hk : lnKnown (descNum (u.lnReq (.reg j)) 0 1) = true) : u.lnUnknown n = u := by
  cases n with
  | zero => rfl
  | succ n =>
    rw [State.lnUnknown, hj]
    exact if_pos hk

/-- What a write to an update does with the bytes that its request names. -/
theorem updateWrite_bytes {s x : State} {m : LnMbox} {u : Update} {d : List Byte} (h : s.lnNext m = true ∧ descNum (s.lnReq m) 0 1 = 6)
    (hu : s.lan.upd = some u) (h1 : descNum (s.lnReq m) 16 4 ≤ 2 ^ 21) (h2 : descNum (s.lnReq m) 20 4 + descNum (s.lnReq m) 16 4 ≤ u.len)
    (hb : s.svcBuf false false (descNum (s.lnReq m) 8 8) (descNum (s.lnReq m) 16 4) = true)
    (hr : s.bufRead .lantern false (descNum (s.lnReq m) 8 8) (descNum (s.lnReq m) 16 4) = some (d, x)) :
    updateWrite m s = (x.program u.slot (descNum (s.lnReq m) 20 4) d).lnDone m 0 (leBytes 4 (descNum (s.lnReq m) 16 4)) [] := by
  rw [updateWrite, lnServe_asked _ h]
  dsimp only
  rw [hu]
  refine (if_neg (by omega)).trans ((if_neg (by simp [hb])).trans ?_)
  rw [hr]

/-- An update is committed where its signature holds. -/
theorem updateCommit_open {s w x y : State} {m : LnMbox} {u : Update} {h : List Byte} (ha : s.lnNext m = true ∧ descNum (s.lnReq m) 0 1 = 7)
    (hu : s.lan.upd = some u) (hh : toBytes (Config.sha384 (s.slotBody u.slot)) 48 = h) (hw : { s with lan := { s.lan with upd := none } } = w)
    (hx : (((w.slotWrite u.slot 0 [0x53, 0x43, 0x31, 0x38]).slotWrite u.slot 4 (toBytes u.seq 4)).slotWrite u.slot 16 h).slotWrite u.slot 12 [0xa5] = x)
    (hy : x.slotWrite u.slot 448 (toBytes (crc32c (x.slotRead u.slot 0 448)) 4) = y) :
    updateCommit m s = if Config.ecdsaValid (s.slotRead s.boot.slotB 256 96) h (s.slotRead u.slot 352 96) then (y.updLog 1 u.slot u.seq).lnDone m 0 [1] []
      else (w.updLog 2 u.slot u.seq).lnDone m 5 [0] [] := by
  subst hh hw hx hy
  rw [updateCommit, lnServe_asked _ ha]
  dsimp only
  rw [hu]

/-- A sample goes on to stop the device, to count a second trip, or to note the first. -/
theorem sensorSample_of {s u : State} {rs : List SensorReading} {hot : Bool} (h : 2 ≤ s.boot.step) (hu : s.sampleDue.sampleTaken rs = u)
    (hh : u.thermals.any (fun p => decide (u.tripPoint ≤ p.2)) = hot) :
    sensorSample rs s = if rs.any u.stopsDevice then u.fullReset 4 else if hot && u.lan.tripSeen then u.fullReset 9
      else { u with lan := { u.lan with tripSeen := hot } } := by
  subst hu hh
  rw [sensorSample]
  exact if_neg (by omega)

/-- Settles O27: each command of Lantern goes by the mailbox that is next, the request it holds, and the part or the watchdog it names. -/
theorem lanternCommands : Obligations.LanternCommands := by
  unfold Obligations.LanternCommands
  intro s rs k v m r src hd bs core ch bay eng
  refine ⟨fun h => ?noSample, ?sample, rfl, fun ha => ?asleep, fun ha => ?kick, fun h => ?notDue, fun h h2 => ?due, fun h1 h2 => ?coreWears,
    fun h => ?coreHeld, fun h1 h2 => ?chanWears, fun h1 h2 => ?engWears, fun ha hb => ?doorBusy, fun ha hb => ?door, ?services, ?portServices, rfl,
    ?datagram, fun h1 h2 => ?echo, fun h => ?noEcho⟩
  case sample =>
    intro u hot h
    have he : exec (.sensorSample rs) s = _ := congrArg Host.Outcome.next (sensorSample_of (u := u) (hot := hot) h rfl rfl)
    refine ⟨fun h1 => ?_, fun h1 h2 h3 => ?_, fun h1 h2 => ?_⟩ <;> rw [he]
    · rw [if_pos h1]
    · rw [if_neg (ne_true_of_eq_false h1), if_pos (by rw [h2, h3]; rfl)]
    · rw [if_neg (ne_true_of_eq_false h1), if_neg (by rcases h2 with h | h <;> simp [h])]
  case asleep => exact ⟨congrArg Host.Outcome.next (State.blockWrite_off ha _ _), congrArg Host.Outcome.next (State.blockWrite_off ha _ _)⟩
  case kick =>
    intro h
    have he : exec (.wdKick k v) s = .next (wdKick k v h) := congrArg Host.Outcome.next (State.blockWrite_on ha _ _)
    refine ⟨fun h1 h2 => ?_, fun hc => ?_⟩ <;> rw [he, wdKick]
    · exact congrArg Host.Outcome.next (if_pos (Bool.and_eq_true_iff.2 ⟨h1, h2⟩))
    · refine congrArg Host.Outcome.next (if_neg fun hn => ?_)
      obtain ⟨h1, h2⟩ := Bool.and_eq_true_iff.1 hn
      rcases hc with hc | hc
      · exact ne_true_of_eq_false hc h1
      · exact ne_true_of_eq_false hc h2
  case due =>
    intro a u
    change Host.Outcome.next _ = _
    rw [wdExpire]
    refine congrArg Host.Outcome.next ((if_pos h).trans ?_)
    exact ite_congr rfl (fun _ => rfl) (fun _ => if_neg h2)
  case doorBusy =>
    refine congrArg Host.Outcome.next ((State.blockWrite_on ha _ _).trans ?_)
    rw [lnDoor]
    exact if_pos hb
  case door =>
    intro h u
    refine ⟨congrArg Host.Outcome.next ((State.blockWrite_on ha _ _).trans ?_), fun j hj hk => lnUnknown_known hj hk⟩
    rw [lnDoor]
    exact if_neg hb
  case services =>
    intro req asks
    refine ⟨fun h => ?idle, fun h hn => ?sensors, fun h hn => ?noSensors, fun h => ?log, fun h => ?ring, fun h hb => ?bookBad, fun h hb => ?book,
      fun h hl => ?openBad, fun h hl => ?opens, fun hu => ⟨fun h => ?writeNone, fun h => ?commitNone⟩,
      fun u d x h hu h1 h2 hb hr => ?writes, fun u h hu => ?commits, fun h => ?slots, fun h hc => ?resets, fun h hc => ?resetBad⟩
    case idle =>
      simp only [List.forall_mem_cons, List.not_mem_nil, false_implies, implies_true, and_true]
      exact ⟨congrArg Host.Outcome.next (lnServe_idle 1 _ h), congrArg Host.Outcome.next (lnServe_idle 2 _ h),
        congrArg Host.Outcome.next (lnServe_idle 3 _ h), congrArg Host.Outcome.next (lnServe_idle 4 _ h),
        congrArg Host.Outcome.next (lnServe_idle 5 _ h), congrArg Host.Outcome.next (lnServe_idle 6 _ h),
        congrArg Host.Outcome.next (lnServe_idle 7 _ h), congrArg Host.Outcome.next (lnServe_idle 8 _ h),
        congrArg Host.Outcome.next (lnServe_idle 9 _ h)⟩
    case sensors =>
      refine congrArg Host.Outcome.next ((lnServe_asked _ h).trans (if_neg ?_))
      change ¬ (descNum req 9 1 < 1 ∨ 14 < descNum req 9 1 ∨ 224 < descNum req 8 1 + descNum req 9 1)
      omega
    case noSensors => exact congrArg Host.Outcome.next ((lnServe_asked _ h).trans (if_pos hn))
    case log => exact congrArg Host.Outcome.next (lnServe_asked _ h)
    case ring => exact congrArg Host.Outcome.next (lnServe_asked _ h)
    case bookBad => exact congrArg Host.Outcome.next ((lnServe_asked _ h).trans (if_pos (by rw [hb]; rfl)))
    case book => exact congrArg Host.Outcome.next ((lnServe_asked _ h).trans (if_neg (by rw [hb]; decide)))
    case openBad => exact congrArg Host.Outcome.next ((lnServe_asked _ h).trans (if_pos hl))
    case opens => exact congrArg Host.Outcome.next ((lnServe_asked _ h).trans (if_neg (Nat.not_lt.2 hl)))
    case writeNone =>
      refine congrArg Host.Outcome.next ((lnServe_asked _ h).trans ?_)
      rw [hu]
    case commitNone =>
      refine congrArg Host.Outcome.next ((lnServe_asked _ h).trans ?_)
      rw [hu]
    case writes => exact congrArg Host.Outcome.next (updateWrite_bytes h hu h1 h2 hb hr)
    case commits =>
      intro h' w
      refine ⟨fun hv => ?_, fun hv => ?_⟩
      · exact congrArg Host.Outcome.next ((updateCommit_open (w := w) (h := h') h hu rfl rfl rfl rfl).trans (if_neg (ne_true_of_eq_false hv)))
      · intro x y
        exact congrArg Host.Outcome.next ((updateCommit_open (w := w) (x := x) (y := y) (h := h') h hu rfl rfl rfl rfl).trans (if_pos hv))
    case slots => exact congrArg Host.Outcome.next (lnServe_asked _ h)
    case resets => exact congrArg Host.Outcome.next ((lnServe_asked _ h).trans (if_pos hc))
    case resetBad => exact congrArg Host.Outcome.next ((lnServe_asked _ h).trans (if_neg hc))
  case portServices =>
    intro req hp hn
    refine ⟨fun hc => ?_, fun hc => ?_⟩
    · intro x
      exact congrArg Host.Outcome.next ((if_pos (by simp [hp])).trans (lnServe_asked _ ⟨hn, hc⟩))
    · intro a l
      exact congrArg Host.Outcome.next ((if_pos (by simp [hp])).trans (lnServe_asked _ ⟨hn, hc⟩))
  case datagram =>
    intro mine
    refine ⟨fun h1 h2 h3 h4 => ?_, fun h => ?_⟩
    · intro u
      obtain ⟨hip, hport⟩ := h2
      exact congrArg Host.Outcome.next (if_neg (by simp [h1, State.lnAddressed, hip, hport, h3, h4]))
    · refine congrArg Host.Outcome.next (if_pos ?_)
      rcases h with h | h | h | h
      · simp [h]
      · have hno : s.lnAddressed hd = false := Bool.eq_false_iff.2 fun hc => h (by simpa [State.lnAddressed] using hc)
        simp [hno]
      · simp [Option.isSome_iff_ne_none.2 h]
      · simp [h]
  case echo =>
    exact ⟨congrArg Host.Outcome.next (if_pos (by simp [h1, h2])), congrArg Host.Outcome.next (if_pos (by simp [h1, h2]))⟩
  case noEcho =>
    have hno : ¬ (s.lnPortOn && v == s.rd R.LN_IP) = true := by rcases h with h | h <;> simp [h]
    exact ⟨congrArg Host.Outcome.next (if_neg hno), congrArg Host.Outcome.next (if_neg hno)⟩
  case noSample => exact congrArg Host.Outcome.next (if_pos h)
  case notDue => exact congrArg Host.Outcome.next (if_neg (ne_true_of_eq_false h))
  case coreWears => exact congrArg Host.Outcome.next (if_pos (by simp [h1, h2]))
  case coreHeld => exact congrArg Host.Outcome.next (if_neg (by simp [h]))
  case chanWears => exact congrArg Host.Outcome.next (if_pos (by simpa [h1] using h2))
  case engWears => exact congrArg Host.Outcome.next (if_pos (by simp [h1, h2]))

end Sys2Proof.Machine
end

section
/-! The Keeper's services and the boot steps -/

namespace Sys2Proof.Machine

/-! ### The Keeper's services -/

/-- The mailbox that is next and asks for a service has it. -/
theorem kpServe_asked {s : State} {m : Fin 16} {code : Nat} (f : List Byte → State → State)
    (h : ((s.kpMb m.val).st = 1 ∧ ∀ j, j < m.val → (s.kpMb j).st ≠ 1) ∧ descNum (s.kpReq m.val) 0 1 = code) :
    s.kpServe m code f = f (s.kpReq m.val) s := by
  obtain ⟨⟨h1, h2⟩, h3⟩ := h
  have hall : (List.range m.val).all (fun i => (s.kpMb i).st != 1) = true :=
    List.all_eq_true.2 fun j hj => by simpa using h2 j (List.mem_range.1 hj)
  rw [State.kpServe]
  exact if_pos (by simp only [h1, hall, h3]; simp)

/-- A mailbox that is not next is not served. -/
theorem kpServe_idle {s : State} {m : Fin 16} (code : Nat) (f : List Byte → State → State)
    (h : ¬ ((s.kpMb m.val).st = 1 ∧ ∀ j, j < m.val → (s.kpMb j).st ≠ 1)) : s.kpServe m code f = s := by
  rw [State.kpServe]
  refine if_neg fun hc => h ?_
  obtain ⟨hc, -⟩ := Bool.and_eq_true_iff.1 hc
  obtain ⟨h1, h2⟩ := Bool.and_eq_true_iff.1 hc
  exact ⟨by simpa using h1, fun j hj => by simpa using List.all_eq_true.1 h2 j (List.mem_range.2 hj)⟩

/-- A known request at the front of the Keeper's mailboxes waits for its service. -/
theorem kpUnknown_known {u : State} {n j : Nat} (hj : (List.range 16).find? (fun i => (u.kpMb i).st == 1) = some j)
    (h1 : 1 ≤ descNum (u.kpReq j) 0 1) (h8 : descNum (u.kpReq j) 0 1 ≤ 8) : u.kpUnknown n = u := by
  cases n with
  | zero => rfl
  | succ n =>
    rw [State.kpUnknown, hj]
    exact if_pos ⟨h1, h8⟩

/-- A doorbell that its world may ring and its mailbox takes notes the ringing core's enclave. -/
theorem mbDoor_rings {h u : State} {m : Fin 16} {q : Requester} (hs : h.kpSealed m.val = false ∨ q.sealed = true) (hst : (h.kpMb m.val).st ≠ 1)
    (hu : { h with keeper := { h.keeper with mbox := assocSet h.keeper.mbox m.val { h.kpMb m.val with
      st := 1, enclave := ((requesterCore q).map (fun k => (h.core k).encCur.toNat)).getD 0 } } } = u) :
    mbDoor m q h = u.kpUnknown 16 := by
  subst hu
  rw [mbDoor]
  refine (if_neg (by rcases hs with hs | hs <;> simp [hs])).trans ((if_neg hst).trans ?_)
  cases requesterCore q <;> rfl

/-- What the training of the channels comes to. -/
theorem channelTraining_at {s u : State} {cs : List ChanTrain} {body : List Byte} (h : s.boot.step = 6) (hb : s.bootBody = body)
    (hu : (((s.bootStep 7).train cs).regsBoot (fun b => b == 0x1a) (regList (secBytes body 2))).bootStep 8 = u) :
    channelTraining cs s = match (dirFail body).or (listFail body), u.checkFail body (12 * u.places), u.bootPlace body with
      | some f, _, _ => u.bootFail f.cause f.sec f.idx false
      | none, some f, _ => if f.1 = 2 ∨ f.1 = 0x10 then (u.free 32).2.bootFail 6 f.1 (u.free 32).1.toNat false else u.bootFail 6 f.1 f.2 false
      | none, none, none => u.bootFail 7 0 0 false
      | none, none, some x => x.bootApply body := by
  rw [channelTraining]
  refine (if_neg (by simp [h])).trans ?_
  simp only [hb, hu]
  generalize (dirFail body).or (listFail body) = dir
  generalize u.checkFail body (12 * u.places) = check
  generalize u.bootPlace body = place
  cases dir with
  | some f => rfl
  | none =>
    cases check with
    | some f => rfl
    | none => cases place <;> rfl

/-- What the last boot step leaves, and whether it starts the beacon. -/
theorem bootLoad_at {s u v : State} {body : List Byte} {mode : Nat} (h : s.boot.step = 12) (hb : s.bootBody = body)
    (hm : numAt (secBytes body 1) 0 1 = mode)
    (hu : ((((recsOf (secBytes body 0x31)).foldl (fun (x : State) r => x.loadRec false r) (s.bootStep 13)).loadEnclaves body).bootBays
      body).bootPlacement.bootTasks.bootStep 14 = u)
    (hv : State.bootDone { u with boot := { u.boot with locked := true, initPass := u.healthyCh.map (fun c => (c, 0)) } } mode = v) :
    bootLoad s = if mode = 0 then beaconRun (v.rd R.BCN_CTL ||| 1) v else v := by
  rw [bootLoad]
  refine (if_neg (by simp [h])).trans ?_
  simp only [hb, hm, hu, hv]

/-- What the verification of the slot comes to at boot step 4. -/
theorem bootVerify_at {s u : State} (h : s.boot.step = 4) (h1 : s.lan.holdBoot = false) (h2 : s.boot.aon = true)
    (hu : s.tripPut 4 (leNat (s.slotRead s.boot.slotB 16 48)) = u) :
    bootVerify s = match s.verifyCause s.boot.slotB with
      | some c => s.bootFail c 0 0 false
      | none => (u.wr R.IMG_SEQ (BitVec.ofNat 32 (u.slotSeq s.boot.slotB))).bootFirmware := by
  rw [bootVerify]
  refine (if_neg (by simp [h, h1, h2])).trans ?_
  have h2' : ¬ s.boot.step = 2 := by omega
  have h3' : ¬ s.boot.step = 3 := by omega
  cases hc : s.verifyCause s.boot.slotB with
  | some c => simp only [if_neg h2', if_neg h3', hc]
  | none => simp only [if_neg h2', if_neg h3', hc, hu]

/-- Settles O28: the Keeper answers by its fault, its parameters, the buffers and the world of the mailbox, and each boot step acts from its own. -/
theorem keeperAndBoot : Obligations.KeeperAndBoot := by
  unfold Obligations.KeeperAndBoot
  intro s m q cs
  refine ⟨fun ha => ?asleep, fun ha h1 h2 => ?hidden, fun ha hs => ?door, ?services, fun ha => ?fault, fun h => ?noVerify, fun h1 h2 h3 => ?verify,
    fun h => ?noTraining, fun h => ?training, fun h => ?noInit, fun h => ?init, fun h => ?noLoad, fun h => ?load⟩
  case asleep => exact ⟨congrArg Host.Outcome.next (State.blockWrite_off ha _ _), congrArg Host.Outcome.next (State.awake_off ha _)⟩
  case hidden =>
    refine congrArg Host.Outcome.next ((State.blockWrite_on ha _ _).trans ?_)
    rw [mbDoor]
    exact if_pos (by simp [h1, h2])
  case door =>
    intro h
    have he : exec (.mbDoor m q) s = .next (mbDoor m q h) := congrArg Host.Outcome.next (State.blockWrite_on ha _ _)
    refine ⟨fun hst => ?_, fun hst => ?_⟩
    · rw [he, mbDoor]
      exact congrArg Host.Outcome.next ((if_neg (by rcases hs with hs | hs <;> simp [h, hs])).trans (if_pos hst))
    · intro enc u
      exact ⟨he.trans (congrArg Host.Outcome.next (mbDoor_rings (u := u) hs hst rfl)), fun j hj h1 h8 => kpUnknown_known hj h1 h8⟩
  case services =>
    dsimp only
    have serve {code : Nat} {f : List Byte → State → State} {t : State}
        (h : ((s.kpMb m.val).st = 1 ∧ ∀ j, j < m.val → (s.kpMb j).st ≠ 1) ∧ descNum (s.kpReq m.val) 0 1 = code)
        (ht : f (s.kpReq m.val) s = t) : Host.Outcome.next (s.kpServe m code f) = (.next t : Host.Outcome State Fault Refusal) :=
      congrArg Host.Outcome.next ((kpServe_asked f h).trans ht)
    refine ⟨fun h => ?idle, fun h => ⟨fun hf => ?_, fun hf hn => ?_, fun hf h1 h2 => ?_⟩, fun h => ⟨fun hn => ?_, fun hn hr => ?_, fun b u hn hr => ?_⟩,
      fun h => ⟨fun hf => ?_, fun hf hr => ?_, fun g u hf hr => ⟨fun ho => ?_, fun ho => ?_⟩⟩,
      fun h => ⟨fun hn => ?_, fun hn hr => ?_, fun g u hn hr => ⟨fun ho => ?_, fun d x ho => ?_⟩⟩,
      fun h => ⟨fun hn => ?_, fun hn => ?_⟩,
      fun h => ⟨fun hw => ?_, fun hw hn => ?_, fun hw hn hf => ?_, fun hw hn hf hr => ?_, fun p u hw hn hf hr ho => ?_⟩,
      fun h => ⟨fun hw => ?_, fun hw hn => ?_, fun b u hw hn hr ho => ?_⟩, fun h => ⟨fun hf => ?_, fun hf hw => ?_, fun d u hw hf hr ho => ?_⟩⟩
    case idle =>
      simp only [List.forall_mem_cons, List.not_mem_nil, false_implies, implies_true, and_true]
      exact ⟨congrArg Host.Outcome.next (kpServe_idle 1 _ h), congrArg Host.Outcome.next (kpServe_idle 2 _ h),
        congrArg Host.Outcome.next (kpServe_idle 3 _ h), congrArg Host.Outcome.next (kpServe_idle 4 _ h),
        congrArg Host.Outcome.next (kpServe_idle 5 _ h), congrArg Host.Outcome.next (kpServe_idle 6 _ h),
        congrArg Host.Outcome.next (kpServe_idle 7 _ h), congrArg Host.Outcome.next (kpServe_idle 8 _ h)⟩
    · exact serve h (if_pos (by simpa using hf))
    · exact serve h ((if_neg (by simp [hf])).trans (if_pos hn))
    · exact serve h ((if_neg (by simp [hf])).trans (if_neg (by omega)))
    · exact serve h (if_pos hn)
    · exact serve h ((if_neg (by omega)).trans (by rw [hr]))
    · exact serve h ((if_neg (by omega)).trans (by rw [hr]))
    · exact serve h (if_pos (by simpa using hf))
    · exact serve h ((if_neg (by simp [hf])).trans (by rw [hr]))
    · exact serve h ((if_neg (by simp [hf])).trans (by rw [hr]; exact if_pos (by simp [ho])))
    · exact serve h ((if_neg (by simp [hf])).trans (by rw [hr]; exact if_neg (by simp [ho])))
    · exact serve h (if_pos hn)
    · exact serve h ((if_neg (by omega)).trans (by rw [hr]))
    · exact serve h ((if_neg (by omega)).trans (by rw [hr]; dsimp only; rw [ho]))
    · exact serve h ((if_neg (by omega)).trans (by rw [hr]; dsimp only; rw [ho]))
    · exact serve h (if_pos hn)
    · exact serve h (if_neg (by omega))
    · exact serve h (if_pos (by simpa using hw))
    · exact serve h ((if_neg (by simp [hw])).trans (if_pos hn))
    · exact serve h ((if_neg (by simp [hw])).trans ((if_neg (by omega)).trans (if_pos (by simpa using hf))))
    · exact serve h ((if_neg (by simp [hw])).trans ((if_neg (by omega)).trans ((if_neg (by simp [hf])).trans (by rw [hr]))))
    · exact serve h ((if_neg (by simp [hw])).trans ((if_neg (by omega)).trans ((if_neg (by simp [hf])).trans
        (by rw [hr]; exact if_neg (by simp [ho])))))
    · exact serve h (if_pos (by simpa using hw))
    · exact serve h ((if_neg (by simp [hw])).trans (if_pos hn))
    · exact serve h ((if_neg (by simp [hw])).trans ((if_neg (by omega)).trans (by rw [hr]; exact if_neg (by simp [ho]))))
    · exact serve h (if_pos (by simpa using hf))
    · exact serve h ((if_neg (by simp [hf])).trans (if_pos (by simpa using hw)))
    · exact serve h ((if_neg (by simp [hf])).trans ((if_neg (by simp [hw])).trans (by rw [hr]; exact if_neg (by simp [ho]))))
  case fault => exact congrArg Host.Outcome.next (State.awake_on ha _)
  case training =>
    intro body u
    exact congrArg Host.Outcome.next (channelTraining_at (u := u) h rfl rfl)
  case init =>
    intro u
    exact congrArg Host.Outcome.next (if_neg (by simp [h]))
  case load =>
    intro body mode u v
    have he : exec .bootLoad s = _ := congrArg Host.Outcome.next (bootLoad_at (u := u) (v := v) (mode := mode) h rfl rfl rfl rfl)
    exact ⟨fun hm => by rw [he, if_pos hm], fun hm => by rw [he, if_neg hm]⟩
  case noVerify =>
    refine congrArg Host.Outcome.next (if_pos ?_)
    rcases h with h | h | h <;> simp [h]
  case verify => exact congrArg Host.Outcome.next (bootVerify_at h1 h2 h3 rfl)
  case noTraining => exact congrArg Host.Outcome.next (if_pos (by simpa using h))
  case noInit => exact congrArg Host.Outcome.next (if_pos (by simpa using h))
  case noLoad => exact congrArg Host.Outcome.next (if_pos (by simpa using h))

end Sys2Proof.Machine
end

section
/-! Clocks, domains and register accesses -/

namespace Sys2Proof.Machine

/-! ### Clocks, domains and register accesses -/

/-- A field of a word is its quotient and remainder. -/
theorem bitsAt_eq_div_mod {n : Nat} (x : BitVec n) (lo w : Nat) : bitsAt x lo w = x.toNat / 2 ^ lo % 2 ^ w := by
  rw [bitsAt, Nat.shiftRight_eq_div_pow]

/-- An Open write of the clocks' sources is refused where it would change the clock of a Sealed bay. -/
theorem clkSrcWrite_refused {u : State} {v : W32} {q : Requester} {x : Nat} (h8 : u.flagAt R.CLK_LOCK 8 = false) (h9 : u.flagAt R.CLK_LOCK 9 = false)
    (h1 : v.getLsbD 1 ≠ (u.rd R.CLK_SRC).getLsbD 1) (hq : q.sealed = false) (hx : (List.range 8).find? u.baySealed = some x) :
    clkSrcWrite v q u = u.denyVote 0 x true := by
  rw [clkSrcWrite]
  refine (if_neg (by simp [h8, h9])).trans ?_
  have hc : (bitAt v 1 != bitAt (u.rd R.CLK_SRC) 1 && !q.sealed) = true := by
    rw [hq, Bool.not_false, Bool.and_true, bne_iff_ne]
    exact h1
  simp only [hc, if_true, hx]

/-- A write of the clocks' sources that nothing refuses starts both multiplexers. -/
theorem clkSrcWrite_taken {u : State} {v : W32} {q : Requester} (h8 : u.flagAt R.CLK_LOCK 8 = false) (h9 : u.flagAt R.CLK_LOCK 9 = false)
    (h : v.getLsbD 1 = (u.rd R.CLK_SRC).getLsbD 1 ∨ q.sealed = true ∨ (List.range 8).find? u.baySealed = none) :
    clkSrcWrite v q u = ((u.wr R.CLK_SRC (BitVec.ofNat 32 (v.toNat % 4))).switchStart 0 (v.getLsbD 0)).switchStart 1 (v.getLsbD 1) := by
  have hnone : (if bitAt v 1 != bitAt (u.rd R.CLK_SRC) 1 && !q.sealed then (List.range 8).find? u.baySealed else none) = none := by
    rcases h with h | h | h
    · exact if_neg (by simp only [bitAt, h, bne_self_eq_false, Bool.false_and, Bool.false_eq_true, not_false_iff])
    · exact if_neg (by simp [h])
    · rw [h, ite_self]
  rw [clkSrcWrite]
  refine (if_neg (by simp [h8, h9])).trans ?_
  simp only [hnone, bitsAt_zero]
  rfl

/-- A multiplexer that switches and whose clock runs has its new source, and is unlocked and journaled. -/
theorem clkSwitch_to {s : State} {ant x : Bool} (hx : (if ant then s.clk.swAnt else s.clk.swCore) = some x) (hm : s.muxHung ant = false) :
    clkSwitch ant s =
      ((((if ant then { s with clk := { s.clk with srcAnt := x, swAnt := none } }
          else { s with clk := { s.clk with srcCore := x, swCore := none } } : State).setFld R.CLK_LOCK (8 + b2n ant) 1 0).flag R.CLK_STATUS 1).bump
        R.clock_CNT_SWITCH).jlog (if ant then { s with clk := { s.clk with srcAnt := x, swAnt := none } }
          else { s with clk := { s.clk with srcCore := x, swCore := none } } : State).now 104 0 0x0701
        [(0, 1, b2n ant), (1, 1, b2n (if ant then s.clk.srcAnt else s.clk.srcCore)), (2, 1, b2n x), (3, 1, 1)] := by
  rw [clkSwitch]
  simp only [hx]
  exact if_neg (ne_true_of_eq_false hm)

/-- A domain that is ready is up and journaled, and what it holds goes on: its cores, or its bay. -/
theorem domainReady_waking {s a u : State} {d : Fin 95} {x : Fin 3} (h : s.dom d.val = .waking x)
    (ha : ((s.advanceTo (s.wakeEnd d.val)).setDom d.val .up).flag R.PWR_STATUS 2 = a)
    (hu : (a.bump R.CNT_WAKE).jlogW (a.domSealed d) a.now 104 0 0x0702
      [(0, 1, (domName d).1), (1, 1, (domName d).2), (2, 1, 1), (3, 1, x.val)] [] = u) :
    domainReady d s = if d.val < 72 then (tileCores d.val).foldl (fun (y : State) k =>
        (y.setCore k ((y.core k).powered y.coreCycles (if y.cstat k.val = .halted then .halted else .idle))).coreReady k) u
      else if d.val < 80 then u.judgeBay (bayOf (d.val - 72)) else u := by
  subst ha hu
  rw [domainReady, h]
  simp only [beq_iff_eq]

/-- Settles O29: each clock, level, vote, domain and register access goes by what is under way and by what the write names. -/
theorem clocksAndRegisters : Obligations.ClocksAndRegisters := by
  unfold Obligations.ClocksAndRegisters
  intro s v q ant b off o d
  refine ⟨fun ha => ?asleep, fun ha => ?source, fun h => ?noSwitch, fun x hx hm => ?switch, ?pll, fun ha => ?perf, fun h => ?settled, fun h => ?settles,
    fun ha => ⟨fun t ht => ?vote, fun ht => ?noVote⟩, ?domain, fun ha => ?write, fun r ha hr hg => ?pair, fun hr => ?noRow, fun r hr hg => ?noPair,
    fun h => ?noGuard, fun p hp => ?guard, ?read⟩
  case asleep =>
    exact ⟨congrArg Host.Outcome.next (State.blockWrite_off ha _ _), congrArg Host.Outcome.next (State.blockWrite_off ha _ _),
      congrArg Host.Outcome.next (State.blockWrite_off ha _ _), congrArg Host.Outcome.next (State.blockWrite_off ha _ _),
      congrArg Host.Outcome.next (State.awake_off ha _), congrArg Host.Outcome.next (State.awake_off ha _),
      congrArg Host.Outcome.next (State.awake_off ha _), congrArg Host.Outcome.next (State.awake_off ha _)⟩
  case source =>
    intro u
    have he : exec (.clkSrcWrite v q) s = .next (clkSrcWrite v q u) := congrArg Host.Outcome.next (State.blockWrite_on ha _ _)
    refine ⟨fun h => ?_, fun h8 h9 => ⟨fun x h1 hq hx => ?_, fun h => ?_⟩⟩ <;> rw [he]
    · rw [clkSrcWrite]
      exact congrArg Host.Outcome.next (if_pos (Bool.or_eq_true_iff.2 h))
    · rw [clkSrcWrite_refused h8 h9 h1 hq hx]
    · rw [clkSrcWrite_taken h8 h9 h]
  case switch =>
    intro old u
    refine congrArg Host.Outcome.next ((clkSwitch_to hx hm).trans ?_)
    cases ant <;> rfl
  case pll =>
    intro sane h ha
    refine congrArg Host.Outcome.next ((State.blockWrite_on ha _ _).trans ?_)
    simp only [pllRefSelect, bitsAt_eq_div_mod]
    rfl
  case perf =>
    refine congrArg Host.Outcome.next ((State.blockWrite_on ha _ _).trans ?_)
    simp only [perfRequest, bitsAt_zero, Nat.reducePow]
  case vote =>
    refine congrArg Host.Outcome.next ((State.blockWrite_on ha _ _).trans ?_)
    rw [voteWrite, ht]
    rfl
  case noVote =>
    refine congrArg Host.Outcome.next ((State.blockWrite_on ha _ _).trans ?_)
    rw [voteWrite, ht]
    rfl
  case domain =>
    intro log
    refine ⟨fun x hx => ?_, fun x y hx => ?_, fun h => ?_, fun x hx => ?_⟩
    · intro u
      change Host.Outcome.next _ = _
      rw [domainDropDone, hx]
    · intro u
      change Host.Outcome.next _ = _
      rw [domainDropDone, hx]
    · refine ⟨?_, ?_⟩ <;> change Host.Outcome.next _ = _
      · rw [domainDropDone]
        rcases h with h | h <;> rw [h]
      · rw [domainReady]
        rcases h with h | h <;> rw [h]
    · intro a u
      have he : exec (.domainReady d) s = _ := congrArg Host.Outcome.next (domainReady_waking (a := a) (u := u) hx rfl rfl)
      refine ⟨fun h => ?_, fun h h' => ?_, fun h => ?_⟩ <;> rw [he]
      · rw [if_neg (by omega), if_neg (by omega)]
      · rw [if_neg (by omega), if_pos h']
      · rw [if_pos h]
  case write => exact congrArg Host.Outcome.next (State.awake_on ha _)
  case pair =>
    refine congrArg Host.Outcome.next ((State.awake_on ha _).trans ?_)
    rw [guardPairHold, hr]
    exact if_neg hg
  case noRow =>
    refine congrArg Host.Outcome.next (awake_eq_self ?_)
    rw [guardPairHold, hr]
  case noPair =>
    refine congrArg Host.Outcome.next (awake_eq_self ?_)
    rw [guardPairHold, hr]
    exact if_pos hg
  case read =>
    intro a ha
    have hread : exec (.latchedRead q b off) s = _ := congrArg Host.Outcome.next (State.awake_on ha _)
    have hstat : exec (.statusRead q b off) s = _ := congrArg Host.Outcome.next (State.awake_on ha _)
    refine ⟨fun h => ?_, fun h => ?_⟩ <;> rw [hread, hstat]
    · exact ⟨congrArg Host.Outcome.next (if_pos h), congrArg Host.Outcome.next (if_pos h)⟩
    · exact ⟨congrArg Host.Outcome.next (if_neg (ne_true_of_eq_false h)), congrArg Host.Outcome.next (if_neg (ne_true_of_eq_false h))⟩
  all_goals change Host.Outcome.next _ = _
  case noSwitch =>
    rw [clkSwitch]
    rcases h with h | h
    · simp only [h]
    · cases (if ant then s.clk.swAnt else s.clk.swCore) with
      | none => rfl
      | some x => exact congrArg Host.Outcome.next (if_pos h)
  case settled => rw [voltageSettle, if_neg (ne_true_of_eq_false h)]
  case settles => rw [voltageSettle, if_pos h]
  case noGuard => rw [guardWindowExpire, h]
  case guard => rw [guardWindowExpire, hp]

end Sys2Proof.Machine
end

section
/-! SUPPORT. The relation that every operation keeps, and how it passes through the shapes the model is written in. -/

namespace Sys2Proof.Machine

/-! ### What a change of the state keeps -/

/-- t follows from s with memory in canonical form, the queue and the fuses as they were. Where q holds, a core that runs in t ran in s
and keeps its FPSTAT: the reads of an instruction keep this too, what dispatches a task does not. -/
structure Keeps (q : Prop) (s t : State) : Prop where
  wf : Memory.wf s.mem.dram = true → Memory.wf t.mem.dram = true
  pending : t.pending = s.pending
  fuses : t.nv.fuses = s.nv.fuses
  core : q → ∀ k, (t.core k).run = .running → (s.core k).run = .running ∧ (t.core k).fpstat = (s.core k).fpstat

namespace Keeps
variable {q : Prop} {s t u : State}

theorem refl (s : State) : Keeps q s s := ⟨id, rfl, rfl, fun _ _ h => ⟨h, rfl⟩⟩

theorem trans (h : Keeps q s t) (g : Keeps q t u) : Keeps q s u where
  wf w := g.wf (h.wf w)
  pending := g.pending.trans h.pending
  fuses := g.fuses.trans h.fuses
  core hq k r := by
    obtain ⟨rt, et⟩ := g.core hq k r
    obtain ⟨rs, es⟩ := h.core hq k rt
    exact ⟨rs, et.trans es⟩

/-- A change of fields that are neither memory's cells, the queue, the fuses nor the cores. The fields stand as variables, so that the
state that is changed is read off the goal. -/
theorem upd {tb' trip' bcn' jrn' su' hive' mem' tw' lan' nv' coreSub' cache' ring' bays'
    ports' grid' sector' clk' boot' keeper' ranges' regs' guard' latch' readVal' freeCtr'}
    (h : Keeps q s u) (hm : mem'.dram = u.mem.dram) (hn : nv'.fuses = u.nv.fuses) :
    Keeps q s { u with
      tb := tb', trip := trip', bcn := bcn', jrn := jrn', su := su', hive := hive', mem := mem',
      tw := tw', lan := lan', nv := nv', coreSub := coreSub', cache := cache', ring := ring', bays := bays',
      ports := ports', grid := grid', sector := sector', clk := clk', boot := boot', keeper := keeper', ranges := ranges',
      regs := regs', guard := guard', latch := latch', readVal := readVal', freeCtr := freeCtr' } :=
  h.trans ⟨fun w => hm ▸ w, rfl, hn, fun _ _ r => ⟨r, rfl⟩⟩

/-- A change of the cores as well. -/
theorem updAny {tb' trip' bcn' jrn' su' hive' mem' tw' lan' nv' coreSub' cache' ring' bays'
    ports' grid' sector' clk' boot' keeper' ranges' regs' guard' latch' readVal' freeCtr' cores'}
    (h : Keeps False s u) (hm : mem'.dram = u.mem.dram) (hn : nv'.fuses = u.nv.fuses) :
    Keeps False s { u with
      tb := tb', trip := trip', bcn := bcn', jrn := jrn', su := su', hive := hive', mem := mem',
      tw := tw', lan := lan', nv := nv', coreSub := coreSub', cache := cache', ring := ring', bays := bays',
      ports := ports', grid := grid', sector := sector', clk := clk', boot := boot', keeper := keeper', ranges := ranges',
      regs := regs', guard := guard', latch := latch', readVal := readVal', freeCtr := freeCtr', cores := cores' } :=
  h.trans ⟨fun w => hm ▸ w, rfl, hn, False.elim⟩

/-- A core is put in place that does not start to run and keeps its FPSTAT. -/
theorem setRun {k c} (h : Keeps q s u) (hc : c.run = .running → (u.core k).run = .running ∧ c.fpstat = (u.core k).fpstat) :
    Keeps q s (u.setCore k c) :=
  h.trans ⟨id, rfl, rfl, fun _ j r => by
    by_cases e : j = k
    · subst e
      rw [State.core_setCore_same] at r ⊢
      exact hc r
    · rw [State.core_setCore_other _ _ _ _ e] at r ⊢
      exact ⟨r, rfl⟩⟩

theorem ite {c : Prop} [Decidable c] (ht : Keeps q s t) (hu : Keeps q s u) : Keeps q s (if c then t else u) := by
  split
  · exact ht
  · exact hu

theorem iteSnd {α : Type} {c : Prop} [Decidable c] {x y : α × State} (hx : Keeps q s x.2) (hy : Keeps q s y.2) :
    Keeps q s (if c then x else y).2 := by
  split
  · exact hx
  · exact hy

theorem iteOpt {c : Prop} [Decidable c] {x y : Option State} (hx : ∀ t ∈ x, Keeps q s t) (hy : ∀ t ∈ y, Keeps q s t) :
    ∀ t ∈ (if c then x else y), Keeps q s t := by
  split
  · exact hx
  · exact hy

theorem iteOptSnd {α : Type} {c : Prop} [Decidable c] {x y : Option (α × State)} (hx : ∀ r ∈ x, Keeps q s r.2) (hy : ∀ r ∈ y, Keeps q s r.2) :
    ∀ r ∈ (if c then x else y), Keeps q s r.2 := by
  split
  · exact hx
  · exact hy

theorem paired {α : Type} {a : α} (h : Keeps q s t) : Keeps q s (a, t).2 := h

theorem foldl {α : Type} {f : State → α → State} (hf : ∀ t a, Keeps q s t → Keeps q s (f t a)) {l : List α} (h : Keeps q s u) :
    Keeps q s (l.foldl f u) := by
  induction l generalizing u with
  | nil => exact h
  | cons a l ih => exact ih (hf _ _ h)

theorem foldlSnd {α β : Type} {f : β × State → α → β × State} (hf : ∀ p a, Keeps q s p.2 → Keeps q s (f p a).2) {l : List α} {p : β × State}
    (h : Keeps q s p.2) : Keeps q s (l.foldl f p).2 := by
  induction l generalizing p with
  | nil => exact h
  | cons a l ih => exact ih (hf _ _ h)

theorem foldRange {f : Nat → State → State} (hf : ∀ i t, Keeps q s t → Keeps q s (f i t)) {a n : Nat} (h : Keeps q s u) :
    Keeps q s (Machine.foldRange f a n u) := by
  induction n generalizing a u with
  | zero => exact h
  | succ n ih => exact ih (hf _ _ h)

theorem none : ∀ t ∈ (Option.none : Option State), Keeps q s t := fun _ h => nomatch h

theorem nonePair {α : Type} : ∀ r ∈ (Option.none : Option (α × State)), Keeps q s r.2 := fun _ h => nomatch h

theorem some (h : Keeps q s u) : ∀ t ∈ Option.some u, Keeps q s t := by
  rintro _ ⟨⟩
  exact h

theorem somePair {α : Type} {p : α × State} (h : Keeps q s p.2) : ∀ r ∈ Option.some p, Keeps q s r.2 := by
  rintro _ ⟨⟩
  exact h

theorem getD {o : Option State} (h : ∀ t ∈ o, Keeps q s t) (g : Keeps q s u) : Keeps q s (o.getD u) := by
  cases o with
  | none => exact g
  | some t => exact h t rfl

/-- Cores that differ in their event counters only run alike. -/
theorem counted {c d : CoreSt} (e : c.Counted d) (r : d.run = .running) : c.run = .running ∧ d.fpstat = c.fpstat := by
  rw [e] at r
  exact ⟨r, by rw [e]⟩

theorem mem (h : Keeps q s u) (g : MemStep u t) : Keeps q s t :=
  h.trans ⟨g.wf, by rw [g.frame], by rw [g.frame], fun _ k r => counted (g.core k) r⟩

theorem jrn (h : Keeps q s u) (g : JrnStep u t) : Keeps q s t :=
  h.trans ⟨g.wf, by rw [g.frame], by rw [g.frame], fun _ k r => counted (g.core k) r⟩

theorem guarded {b : Nat} (h : Keeps q s u) (g : GuardStep b u t) : Keeps q s t :=
  h.trans ⟨g.wf, by rw [g.frame], by rw [g.frame], fun _ k r => counted (g.core k) r⟩

end Keeps

/-- The state that an access leaves, whatever its result. -/
def MRes.state {α : Type} : MRes α → State
  | .ok _ s => s
  | .exc _ s => s
  | .wait s => s

namespace Keeps
variable {q : Prop} {s t u : State}

theorem iteState {α : Type} {c : Prop} [Decidable c] {x y : MRes α} (hx : Keeps q s x.state) (hy : Keeps q s y.state) :
    Keeps q s (if c then x else y).state := by
  split
  · exact hx
  · exact hy

theorem okay {α : Type} {v : α} (h : Keeps q s t) : Keeps q s (MRes.ok v t).state := h

theorem raised {α : Type} {e : Exc} (h : Keeps q s t) : Keeps q s (MRes.exc e t : MRes α).state := h

theorem waiting {α : Type} (h : Keeps q s t) : Keeps q s (MRes.wait t : MRes α).state := h

theorem ok {α : Type} {r : MRes α} {v : α} (h : Keeps q s r.state) (e : r = .ok v t) : Keeps q s t := by
  subst e
  exact h

theorem excd {α : Type} {r : MRes α} {v : Exc} (h : Keeps q s r.state) (e : r = .exc v t) : Keeps q s t := by
  subst e
  exact h

theorem waits {α : Type} {r : MRes α} (h : Keeps q s r.state) (e : r = .wait t) : Keeps q s t := by
  subst e
  exact h

theorem andThen {α β : Type} {r : MRes α} {f : α → State → MRes β} (h : Keeps q s r.state)
    (hf : ∀ v t, Keeps q s t → Keeps q s (f v t).state) : Keeps q s (r.andThen f).state := by
  cases r with
  | ok v t => exact hf v t h
  | exc e t => exact h
  | wait t => exact h

end Keeps

/-- What an engine's instruction answers leaves a state of the kind, if it leaves one. -/
def AntRes.Each (P : State → Prop) : AntRes → Prop
  | .fault _ => True
  | .next s => P s
  | .branch s _ _ => P s
  | .stay s => P s

end Sys2Proof.Machine
end

section
/-! SUPPORT. One frame rule for each operation of registers, memory, caches, the journal and guard pairs: what it leaves of memory, the queue and the fuses (`Keeps`). -/

namespace Sys2Proof.Machine

variable {q : Prop} {s t u : State}

/-! ### The named operations over registers, free values, memory cells, time and the records every unit keeps -/

theorem Keeps.free {w} (h : Keeps q s u) : Keeps q s (u.free w).2 := h.mem (free_step ..)
theorem Keeps.awake {f} (h : Keeps q s u) (hf : ∀ t, Keeps q s t → Keeps q s (f t)) : Keeps q s (u.awake f) := .ite (hf _ h) h
theorem Keeps.wr {key v} (h : Keeps q s u) : Keeps q s (u.wr key v) := .upd h rfl rfl
theorem Keeps.setFld {key lo w v} (h : Keeps q s u) : Keeps q s (u.setFld key lo w v) := h.wr
theorem Keeps.flag {key i} (h : Keeps q s u) : Keeps q s (u.flag key i) := h.setFld
theorem Keeps.bump {key} (h : Keeps q s u) : Keeps q s (u.bump key) := h.wr
theorem Keeps.bumpSat {key lo w} (h : Keeps q s u) : Keeps q s (u.bumpSat key lo w) := h.setFld
theorem Keeps.peak {key lo w v} (h : Keeps q s u) : Keeps q s (u.peak key lo w v) := .ite h.setFld h
theorem Keeps.tripPut {i v} (h : Keeps q s u) : Keeps q s (u.tripPut i v) := .upd h rfl rfl
theorem Keeps.advanceTo {t'} (h : Keeps q s u) : Keeps q s (u.advanceTo t') := .ite (.upd h rfl rfl) h
theorem Keeps.setCore {k c} (h : Keeps False s u) : Keeps False s (u.setCore k c) := .updAny h rfl rfl
theorem Keeps.setCc {k c} (h : Keeps q s u) : Keeps q s (u.setCc k c) := h.mem (setCc_step ..)
theorem Keeps.setBay {b x} (h : Keeps q s u) : Keeps q s (u.setBay b x) := .upd h rfl rfl
theorem Keeps.setRt {t' x} (h : Keeps q s u) : Keeps q s (u.setRt t' x) := .upd h rfl rfl
theorem Keeps.setCstat {k x} (h : Keeps q s u) : Keeps q s (u.setCstat k x) := .upd h rfl rfl

/-! ### Regions and state lines, and what the berths of the state unit hold -/

theorem Keeps.setSline {line m} (h : Keeps q s u) : Keeps q s (u.setSline line m) := .upd h rfl rfl

/-! ### The raw operations of the memory controllers over DRAM -/

theorem Keeps.setBt {b e'} (h : Keeps False s u) : Keeps False s (u.setBt b e') := .upd h rfl rfl
theorem Keeps.setMemc {ch m} (h : Keeps q s u) : Keeps q s (u.setMemc ch m) := h.mem (setMemc_step ..)
theorem Keeps.dramPut {ch cl mask data} (h : Keeps q s u) : Keeps q s (u.dramPut ch cl mask data) := h.mem (dramPut_step ..)
theorem Keeps.setPoison {ch cl p} (h : Keeps q s u) : Keeps q s (u.setPoison ch cl p) := h.mem (setPoison_step ..)

theorem Keeps.arrayWrite {ch cl mask data poison} (h : Keeps q s u) : Keeps q s (u.arrayWrite ch cl mask data poison) :=
  h.mem (arrayWrite_step ..)

theorem Keeps.setCopy {i c} (h : Keeps q s u) : Keeps q s (u.setCopy i c) := h.mem (setCopy_step ..)
theorem Keeps.corrDone {ch cl corr} (h : Keeps q s u) : Keeps q s (u.corrDone ch cl corr) := h.mem (corrDone_step ..)

theorem Keeps.performWrite {ch cl mask data poison corr} (h : Keeps q s u) : Keeps q s (u.performWrite ch cl mask data poison corr) :=
  h.mem (performWrite_step ..)

theorem Keeps.drainOne {ch} (h : Keeps q s u) : Keeps q s (u.drainOne ch) := h.mem (drainOne_step ..)

theorem Keeps.chanWrite {ch cl mask data poison whole} (h : Keeps q s u) : Keeps q s (u.chanWrite ch cl mask data poison whole) :=
  h.mem (chanWrite_step ..)

theorem Keeps.sealChan {pa ch cl mask data poison} (h : Keeps q s u) : Keeps q s (u.sealChan pa ch cl mask data poison) :=
  h.mem (sealChan_step ..)

theorem Keeps.writePa {pa mask data poison} (h : Keeps q s u) : Keeps q s (u.writePa pa mask data poison) := h.mem (writePa_step ..)

/-! ### The caches, the directory and the home slices -/

theorem Keeps.sendCoh {m} (h : Keeps q s u) : Keeps q s (u.sendCoh m) := h.mem (sendCoh_step ..)
theorem Keeps.setDir {line e'} (h : Keeps q s u) : Keeps q s (u.setDir line e') := h.mem (setDir_step ..)
theorem Keeps.setTxn {line t'} (h : Keeps q s u) : Keeps q s (u.setTxn line t') := h.mem (setTxn_step ..)
theorem Keeps.l3Map {line f} (h : Keeps q s u) : Keeps q s (u.l3Map line f) := h.mem (l3Map_step ..)
theorem Keeps.l3Drop {line} (h : Keeps q s u) : Keeps q s (u.l3Drop line) := h.mem (l3Drop_step ..)

theorem Keeps.l3PutWay {t' line w data dirty poison} (h : Keeps q s u) : Keeps q s (u.l3PutWay t' line w data dirty poison) :=
  h.mem (l3PutWay_step ..)

theorem Keeps.l3Alloc {line data dirty poison} (h : Keeps q s u) : Keeps q s (u.l3Alloc line data dirty poison) := h.mem (l3Alloc_step ..)
theorem Keeps.l3Look {line} (h : Keeps q s u) : Keeps q s (u.l3Look line) := h.mem (l3Look_step ..)
theorem Keeps.memoryFill {line alloc} (h : Keeps q s u) : Keeps q s (u.memoryFill line alloc).2 := h.mem (memoryFill_step ..)

theorem Keeps.homeWrite {line mask data alloc poison} (h : Keeps q s u) : Keeps q s (u.homeWrite line mask data alloc poison) :=
  h.mem (homeWrite_step ..)

theorem Keeps.l2Set' {k x} (h : Keeps q s u) : Keeps q s (u.l2Set' k x) := h.setCc
theorem Keeps.ebFree {k line} (h : Keeps q s u) : Keeps q s (u.ebFree k line) := h.setCc

theorem Keeps.snoopMask {mask kind line spare} (h : Keeps q s u) : Keeps q s (u.snoopMask mask kind line spare).2 :=
  h.mem (snoopMask_step ..)

theorem Keeps.ebSend {k line} (h : Keeps False s u) : Keeps False s (u.ebSend k line) := by
  unfold State.ebSend
  split
  · exact .ite h h.setCc.sendCoh
  · exact h

theorem Keeps.ebSendAll (h : Keeps False s u) : Keeps False s u.ebSendAll := .foldl (fun _ _ h => .foldl (fun _ _ h => h.ebSend) h) h
theorem Keeps.l2Evict {k x} (h : Keeps q s u) : Keeps q s (u.l2Evict k x) := h.mem (l2Evict_step ..)
theorem Keeps.l2Touch {k line way} (h : Keeps q s u) : Keeps q s (u.l2Touch k line way) := h.mem (l2Touch_step ..)

theorem Keeps.l1Fill {k line} (h : Keeps q s u) : Keeps q s (u.l1Fill k line) := by
  unfold State.l1Fill
  dsimp only
  split
  · exact h.setCc
  · split
    · exact h
    · exact h.setCc

theorem Keeps.l2Fill {k line st data poison key} (h : Keeps q s u) : Keeps q s (u.l2Fill k line st data poison key) :=
  h.mem (l2Fill_step ..)

theorem Keeps.ebRecall {k line} (h : Keeps q s u) : Keeps q s (u.ebRecall k line) := by
  unfold State.ebRecall
  split
  · exact .ite h h.ebFree.l2Fill
  · exact h

theorem Keeps.dirTouch {t' line way} (h : Keeps q s u) : Keeps q s (u.dirTouch t' line way) := h.mem (dirTouch_step ..)

theorem Keeps.dirRoom {line} (h : Keeps q s u) : ∀ t ∈ u.dirRoom line, Keeps q s t := by
  unfold State.dirRoom
  split
  · exact .some h.dirTouch
  · split
    · exact .none
    · split
      · exact .some h
      · refine .some (.setDir ?_)
        split
        · exact h.bump.snoopMask.homeWrite
        · exact h.bump.snoopMask

theorem Keeps.setMshr {k line m} (h : Keeps q s u) : Keeps q s (u.setMshr k line m) := h.mem (setMshr_step ..)
theorem Keeps.mshrDrop {k line} (h : Keeps q s u) : Keeps q s (u.mshrDrop k line) := .ite h.setMshr h
theorem Keeps.homeOpen {line} (h : Keeps q s u) : ∀ t ∈ u.homeOpen line, Keeps q s t := h.l3Look.dirRoom
theorem Keeps.putDir {e'} (h : Keeps q s u) : Keeps q s (u.putDir e') := h.mem (putDir_step ..)

theorem Keeps.cohRdS {k line fetch alloc} (h : Keeps q s u) : ∀ r ∈ u.cohRdS k line fetch alloc, Keeps q s r.2 := by
  unfold State.cohRdS
  split
  · exact .nonePair
  next _ e =>
    dsimp only
    split
    · split
      · split
        · exact .somePair (.mshrDrop (.l2Fill (.putDir (.ite ((h.homeOpen _ e).snoopMask.homeWrite) ((h.homeOpen _ e).snoopMask)))))
        · exact .somePair ((h.homeOpen _ e).snoopMask.memoryFill.putDir.l2Fill.mshrDrop)
      · exact .somePair ((h.homeOpen _ e).memoryFill.putDir.l2Fill.mshrDrop)
    · split
      · exact .somePair ((h.homeOpen _ e).memoryFill.putDir.l2Fill.mshrDrop)
      · exact .somePair ((h.homeOpen _ e).memoryFill.putDir.l2Fill.mshrDrop)

theorem Keeps.cohRdX {k line zero alloc} (h : Keeps q s u) : ∀ r ∈ u.cohRdX k line zero alloc, Keeps q s r.2 := by
  unfold State.cohRdX
  split
  · exact .nonePair
  next _ e =>
    refine .somePair (.mshrDrop ?_)
    refine .l2Fill (.putDir ?_)
    split
    · split
      · exact (h.homeOpen _ e).snoopMask
      · exact h.homeOpen _ e
    · split
      · split
        · exact (h.homeOpen _ e).snoopMask
        · exact h.homeOpen _ e
      · refine .memoryFill ?_
        split
        · exact (h.homeOpen _ e).snoopMask
        · exact h.homeOpen _ e

theorem Keeps.cohRdNa {line} (h : Keeps q s u) : Keeps q s (u.cohRdNa line).2 := h.mem (cohRdNa_step ..)

theorem Keeps.cohWrNa {line mask data keep alloc poison} (h : Keeps q s u) : Keeps q s (u.cohWrNa line mask data keep alloc poison) :=
  h.mem (cohWrNa_step ..)

theorem Keeps.cohCmo {line clean inv force} (h : Keeps q s u) : Keeps q s (u.cohCmo line clean inv force).2 := h.mem (cohCmo_step ..)

/-! ### The system registers a core holds, by number and bank, and its event counters -/

theorem Keeps.evDraw {k} (h : Keeps False s u) : Keeps False s (u.evDraw k) := .setCore (.ite h (.foldl (fun _ _ h => h.free.setCore) h))
theorem Keeps.count {k e' n} (h : Keeps q s u) : Keeps q s (u.count k e' n) := h.mem (count_step ..)
theorem Keeps.loadSys {k} (h : Keeps False s u) : Keeps False s (u.loadSys k) := h.setCore

/-! ### The transactions of the home slices, message by message, and what closes one that another request for its line waits for -/

theorem Keeps.reqSet {q' line m} (h : Keeps q s u) : Keeps q s (u.reqSet q' line m) := h.mem (reqSet_step ..)

theorem Keeps.reqOpen {q' line kind fallback zero} (h : Keeps False s u) : Keeps False s (u.reqOpen q' line kind fallback zero) := by
  unfold State.reqOpen
  split
  · exact h.reqSet
  · exact h.reqSet

theorem Keeps.outDrop {p} (h : Keeps q s u) : Keeps q s (u.outDrop p) := h.mem (outDrop_step ..)
theorem Keeps.txnSet {x st} (h : Keeps q s u) : Keeps q s (u.txnSet x st) := h.mem (txnSet_step ..)
theorem Keeps.txnReply {x d} (h : Keeps q s u) : Keeps q s (u.txnReply x d) := h.mem (txnReply_step ..)
theorem Keeps.homeQueue {x} (h : Keeps q s u) : Keeps q s (u.homeQueue x) := h.mem (homeQueue_step ..)
theorem Keeps.homeDefer {x} (h : Keeps q s u) : Keeps q s (u.homeDefer x) := h.mem (homeDefer_step ..)
theorem Keeps.homeAdmit {x} (h : Keeps q s u) : Keeps q s (u.homeAdmit x) := h.mem (homeAdmit_step ..)
theorem Keeps.homeNext (h : Keeps q s u) : Keeps q s u.homeNext := h.mem (homeNext_step ..)
theorem Keeps.wbStales {x} (h : Keeps q s u) : Keeps q s (u.wbStales x) := h.mem (wbStales_step ..)
theorem Keeps.unpark {victim} (h : Keeps q s u) : Keeps q s (u.unpark victim) := h.mem (unpark_step ..)
theorem Keeps.snoopsBack {x} (h : Keeps q s u) : Keeps q s (u.snoopsBack x) := h.mem (snoopsBack_step ..)
theorem Keeps.snoopMsg {k line kind} (h : Keeps q s u) : Keeps q s (u.snoopMsg k line kind) := h.mem (snoopMsg_step ..)
theorem Keeps.protoErr {line} (h : Keeps q s u) : Keeps q s (u.protoErr line) := h.bump
theorem Keeps.doneIn {k l} (h : Keeps q s u) : Keeps q s (u.doneIn k l) := h.mem (doneIn_step ..)
theorem Keeps.dataIn {k l data grant sub} (h : Keeps q s u) : Keeps q s (u.dataIn k l data grant sub) := h.mem (dataIn_step ..)
theorem Keeps.grantIn {k l} (h : Keeps q s u) : Keeps q s (u.grantIn k l) := h.mem (grantIn_step ..)
theorem Keeps.memArrive {x data sub} (h : Keeps q s u) : Keeps q s (u.memArrive x data sub) := h.mem (memArrive_step ..)
theorem Keeps.drainLine {line} (h : Keeps q s u) : Keeps q s (u.drainLine line) := h.mem (drainLine_step ..)
theorem Keeps.agentOrder {line} (h : Keeps q s u) : Keeps q s (u.agentOrder line) := h.mem (agentOrder_step ..)
theorem Keeps.naReadLine {line} (h : Keeps False s u) : Keeps False s (u.naReadLine line).2 := h.agentOrder.cohRdNa
theorem Keeps.naWriteIn {pa n v} (h : Keeps q s u) : Keeps q s (u.naWriteIn pa n v) := h.mem (naWriteIn_step ..)
theorem Keeps.l1Maybe {k line} (h : Keeps q s u) : Keeps q s (u.l1Maybe k line) := .ite h.l1Fill h
theorem Keeps.recall {k line} (h : Keeps q s u) : Keeps q s (u.recall k line) := .ite h.ebRecall.count h

theorem Keeps.coreNack {k line kind zero flag} (h : Keeps q s u) : Keeps q s (u.coreNack k line kind zero flag) := by
  unfold State.coreNack
  dsimp only
  split
  · exact h.bump.setMshr.count
  · exact .ite h (.ite h.bump.setMshr.count (.ite h h.setMshr.count.homeQueue))

/-! ### Journal records and their three destinations -/

theorem Keeps.linkSend {m} (h : Keeps q s u) : Keeps q s (u.linkSend m) := h.jrn (linkSend_step ..)

theorem Keeps.jlogFull {stamp station unit type payload full} (h : Keeps q s u) :
    Keeps q s (u.jlogFull stamp station unit type payload full) :=
  h.jrn (jlogFull_step ..)

theorem Keeps.jlog {stamp station unit type fields} (h : Keeps q s u) : Keeps q s (u.jlog stamp station unit type fields) :=
  h.jrn (jlog_step ..)

theorem Keeps.jlogW {isSealed stamp station unit type plain masked} (h : Keeps q s u) :
    Keeps q s (u.jlogW isSealed stamp station unit type plain masked) :=
  h.jrn (jlogW_step ..)

theorem NvState.bookRoom_fuses (v : NvState) : v.bookRoom.fuses = v.fuses := by
  unfold NvState.bookRoom
  split
  · rfl
  · rfl

theorem Keeps.bookAdd {kind unit sub coff} (h : Keeps q s u) : Keeps q s (u.bookAdd kind unit sub coff) :=
  .upd h rfl (NvState.bookRoom_fuses _)

theorem Keeps.judgeWorn {part unit sub coff} (h : Keeps q s u) : Keeps q s (u.judgeWorn part unit sub coff) :=
  .jlog (.flag (.bookAdd (.upd h rfl rfl)))

theorem Keeps.voteFixCopy {i v c} (h : Keeps q s u) : Keeps q s (u.voteFixCopy i v c) := by
  unfold State.voteFixCopy
  refine .ite ?_ h
  refine .ite ?_ ?_
  · refine .judgeWorn (.jlog ?_)
    split <;> exact .flag (.upd h rfl rfl)
  · refine .jlog ?_
    split <;> exact .flag (.upd h rfl rfl)

theorem Keeps.tripRead {i} (h : Keeps q s u) : ∀ r ∈ u.tripRead i, Keeps q s r.2 := by
  unfold State.tripRead
  split
  · exact .nonePair
  · exact .iteOptSnd (.somePair h) (.somePair h.voteFixCopy.voteFixCopy.voteFixCopy.paired)

theorem Keeps.spareIn {kind old new place} (h : Keeps False s u) : Keeps False s (u.spareIn kind old new place) := h.flag.jlog

/-! ### Guard pairs of the register blocks -/

theorem Keeps.guardFail {b cause off q' v} (h : Keeps q s u) : Keeps q s (u.guardFail b cause off q' v) := h.guarded (guardFail_step ..)
theorem Keeps.loneWrite {b off q' v} (h : Keeps q s u) : Keeps q s (u.loneWrite b off q' v) := .ite h h.guardFail
theorem Keeps.guardClear {b} (h : Keeps q s u) : Keeps q s (u.guardClear b) := h.guarded (guardClear_step ..)

theorem Keeps.guardExpire {b} (h : Keeps q s u) : Keeps q s (u.guardExpire b) := by
  unfold State.guardExpire
  split
  · exact h
  · exact .ite h.guardClear.guardFail h

theorem Keeps.guardBreak {b} (h : Keeps q s u) : Keeps q s (u.guardBreak b) := by
  unfold State.guardBreak
  dsimp only
  split
  · exact h.guardExpire
  · exact h.guardExpire.guardClear.guardFail

theorem Keeps.blockWrite {b f} (h : Keeps q s u) (hf : ∀ t, Keeps q s t → Keeps q s (f t)) : Keeps q s (u.blockWrite b f) :=
  h.awake fun _ h => hf _ h.guardBreak

end Sys2Proof.Machine
end

section
/-! SUPPORT. One frame rule for each operation of the state unit, the beacon, the pins and the power domains: what it leaves of memory, the queue and the fuses (`Keeps`). -/

namespace Sys2Proof.Machine

variable {q : Prop} {s t u : State}

/-! ### The state unit -/

theorem Keeps.sideAdd {x} (h : Keeps q s u) : Keeps q s (u.sideAdd x) := .peak (.upd h rfl rfl)
theorem Keeps.sideKeep {p} (h : Keeps q s u) : Keeps q s (u.sideKeep p) := .upd h rfl rfl
theorem Keeps.sideBit {line} (h : Keeps q s u) : Keeps q s (u.sideBit line) := h.setSline
theorem Keeps.setTouch {n l} (h : Keeps q s u) : Keeps q s (u.setTouch n l) := .upd h rfl rfl
theorem Keeps.touchLost {n line} (h : Keeps q s u) : Keeps q s (u.touchLost n line) := h.setTouch
theorem Keeps.digXor {f x} (h : Keeps q s u) : Keeps q s (u.digXor f x) := .upd h rfl rfl

theorem Keeps.settlePend {line} (h : Keeps q s u) : Keeps q s (u.settlePend line) := by
  unfold State.settlePend
  refine .ite h ?_
  dsimp only
  split
  · split
    · exact h.setSline
    · exact h.setSline
    · exact .ite h.setSline h.setSline
    · exact h.setSline
    · exact .ite h (.ite h.setSline h.digXor.setSline)
  · exact .ite h.setSline h

theorem Keeps.settleSide {line x} (h : Keeps q s u) : Keeps q s (u.settleSide line x) := by
  unfold State.settleSide
  split
  · exact h
  · split
    · exact h.sideKeep
    · exact h.sideKeep
    · exact .ite h h.setSline.sideKeep
    · exact h
    · exact h

theorem Keeps.settle {line} (h : Keeps q s u) : Keeps q s (u.settle line) :=
  .ite (.sideBit (.foldl (fun _ _ h => h.settleSide) h.settlePend)) h.settlePend

theorem Keeps.stRead {t' line} (h : Keeps q s u) : Keeps q s (u.stRead t' line).2 := by
  unfold State.stRead
  dsimp only
  split
  · exact h.settle
  · split
    · exact h.settle
    · split
      · exact h.settle
      · exact h.settle

theorem Keeps.collision {win lose line second done} (h : Keeps q s u) : Keeps q s (u.collision win lose line second done) :=
  h.bump.flag.jlogW

theorem Keeps.takeSlot {t' f carried line d} (h : Keeps q s u) : Keeps q s (u.takeSlot t' f carried line d) := h.setSline

theorem Keeps.placeFirst {t' f carried line d} (h : Keeps q s u) : Keeps q s (u.placeFirst t' f carried line d).2 := by
  unfold State.placeFirst
  dsimp only
  split
  · exact h.takeSlot
  · split
    · exact h
    · split
      · exact h.sideAdd.sideBit
      · exact h.sideAdd.takeSlot.sideBit

theorem Keeps.meetSide {t' f carried line tl x d} (h : Keeps q s u) : Keeps q s (u.meetSide t' f carried line tl x d).2 := by
  unfold State.meetSide
  dsimp only
  split
  · refine .placeFirst (.ite ?_ ?_)
    · refine .sideBit (.sideKeep ?_)
      refine .collision ?_
      split
      · exact h.touchLost
      · exact h
    · refine .upd ?_ rfl rfl
      refine .collision ?_
      split
      · exact h.touchLost
      · exact h
  · split
    · exact h.touchLost.collision.sideAdd.sideBit
    · exact h.touchLost.collision

theorem Keeps.firstWrite {t' f carried line tl d} (h : Keeps q s u) : Keeps q s (u.firstWrite t' f carried line tl d).2 := by
  unfold State.firstWrite
  refine .iteSnd ?_ ?_
  · refine .iteSnd ?_ (.iteSnd h.touchLost.collision.sideAdd.sideBit.paired h.touchLost.collision.paired)
    refine .iteSnd ?_ ?_
    · refine .paired (.takeSlot ?_)
      refine .ite ?_ ?_
      · refine .digXor (.collision ?_)
        split
        · exact h.touchLost
        · exact h
      · refine .collision ?_
        split
        · exact h.touchLost
        · exact h
    · refine .iteSnd ?_ ?_
      · refine .paired (.sideBit ?_)
        refine .takeSlot (.sideAdd ?_)
        refine .collision ?_
        split
        · exact h.touchLost
        · exact h
      · refine .paired (.takeSlot ?_)
        refine .collision ?_
        split
        · exact h.touchLost
        · exact h
  · split
    · exact h.meetSide
    · exact h.placeFirst

theorem Keeps.stWrite {t' f carried tl line mask data} (h : Keeps q s u) : Keeps q s (u.stWrite t' f carried tl line mask data).2 := by
  unfold State.stWrite
  refine .iteSnd h.settle.setSline.paired ?_
  split
  · exact .paired (.upd h.settle rfl rfl)
  · exact .iteSnd h.settle.paired h.settle.setTouch.firstWrite

theorem Keeps.foreignWrite {addr} (h : Keeps False s u) : Keeps False s (u.foreignWrite addr) := h.flag.bump.jlogW

theorem Keeps.agentRead {line} (h : Keeps False s u) : Keeps False s (u.agentRead line).2 := by
  unfold State.agentRead
  split
  · exact h.flag
  · exact h.stRead

theorem Keeps.stCommitDirect {line d tag} (h : Keeps False s u) : Keeps False s (u.stCommitDirect line d tag) := h.settle.setSline

theorem Keeps.walkLine {e' x} (h : Keeps False s u) : Keeps False s (u.walkLine e' x) := by
  unfold State.walkLine
  split
  · exact .ite h.digXor.setSline.settle h.settle
  · exact h.settle

theorem Keeps.walkRun {e'} (h : Keeps False s u) : Keeps False s (u.walkRun e') :=
  .ite (.upd (.setTouch (.foldl (fun _ _ h => h.sideBit) (.sideKeep (.foldl (fun _ _ h => h.walkLine) h)))) rfl rfl)
    (.upd (.foldl (fun _ _ h => h.walkLine) h) rfl rfl)

theorem Keeps.addWalk {e'} (h : Keeps q s u) : Keeps q s (u.addWalk e') := .upd h rfl rfl
theorem Keeps.sweep (h : Keeps False s u) : Keeps False s u.sweep := .ite h (.upd (.foldl (fun _ _ h => h.settle) h) rfl rfl)

theorem Keeps.walkCmd {t' frame} (h : Keeps False s u) : Keeps False s (Machine.walkCmd t' frame u) := by
  unfold Machine.walkCmd
  split
  · exact h.walkRun
  · exact h

theorem Keeps.dbgMetaRead {q'} (h : Keeps q s u) : Keeps q s (Machine.dbgMetaRead q' u) := by
  unfold Machine.dbgMetaRead
  refine .flag (.upd ?_ rfl rfl)
  split
  · exact h.free
  · exact h

/-! ### The timebase corrections, the start of the beacon, alignment to BCN_IN and input staging -/

theorem Keeps.rateApply {r clamped} (h : Keeps q s u) : Keeps q s (u.rateApply r clamped) := .jlog (.upd h rfl rfl)

theorem Keeps.tbRateWrite {v} (h : Keeps q s u) : Keeps q s (Machine.tbRateWrite v u) :=
  .ite (.upd (.ite h.wr.flag h.wr) rfl rfl) (.rateApply (.ite h.wr.flag h.wr))

theorem Keeps.taiApply {v} (h : Keeps q s u) : Keeps q s (u.taiApply v) := .jlog (.flag (.tripPut (.upd h rfl rfl)))
theorem Keeps.taiWrite {lo} (h : Keeps q s u) : Keeps q s (Machine.taiWrite lo u) := .ite (.upd h.wr rfl rfl) h.wr.taiApply
theorem Keeps.epochWrite {lo} (h : Keeps q s u) : Keeps q s (Machine.epochWrite lo u) := .ite h.flag h.wr.tripPut
theorem Keeps.firstTick {n} (h : Keeps q s u) : Keeps q s (u.firstTick n) := .upd h rfl rfl
theorem Keeps.startBeacon (h : Keeps q s u) : Keeps q s u.startBeacon := .ite h h.firstTick
theorem Keeps.beaconRun {v} (h : Keeps q s u) : Keeps q s (Machine.beaconRun v u) := .ite h.wr (.ite (.upd h.wr rfl rfl) h.wr.startBeacon)
theorem Keeps.rx (h : Keeps False s u) : Keeps False s u.rx := .upd h rfl rfl
theorem Keeps.epochMove {adj e'} (h : Keeps False s u) : Keeps False s (u.epochMove adj e') := .jlog (.ite h h.tripPut)

theorem Keeps.edgeSteer {t' e'} (h : Keeps False s u) : Keeps False s (u.edgeSteer t' e') :=
  .epochMove (.ite (.flag (.upd h rfl rfl)) (.upd h rfl rfl))

theorem Keeps.edgeSeen {m} (h : Keeps False s u) : Keeps False s (u.edgeSeen m) := .upd h rfl rfl

theorem Keeps.edgeTaken {m e'} (h : Keeps False s u) : Keeps False s (u.edgeTaken m e') :=
  .edgeSteer (.ite (.jlog (.flag (.upd (.edgeSeen (.upd h rfl rfl)) rfl rfl))) (.edgeSeen (.upd h rfl rfl)))

theorem Keeps.bcnInEdge {falling} (h : Keeps False s u) : Keeps False s (Machine.bcnInEdge falling u) := by
  unfold Machine.bcnInEdge
  refine .ite h (.ite (.upd h rfl rfl) ?_)
  refine .ite (.ite (.firstTick (.tripPut (.upd (.upd h rfl rfl) rfl rfl))) (.upd h rfl rfl)) ?_
  split
  · exact .upd h rfl rfl
  · exact .edgeTaken (.upd h rfl rfl)

theorem Keeps.edgeJudge (h : Keeps False s u) : Keeps False s u.edgeJudge :=
  .ite h (.ite (.jlog (.flag (.upd (.upd h rfl rfl) rfl rfl))) (.upd h rfl rfl))

theorem Keeps.bcnInLost (h : Keeps False s u) : Keeps False s (Machine.bcnInLost u) := .ite h.advanceTo.edgeJudge h
theorem Keeps.bcnOutFall (h : Keeps False s u) : Keeps False s (Machine.bcnOutFall u) := .ite (.upd h.advanceTo rfl rfl) h
theorem Keeps.stage {p} (h : Keeps False s u) : Keeps False s (u.stage p) := .ite h (.upd (.ite h.bump.flag.jlog h) rfl rfl)

theorem Keeps.postSample {point v stamp station unit} (h : Keeps False s u) : Keeps False s (u.postSample point v stamp station unit) :=
  h.stage

theorem Keeps.bayPost {b p} (h : Keeps False s u) : Keeps False s (u.bayPost b p) := .ite h.bump.setBay.stage h
theorem Keeps.samplePost {p} (h : Keeps False s u) : Keeps False s (Machine.samplePost p u) := .ite h.bayPost h.stage

/-! ### The field pins of a bay as their owners see them -/

theorem Keeps.setEng {b e' x} (h : Keeps q s u) : Keeps q s (u.setEng b e' x) := h.setBay
theorem Keeps.setPin {b u' x} (h : Keeps q s u) : Keeps q s (u.setPin b u' x) := h.setBay
theorem Keeps.judgePin {b u'} (h : Keeps q s u) : Keeps q s (u.judgePin b u') := h.setPin
theorem Keeps.judgeBay {b} (h : Keeps q s u) : Keeps q s (u.judgeBay b) := .foldRange (fun _ _ h => h.judgePin) h
theorem Keeps.drivePin {b u' v} (h : Keeps q s u) : Keeps q s (u.drivePin b u' v) := h.setPin.judgePin
theorem Keeps.setSu {b e' u'} (h : Keeps q s u) : Keeps q s (u.setSu b e' u') := h.setEng
theorem Keeps.suDe {b e' v} (h : Keeps q s u) : Keeps q s (u.suDe b e' v) := .ite h.setSu.drivePin h.setSu
theorem Keeps.suTail {b e'} (h : Keeps q s u) : Keeps q s (u.suTail b e') := .ite h.setSu.suDe h
theorem Keeps.bayTails {b} (h : Keeps q s u) : Keeps q s (u.bayTails b) := .foldl (fun _ _ h => h.suTail) h

/-! ### Clock sources, performance levels, power domains and votes -/

theorem Keeps.setDom {d x} (h : Keeps q s u) : Keeps q s (u.setDom d x) := .upd h rfl rfl
theorem Keeps.setVoteBit {base n v} (h : Keeps q s u) : Keeps q s (u.setVoteBit base n v) := h.setFld
theorem Keeps.wakeStart {d vote} (h : Keeps q s u) : Keeps q s (u.wakeStart d vote) := .setDom (.upd h rfl rfl)

theorem Keeps.wake {d vote} (h : Keeps q s u) : Keeps q s (u.wake d vote) := by
  unfold State.wake
  split
  · exact h.wakeStart
  · exact h.setDom
  · exact h

theorem Keeps.quiesceTile {n} (h : Keeps q s u) : Keeps q s (u.quiesceTile n) := by
  refine .foldl (fun v k h => ?_) h
  extract_lets c s1 s2 s3
  have h1 : Keeps q s s1 := .foldl (fun _ _ h => h.homeWrite) h
  have h2 : Keeps q s s2 := .foldl (fun _ _ h => h.homeWrite) h1
  have h3 : Keeps q s s3 := .foldl (fun _ l h => by
    split
    · exact .ite h.setDir h
    · exact h) h2
  exact h3.setCc.setRun nofun

theorem Keeps.quiesceBay {b} (h : Keeps q s u) : Keeps q s (u.quiesceBay b) := .foldl (fun _ _ h => h.flag.jlogW) h.bayTails.setBay
theorem Keeps.dropDomain {d vote} (h : Keeps q s u) : Keeps q s (u.dropDomain d vote) := .setDom (.ite h.quiesceTile (.ite h.quiesceBay h))

theorem Keeps.follow {d vote} (h : Keeps q s u) : Keeps q s (u.follow d vote) := by
  unfold State.follow
  refine .ite h.wake (.ite (.ite h h.dropDomain) ?_)
  split
  · exact h.setDom
  · exact h

theorem Keeps.tileVote {t' v} (h : Keeps q s u) : Keeps q s (u.tileVote t' v) := h.setVoteBit.follow
theorem Keeps.tileLeft {t'} (h : Keeps q s u) : Keeps q s (u.tileLeft t') := .ite h h.tileVote
theorem Keeps.sealTile {k v} (h : Keeps q s u) : Keeps q s (u.sealTile k v) := h.setVoteBit.follow

theorem Keeps.domainDropDone {d} (h : Keeps False s u) : Keeps False s (Machine.domainDropDone d u) := by
  unfold Machine.domainDropDone
  dsimp only
  split
  · exact h.setDom.flag.jlogW
  · exact h.wakeStart.flag.jlogW
  · exact h

theorem Keeps.levelSet {l cause} (h : Keeps q s u) : Keeps q s (u.levelSet l cause) := h.setFld.flag.jlog
theorem Keeps.clkWait {b} (h : Keeps q s u) : Keeps q s (u.clkWait b) := .upd h rfl rfl

theorem Keeps.sendTarget {l} (h : Keeps q s u) : Keeps q s (u.sendTarget l).2 := by
  unfold State.sendTarget
  dsimp only
  split
  · exact .flag (.upd h.free rfl rfl)
  · exact .upd h.free rfl rfl

theorem Keeps.perfMove (h : Keeps q s u) : Keeps q s u.perfMove := .ite h.setFld.levelSet.sendTarget.clkWait h.clkWait

theorem Keeps.perfFollow {cause} (h : Keeps q s u) : Keeps q s (u.perfFollow cause) :=
  .ite h (.ite (.upd h rfl rfl) (.perfMove (.upd h rfl rfl)))

theorem Keeps.perfTick (h : Keeps False s u) : Keeps False s u.perfTick :=
  .ite (.ite (.upd h.clkWait.sendTarget.setFld.setFld rfl rfl) (.upd h.clkWait.sendTarget rfl rfl)) h

theorem Keeps.perfRequest {v} (h : Keeps q s u) : Keeps q s (Machine.perfRequest v u) := h.wr.perfFollow
theorem Keeps.voltageSettle (h : Keeps False s u) : Keeps False s (Machine.voltageSettle u) := .ite h.advanceTo.setFld.levelSet.perfMove h
theorem Keeps.denyVote {kind unit clock} (h : Keeps q s u) : Keeps q s (u.denyVote kind unit clock) := h.flag.bump.jlogW

theorem Keeps.switchStart {dm src} (h : Keeps q s u) : Keeps q s (u.switchStart dm src) :=
  .ite h (.jlog (.ite (.upd h.setFld.free rfl rfl) (.upd h.setFld.free rfl rfl)))

theorem Keeps.clkSrcWrite {v q'} (h : Keeps q s u) : Keeps q s (Machine.clkSrcWrite v q' u) := by
  unfold Machine.clkSrcWrite
  refine .ite h.flag ?_
  dsimp only
  split
  · exact h.denyVote
  · exact h.wr.switchStart.switchStart

theorem Keeps.clkSwitch {ant} (h : Keeps False s u) : Keeps False s (Machine.clkSwitch ant u) := by
  unfold Machine.clkSwitch
  dsimp only
  split
  · exact h
  · exact .ite h (.jlog (.bump (.flag (.setFld (.ite (.upd h rfl rfl) (.upd h rfl rfl))))))

theorem Keeps.pllTake {i want} (h : Keeps q s u) : Keeps q s (u.pllTake i want) :=
  .ite (.setFld (.upd h rfl rfl)) (.ite (.upd h rfl rfl) (.flag (.upd h rfl rfl)))

theorem Keeps.pllRefSelect {v} (h : Keeps q s u) : Keeps q s (Machine.pllRefSelect v u) := .foldl (fun _ _ h => h.pllTake) h.wr
theorem Keeps.measureRef {src} (h : Keeps q s u) : Keeps q s (u.measureRef src) := .ite (.upd h.free rfl rfl) h
theorem Keeps.refMove {src cause} (h : Keeps q s u) : Keeps q s (u.refMove src cause) := .jlog (.upd h.measureRef rfl rfl)
theorem Keeps.holdover (h : Keeps False s u) : Keeps False s u.holdover := h.flag.refMove
theorem Keeps.pllLoss {n} (h : Keeps False s u) : Keeps False s (u.pllLoss n) := .foldl (fun _ _ h => .ite (.flag (.upd h rfl rfl)) h) h

theorem Keeps.refLoss {refB} (h : Keeps False s u) : Keeps False s (Machine.refLoss refB u) := by
  unfold Machine.refLoss
  refine .ite (.pllLoss (.flag (.ite (.upd h rfl rfl) (.upd h rfl rfl)))) ?_
  split
  · exact .refMove (.pllLoss (.flag (.ite (.upd h rfl rfl) (.upd h rfl rfl))))
  · exact .holdover (.pllLoss (.flag (.ite (.upd h rfl rfl) (.upd h rfl rfl))))

theorem Keeps.refBack {refB} (h : Keeps False s u) : Keeps False s (u.refBack refB) :=
  .foldl (fun _ _ h => .ite h.pllTake h) (.ite (.upd h rfl rfl) (.upd h rfl rfl))

theorem Keeps.refTick (h : Keeps False s u) : Keeps False s u.refTick := by
  unfold State.refTick
  split
  · exact .ite h (.ite h.refMove h.refMove)
  · exact h

theorem Keeps.tbCtlWrite {v} (h : Keeps q s u) : Keeps q s (u.tbCtlWrite v) := by
  unfold State.tbCtlWrite
  refine .ite h.wr ?_
  split
  · exact h.wr.refMove
  · exact h.wr.flag.refMove

end Sys2Proof.Machine
end

section
/-! SUPPORT. One frame rule for each operation of Hive, switch groups and the twin unit: what it leaves of memory, the queue and the fuses (`Keeps`). -/

namespace Sys2Proof.Machine

variable {q : Prop} {s t u : State}

/-! ### Task descriptors, hops, dispatch, misses, stops and the removal of cores -/

theorem Keeps.setTdN {t' lo w v} (h : Keeps q s u) : Keeps q s (u.setTdN t' lo w v) := .upd h rfl rfl
theorem Keeps.outcome {f kind n tf} (h : Keeps q s u) : Keeps q s (u.outcome f kind n tf) := .upd h rfl rfl
theorem Keeps.accSet {f} (h : Keeps q s u) : Keeps q s (u.accSet f) := .upd h rfl rfl

theorem Keeps.missOne {stamp cause t'} (h : Keeps q s u) : Keeps q s (u.missOne stamp cause t') :=
  h.setRt.setTdN.bump.flag.accSet.outcome.jlogW

theorem Keeps.missChain {stamp n l} (h : Keeps q s u) : Keeps q s (Machine.missChain stamp n l u) := by
  induction n generalizing u l with
  | zero => exact h
  | succ n ih =>
    cases l with
    | nil => exact h
    | cons t l => exact ih (.foldl (fun _ _ h => h.missOne) h)

theorem Keeps.missSuccs {stamp t'} (h : Keeps q s u) : Keeps q s (u.missSuccs stamp t') := h.missChain
theorem Keeps.missTask {stamp cause t'} (h : Keeps False s u) : Keeps False s (u.missTask stamp cause t') := .ite h.missOne.missSuccs h
theorem Keeps.missed (h : Keeps False s u) : Keeps False s (Machine.missed u) := .ite h (.foldl (fun _ _ h => h.missTask) h.advanceTo)

theorem Keeps.deadlineLate {t'} (h : Keeps q s u) : Keeps q s (Machine.deadlineLate t' u) := by
  unfold Machine.deadlineLate
  dsimp only
  split
  · exact .ite h h.advanceTo.setRt.flag.jlogW
  · exact h

theorem Keeps.loadAdd {k n} (h : Keeps q s u) : Keeps q s (u.loadAdd k n) := .upd h rfl rfl

/-- A core that is released does not run. -/
theorem CoreSt.release_run (c : CoreSt) (n : Nat) : (c.release n).run ≠ .running := by
  dsimp only [CoreSt.release]
  split
  · nofun
  · split
    · nofun
    · nofun

theorem Keeps.freeCore {k} (h : Keeps q s u) : Keeps q s (u.freeCore k) := by
  unfold State.freeCore
  refine .tileLeft (.ite (.sealTile ?_) ?_)
  · exact .upd (.setCstat (.setRun h.loadAdd fun r => (CoreSt.release_run _ _ r).elim)) rfl rfl
  · exact .upd (.setCstat (.setRun h.loadAdd fun r => (CoreSt.release_run _ _ r).elim)) rfl rfl

theorem Keeps.svDrop {k t'} (h : Keeps q s u) : Keeps q s (u.svDrop k t') := h.setCc
theorem Keeps.svFill {k line data} (h : Keeps q s u) : Keeps q s (u.svFill k line data) := .ite h h.l2Fill.l1Maybe
theorem Keeps.windowHome {k line mask data} (h : Keeps q s u) : Keeps q s (u.windowHome k line mask data).2 := h.stWrite

theorem Keeps.svLand {k line} (h : Keeps q s u) : Keeps q s (u.svLand k line) := by
  unfold State.svLand
  split
  · exact .ite h.windowHome.ebFree h
  · exact h

theorem Keeps.windowPut {k p} (h : Keeps q s u) : Keeps q s (u.windowPut k p).2 := by
  unfold State.windowPut
  dsimp only
  split
  · exact h.svLand.recall.l2Set'.l2Touch.l1Maybe.paired
  · exact h.svLand.recall.windowHome.stRead.svFill.count.paired

theorem Keeps.svBack {k} (h : Keeps q s u) : Keeps q s (u.svBack k).2 := .foldlSnd (fun _ _ h => h.windowHome.paired) h

theorem Keeps.flushWindow {k} (h : Keeps q s u) : Keeps q s (u.flushWindow k).2 := by
  unfold State.flushWindow
  refine .svBack (.foldlSnd (fun _ _ h => h.windowPut.paired) ?_)
  exact h.setRun fun r => ⟨r, rfl⟩

theorem Keeps.letGo {t' kind} (h : Keeps q s u) : Keeps q s (u.letGo t' kind).2 := by
  unfold State.letGo
  split
  · exact h
  · exact .paired (.freeCore (.setRt (.addWalk (.svDrop (.flushWindow (.ite h.deadlineLate h))))))

theorem Keeps.abandonOne {t' cause} (h : Keeps q s u) : Keeps q s (u.abandonOne t' cause).2 := by
  unfold State.abandonOne
  split
  · exact h
  · refine .paired (.ite ?_ ?_)
    · refine .missSuccs (.outcome ?_)
      refine .accSet ?_
      split
      · exact h.letGo.flag.jlogW
      · exact h.letGo
    · refine .outcome (.accSet ?_)
      split
      · exact h.letGo.flag.jlogW
      · exact h.letGo

theorem Keeps.stopRun {n l} (h : Keeps q s u) : Keeps q s (Machine.stopRun n l u) := by
  induction n generalizing u l with
  | zero => exact h
  | succ n ih =>
    cases l with
    | nil => exact h
    | cons t l => exact ih h.flag.jlogW.abandonOne

theorem Keeps.fullStops {l} (h : Keeps q s u) : Keeps q s (u.fullStops l) := h.stopRun
theorem Keeps.takeOff {t' kind} (h : Keeps False s u) : Keeps False s (u.takeOff t' kind) := h.letGo.fullStops
theorem Keeps.abandon {t' cause} (h : Keeps False s u) : Keeps False s (u.abandon t' cause) := h.abandonOne.fullStops
theorem Keeps.doneBytes {t' k f} (h : Keeps False s u) : Keeps False s (u.doneBytes t' k f) := h.free.setTdN.setTdN.setTdN.setTdN.setTdN
theorem Keeps.gatherSet {f} (h : Keeps False s u) : Keeps False s (u.gatherSet f) := .upd h rfl rfl

theorem Keeps.gatherDone {t' k} (h : Keeps False s u) : Keeps False s (u.gatherDone t' k) := by
  unfold State.gatherDone
  refine .gatherSet ?_
  exact .ite h h.evDraw

theorem Keeps.taskDoneOn {k status} (h : Keeps False s u) : Keeps False s (u.taskDoneOn k status) :=
  .ite h.setCore.takeOff (.ite h.setCore.doneBytes.gatherDone.abandon
    (.ite h.setCore.doneBytes.gatherDone.takeOff h.setCore.doneBytes.gatherDone.takeOff.setRt))

theorem Keeps.pick {l} (h : Keeps False s u) : Keeps False s (u.pick l).2 := by
  unfold State.pick
  split
  · exact h
  · exact h.free.paired

theorem Keeps.assign {t' k} (h : Keeps False s u) : Keeps False s (u.assign t' k) := .ite h h.setRt.bump

theorem Keeps.dispatchTo {t' k} (h : Keeps False s u) : Keeps False s (u.dispatchTo t' k) :=
  .ite (.jlogW (.ite (.sealTile (.ite (.bump (.setCstat (.setRt (.setCore (.ite h.evDraw h)))))
    (.bump (.bump (.setCstat (.setRt (.setCore (.ite h.evDraw h))))))))
    (.ite (.bump (.setCstat (.setRt (.setCore (.ite h.evDraw h)))))
    (.bump (.bump (.setCstat (.setRt (.setCore (.ite h.evDraw h)))))))))
    (.ite (.sealTile (.ite (.bump (.setCstat (.setRt (.setCore (.ite h.evDraw h)))))
    (.bump (.bump (.setCstat (.setRt (.setCore (.ite h.evDraw h))))))))
    (.ite (.bump (.setCstat (.setRt (.setCore (.ite h.evDraw h))))) (.bump (.bump (.setCstat (.setRt (.setCore (.ite h.evDraw h))))))))

theorem Keeps.taskDispatch {t'} (h : Keeps False s u) : Keeps False s (Machine.taskDispatch t' u) := .ite h.dispatchTo h

theorem Keeps.dispatchSteal {t'} (h : Keeps False s u) : Keeps False s (Machine.dispatchSteal t' u) := by
  unfold Machine.dispatchSteal
  refine .ite ?_ h
  split
  · exact h.dispatchTo
  · exact h

theorem Keeps.coreReady {k} (h : Keeps False s u) : Keeps False s (u.coreReady k) := .ite (.upd h.loadSys rfl rfl) h
theorem Keeps.pinLost {k} (h : Keeps False s u) : Keeps False s (u.pinLost k) := .upd (.foldl (fun _ _ h => h.flag.jlogW) h) rfl rfl

theorem Keeps.drawReserve {removed} (h : Keeps False s u) : Keeps False s (u.drawReserve removed) := by
  unfold State.drawReserve
  split
  · exact h.flag.pinLost
  · exact .ite (.coreReady (.tileVote (.upd h.setCstat rfl rfl))) (.tileVote (.upd h.setCstat rfl rfl))

theorem Keeps.removeCore {k cause} (h : Keeps False s u) : Keeps False s (u.removeCore k cause) := h.setCstat.flag.jlog.tileLeft

theorem Keeps.coreWorn {k} (h : Keeps False s u) : Keeps False s (u.coreWorn k) := by
  unfold State.coreWorn
  split
  · exact h.removeCore
  · split
    · exact .drawReserve (.upd h.removeCore rfl rfl)
    · exact .upd h rfl rfl
  · exact h
  · exact h
  · exact .upd h rfl rfl

theorem Keeps.hiveHalt {k} (h : Keeps False s u) : Keeps False s (u.hiveHalt k) :=
  .ite (.removeCore (.ite h.abandon h)) (.drawReserve (.removeCore (.ite h.abandon h)))

theorem Keeps.planComplete {items} (h : Keeps False s u) : Keeps False s (Machine.planComplete items u) := .ite (.upd h rfl rfl) h

/-! ### The input freeze and the final digest of a frame -/

theorem Keeps.freezeLine {n line d} (h : Keeps False s u) : Keeps False s (u.freezeLine n line d) :=
  .ite h.stCommitDirect.digXor h.stCommitDirect

theorem Keeps.unstage {n} (h : Keeps False s u) : Keeps False s (u.unstage n) := .upd h rfl rfl
theorem Keeps.freezeEnd (h : Keeps False s u) : Keeps False s u.freezeEnd := .upd h rfl rfl
theorem Keeps.freezeLines {n l} (h : Keeps False s u) : Keeps False s (u.freezeLines n l) := .foldl (fun _ _ h => h.freezeLine) h
theorem Keeps.localInput {f} (h : Keeps False s u) : Keeps False s (u.localInput f) := .ite h h.outcome

theorem Keeps.inputFreeze (h : Keeps False s u) : Keeps False s (Machine.inputFreeze u) :=
  .ite h (.ite (.upd h.advanceTo.unstage rfl rfl) (.freezeEnd
    (.ite (.linkSend (.foldl (fun _ _ h => h.linkSend) h.advanceTo.unstage.freezeLines)) h.advanceTo.unstage.freezeLines)))

theorem Keeps.mirrorTake {frame off lines} (h : Keeps False s u) : Keeps False s (u.mirrorTake frame off lines) :=
  .ite h (.upd h.freezeLines rfl rfl)

theorem Keeps.mirror {frame off lines} (h : Keeps False s u) : Keeps False s (Machine.mirror frame off lines u) := .ite h.rx.mirrorTake h
theorem Keeps.mirrorFull {frame} (h : Keeps False s u) : Keeps False s (u.mirrorFull frame) := .ite h (.upd h.freezeEnd rfl rfl)
theorem Keeps.mirrorEnd {frame} (h : Keeps False s u) : Keeps False s (Machine.mirrorEnd frame u) := .ite h.rx.mirrorFull h

theorem Keeps.mirrorMiss (h : Keeps False s u) : Keeps False s (Machine.mirrorMiss u) :=
  .ite h (.freezeEnd (.localInput (.jlog (.bump (.flag (.upd h.inputFreeze.advanceTo.freezeLines rfl rfl))))))

theorem Keeps.setOwn {o} (h : Keeps False s u) : Keeps False s (u.setOwn o) := .upd h rfl rfl
theorem Keeps.digestSend {o} (h : Keeps False s u) : Keeps False s (u.digestSend o) := h.linkSend.setOwn
theorem Keeps.digestTry {f} (h : Keeps False s u) : Keeps False s (u.digestTry f) := .ite h.digestSend h
theorem Keeps.digestLatch {frame d} (h : Keeps False s u) : Keeps False s (u.digestLatch frame d) := .upd h rfl rfl
theorem Keeps.digestLog {f lo hi} (h : Keeps False s u) : Keeps False s (u.digestLog f lo hi) := h.jlog.jlog

theorem Keeps.digestFinal {frame} (h : Keeps False s u) : Keeps False s (Machine.digestFinal frame u) :=
  .ite h (.digestTry (.setOwn (.ite h.digestLatch.digestLog.flag.jlog h.digestLatch.digestLog)))

theorem Keeps.digestsTry (h : Keeps False s u) : Keeps False s u.digestsTry := .foldl (fun _ _ h => h.digestTry) h

/-! ### Roles of a twin, its heartbeat and its outputs, and the tasks due in a frame -/

theorem Keeps.sendHeartbeat (h : Keeps q s u) : Keeps q s u.sendHeartbeat := .ite h.linkSend h
theorem Keeps.joinStep {step abort t'} (h : Keeps q s u) : Keeps q s (u.joinStep step abort t') := h.jlog
theorem Keeps.joinAsk (h : Keeps q s u) : Keeps q s u.joinAsk := .joinStep (.linkSend (.upd h rfl rfl))
theorem Keeps.undue (h : Keeps q s u) : Keeps q s u.undue := .upd h rfl rfl
theorem Keeps.outputsOff (h : Keeps q s u) : Keeps q s u.outputsOff := .upd h rfl rfl
theorem Keeps.outputsSoon {t'} (h : Keeps False s u) : Keeps False s (u.outputsSoon t') := .upd h rfl rfl
theorem Keeps.handLog {status h'} (h : Keeps q s u) : Keeps q s (u.handLog status h') := h.jlog

theorem Keeps.handOff (h : Keeps q s u) : Keeps q s u.handOff := by
  unfold State.handOff
  split
  · exact h
  · exact .ite (.handLog (.flag (.upd h rfl rfl))) (.upd h rfl rfl)

theorem Keeps.joinLeave {new} (h : Keeps q s u) : Keeps q s (u.joinLeave new) := .ite h.linkSend h

theorem Keeps.setRole {new cause} (h : Keeps q s u) : Keeps q s (u.setRole new cause) := by
  unfold State.setRole
  refine .ite h (.ite ?_ ?_)
  · refine .joinAsk (.sendHeartbeat ?_)
    split
    · exact .upd (.undue (.jlog (.flag (.upd h.handOff.joinLeave rfl rfl)))) rfl rfl
    · exact .outputsOff (.undue (.jlog (.flag (.upd h.handOff.joinLeave rfl rfl))))
    · exact .outputsOff (.jlog (.flag (.upd h.handOff.joinLeave rfl rfl)))
    · exact .jlog (.flag (.upd h.handOff.joinLeave rfl rfl))
  · refine .sendHeartbeat ?_
    split
    · exact .upd (.undue (.jlog (.flag (.upd h.handOff.joinLeave rfl rfl)))) rfl rfl
    · exact .outputsOff (.undue (.jlog (.flag (.upd h.handOff.joinLeave rfl rfl))))
    · exact .outputsOff (.jlog (.flag (.upd h.handOff.joinLeave rfl rfl)))
    · exact .jlog (.flag (.upd h.handOff.joinLeave rfl rfl))

theorem Keeps.divAdd (h : Keeps False s u) : Keeps False s u.divAdd := .ite (.setRole (.upd h rfl rfl)) (.upd h rfl rfl)
theorem Keeps.resyncLog {f cause od} (h : Keeps False s u) : Keeps False s (u.resyncLog f cause od) := h.flag.bump.jlog
theorem Keeps.markDue {n} (h : Keeps False s u) : Keeps False s (u.markDue n) := .foldl (fun _ _ h => h.setRt) h

/-! ### Live parameters and switch groups -/

theorem Keeps.setSlot {i x} (h : Keeps q s u) : Keeps q s (u.setSlot i x) := .upd h rfl rfl
theorem Keeps.swOpen {v} (h : Keeps q s u) : Keeps q s (Machine.swOpen v u) := .ite h.flag (.upd h.wr.setSlot rfl rfl)

theorem Keeps.swEntVal {v} (h : Keeps q s u) : Keeps q s (Machine.swEntVal v u) := by
  unfold Machine.swEntVal
  refine .ite h.flag ?_
  split
  · exact h
  · exact .ite h.setSlot h.flag

theorem Keeps.swRefuse {i code idx} (h : Keeps q s u) : Keeps q s (u.swRefuse i code idx) := h.setSlot.flag.jlog

theorem Keeps.swArm {i f} (h : Keeps q s u) : Keeps q s (u.swArm i f).2 := by
  unfold State.swArm
  dsimp only
  split
  · exact h.setSlot.swRefuse
  · exact h.setSlot.setSlot

theorem Keeps.swArmLo {v} (h : Keeps q s u) : Keeps q s (Machine.swArmLo v u) := by
  unfold Machine.swArmLo
  refine .ite h.flag ?_
  split
  · exact h
  · exact .ite h.wr.swArm.linkSend h.wr.swArm

theorem Keeps.cancelLog {i outcome} (h : Keeps q s u) : Keeps q s (u.cancelLog i outcome) := h.jlog

theorem Keeps.swCancel {v} (h : Keeps q s u) : Keeps q s (Machine.swCancel v u) :=
  .ite h.flag (.ite h.wr.cancelLog (.ite (.ite h.wr.setSlot.cancelLog.linkSend h.wr.setSlot.cancelLog) h.wr.cancelLog))

theorem Keeps.swArmMsg {slot set last frame entries} (h : Keeps False s u) :
    Keeps False s (Machine.swArmMsg slot set last frame entries u) :=
  .ite h (.ite h.rx (.ite h.rx.setSlot.swArm (.ite h.rx.setSlot.swArm.resyncLog.setRole h.rx.setSlot.swArm.resyncLog)))

theorem Keeps.swCancelMsg {slot frame} (h : Keeps False s u) : Keeps False s (Machine.swCancelMsg slot frame u) :=
  .ite h (.ite h.rx h.rx.setSlot.cancelLog)

theorem Keeps.setRegul {st cls fld v} (h : Keeps False s u) : Keeps False s (u.setRegul st cls fld v) := .upd h rfl rfl
theorem Keeps.setThr {rule term v} (h : Keeps False s u) : Keeps False s (u.setThr rule term v) := .upd h rfl rfl

theorem Keeps.swEntry {e'} (h : Keeps False s u) : Keeps False s (u.swEntry e') := by
  unfold State.swEntry
  split
  · exact h.setTdN
  · exact h.setTdN
  · exact h.setTdN
  · exact h.wr
  · exact h.setFld
  · exact h.setThr
  · exact h.setRegul
  · exact h.wr
  · exact .upd h rfl rfl
  · exact h

theorem Keeps.exclFollow {x} (h : Keeps False s u) : Keeps False s (u.exclFollow x) := by
  unfold State.exclFollow
  refine .foldl (fun _ _ h => ?_) h
  refine .ite h (.ite ?_ (.ite h.setCstat h))
  split
  · exact h.setCstat.flag.jlog
  · exact h.flag.jlog
  · exact h.flag.jlog
  · exact h

theorem Keeps.swApply {n i} (h : Keeps False s u) : Keeps False s (u.swApply n i) :=
  .jlog (.outcome (.flag (.setSlot (.exclFollow (.foldl (fun _ _ h => h.swEntry) h)))))

theorem Keeps.swTick {n} (h : Keeps False s u) : Keeps False s (u.swTick n) := .upd (.foldl (fun _ _ h => h.swApply) h) rfl rfl

theorem Keeps.swFirst {n0} (h : Keeps False s u) : Keeps False s (u.swFirst n0) :=
  .foldl (fun _ _ h => .ite h (.ite h.setSlot (.ite h.swRefuse h))) h

/-! ### The twin unit and the leading link -/

theorem Keeps.linkState {up cause} (h : Keeps False s u) : Keeps False s (u.linkState up cause) := h.jlog
theorem Keeps.linkLost {cause} (h : Keeps False s u) : Keeps False s (u.linkLost cause) := .ite (.linkState (.flag (.upd h rfl rfl))) h
theorem Keeps.ack {seq} (h : Keeps False s u) : Keeps False s (Machine.ack seq u) := .ite h (.upd h.rx rfl rfl)
theorem Keeps.ackTimer (h : Keeps False s u) : Keeps False s (Machine.ackTimer u) := .ite h.linkSend h

theorem Keeps.handLate {l} (h : Keeps False s u) : Keeps False s (u.handLate l) := by
  unfold State.handLate
  split
  · exact .ite (.upd h rfl rfl) h
  · exact h

theorem Keeps.nak {seq} (h : Keeps False s u) : Keeps False s (Machine.nak seq u) :=
  .ite h (.ite (.linkLost (.upd h.rx rfl rfl)) (.upd (.handLate (.upd h.rx rfl rfl)) rfl rfl))

theorem Keeps.linkMessageError {unknown} (h : Keeps False s u) : Keeps False s (Machine.linkMessageError unknown u) :=
  .ite h (.ite h.linkLost h.linkSend)

theorem Keeps.linkSilence (h : Keeps False s u) : Keeps False s (Machine.linkSilence u) := .ite h.advanceTo.linkLost h

theorem Keeps.linkLaneFail {lane} (h : Keeps False s u) : Keeps False s (Machine.linkLaneFail lane u) :=
  .ite h (.ite (.linkLost (.upd (.linkSend (.upd h rfl rfl)) rfl rfl)) (.upd (.linkSend (.upd h rfl rfl)) rfl rfl))

theorem Keeps.laneMap {failed} (h : Keeps False s u) : Keeps False s (Machine.laneMap failed u) :=
  .ite h (.ite (.linkLost (.upd (.ite h.rx h.rx.linkSend) rfl rfl)) (.upd (.ite h.rx h.rx.linkSend) rfl rfl))

theorem Keeps.laneLog {lane rep} (h : Keeps False s u) : Keeps False s (u.laneLog lane rep) := h.flag.jlog
theorem Keeps.laneSwap {lane} (h : Keeps False s u) : Keeps False s (u.laneSwap lane) := .ite h (.laneLog (.upd h rfl rfl))
theorem Keeps.laneTick (h : Keeps False s u) : Keeps False s u.laneTick := .ite (.upd (.foldl (fun _ _ h => .ite h.laneSwap h) h) rfl rfl) h

theorem Keeps.linkRetrain {healthy} (h : Keeps False s u) : Keeps False s (Machine.linkRetrain healthy u) :=
  .ite h (.ite h (.foldl (fun _ _ h => h.laneLog) (.upd h rfl rfl)))

theorem Keeps.linkUp {roundTrip hello} (h : Keeps False s u) : Keeps False s (Machine.linkUp roundTrip hello u) :=
  .ite h (.ite h.linkState (.ite (.linkState (.upd h.free.free rfl rfl)) (.linkState (.upd (.upd h.free.free rfl rfl) rfl rfl))))

theorem Keeps.pjrnWrite {r} (h : Keeps False s u) : Keeps False s (u.pjrnWrite r) := .upd (.ite h.naWriteIn.bump h.naWriteIn) rfl rfl

theorem Keeps.journalMsg {recs} (h : Keeps False s u) : Keeps False s (Machine.journalMsg recs u) :=
  .ite (.foldl (fun _ _ h => h.pjrnWrite) h.rx) h

theorem Keeps.heartbeatSend (h : Keeps False s u) : Keeps False s (Machine.heartbeatSend u) := .ite h.advanceTo.sendHeartbeat h
theorem Keeps.fixT {f t'} (h : Keeps False s u) : Keeps False s (u.fixT f t') := .ite h (.upd h rfl rfl)

theorem Keeps.heartbeatWaitExpire (h : Keeps False s u) : Keeps False s (Machine.heartbeatWaitExpire u) :=
  .ite h h.advanceTo.fixT.localInput

theorem Keeps.dualLog {g side lost path} (h : Keeps False s u) : Keeps False s (u.dualLog g side lost path) := h.flag.jlog

theorem Keeps.hbSteer {h'} (h : Keeps False s u) : Keeps False s (u.hbSteer h') :=
  .edgeSteer (.ite (.fixT (.upd h rfl rfl)) (.upd h rfl rfl))

theorem Keeps.hbListen {h'} (h : Keeps False s u) : Keeps False s (u.hbListen h') := .setRole (.firstTick (.upd h.tripPut rfl rfl))
theorem Keeps.hbConfig {h'} (h : Keeps False s u) : Keeps False s (u.hbConfig h') := .ite h.setRole h
theorem Keeps.dualLost (h : Keeps False s u) : Keeps False s u.dualLost := h.setRole.divAdd

theorem Keeps.hbTaken {h'} (h : Keeps False s u) : Keeps False s (u.hbTaken h') :=
  .ite (.ite (.hbConfig (.hbListen (.upd h rfl rfl))) (.upd h rfl rfl))
    (.ite (.ite (.ite (.dualLost (.dualLog (.upd h rfl rfl))) (.dualLog (.upd h rfl rfl)))
    (.ite (.setRole (.upd h rfl rfl)) (.ite (.setRole (.upd h rfl rfl)) (.upd h rfl rfl))))
    (.ite (.hbConfig (.hbSteer (.upd h rfl rfl))) (.upd h rfl rfl)))

theorem Keeps.heartbeatMsg {h'} (h : Keeps False s u) : Keeps False s (Machine.heartbeatMsg h' u) := .ite h (.ite h.rx h.rx.hbTaken)
theorem Keeps.twinHbDrive (h : Keeps False s u) : Keeps False s (Machine.twinHbDrive u) := .ite (.upd h.advanceTo rfl rfl) h
theorem Keeps.twinHbRelease (h : Keeps False s u) : Keeps False s (Machine.twinHbRelease u) := .ite (.upd h.advanceTo rfl rfl) h

theorem Keeps.twinHbPulse {width} (h : Keeps False s u) : Keeps False s (Machine.twinHbPulse width u) :=
  .ite h (.ite h.flag (.ite h (.ite (.upd h rfl rfl) (.ite
    (.ite (.dualLost (.dualLog (.free (.upd h rfl rfl)))) (.dualLog (.free (.upd h rfl rfl)))) (.upd h rfl rfl)))))

theorem Keeps.listenWindowEnd (h : Keeps False s u) : Keeps False s (Machine.listenWindowEnd u) := by
  unfold Machine.listenWindowEnd
  split
  · exact h
  · exact .ite h (.setRole (.startBeacon (.upd h.advanceTo rfl rfl)))

theorem Keeps.outputEnable (h : Keeps False s u) : Keeps False s (Machine.outputEnable u) := by
  unfold Machine.outputEnable
  split
  · exact .upd h.advanceTo rfl rfl
  · exact h

theorem Keeps.digestMsg {frame dig od flags} (h : Keeps False s u) : Keeps False s (Machine.digestMsg frame dig od flags u) :=
  .ite (.upd h.rx rfl rfl) h

theorem Keeps.digestSendDeadline (h : Keeps False s u) : Keeps False s (Machine.digestSendDeadline u) :=
  .ite h (.ite h.advanceTo h.advanceTo.digestSend)

theorem Keeps.joinFailed {step abort} (h : Keeps False s u) : Keeps False s (u.joinFailed step abort) :=
  .ite h.flag.joinStep.divAdd.setRole h.flag.joinStep.divAdd

theorem Keeps.cmpDone {f od} (h : Keeps False s u) : Keeps False s (u.cmpDone f od) := .upd h rfl rfl

theorem Keeps.compareFrame {f} (h : Keeps False s u) : Keeps False s (u.compareFrame f) := by
  unfold State.compareFrame
  dsimp only
  split
  · exact .ite h.flag.bump.jlog (.upd h.flag.bump.jlog rfl rfl)
  · refine .ite ?_ ?_
    · split
      · exact h.cmpDone.resyncLog.setRole
      · exact h.cmpDone.resyncLog.linkSend.joinFailed
      · exact h.cmpDone.resyncLog
    · refine .ite ?_ ?_
      · split
        · exact h.cmpDone.flag.bump.jlog.setRole.divAdd
        · exact h.cmpDone.flag.bump.jlog.linkSend.joinFailed
        · exact h.cmpDone.flag.bump.jlog
      · split
        · exact .setRole (.joinStep (.upd (.ite h.cmpDone.bump h.cmpDone) rfl rfl))
        · exact .upd (.ite h.cmpDone.bump h.cmpDone) rfl rfl
        · exact .ite h.cmpDone.bump h.cmpDone

theorem Keeps.compareTick {n} (h : Keeps False s u) : Keeps False s (u.compareTick n) := .upd (.ite h.compareFrame h) rfl rfl

theorem Keeps.supplyMsg {warn} (h : Keeps False s u) : Keeps False s (Machine.supplyMsg warn u) :=
  .ite (.jlog (.ite (.flag (.upd h.rx rfl rfl)) (.upd h.rx rfl rfl))) h

theorem Keeps.handoverRequest (h : Keeps q s u) : Keeps q s (Machine.handoverRequest u) :=
  .ite h (.ite (.handLog (.linkSend (.upd h rfl rfl))) h.flag.handLog)

theorem Keeps.handoverMsg {h'} (h : Keeps False s u) : Keeps False s (Machine.handoverMsg h' u) :=
  .ite h (.ite (.linkSend (.upd h.rx rfl rfl)) h.rx)

theorem Keeps.handoverAck {h'} (h : Keeps False s u) : Keeps False s (Machine.handoverAck h' u) := .ite h (.ite (.upd h.rx rfl rfl) h.rx)

theorem Keeps.handTick {n} (h : Keeps False s u) : Keeps False s (u.handTick n) := by
  unfold State.handTick
  split
  · exact h
  · exact .ite (.ite (.handLog (.flag (.upd h rfl rfl))) (.ite (.setRole (.handLog (.outputsOff (.upd h rfl rfl)))) h))
      (.ite (.ite (.setRole (.outputsSoon (.upd (.upd h rfl rfl) rfl rfl))) (.upd h rfl rfl)) h)

theorem Keeps.rejoin (h : Keeps q s u) : Keeps q s (Machine.rejoin u) := .ite h.setRole h
theorem Keeps.isolate (h : Keeps q s u) : Keeps q s (Machine.isolate u) := .ite h.setRole h

theorem Keeps.joinReq {dig} (h : Keeps False s u) : Keeps False s (Machine.joinReq dig u) :=
  .ite h (.ite h.rx (.ite h.rx.linkSend (.ite h.rx.linkSend (.joinStep (.linkSend (.upd h.rx rfl rfl))))))

theorem Keeps.joinTake {f} (h : Keeps False s u) (hf : ∀ t, Keeps False s t → Keeps False s (f t)) : Keeps False s (u.joinTake f) :=
  .ite h (.ite (hf _ h.rx) h.rx)

theorem Keeps.joinSet {f} (h : Keeps False s u) : Keeps False s (u.joinSet f) := .upd h rfl rfl
theorem Keeps.joinAccept {b} (h : Keeps False s u) : Keeps False s (Machine.joinAccept b u) := .ite h (.ite h.rx.joinSet.joinStep h.rx)

theorem Keeps.joinRefuse {cause} (h : Keeps False s u) : Keeps False s (Machine.joinRefuse cause u) :=
  .ite h (.ite (.ite h.rx.setRole h.rx.joinSet) h.rx)

theorem Keeps.joinLine {t' line d} (h : Keeps False s u) : Keeps False s (u.joinLine t' line d) := .ite h.stCommitDirect.joinSet h
theorem Keeps.joinLines {l} (h : Keeps False s u) : Keeps False s (u.joinLines l) := .foldl (fun _ _ h => .ite h.joinLine h) h

theorem Keeps.copyMsg {lines} (h : Keeps False s u) : Keeps False s (Machine.copyMsg lines u) :=
  .joinTake h (fun _ h => h.joinLines.joinSet)

theorem Keeps.copyEnd {c} (h : Keeps False s u) : Keeps False s (Machine.copyEnd c u) := .joinTake h (fun _ h => h.joinSet.joinStep)
theorem Keeps.joinReady (h : Keeps False s u) : Keeps False s u.joinReady := .ite h.joinSet.joinStep.markDue h

theorem Keeps.replayMsg {m lines} (h : Keeps False s u) : Keeps False s (Machine.replayMsg m lines u) :=
  .joinTake h (fun _ h => h.joinLines)

theorem Keeps.replayEnd {m} (h : Keeps False s u) : Keeps False s (Machine.replayEnd m u) := .joinTake h (fun _ h => h.joinSet.joinReady)
theorem Keeps.joinAt {j} (h : Keeps False s u) : Keeps False s (Machine.joinAt j u) := .joinTake h (fun _ h => h.joinSet.joinStep)
theorem Keeps.joinGo {j} (h : Keeps False s u) : Keeps False s (Machine.joinGo j u) := .joinTake h (fun _ h => h.joinSet.joinReady)

theorem Keeps.joinAbort {cause} (h : Keeps False s u) : Keeps False s (Machine.joinAbort cause u) :=
  .ite h (.ite (.upd h.rx rfl rfl) (.ite h.rx.joinFailed h.rx))

theorem Keeps.pendRegs (h : Keeps False s u) : Keeps False s u.pendRegs := .foldRange (fun _ _ h => h.wr) h

theorem Keeps.unitApply {u'} (h : Keeps False s u) : Keeps False s (u.unitApply u') :=
  .joinReady (.joinSet (.exclFollow (.foldl (fun _ _ h => h.swEntry) (.pendRegs (.upd h rfl rfl)))))

theorem Keeps.unitStateMsg {u'} (h : Keeps False s u) : Keeps False s (Machine.unitStateMsg u' u) := .joinTake h (fun _ h => h.unitApply)
theorem Keeps.hostSet {f} (h : Keeps False s u) : Keeps False s (u.hostSet f) := .upd h rfl rfl

theorem Keeps.hostDecide {n} (h : Keeps False s u) : Keeps False s (u.hostDecide n) :=
  .ite h (.ite (.ite h.hostSet.linkSend.joinStep h.hostSet.linkSend.joinStep) h.linkSend.linkSend.joinStep)

theorem Keeps.hostTick {n changed} (h : Keeps False s u) : Keeps False s (u.hostTick n changed) :=
  .ite h (.ite h.hostSet (.ite h (.ite (.hostDecide (.ite h.hostSet.linkSend.joinStep h))
    (.ite (.hostSet (.linkSend (.foldl (fun _ _ h => h.linkSend) (.hostDecide (.ite h.hostSet.linkSend.joinStep h)))))
    (.linkSend (.foldl (fun _ _ h => h.linkSend) (.hostDecide (.ite h.hostSet.linkSend.joinStep h))))))))

theorem Keeps.onLanes {m} (h : Keeps False s u) : Keeps False s (u.onLanes m) := .upd h rfl rfl
theorem Keeps.leave {m} (h : Keeps False s u) : Keeps False s (u.leave m) := .upd h.onLanes rfl rfl
theorem Keeps.leaveNext {m} (h : Keeps False s u) : Keeps False s (u.leaveNext m) := .ite h.leave (.upd h rfl rfl)
theorem Keeps.flushLink (h : Keeps False s u) : Keeps False s u.flushLink := .foldl (fun _ _ h => h.leaveNext) (.upd h rfl rfl)

theorem Keeps.copyOne (h : Keeps False s u) : ∀ t ∈ u.copyOne, Keeps False s t := by
  unfold State.copyOne
  dsimp only
  split
  · exact .some (.ite (.joinStep (.linkSend (.hostSet (.hostSet
      (.ite (.foldl (fun _ _ h => h.settle) h) (.leave (.foldl (fun _ _ h => h.settle) h)))))))
      (.hostSet (.ite (.foldl (fun _ _ h => h.settle) h) (.leave (.foldl (fun _ _ h => h.settle) h)))))
  · exact .none

theorem Keeps.linkOne (h : Keeps False s u) : ∀ t ∈ u.linkOne, Keeps False s t := by
  unfold State.linkOne
  split
  · exact .none
  · split
    · split
      · exact .some (.upd h.onLanes rfl rfl)
      · exact .some (.upd h rfl rfl)
    · split
      · split
        · exact .some (.leave (.upd h rfl rfl))
        · exact .none
      · exact h.copyOne

theorem Keeps.linkRun {n} (h : Keeps False s u) : Keeps False s (u.linkRun n) := by
  induction n generalizing u with
  | zero => exact h
  | succ n ih =>
    unfold State.linkRun
    split
    next e => exact ih (h.linkOne _ e)
    next => exact h.upd rfl rfl

theorem Keeps.linkDrain (h : Keeps False s u) : Keeps False s u.linkDrain := .ite h.linkRun h
theorem Keeps.judge {n} (h : Keeps False s u) : Keeps False s (u.judge n) := .upd h rfl rfl

theorem Keeps.roleTick {again was} (h : Keeps False s u) : Keeps False s (u.roleTick again was) := by
  unfold State.roleTick
  dsimp only
  split
  · exact .ite h.setRole h
  · exact .ite (.setRole (.outputsSoon (.upd h rfl rfl))) (.ite h.resyncLog.setRole h)
  · exact .ite h.setRole h
  · exact .ite (.setRole (.outputsSoon (.upd h rfl rfl))) (.ite h.setRole h)
  · exact h

theorem Keeps.twinTick {n} (h : Keeps False s u) : Keeps False s (u.twinTick n) := by
  unfold State.twinTick
  refine .ite h ?_
  dsimp only
  split
  · exact .ite (.joinAsk (.ite h.judge.compareTick.handTick.roleTick.laneTick.joinReady
      h.judge.compareTick.handTick.roleTick.laneTick)) (.ite h.judge.compareTick.handTick.roleTick.laneTick.joinReady
      h.judge.compareTick.handTick.roleTick.laneTick)
  · exact .ite h.judge.compareTick.handTick.roleTick.laneTick.joinReady h.judge.compareTick.handTick.roleTick.laneTick

/-! ### The passing of one clock of the timebase, which is what a step does on an empty queue -/

theorem Keeps.clockPass (h : Keeps False s u) : Keeps False s u.clockPass := .upd h rfl rfl

end Sys2Proof.Machine
end

section
/-! SUPPORT. One frame rule for each operation of the sector unit and the Ant bays: what it leaves of memory, the queue and the fuses (`Keeps`). -/

namespace Sys2Proof.Machine

variable {q : Prop} {s t u : State}

/-! ### The sector interlock unit -/

theorem Keeps.ruleEval {i r} (h : Keeps False s u) : Keeps False s (u.ruleEval i r) := .ite (.upd h rfl rfl) (.upd h rfl rfl)
theorem Keeps.timersUpdate {n} (h : Keeps False s u) : Keeps False s (u.timersUpdate n) := .upd h rfl rfl
theorem Keeps.rulesEval {n} (h : Keeps False s u) : Keeps False s (u.rulesEval n) := .foldl (fun _ _ h => h.ruleEval) h
theorem Keeps.evaluate {steps} (h : Keeps False s u) : Keeps False s (u.evaluate steps) := .upd h.timersUpdate.rulesEval rfl rfl

theorem Keeps.interlockEvaluation (h : Keeps False s u) : Keeps False s (Machine.interlockEvaluation u) := by
  unfold Machine.interlockEvaluation
  split
  · exact h
  · exact .ite h (.wr (.upd h.evaluate rfl rfl))

theorem Keeps.evalStop {n} (h : Keeps False s u) : Keeps False s (u.evalStop n) := by
  unfold State.evalStop
  refine .ite h (.ite (.upd h rfl rfl) ?_)
  dsimp only
  split
  · exact .jlog (.flag (.upd h rfl rfl))
  · exact .jlog (.flag (.wr (.ite (.timersUpdate (.free (.upd h rfl rfl))) (.evaluate (.free (.upd h rfl rfl))))))

theorem Keeps.setChan {c x} (h : Keeps False s u) : Keeps False s (u.setChan c x) := .upd h rfl rfl
theorem Keeps.entryOf {c} (h : Keeps False s u) : Keeps False s (u.entryOf c).2 := h.stRead

theorem Keeps.denyTrack {n c ch permit w0} (h : Keeps False s u) : Keeps False s (u.denyTrack n c ch permit w0) :=
  .ite (.ite h.setChan.jlog h.setChan) (.ite h.setChan h.setChan.flag.bump.jlog)

theorem Keeps.unqueue {c} (h : Keeps False s u) : Keeps False s (u.unqueue c) := .upd h.setChan rfl rfl
theorem Keeps.startCancel {c cause} (h : Keeps False s u) : Keeps False s (u.startCancel c cause) := .ite h.unqueue.jlog h
theorem Keeps.startJoin {n c ch e'} (h : Keeps False s u) : Keeps False s (u.startJoin n c ch e') := .jlog (.upd h.setChan rfl rfl)

theorem Keeps.startAsk {n c ch e'} (h : Keeps False s u) : Keeps False s (u.startAsk n c ch e').2 :=
  .ite (.ite h.startCancel h) (.startJoin (.ite h.startCancel h))

theorem Keeps.startRow {n c ch e' permit} (h : Keeps False s u) : Keeps False s (u.startRow n c ch e' permit).2 :=
  .iteSnd h.setChan.setChan.startCancel.paired (.iteSnd h.setChan.paired
    (.iteSnd h.setChan.setChan.startCancel.paired (.iteSnd h.setChan.paired h.setChan.startAsk)))

theorem Keeps.relChannel {n c ch} (h : Keeps False s u) : Keeps False s (u.relChannel n c ch).2 :=
  .iteSnd h.entryOf.denyTrack.startRow h.entryOf.denyTrack.paired

theorem Keeps.poolsOpen {n} (h : Keeps False s u) : Keeps False s (u.poolsOpen n) :=
  .foldl (fun _ _ h => h.setChan) (.foldRange (fun _ _ h => h.wr) (.upd h rfl rfl))

theorem Keeps.startGrant {n c} (h : Keeps False s u) : Keeps False s (u.startGrant n c) :=
  .jlog (.bump (.flag (.upd h.unqueue.setChan rfl rfl)))

theorem Keeps.grantWalk {n av blocked granted l} (h : Keeps False s u) : Keeps False s (u.grantWalk n av blocked granted l).2 := by
  induction l generalizing u av blocked granted with
  | nil => exact h
  | cons c l ih =>
    unfold State.grantWalk
    dsimp only
    split
    · exact ih h
    · split
      · exact ih h.startGrant
      · exact ih h

theorem Keeps.startTimeout {c} (h : Keeps False s u) : Keeps False s (u.startTimeout c) := .ite h h.unqueue.setChan.flag.bump.jlog

theorem Keeps.startWalk {n} (h : Keeps False s u) : Keeps False s (u.startWalk n).2 := by
  unfold State.startWalk
  refine .wr (.pendRegs ?_)
  refine .foldl (fun _ _ h => h.startTimeout) ?_
  split
  · exact h
  · exact h.grantWalk

theorem Keeps.relEnd {n granted r} (h : Keeps False s u) : Keeps False s (u.relEnd n granted r) :=
  .ite (.postSample (.ite (.setChan (.upd h rfl rfl)) (.upd h rfl rfl))) (.ite (.setChan (.upd h rfl rfl)) (.upd h rfl rfl))

theorem Keeps.relRows {n l} (h : Keeps False s u) : Keeps False s (u.relRows n l).2 := by
  induction l generalizing u with
  | nil => exact h
  | cons c l ih => exact ih h.relChannel

theorem Keeps.sectorRelease {n} (h : Keeps False s u) : Keeps False s (u.sectorRelease n) :=
  .foldl (fun _ _ h => h.relEnd) h.evalStop.poolsOpen.relRows.startWalk

theorem Keeps.supplyPost {v t'} (h : Keeps False s u) : Keeps False s (u.supplyPost v t') := .ite h.postSample h

theorem Keeps.supplyFall {t'} (h : Keeps False s u) : Keeps False s (u.supplyFall t') :=
  .ite (.handoverRequest (.ite (.linkSend (.perfFollow (.setFld (.supplyPost (.jlog (.flag (.upd h.flushLink rfl rfl)))))))
    (.perfFollow (.setFld (.supplyPost (.jlog (.flag (.upd h.flushLink rfl rfl))))))))
    (.ite (.linkSend (.perfFollow (.setFld (.supplyPost (.jlog (.flag (.upd h.flushLink rfl rfl)))))))
    (.perfFollow (.setFld (.supplyPost (.jlog (.flag (.upd h.flushLink rfl rfl)))))))

theorem Keeps.supplyIdle (h : Keeps False s u) : Keeps False s u.supplyIdle := .ite h (.upd h.free rfl rfl)

theorem Keeps.supplyClear (h : Keeps False s u) : Keeps False s (Machine.supplyClear u) :=
  .ite h (.ite (.linkSend (.jlog (.flag (.supplyPost (.upd h.advanceTo rfl rfl)))))
    (.jlog (.flag (.supplyPost (.upd h.advanceTo rfl rfl)))))

theorem Keeps.supplyTick (h : Keeps False s u) : Keeps False s u.supplyTick := .ite (.perfFollow (.setFld (.upd h rfl rfl))) h

/-! ### The field pins of the Ant bays -/

theorem Keeps.toggled {b u'} (h : Keeps False s u) : Keeps False s (u.toggled b u').2 := by
  unfold State.toggled
  split
  · exact h
  · exact h.free.paired

theorem Keeps.raiseEv {b e' n t'} (h : Keeps q s u) : Keeps q s (u.raiseEv b e' n t') := .ite h.setEng h

theorem Keeps.raiseLog {b l n t'} (h : Keeps q s u) : Keeps q s (u.raiseLog b l n t') := by
  unfold State.raiseLog
  split
  · exact h.raiseEv
  · exact h

theorem Keeps.raiseOwner {b u' n t'} (h : Keeps q s u) : Keeps q s (u.raiseOwner b u' n t') := .ite h.raiseLog h

theorem Keeps.capTake {b u' t' rising} (h : Keeps q s u) : Keeps q s (u.capTake b u' t' rising) :=
  .ite h (.ite h.flag.bump.jlogW h.setPin.raiseOwner)

theorem Keeps.pinSettle {b u'} (h : Keeps q s u) : Keeps q s (u.pinSettle b u') := by
  unfold State.pinSettle
  dsimp only
  split
  · exact h
  · exact .ite h.setPin.capTake h

theorem Keeps.pinEdge {b u' rising} (h : Keeps False s u) : Keeps False s (u.pinEdge b u' rising) := .ite h.setPin.capTake h.setPin

theorem Keeps.captureEdge {b u' rising} (h : Keeps False s u) : Keeps False s (Machine.captureEdge b u' rising u) :=
  .ite h h.pinSettle.pinEdge

theorem Keeps.suDriven {b e'} (h : Keeps False s u) : Keeps False s (u.suDriven b e') := .foldl (fun _ _ h => h.setPin.judgePin) h
theorem Keeps.suStart {b e'} (h : Keeps False s u) : Keeps False s (u.suStart b e') := .ite h (.ite h.setSu.suDe h.setSu)
theorem Keeps.suRelease {b e'} (h : Keeps False s u) : Keeps False s (u.suRelease b e') := .setSu (.foldl (fun _ _ h => .ite h.setPin h) h)

theorem Keeps.suStore {b e' data parity framing} (h : Keeps False s u) : Keeps False s (u.suStore b e' data parity framing) :=
  .ite h.setSu h.setSu.raiseEv

theorem Keeps.suRx {b e' data parity framing} (h : Keeps False s u) : Keeps False s (Machine.suRx b e' data parity framing u) := by
  unfold Machine.suRx
  refine .ite h.suTail ?_
  split
  · exact .ite h.suTail h.suTail.suStore
  · exact .ite h.suTail h.suTail.setSu.suStore
  · exact h.suTail

theorem Keeps.suSample {b e'} (h : Keeps False s u) : Keeps False s (u.suSample b e') := .ite h.free.suStore h
theorem Keeps.shiftUnitWordEnd {b e'} (h : Keeps False s u) : Keeps False s (Machine.shiftUnitWordEnd b e' u) := .ite h.suSample.setSu h
theorem Keeps.burstEnd {b e'} (h : Keeps False s u) : Keeps False s (u.burstEnd b e') := .ite h.setSu (.ite h.setSu.suDe h.setSu.setSu)
theorem Keeps.suTx {b e'} (h : Keeps False s u) : Keeps False s (Machine.suTx b e' u) := .ite h.suSample.burstEnd.raiseEv h
theorem Keeps.bayDue {b} (h : Keeps q s u) : Keeps q s (u.bayDue b) := .bayTails (.foldl (fun _ _ h => h.pinSettle) h)
theorem Keeps.antDue (h : Keeps False s u) : Keeps False s u.antDue := .foldl (fun _ _ h => h.bayDue) h
theorem Keeps.suIdle {b e'} (h : Keeps False s u) : Keeps False s (Machine.suIdle b e' u) := .ite h.raiseEv h
theorem Keeps.engineTimer {b e'} (h : Keeps False s u) : Keeps False s (Machine.engineTimer b e' u) := .ite h.raiseEv h

theorem Keeps.compareDrive {b u' act} (h : Keeps False s u) : Keeps False s (u.compareDrive b u' act) := by
  unfold State.compareDrive
  split
  · exact h.drivePin
  · exact h.drivePin
  · exact h.toggled.drivePin
  · split
    · exact h.setSu.suStart
    · exact h

theorem Keeps.compareDo {b u' act} (h : Keeps False s u) : Keeps False s (u.compareDo b u' act) := h.compareDrive.setPin.raiseOwner

theorem Keeps.pwrPin {b u' v} (h : Keeps False s u) : Keeps False s (u.pwrPin b u' v) := by
  unfold State.pwrPin
  dsimp only
  split
  · exact .ite h.drivePin.compareDrive h.drivePin
  · exact h.drivePin

theorem Keeps.compareAction {b u'} (h : Keeps False s u) : Keeps False s (Machine.compareAction b u' u) := by
  unfold Machine.compareAction
  dsimp only
  split
  · exact h
  · exact h.advanceTo.setPin.compareDo

theorem Keeps.bayWords {b off ws} (h : Keeps False s u) : Keeps False s (u.bayWords b off ws) := h.setBay
theorem Keeps.emergencySave {b e' cause pc event} (h : Keeps False s u) : Keeps False s (u.emergencySave b e' cause pc event) := h.bayWords

theorem Keeps.engLeave {b e' cause pc} (h : Keeps False s u) : Keeps False s (u.engLeave b e' cause pc) :=
  .upd (.jlogW (.flag (.suRelease (.foldl (fun _ _ h => h.setPin) h.suTail.setEng.judgeBay)))) rfl rfl

theorem Keeps.engHalt {b e' cause pc event} (h : Keeps False s u) : Keeps False s (u.engHalt b e' cause pc event) :=
  h.emergencySave.engLeave.bookAdd

theorem Keeps.engRetire {b e'} (h : Keeps False s u) : Keeps False s (u.engRetire b e') := .ite h.engLeave (.ite h.setEng h)

theorem Keeps.takeover {b l} (h : Keeps False s u) : Keeps False s (u.takeover b l) := by
  unfold State.takeover
  split
  · exact h.flag
  · refine .spareIn (.flag ?_)
    refine .foldl (fun _ _ h => h.setPin) ?_
    refine .setEng ?_
    split
    · exact h.setEng
    · exact h

theorem Keeps.antTick (h : Keeps False s u) : Keeps False s u.antTick :=
  .foldl (fun _ _ h => h.takeover) (.upd (.foldl (fun _ _ h => h.engRetire) h) rfl rfl)

theorem Keeps.antImage {pa sram i n} (h : Keeps False s u) : Keeps False s (u.antImage pa sram i n).2 := by
  induction n generalizing u sram i with
  | zero => exact h
  | succ n ih => exact ih h.naReadLine

theorem Keeps.engStart {b e' takeover} (h : Keeps False s u) : Keeps False s (u.engStart b e' takeover) := h.setEng.jlog
theorem Keeps.spareLoadDone {b e'} (h : Keeps False s u) : Keeps False s (Machine.spareLoadDone b e' u) := .ite h h.antImage.setEng.engStart

theorem Keeps.pinsRelease {b} (h : Keeps False s u) : Keeps False s (u.pinsRelease b) := by
  unfold State.pinsRelease
  refine .foldRange (fun _ _ h => ?_) h
  refine .ite ?_ h
  split
  · exact h.drivePin
  · exact h

theorem Keeps.engOut {b l t'} (h : Keeps False s u) : Keeps False s (u.engOut b l t') := .ite h h.bayWords.raiseLog

theorem Keeps.bayRelease {b t'} (h : Keeps False s u) : Keeps False s (u.bayRelease b t') :=
  .ite h (.foldRange (fun _ _ h => h.engOut) h.pinsRelease)

theorem Keeps.bayTick {b t'} (h : Keeps False s u) : Keeps False s (u.bayTick b t') := .ite h (.foldRange (fun _ _ h => h.raiseEv) h)
theorem Keeps.baySafeAll {b v} (h : Keeps q s u) : Keeps q s (Machine.baySafeAll b v u) := h.bayTails.wr.judgeBay
theorem Keeps.memDataRead {b q'} (h : Keeps q s u) : Keeps q s (Machine.memDataRead b q' u) := .ite (.upd h rfl rfl) (.upd h.setFld rfl rfl)

/-! ### The Ant instructions, their faults and their events -/

theorem Keeps.setAreg {b e' n v} (h : Keeps False s u) : Keeps False s (u.setAreg b e' n v) := h.setEng
theorem Keeps.setPair {b e' d v} (h : Keeps False s u) : Keeps False s (u.setPair b e' d v) := h.setAreg.setAreg
theorem Keeps.faultNote {b e' cause} (h : Keeps False s u) : Keeps False s (u.faultNote b e' cause) := h.setEng.flag.bump.jlogW
theorem Keeps.stackFail {b e' pc n} (h : Keeps False s u) : Keeps False s (u.stackFail b e' pc n) := .engHalt (.ite h h.faultNote)

theorem Keeps.antEnter {b e' n prio t' pc status} (h : Keeps False s u) : Keeps False s (u.antEnter b e' n prio t' pc status) :=
  .ite h.stackFail h.setEng

theorem Keeps.antFault {b e' cause} (h : Keeps False s u) : Keeps False s (u.antFault b e' cause) :=
  .ite h.faultNote.setEng.engHalt h.faultNote.setEng.antEnter

theorem Keeps.antEventEntry {b e'} (h : Keeps False s u) : Keeps False s (Machine.antEventEntry b e' u) := by
  unfold Machine.antEventEntry
  refine .ite h.bayDue ?_
  split
  · exact h.bayDue
  · exact h.bayDue.antEnter

theorem Keeps.antNext {b e'} (h : Keeps False s u) : Keeps False s (u.antNext b e') := by
  unfold State.antNext
  dsimp only
  split
  · exact h.setEng
  · exact h.setEng

theorem Keeps.antBranch {b e' target annul} (h : Keeps False s u) : Keeps False s (u.antBranch b e' target annul) := h.setEng

theorem Keeps.antRun {b e ctl body} (h : Keeps False s u) (hf : ∀ t, Keeps False s t → (body t).Each (Keeps False s)) :
    Keeps False s (u.antRun b e ctl body) := by
  unfold State.antRun
  refine .ite h.bayDue (.ite h.bayDue.antNext (.ite h.bayDue.antFault (.ite h.bayDue.antFault (.ite h.bayDue.antFault ?_))))
  have hb := hf _ (h.bayDue (b := b))
  cases hr : body (u.bayDue b) with
  | fault c => exact h.bayDue.antFault
  | next t =>
    rw [hr] at hb
    exact Keeps.antNext hb
  | branch t a n =>
    rw [hr] at hb
    exact Keeps.antBranch hb
  | stay t =>
    rw [hr] at hb
    exact hb

theorem Keeps.antAlu {b e d v} (h : Keeps False s u) : Keeps False s (u.antAlu b e d v) :=
  h.antRun fun _ h => h.setAreg

theorem Keeps.antOp {b e' d ra rb f} (h : Keeps False s u) : Keeps False s (u.antOp b e' d ra rb f) := h.antAlu
theorem Keeps.antImm {b e' d ra imm f} (h : Keeps False s u) : Keeps False s (u.antImm b e' d ra imm f) := h.antAlu
theorem Keeps.antWrite {b e' a n v} (h : Keeps False s u) : Keeps False s (u.antWrite b e' a n v) := .ite h.setEng h.setBay

theorem Keeps.antLoad {b e' d ra imm n sign} (h : Keeps False s u) : Keeps False s (u.antLoad b e' d ra imm n sign) := by
  unfold State.antLoad
  refine .antRun h (fun _ h => ?_)
  dsimp only
  split
  · exact trivial
  · exact h.setAreg

theorem Keeps.antStore {b e' d ra imm n} (h : Keeps False s u) : Keeps False s (u.antStore b e' d ra imm n) := by
  unfold State.antStore
  refine .antRun h (fun _ h => ?_)
  dsimp only
  split
  · exact trivial
  · exact h.antWrite

theorem Keeps.antCond {b e' n ra rb off c} (h : Keeps False s u) : Keeps False s (u.antCond b e' n ra rb off c) := by
  unfold State.antCond
  refine .antRun h (fun _ h => ?_)
  dsimp only
  split
  · exact h
  · exact h

theorem Keeps.antJump {b e n link target} (h : Keeps False s u) : Keeps False s (u.antJump b e n link target) :=
  h.antRun fun _ h => .ite h.setAreg h

theorem Keeps.antPin {b e p body} (h : Keeps False s u) (hf : ∀ t, Keeps False s t → (body t).Each (Keeps False s)) :
    Keeps False s (u.antPin b e p body) := by
  refine h.antRun fun t h => ?_
  split
  · exact hf t h
  · trivial

theorem Keeps.antPrd {b e' d u'} (h : Keeps False s u) : Keeps False s (Machine.antPrd b e' d u' u) := .antPin h (fun _ h => h.setAreg)

theorem Keeps.antPwr {b e' ra u' imm} (h : Keeps False s u) : Keeps False s (Machine.antPwr b e' ra u' imm u) := by
  unfold Machine.antPwr
  refine .antPin h (fun _ h => ?_)
  dsimp only
  split
  · exact h.pwrPin
  · split
    · exact h.pwrPin
    · exact h.pwrPin
    · exact h.pwrPin
    · exact h.toggled.pwrPin

theorem Keeps.antCapr {b e' d ra u'} (h : Keeps False s u) : Keeps False s (Machine.antCapr b e' d ra u' u) := by
  unfold Machine.antCapr
  refine .antRun h (fun _ h => ?_)
  split
  · exact trivial
  · split
    · exact trivial
    · dsimp only
      split
      · exact h.setAreg
      · exact h.setPin.setPair.setAreg

theorem Keeps.antCmpw {b e' d u' act} (h : Keeps False s u) : Keeps False s (Machine.antCmpw b e' d u' act u) := by
  unfold Machine.antCmpw
  refine .antRun h (fun _ h => ?_)
  split
  · exact trivial
  · split
    · exact trivial
    · dsimp only
      split
      · exact h.setPin.flag.jlogW.compareDo
      · exact h.setPin

theorem Keeps.antCmpwCancel {b e' u'} (h : Keeps False s u) : Keeps False s (Machine.antCmpwCancel b e' u' u) :=
  .antPin h (fun _ h => h.setPin)

theorem Keeps.antSuw {b e' ra n} (h : Keeps False s u) : Keeps False s (Machine.antSuw b e' ra n u) := by
  unfold Machine.antSuw
  refine .antRun h (fun _ h => ?_)
  dsimp only
  split
  · exact trivial
  · exact h.setSu.suDriven.suStart

theorem Keeps.antSutx {b e' ra} (h : Keeps False s u) : Keeps False s (Machine.antSutx b e' ra u) := by
  unfold Machine.antSutx
  refine .antRun h (fun _ h => ?_)
  dsimp only
  split
  · exact h.setEng
  · exact h.setSu.suStart

theorem Keeps.antSurx {b e' d ra} (h : Keeps False s u) : Keeps False s (Machine.antSurx b e' d ra u) := by
  unfold Machine.antSurx
  refine .antRun h (fun _ h => ?_)
  dsimp only
  split
  · exact h.setSu.free.setAreg.setAreg
  · exact h.setSu.setAreg.setAreg

theorem Keeps.antPost {b e' d ra ch} (h : Keeps False s u) : Keeps False s (Machine.antPost b e' d ra ch u) := by
  unfold Machine.antPost
  refine .antRun h (fun _ h => ?_)
  dsimp only
  split
  · exact trivial
  · split
    · exact trivial
    · split
      · exact .setEng (.ite h h.flag.bump)
      · exact h.setBay

theorem Keeps.antEvret {b e'} (h : Keeps False s u) : Keeps False s (Machine.antEvret b e' u) := by
  unfold Machine.antEvret
  refine .antRun h (fun _ h => ?_)
  dsimp only
  split
  · exact h.stackFail
  · split
    · exact h.setEng
    · exact h.setEng

theorem Keeps.antEvwait {b e'} (h : Keeps False s u) : Keeps False s (Machine.antEvwait b e' u) := .antRun h (fun _ h => h.setEng)

theorem Keeps.antEvcfg {b e' ev prio en} (h : Keeps False s u) : Keeps False s (Machine.antEvcfg b e' ev prio en u) := by
  unfold Machine.antEvcfg
  refine .antRun h (fun _ h => ?_)
  dsimp only
  split
  · exact h.setEng
  · exact h

theorem Keeps.antEvpend {b e' d} (h : Keeps False s u) : Keeps False s (Machine.antEvpend b e' d u) := h.antAlu
theorem Keeps.antTmr {b e' ra} (h : Keeps False s u) : Keeps False s (Machine.antTmr b e' ra u) := .antRun h (fun _ h => h.setEng)
theorem Keeps.antDoor {b e' n} (h : Keeps False s u) : Keeps False s (Machine.antDoor b e' n u) := .antRun h (fun _ h => h.raiseLog)

theorem Keeps.antTsr {b e' d} (h : Keeps False s u) : Keeps False s (Machine.antTsr b e' d u) := by
  unfold Machine.antTsr
  refine .antRun h (fun _ h => ?_)
  split
  · exact trivial
  · exact h.setPair

theorem Keeps.antSysIdV {b e' d} (h : Keeps False s u) : Keeps False s (Machine.antSysIdV b e' d u) := h.antAlu

end Sys2Proof.Machine
end

section
/-! SUPPORT. One frame rule for each operation of the homes, the ring, the memory controllers and the agents: what it leaves of memory, the queue and the fuses (`Keeps`). -/

namespace Sys2Proof.Machine

variable {q : Prop} {s t u : State}

/-! ### Where an address lies, and the requests of units that are not cores that a sealed range refuses or that reach no berth -/

theorem Keeps.unplaced {addr who write} (h : Keeps False s u) : Keeps False s (u.unplaced addr who write) := h.flag.bump.jlog
theorem Keeps.sealDeny {q' pa write} (h : Keeps False s u) : Keeps False s (u.sealDeny q' pa write) := h.flag.bump.jlog

theorem Keeps.requestNotes {q' w write l} (h : Keeps False s u) : Keeps False s (u.requestNotes q' w write l) := by
  unfold State.requestNotes
  dsimp only
  split
  · refine .foreignWrite ?_
    split
    · refine .unplaced ?_
      split
      · exact h.sealDeny
      · exact h
    · split
      · exact h.sealDeny
      · exact h
  · split
    · refine .unplaced ?_
      split
      · exact h.sealDeny
      · exact h
    · split
      · exact h.sealDeny
      · exact h

/-! ### The messages between the caches of cores, home slices and memory, locking, range operations, rehoming and L3 errors -/

theorem Keeps.l3Log {t' line type plain masked} (h : Keeps q s u) : Keeps q s (u.l3Log t' line type plain masked) := h.jlogW

theorem Keeps.l3Corrected {x tag} (h : Keeps q s u) : Keeps q s (u.l3Corrected x tag) := by
  unfold State.l3Corrected
  refine .ite ?_ h.bumpSat.flag.l3Log
  exact .upd h.bumpSat.flag.l3Log.flag.jlog.judgeWorn rfl rfl

theorem Keeps.l3UeLog {x} (h : Keeps q s u) : Keeps q s (u.l3UeLog x) := h.bump.flag.l3Log
theorem Keeps.l3Uncorrectable {x} (h : Keeps False s u) : Keeps False s (u.l3Uncorrectable x) := .ite h.l3UeLog.l3Map h.l3UeLog.l3Drop

theorem Keeps.l3Check {line e'} (h : Keeps False s u) : Keeps False s (u.l3Check line e') := by
  unfold State.l3Check
  split
  · exact h
  · split
    · exact h
    · exact h.l3Corrected
    · exact h.l3Uncorrectable

theorem Keeps.l3Seen (h : Keeps q s u) : Keeps q s u.l3Seen := by
  unfold State.l3Seen
  refine .foldl (fun _ _ h => ?_) (.upd h rfl rfl)
  split
  · exact h
  · exact h.l3Corrected
  · exact h.l3UeLog

theorem Keeps.l3WaySpare {p} (h : Keeps False s u) : Keeps False s (u.l3WaySpare p) :=
  .ite (.setFld (.upd (.foldl (fun _ _ h => h.agentOrder.cohCmo) h) rfl rfl)) (.spareIn (.wr (.foldl (fun _ _ h => h.agentOrder.cohCmo) h)))

theorem Keeps.l3Tick (h : Keeps False s u) : Keeps False s u.l3Tick := by
  unfold State.l3Tick
  split
  · exact h
  · exact .l3WaySpare (.upd h rfl rfl)

theorem Keeps.snpRet {line ans} (h : Keeps False s u) : Keeps False s (Machine.snpRet line ans u) := by
  unfold Machine.snpRet
  split
  · exact h.protoErr
  · exact .ite h (.ite h.snoopsBack.homeNext h.setTxn)

theorem Keeps.memData {line data poison} (h : Keeps False s u) : Keeps False s (Machine.memData line data poison u) := by
  unfold Machine.memData
  dsimp only
  split
  · exact h.protoErr
  · split
    · exact h.memArrive.homeNext
    · exact h.l3Alloc.txnSet
    · exact h

theorem Keeps.wbMsg {k line data poison} (h : Keeps False s u) : Keeps False s (Machine.wbMsg k line data poison u) := by
  unfold Machine.wbMsg
  refine .ite (.ite h.ebSend.windowHome.sendCoh.fullStops h.ebSend.bump.sendCoh) ?_
  split
  · split
    · exact h.ebSend.bump.sendCoh
    · exact h.ebSend.bump.sendCoh
    · exact h.ebSend.setTxn
  · split
    · exact .ite h.ebSend.homeWrite.setDir.sendCoh.homeNext h.ebSend.bump.sendCoh
    · exact h.ebSend.bump.sendCoh

theorem Keeps.reval {k line slot tick} (h : Keeps False s u) : Keeps False s (Machine.reval k line slot tick u) :=
  .ite h.settle.count.sendCoh h.settle.count.sendCoh

theorem Keeps.versionIn {k l data} (h : Keeps False s u) : Keeps False s (u.versionIn k l data) := by
  unfold State.versionIn
  split
  · exact .ite h h.mshrDrop.l2Fill.outDrop
  · exact h

theorem Keeps.dataMsg {k line data grant} (h : Keeps False s u) : Keeps False s (Machine.dataMsg k line data grant u) :=
  .ite h.versionIn (.ite h h.dataIn.sendCoh)

theorem Keeps.grantMsg {k line} (h : Keeps False s u) : Keeps False s (Machine.grantMsg k line u) := .ite h.grantIn.sendCoh h

theorem Keeps.sameMsg {k line} (h : Keeps False s u) : Keeps False s (Machine.sameMsg k line u) := by
  unfold Machine.sameMsg
  split
  · split
    · exact .ite h.l2Set' h
    · exact h
  · exact h

theorem Keeps.nackMsg {q' line} (h : Keeps False s u) : Keeps False s (Machine.nackMsg q' line u) := by
  unfold Machine.nackMsg
  split
  · exact h
  · dsimp only
    split
    · exact h.reqSet.count
    · exact h.reqSet

theorem Keeps.nackRetry {q' line} (h : Keeps False s u) : Keeps False s (Machine.nackRetry q' line u) := by
  unfold Machine.nackRetry
  split
  · exact h
  · refine .ite h ?_
    dsimp only
    split
    · exact h.advanceTo.reqSet.count.sendCoh
    · exact h.advanceTo.reqSet.sendCoh

theorem Keeps.wbFreed {k line} (h : Keeps False s u) : Keeps False s (Machine.wbFreed k line u) := by
  unfold Machine.wbFreed
  split
  · exact .ite h.ebFree h
  · exact h

theorem Keeps.doneMessage {k line} (h : Keeps False s u) : Keeps False s (Machine.doneMessage k line u) := h.doneIn

theorem Keeps.windowAsk {x} (h : Keeps False s u) : Keeps False s (u.windowAsk x) := by
  unfold State.windowAsk
  refine .ite h.homeDefer ?_
  split
  · exact h.txnReply
  · exact h.windowHome.txnReply.fullStops
  · exact .ite h.stRead.txnReply h.stRead.sendCoh
  · exact h.foreignWrite.txnReply
  · exact h.agentRead.txnReply

theorem Keeps.ask {x ecc} (h : Keeps False s u) : Keeps False s (u.ask x ecc) :=
  .ite h (.ite h.reqOpen.windowAsk (.homeAdmit (.ite h.reqOpen h.reqOpen.l3Check)))

theorem Keeps.rdSMsg {k line fallback fetch ecc} (h : Keeps False s u) : Keeps False s (Machine.rdSMsg k line fallback fetch ecc u) := h.ask
theorem Keeps.rdXMsg {k line fallback x} (h : Keeps False s u) : Keeps False s (Machine.rdXMsg k line fallback x u) := h.ask

theorem Keeps.refuseAsk {q' line write} (h : Keeps False s u) : ∀ t ∈ u.refuseAsk q' line write, Keeps False s t := by
  unfold State.refuseAsk
  split
  · exact .none
  · dsimp only
    split
    · exact .some h.requestNotes.sendCoh
    · exact .none

theorem Keeps.rdNaMsg {q' line} (h : Keeps False s u) : Keeps False s (Machine.rdNaMsg q' line u) := .getD h.refuseAsk h.ask

theorem Keeps.wrNaMsg {q' line first last data keep} (h : Keeps False s u) :
    Keeps False s (Machine.wrNaMsg q' line first last data keep u) :=
  .getD h.refuseAsk h.ask

theorem Keeps.cmoMsg {k line x} (h : Keeps False s u) : Keeps False s (Machine.cmoMsg k line x u) := .ite h (.ite h.txnReply h.ask)
theorem Keeps.l3Lock {t' v} (h : Keeps q s u) : Keeps q s (Machine.l3Lock t' v u) := .ite h.flag h.wr
theorem Keeps.lockFill {t' way} (h : Keeps q s u) : Keeps q s (Machine.lockFill t' way u) := .ite h.wr.flag (.upd h.wr rfl rfl)

theorem Keeps.lfDone {t'} (h : Keeps False s u) : Keeps False s (Machine.lfDone t' u) := by
  unfold Machine.lfDone
  split
  · exact h
  · exact .ite h (.flag (.l3PutWay (.foldl (fun _ _ h => h.cohCmo) (.upd h rfl rfl))))

theorem Keeps.rangeGo {op t' force q'} (h : Keeps q s u) : Keeps q s (Machine.rangeGo op t' force q' u) :=
  .ite h.wr.flag (.upd h.wr rfl rfl)

theorem Keeps.rngEnd {t'} (h : Keeps False s u) : Keeps False s (Machine.rngEnd t' u) := by
  unfold Machine.rngEnd
  split
  · exact h
  · exact .ite h (.jlog (.flag (.upd (.foldlSnd (fun _ _ h => h.cohCmo.paired) h) rfl rfl)))

theorem Keeps.rehome {cls first size} (h : Keeps False s u) : Keeps False s (u.rehome cls first size) :=
  .ite (.upd h rfl rfl) (.upd (.upd h rfl rfl) rfl rfl)

theorem Keeps.rhDrain {cls} (h : Keeps False s u) : Keeps False s (Machine.rhDrain cls u) := by
  unfold Machine.rhDrain
  split
  · exact h
  · exact .ite h (.foldl (fun _ _ h => h.homeNext) (.jlog (.free (.upd (.foldl (fun _ _ h => h.drainLine) h) rfl rfl))))

/-! ### The ring fabric -/

theorem Keeps.setRg {r x} (h : Keeps q s u) : Keeps q s (u.setRg r x) := .upd h rfl rfl

theorem Keeps.traceWrite {r k pos lane dir p} (h : Keeps False s u) : Keeps False s (u.traceWrite r k pos lane dir p) :=
  .ite h (.ite h.setRg.setFld.flag h.setRg.setFld)

theorem Keeps.probeSee {r k pos lane dir p} (h : Keeps False s u) : Keeps False s (u.probeSee r k pos lane dir p).2 := by
  unfold State.probeSee
  dsimp only
  split
  · exact h
  · split
    · exact h.bump
    · split
      · exact h
      · split
        · exact h.bump.traceWrite
        · exact h.bump

theorem Keeps.laneFail {r dir lane} (h : Keeps q s u) : Keeps q s (u.laneFail r dir lane) := .ite h h.setRg

theorem Keeps.hparDrop {x} (h : Keeps False s u) : Keeps False s (u.hparDrop x) :=
  .ite h.setRg.bump.flag.jlog.laneFail h.setRg.bump.flag.jlog

theorem Keeps.payErr {x} (h : Keeps False s u) : Keeps False s (u.payErr x) := .ite h (.jlogW (.ite h.bump.flag h.bump.flag))

theorem Keeps.ringSwap {r dir lane} (h : Keeps False s u) : Keeps False s (u.ringSwap r dir lane) :=
  .ite (.jlog (.flag (.ite h.setRg.flag.jlog h.setRg))) (.ite h.setRg.flag.jlog h.setRg)

theorem Keeps.ringTick1 {r} (h : Keeps False s u) : Keeps False s (u.ringTick1 r) :=
  .ite (.foldl (fun _ _ h => h.ringSwap) (.ite (.foldl (fun _ _ h => h.ringSwap) h) (.setRg (.foldl (fun _ _ h => h.ringSwap) h))))
    (.setRg (.foldl (fun _ _ h => h.ringSwap) (.ite (.foldl (fun _ _ h => h.ringSwap) h) (.setRg (.foldl (fun _ _ h => h.ringSwap) h)))))

theorem Keeps.ringTick (h : Keeps False s u) : Keeps False s (u.ringTick).2 := .foldl (fun _ _ h => h.ringTick1) h
theorem Keeps.laneTest {ring v} (h : Keeps q s u) : Keeps q s (Machine.laneTest ring v u) := .ite h.wr.laneFail h.wr
theorem Keeps.traceRestart {ring} (h : Keeps q s u) : Keeps q s (Machine.traceRestart ring u) := h.wr
theorem Keeps.timeoutLog {home st line} (h : Keeps False s u) : Keeps False s (u.timeoutLog home st line) := h.free.flag.jlogW

theorem Keeps.ringHomeTimeout {line} (h : Keeps False s u) : Keeps False s (Machine.ringHomeTimeout line u) := by
  unfold Machine.ringHomeTimeout
  dsimp only
  split
  · exact h
  · refine .ite h (.homeNext ?_)
    refine .timeoutLog (.unpark ?_)
    refine .setDir (.setTxn ?_)
    refine .wbStales ?_
    split
    · exact h.homeWrite
    · exact h

/-! ### The memory controllers, patrol, hard errors, migration and the berth table -/

theorem Keeps.memLog {ch cl kind flags dev20 rewrite} (h : Keeps q s u) : Keeps q s (u.memLog ch cl kind flags dev20 rewrite) :=
  .ite h.setMemc.wr.bump.flag h.setMemc.wr

theorem Keeps.memRec {ch cl type plain masked} (h : Keeps q s u) : Keeps q s (u.memRec ch cl type plain masked) := h.jlogW

theorem Keeps.classHard {ch cl src e} (h : Keeps q s u) : Keeps q s (u.classHard ch cl src e) := by
  unfold State.classHard
  extract_lets m b m' s1 mins s2
  have h2 : Keeps q s s2 := Keeps.memRec h.setMemc.flag.bump.memLog
  clear_value s2
  split
  · exact .ite (h2.upd rfl rfl) h2
  · exact h2

theorem Keeps.corrWrite {ch cl device codeword} (h : Keeps False s u) : Keeps False s (u.corrWrite ch cl device codeword) :=
  h.chanWrite.setMemc

theorem Keeps.corrSymbol {ch cl src device codeword} (h : Keeps False s u) : Keeps False s (u.corrSymbol ch cl src device codeword) := by
  unfold State.corrSymbol
  dsimp only
  split
  · exact .ite h.setMemc.flag.bump.memLog.memRec h.setMemc.flag.bump.memLog.memRec.classHard
  · exact h.setMemc.flag.bump.memLog.memRec

theorem Keeps.corrected {ch cl src device codeword more wrong} (h : Keeps False s u) :
    Keeps False s (u.corrected ch cl src device codeword more wrong) := by
  unfold State.corrected
  refine .corrWrite ?_
  refine .foldl (fun _ _ h => h.corrSymbol) ?_
  split
  · exact h.dramPut
  · exact h

theorem Keeps.unreadable {ch cl src code} (h : Keeps q s u) : Keeps q s (u.unreadable ch cl src code) := h.flag.bump.memLog.memRec
theorem Keeps.memNotes (h : Keeps q s u) : Keeps q s u.memNotes := .foldl (fun _ _ h => h.unreadable) (.upd h.l3Seen rfl rfl)

theorem Keeps.eccRead {ch cl src e'} (h : Keeps False s u) : Keeps False s (u.eccRead ch cl src e').2 := by
  unfold State.eccRead
  refine .iteSnd h.unreadable.paired ?_
  split
  · exact h
  · exact h.corrected.paired
  · exact h.performWrite.setPoison.unreadable.paired

theorem Keeps.memRd {c line e'} (h : Keeps False s u) : Keeps False s (Machine.memRd c line e' u) := .ite h h.eccRead.memNotes.sendCoh

theorem Keeps.memWr {c line first last data poison} (h : Keeps False s u) :
    Keeps False s (Machine.memWr c line first last data poison u) := by
  unfold Machine.memWr
  refine .ite h ?_
  split
  · exact h.sealChan.memNotes
  · exact h.chanWrite.memNotes

theorem Keeps.mergeDrain {c} (h : Keeps False s u) : Keeps False s (Machine.mergeDrain c u) := h.drainOne.memNotes
theorem Keeps.patrolEnd {ch} (h : Keeps False s u) : Keeps False s (u.patrolEnd ch) := h.setMemc.bump.flag

theorem Keeps.patrolRead {c e'} (h : Keeps False s u) : Keeps False s (Machine.patrolRead c e' u) := by
  unfold Machine.patrolRead
  refine .ite h ?_
  split
  · exact .ite h h.patrolEnd
  · exact .ite h.advanceTo.eccRead.setMemc.patrolEnd h.advanceTo.eccRead.setMemc

theorem Keeps.initialisationPass {c} (h : Keeps False s u) : Keeps False s (Machine.initialisationPass c u) := by
  unfold Machine.initialisationPass
  extract_lets -underBinder ch
  split
  · exact h
  · extract_lets -underBinder done
    have hd : ∀ t, Keeps False s t → Keeps False s (done t) := fun _ h => h.upd rfl rfl
    split
    · exact hd _ h
    · extract_lets -underBinder cl s1 _ s2 _ s3
      have h2 : Keeps False s s2 := h.advanceTo.setMemc.arrayWrite
      clear_value s2
      have h3 : Keeps False s s3 := h2.upd rfl rfl
      exact .ite (hd _ h3) h3

theorem Keeps.copyStart {b ch off cause} (h : Keeps False s u) : Keeps False s (u.copyStart b ch off cause) := by
  unfold State.copyStart
  split
  · exact h
  · exact h.setCopy.setBt.jlog

theorem Keeps.dropCopy {i} (h : Keeps False s u) : Keeps False s (u.dropCopy i) := .upd h rfl rfl
theorem Keeps.migPace (h : Keeps False s u) : Keeps False s u.migPace := .upd h.advanceTo rfl rfl

theorem Keeps.migrationCopyLine {slot e'} (h : Keeps False s u) : Keeps False s (Machine.migrationCopyLine slot e' u) := by
  unfold Machine.migrationCopyLine
  split
  · exact h
  · refine .ite h ?_
    dsimp only
    split
    · exact h.migPace.eccRead.arrayWrite
    · exact h.migPace.eccRead.arrayWrite.setCopy

theorem Keeps.releaseHeld {i l} (h : Keeps False s u) : Keeps False s (u.releaseHeld i l) := by
  unfold State.releaseHeld
  split
  · exact h
  · split
    · exact h
    · exact h.setCopy.performWrite

theorem Keeps.copyWriteAck {slot line} (h : Keeps False s u) : Keeps False s (Machine.copyWriteAck slot line u) := by
  unfold Machine.copyWriteAck
  dsimp only
  split
  · exact h
  · exact .ite (.releaseHeld (.ite h.setCopy.flag.bump h.setCopy)) (.ite h.setCopy.releaseHeld h)

theorem Keeps.drainPlace {c} (h : Keeps False s u) : Keeps False s (u.drainPlace c) :=
  .foldl (fun _ _ h => h.arrayWrite.corrDone.arrayWrite) h.setMemc

theorem Keeps.markBad {ch off b} (h : Keeps False s u) : Keeps False s (u.markBad ch off b) := .judgeWorn (.jlog (.flag (.upd h rfl rfl)))

theorem Keeps.berthSwitch {i} (h : Keeps False s u) : Keeps False s (u.berthSwitch i) := by
  unfold State.berthSwitch
  split
  · exact h
  · exact .ite h.drainPlace.dropCopy.setBt.flag.bump.flag.bump.jlog.markBad h.drainPlace.dropCopy.setBt.flag.bump.flag.bump.jlog

theorem Keeps.copyAbandon {i} (h : Keeps False s u) : Keeps False s (u.copyAbandon i) := by
  unfold State.copyAbandon
  split
  · exact h
  · exact .foldl (fun _ _ h => h.performWrite) h.dropCopy.setBt

/-! ### Accesses of agents that are not cores -/

theorem Keeps.agentLine {q' w pa} (h : Keeps False s u) : Keeps False s (u.agentLine q' w pa).2 := by
  unfold State.agentLine
  split
  · exact .iteSnd h h.naReadLine.memNotes.paired
  · exact .iteSnd h h.agentRead
  · exact h

theorem Keeps.agentWrite {q' w pa bs} (h : Keeps False s u) : Keeps False s (u.agentWrite q' w pa bs) := by
  unfold State.agentWrite
  split
  · exact .ite h h.naWriteIn.memNotes
  · exact h

theorem Keeps.agentReads {a w pa n k} (h : Keeps False s u) : Keeps False s (u.agentReads a w pa n k).2 := by
  induction k generalizing u pa n with
  | zero => exact h
  | succ k ih =>
    unfold State.agentReads
    split
    · exact h
    · exact ih h.agentLine

theorem Keeps.agentWrites {a w pa bs k} (h : Keeps False s u) : Keeps False s (u.agentWrites a w pa bs k) := by
  induction k generalizing u pa bs with
  | zero => exact h
  | succ k ih =>
    unfold State.agentWrites
    split
    · exact h
    · exact ih h.agentWrite

theorem Keeps.bufNotes {q' w write wpa n} (h : Keeps False s u) : Keeps False s (u.bufNotes q' w write wpa n) := h.requestNotes

theorem Keeps.wpaReads {a w pa n k} (h : Keeps False s u) : Keeps False s (u.wpaReads a w pa n k).2 := by
  induction k generalizing u pa n with
  | zero => exact h
  | succ k ih =>
    unfold State.wpaReads
    split
    · exact h
    · dsimp only
      split
      · exact h
      · exact ih h.agentReads

theorem Keeps.wpaWrites {a w pa bs k} (h : Keeps False s u) : Keeps False s (u.wpaWrites a w pa bs k) := by
  induction k generalizing u pa bs with
  | zero => exact h
  | succ k ih =>
    unfold State.wpaWrites
    split
    · exact h
    · dsimp only
      split
      · exact h
      · exact ih h.agentWrites

theorem Keeps.bufRead {q' w wpa n} (h : Keeps False s u) : ∀ r ∈ u.bufRead q' w wpa n, Keeps False s r.2 :=
  .iteOptSnd (.somePair h) (.iteOptSnd (.somePair h.bufNotes.wpaReads) .nonePair)

theorem Keeps.bufWrite {q' w wpa bs} (h : Keeps False s u) : ∀ t ∈ u.bufWrite q' w wpa bs, Keeps False s t :=
  .iteOpt (.some h) (.iteOpt (.some h.bufNotes.wpaWrites) .none)

end Sys2Proof.Machine
end

section
/-! SUPPORT. One frame rule for each operation of the ports, full reset, Lantern and the Keeper: what it leaves of memory, the queue and the fuses (`Keeps`). -/

namespace Sys2Proof.Machine

variable {q : Prop} {s t u : State}

/-! ### Network ports -/

theorem Keeps.setPort {p x} (h : Keeps q s u) : Keeps q s (u.setPort p x) := .upd h rfl rfl

/-- A stamp that a completion writes into its entry, if it has one. -/
theorem Keeps.stampWritten {o : Option Stamp} {a : Agent} {w : Bool} {x : Nat} (h : Keeps False s u) : Keeps False s (match o with
    | .some t => (u.bufWrite a w x (toBytes t 8)).getD u
    | .none => u) := by
  cases o with
  | none => exact h
  | some t => exact .getD h.bufWrite h

theorem Keeps.txComplete {p i flags stamp} (h : Keeps False s u) : Keeps False s (u.txComplete p i flags stamp) := by
  unfold State.txComplete
  extract_lets -underBinder a w s1 s2
  have h1 : Keeps False s s1 := by
    unfold s1
    split
    next e => exact .getD (Keeps.bufWrite (h.bufRead _ e)) (h.bufRead _ e)
    · exact h
  clear_value s1
  have h2 : Keeps False s s2 := h1.stampWritten
  exact h2.setPort.setFld.flag

theorem Keeps.netTxDescriptor {p} (h : Keeps False s u) : Keeps False s (Machine.netTxDescriptor p u) := by
  unfold Machine.netTxDescriptor
  refine .ite h ?_
  split
  · exact h
  next _ _ e =>
    refine .ite ((h.bufRead _ e).setPort.txComplete) ?_
    split
    · exact (h.bufRead _ e).setPort.txComplete
    next _ _ ex => exact .ite ((h.bufRead _ e).bufRead _ ex) (.setPort (.setPort ((h.bufRead _ e).bufRead _ ex)))

theorem Keeps.txStamp {p tag t'} (h : Keeps False s u) : Keeps False s (u.txStamp p tag t') := .ite h.setPort.flag h.flag

theorem Keeps.gclCatch {p n} (h : Keeps False s u) : Keeps False s (u.gclCatch p n) := by
  induction n generalizing u with
  | zero => exact h
  | succ n ih => exact .ite (ih h.setPort) h

theorem Keeps.frameTransmit {p} (h : Keeps False s u) : Keeps False s (Machine.frameTransmit p u) := by
  unfold Machine.frameTransmit
  refine .ite h.gclCatch ?_
  split
  · exact h.gclCatch
  · exact .ite h.gclCatch.setPort.txStamp h.gclCatch.setPort

theorem Keeps.netFrameEnd {p} (h : Keeps False s u) : Keeps False s (Machine.netFrameEnd p u) := by
  unfold Machine.netFrameEnd
  dsimp only
  split
  · exact h
  · split
    · exact h.setPort.bump.txComplete
    · exact h.setPort.bump

theorem Keeps.gclEntry {p} (h : Keeps False s u) : Keeps False s (Machine.gclEntry p u) := .ite h.advanceTo.setPort h
theorem Keeps.gclTick {n} (h : Keeps False s u) : Keeps False s (u.gclTick n) := .foldl (fun _ _ h => .ite h.setPort h) h

theorem Keeps.region1 {off n k} (h : Keeps False s u) : Keeps False s (u.region1 off n k).2 := by
  induction k generalizing u off n with
  | zero => exact h
  | succ k ih =>
    unfold State.region1
    split
    · exact h
    · exact ih h.stRead

theorem Keeps.netSlot {p base i} (h : Keeps False s u) : Keeps False s (u.netSlot p base i) :=
  .ite h.region1 (.ite h.region1 (.ite h.region1.flag.jlogW h.region1.region1.setPort))

theorem Keeps.netRelease (h : Keeps False s u) : Keeps False s u.netRelease :=
  .ite (.foldl (fun _ _ h => .ite h (.foldRange (fun _ _ h => h.netSlot) h)) h) h

theorem Keeps.netMatches {p bs t'} (h : Keeps False s u) : Keeps False s (u.netMatches p bs t') :=
  .foldl (fun _ _ h => .ite h.postSample h) h

theorem Keeps.netToRing {p bs fcsOk t'} (h : Keeps False s u) : Keeps False s (u.netToRing p bs fcsOk t') := by
  unfold State.netToRing
  refine .ite h ?_
  split
  · exact h
  next _ _ e => exact .flag (.setFld (.getD (.bufWrite
    (.getD (.bufWrite (.getD (.bufWrite (.getD (.iteOpt ((h.bufRead _ e).bufWrite) (.some (h.bufRead _ e))) (h.bufRead _ e)))
    (.getD (.iteOpt ((h.bufRead _ e).bufWrite) (.some (h.bufRead _ e))) (h.bufRead _ e))))
    (.getD (.bufWrite (.getD (.iteOpt ((h.bufRead _ e).bufWrite) (.some (h.bufRead _ e))) (h.bufRead _ e)))
    (.getD (.iteOpt ((h.bufRead _ e).bufWrite) (.some (h.bufRead _ e))) (h.bufRead _ e)))))
    (.getD (.bufWrite (.getD (.bufWrite (.getD (.iteOpt ((h.bufRead _ e).bufWrite) (.some (h.bufRead _ e))) (h.bufRead _ e)))
    (.getD (.iteOpt ((h.bufRead _ e).bufWrite) (.some (h.bufRead _ e))) (h.bufRead _ e))))
    (.getD (.bufWrite (.getD (.iteOpt ((h.bufRead _ e).bufWrite) (.some (h.bufRead _ e))) (h.bufRead _ e)))
    (.getD (.iteOpt ((h.bufRead _ e).bufWrite) (.some (h.bufRead _ e))) (h.bufRead _ e))))))

theorem Keeps.netRxFrame {p bytes fcsOk} (h : Keeps False s u) : Keeps False s (Machine.netRxFrame p bytes fcsOk u) :=
  .ite h (.ite h.bump (.ite h.bump.netToRing h.bump.netMatches.netToRing))

theorem Keeps.netLink {p up} (h : Keeps q s u) : Keeps q s (Machine.netLink p up u) := .ite h h.setFld.flag.jlogW

theorem Keeps.txsTagPop {p q'} (h : Keeps q s u) : Keeps q s (Machine.txsTagPop p q' u) := by
  unfold Machine.txsTagPop
  refine .ite (.upd h rfl rfl) ?_
  split
  · exact .upd h rfl rfl
  · exact .upd h.setPort rfl rfl

theorem Keeps.ringTailWrite {u' q' v} (h : Keeps q s u) : Keeps q s (Machine.ringTailWrite u' q' v u) := by
  unfold Machine.ringTailWrite
  split
  · exact h.wr
  · exact h.wr

/-! ### CAN FD controllers and PCI Express halves -/

theorem Keeps.setCanc {c x} (h : Keeps q s u) : Keeps q s (u.setCanc c x) := .upd h rfl rfl
theorem Keeps.canLog {c st} (h : Keeps False s u) : Keeps False s (u.canLog c st) := h.jlogW

theorem Keeps.canFollow {c} (h : Keeps False s u) : Keeps False s (u.canFollow c) :=
  .ite h (.canLog (.ite h.setCanc.flag (.ite h.setCanc.flag h.setCanc)))

theorem Keeps.canOffers {c} (h : Keeps False s u) : Keeps False s (u.canOffers c).2 := by
  unfold State.canOffers
  refine .foldlSnd (fun _ _ h => ?_) h
  split
  next _ _ e => exact (h.bufRead _ e).paired
  · exact h

theorem Keeps.canComplete {c i flags stamp} (h : Keeps False s u) : Keeps False s (u.canComplete c i flags stamp) := by
  unfold State.canComplete
  extract_lets -underBinder a w s1 s2
  have h1 : Keeps False s s1 := by
    unfold s1
    split
    next e => exact .getD (Keeps.bufWrite (h.bufRead _ e)) (h.bufRead _ e)
    · exact h
  clear_value s1
  have h2 : Keeps False s s2 := h1.stampWritten
  exact h2.setCanc.setFld.flag

theorem Keeps.canTransmit {c ok} (h : Keeps False s u) : Keeps False s (Machine.canTransmit c ok u) := by
  unfold Machine.canTransmit
  refine .ite h (.ite ?_ ?_)
  · split
    · exact h
    · exact h.canComplete
  · refine .ite h ?_
    dsimp only
    split
    · exact h
    · exact .ite h.canOffers.setCanc.canFollow (.ite h.canOffers.setCanc.canFollow h.canOffers.setCanc.canFollow.canComplete)

theorem Keeps.canSlot {c base i} (h : Keeps False s u) : Keeps False s (u.canSlot c base i) := .ite h.region1 h.region1.setCanc

theorem Keeps.canRelease (h : Keeps False s u) : Keeps False s u.canRelease :=
  .ite (.foldl (fun _ _ h => .ite h (.foldRange (fun _ _ h => h.canSlot) h)) h) h

theorem Keeps.canMatches {c f t'} (h : Keeps False s u) : Keeps False s (u.canMatches c f t') := .foldl (fun _ _ h => .ite h.postSample h) h

theorem Keeps.canFrameReceive {c f} (h : Keeps False s u) : Keeps False s (Machine.canFrameReceive c f u) :=
  .ite h (.ite h.setCanc.canFollow (.ite h.setCanc.canFollow.canMatches.flag
    (.flag (.setFld (.getD h.setCanc.canFollow.canMatches.bufWrite h.setCanc.canFollow.canMatches)))))

theorem Keeps.canRecover {c} (h : Keeps q s u) : Keeps q s (Machine.canRecover c u) := .ite h.setCanc h
theorem Keeps.busOffRecovery {c} (h : Keeps False s u) : Keeps False s (Machine.busOffRecovery c u) := .ite h.setCanc.flag.canLog h
theorem Keeps.pcieSend {m} (h : Keeps q s u) : Keeps q s (u.pcieSend m) := .upd h rfl rfl
theorem Keeps.pcieRefuse {h'} (h : Keeps False s u) : Keeps False s (u.pcieRefuse h') := h.flag.bump
theorem Keeps.pcieUr {h' write rid addr} (h : Keeps False s u) : Keeps False s (u.pcieUr h' write rid addr) := h.pcieRefuse.jlogW

theorem Keeps.msi {h' v} (h : Keeps False s u) : Keeps False s (u.msi h' v) :=
  .ite (.ite h.guardBreak.flag.flag h.guardBreak.flag) h.guardBreak.pcieRefuse

theorem Keeps.doorWrite {h' bytes} (h : Keeps False s u) : Keeps False s (u.doorWrite h' bytes) := .ite h.msi h.guardBreak

theorem Keeps.pcieWrite {w addr bytes} (h : Keeps False s u) : ∀ t ∈ u.pcieWrite w addr bytes, Keeps False s t :=
  .iteOpt (.some h) (.iteOpt (.some (.foldl (fun _ _ h => h.wpaWrites) h.bufNotes)) .none)

theorem Keeps.pcieInbound {x} (h : Keeps False s u) : Keeps False s (Machine.pcieInbound x u) := by
  unfold Machine.pcieInbound
  split
  · refine .ite h (.ite h.pcieSend ?_)
    refine .ite h.requestNotes.pcieSend (.ite ?_ h.pcieUr.pcieSend)
    split
    next _ e => exact (h.bufRead _ e).pcieSend
    · exact h.pcieUr.pcieSend
  · refine .ite h (.ite h.doorWrite ?_)
    refine .ite h.requestNotes (.ite ?_ h.pcieUr)
    split
    next _ e => exact h.pcieWrite _ e
    · exact h.pcieUr

theorem Keeps.msiDoor {h' v} (h : Keeps False s u) : Keeps False s (Machine.msiDoor h' v u) := .ite h.msi h
theorem Keeps.pcieLink {h' up gen width} (h : Keeps q s u) : Keeps q s (Machine.pcieLink h' up gen width u) := .ite h h.wr.flag.jlogW
theorem Keeps.pcieAer {h' uncor} (h : Keeps False s u) : Keeps False s (Machine.pcieAer h' uncor u) := .ite h h.free.flag.bump.jlogW
theorem Keeps.phCtl {h' v} (h : Keeps q s u) : Keeps q s (u.phCtl h' v) := .ite (.pcieSend (.upd h.wr rfl rfl)) (.upd h.wr rfl rfl)
theorem Keeps.perst {h' v} (h : Keeps q s u) : Keeps q s (Machine.perst h' v u) := h.phCtl
theorem Keeps.retrain {h' v} (h : Keeps False s u) : Keeps False s (Machine.retrain h' v u) := h.phCtl

/-! ### The NVM log and the full reset -/

theorem Keeps.setLogBlk {i b} (h : Keeps q s u) : Keeps q s (u.setLogBlk i b) := .upd h rfl rfl
theorem Keeps.logErase {i} (h : Keeps q s u) : Keeps q s (u.logErase i) := h.setLogBlk
theorem Keeps.logRoom (h : Keeps q s u) : Keeps q s u.logRoom := .ite (.ite h.setLogBlk h) (.upd h.setLogBlk rfl rfl)
theorem Keeps.logAhead (h : Keeps q s u) : Keeps q s u.logAhead := .ite h.logErase h
theorem Keeps.logPut {r} (h : Keeps q s u) : Keeps q s (u.logPut r) := .bump (.logAhead (.upd h.logRoom.setLogBlk rfl rfl))
theorem Keeps.logTorn (h : Keeps False s u) : Keeps False s u.logTorn := .ite h (.ite h.free h.free.logRoom.setLogBlk.logAhead)
theorem Keeps.logFlush (h : Keeps q s u) : Keeps q s u.logFlush := .foldl (fun _ _ h => h.logPut) (.upd h rfl rfl)

theorem Keeps.nvmIdle (h : Keeps False s u) : Keeps False s u.nvmIdle := by
  unfold State.nvmIdle
  refine .ite h ?_
  split
  · exact .upd h rfl rfl
  · exact .ite h.free (.logPut (.upd h.free rfl rfl))

theorem Keeps.resetFlush {cause} (h : Keeps q s u) : Keeps q s (u.resetFlush cause) :=
  .logFlush (.jlog (.foldl (fun _ _ h => h.logPut) h.logFlush))

theorem Keeps.coldState {cause} (h : Keeps q s u) : Keeps q s (u.coldState cause) :=
  h.trans ⟨fun _ => rfl, rfl, rfl, fun _ _ r => nomatch r⟩

theorem Keeps.fullReset {cause} (h : Keeps q s u) : Keeps q s (u.fullReset cause) := .coldState (.ite h h.resetFlush)

/-! ### Lantern -/

theorem Keeps.setSensor {i x} (h : Keeps q s u) : Keeps q s (u.setSensor i x) := .upd h rfl rfl
theorem Keeps.alarmLog {i kind v} (h : Keeps False s u) : Keeps False s (u.alarmLog i kind v) := h.jlog

theorem Keeps.reading {r} (h : Keeps False s u) : Keeps False s (u.reading r) := by
  unfold State.reading
  refine .ite h ?_
  dsimp only
  split
  · exact .ite h.setSensor (.ite h.setSensor h.setSensor.flag.alarmLog)
  · exact .ite h.setSensor (.ite h.setSensor h.setSensor.alarmLog)

theorem Keeps.hotLog {begins} (h : Keeps False s u) : Keeps False s (u.hotLog begins) := by
  unfold State.hotLog
  split
  · exact h.jlog
  · exact h

theorem Keeps.thermRule (h : Keeps False s u) : Keeps False s u.thermRule :=
  .ite (.ite (.upd h rfl rfl) (.perfFollow (.setFld (.hotLog (.flag (.upd h rfl rfl))))))
    (.ite h (.ite (.ite (.upd h rfl rfl) (.perfFollow (.setFld (.hotLog (.upd h rfl rfl))))) (.upd h rfl rfl)))

theorem Keeps.agingAdd {rs} (h : Keeps False s u) : Keeps False s (u.agingAdd rs) :=
  .foldl (fun _ _ h => .ite (.upd h rfl rfl) h) (.ite h (.upd h rfl rfl))

theorem Keeps.holdRule (h : Keeps False s u) : Keeps False s u.holdRule := .ite (.upd h rfl rfl) h
theorem Keeps.gatherTemps {rs} (h : Keeps False s u) : Keeps False s (u.gatherTemps rs) := .foldl (fun _ _ h => .ite h.gatherSet h) h

theorem Keeps.sampleDue (h : Keeps False s u) : Keeps False s u.sampleDue := by
  unfold State.sampleDue
  refine .upd ?_ rfl rfl
  split
  · exact h.advanceTo
  · exact h

theorem Keeps.sampleTaken {rs} (h : Keeps False s u) : Keeps False s (u.sampleTaken rs) :=
  .holdRule (.agingAdd (.thermRule (.gatherTemps (.foldl (fun _ _ h => h.reading) h))))

theorem Keeps.sensorSample {rs} (h : Keeps False s u) : Keeps False s (Machine.sensorSample rs u) :=
  .ite h (.ite h.sampleDue.sampleTaken.fullReset (.ite h.sampleDue.sampleTaken.fullReset (.upd h.sampleDue.sampleTaken rfl rfl)))

theorem Keeps.safeAll (h : Keeps False s u) : Keeps False s u.safeAll := .flag (.foldl (fun _ _ h => .ite h h.baySafeAll) h)
theorem Keeps.wdKick {k v} (h : Keeps q s u) : Keeps q s (Machine.wdKick k v u) := .ite h.wr h

theorem Keeps.wdTick (h : Keeps False s u) : Keeps False s u.wdTick :=
  .foldl (fun _ _ h => .ite h (.ite (.upd (.ite h.wr.flag.jlog h.wr) rfl rfl) (.ite h.wr.flag.jlog h.wr))) h

theorem Keeps.wdExpire {k} (h : Keeps False s u) : Keeps False s (Machine.wdExpire k u) :=
  .ite (.ite (.safeAll (.jlog (.upd h rfl rfl))) (.ite (.fullReset (.jlog (.upd h rfl rfl))) (.jlog (.upd h rfl rfl)))) h

theorem Keeps.livenessTick (h : Keeps False s u) : Keeps False s u.livenessTick := .upd h.free rfl rfl
theorem Keeps.unitWatchdogExpire {u'} (h : Keeps False s u) : Keeps False s (Machine.unitWatchdogExpire u' u) := .ite h h.jlog.fullReset

theorem Keeps.lanKick (h : Keeps False s u) : Keeps False s u.lanKick := by
  unfold State.lanKick
  split
  · exact h
  · exact .ite h (.upd h.free rfl rfl)

theorem Keeps.lanternWatchdogExpire (h : Keeps False s u) : Keeps False s (Machine.lanternWatchdogExpire u) := by
  unfold Machine.lanternWatchdogExpire
  split
  · exact h.advanceTo.fullReset
  · exact h

theorem Keeps.wearJudge {part} (h : Keeps False s u) : Keeps False s (Machine.wearJudge part u) := by
  unfold Machine.wearJudge
  split
  · exact .ite h.judgeWorn.coreWorn h
  · exact .ite (.upd h.judgeWorn rfl rfl) h
  · exact .ite (.upd h.judgeWorn rfl rfl) h

theorem Keeps.mbPut {key bs} (h : Keeps q s u) : Keeps q s (u.mbPut key bs) := .foldl (fun _ _ h => h.wr) h

theorem Keeps.lnFinish {m result out inline} (h : Keeps q s u) : Keeps q s (u.lnFinish m result out inline) := by
  unfold State.lnFinish
  dsimp only
  split
  · exact .flag (.mbPut (.upd h rfl rfl))
  · split
    · exact .upd h rfl rfl
    · exact h

theorem Keeps.lnUnknown {n} (h : Keeps q s u) : Keeps q s (u.lnUnknown n) := by
  induction n generalizing u with
  | zero => exact h
  | succ n ih =>
    unfold State.lnUnknown
    split
    · exact h
    · exact .ite h (ih h.lnFinish)

theorem Keeps.lnDone {m result out inline} (h : Keeps False s u) : Keeps False s (u.lnDone m result out inline) := h.lnFinish.lnUnknown

theorem Keeps.lnServe {m code f} (h : Keeps False s u) (hf : ∀ l t, Keeps False s t → Keeps False s (f l t)) :
    Keeps False s (u.lnServe m code f) :=
  .ite (hf _ _ h) h

theorem Keeps.lnDoor {m} (h : Keeps q s u) : Keeps q s (Machine.lnDoor m u) := .ite h.flag (.lnUnknown (.upd h rfl rfl))
theorem Keeps.sensors {m} (h : Keeps False s u) : Keeps False s (Machine.sensors m u) := .lnServe h (fun _ _ h => .ite h.lnDone h.lnDone)

theorem Keeps.copyRecs {m req oldest stop x5} (h : Keeps False s u) : Keeps False s (u.copyRecs m req oldest stop x5) :=
  .ite h.lnDone (.ite h.lnDone (.lnDone (.getD h.bufWrite h)))

theorem Keeps.logRead {m} (h : Keeps False s u) : Keeps False s (Machine.logRead m u) := .lnServe h (fun _ _ h => h.copyRecs)
theorem Keeps.ringRead {m} (h : Keeps False s u) : Keeps False s (Machine.ringRead m u) := .lnServe h (fun _ _ h => h.copyRecs)

theorem Keeps.bookRead {m} (h : Keeps False s u) : Keeps False s (Machine.bookRead m u) :=
  .lnServe h (fun _ _ h => .ite h.lnDone (.lnDone (.getD h.bufWrite h)))

theorem Keeps.setSlotCells {b m} (h : Keeps False s u) : Keeps False s (u.setSlotCells b m) := .ite (.upd h rfl rfl) (.upd h rfl rfl)
theorem Keeps.slotWrite {b off bs} (h : Keeps False s u) : Keeps False s (u.slotWrite b off bs) := h.setSlotCells
theorem Keeps.updLog {what slot seq} (h : Keeps False s u) : Keeps False s (u.updLog what slot seq) := h.jlog

theorem Keeps.updateOpen {m} (h : Keeps False s u) : Keeps False s (Machine.updateOpen m u) :=
  .lnServe h (fun _ _ h => .ite h.lnDone (.lnDone (.updLog (.upd h.slotWrite.setSlotCells rfl rfl))))

theorem Keeps.program {b off bs} (h : Keeps False s u) : Keeps False s (u.program b off bs) := .ite h.slotWrite.slotWrite h.slotWrite

theorem Keeps.updateWrite {m} (h : Keeps False s u) : Keeps False s (Machine.updateWrite m u) := by
  unfold Machine.updateWrite
  refine .lnServe h (fun _ _ h => ?_)
  split
  · exact h.lnDone
  · refine .ite h.lnDone (.ite h.lnDone ?_)
    split
    · exact h.lnDone
    next _ _ e => exact (h.bufRead _ e).program.lnDone

theorem Keeps.updateCommit {m} (h : Keeps False s u) : Keeps False s (Machine.updateCommit m u) := by
  unfold Machine.updateCommit
  refine .lnServe h (fun _ _ h => ?_)
  split
  · exact h.lnDone
  · exact .ite (.lnDone (.updLog (.slotWrite (.slotWrite (.slotWrite (.slotWrite (.slotWrite (.upd h rfl rfl))))))))
      (.lnDone (.updLog (.upd h rfl rfl)))

theorem Keeps.slotInfo {m} (h : Keeps False s u) : Keeps False s (Machine.slotInfo m u) := .lnServe h (fun _ _ h => h.lnDone)

theorem Keeps.resetSvc {m} (h : Keeps False s u) : Keeps False s (Machine.resetSvc m u) :=
  .lnServe h (fun _ _ h => .ite h.lnDone.fullReset h.lnDone)

theorem Keeps.lanternDatagram {h' bytes} (h : Keeps False s u) : Keeps False s (Machine.lanternDatagram h' bytes u) :=
  .ite h (.ite (.upd h rfl rfl) (.lnDone (.upd h rfl rfl)))

theorem Keeps.stream {src} (h : Keeps False s u) : Keeps False s (Machine.stream src u) :=
  .ite (.lnServe h (fun _ _ h => .lnDone (.upd h rfl rfl))) h

theorem Keeps.streamTimeout (h : Keeps False s u) : Keeps False s (Machine.streamTimeout u) := .upd h rfl rfl
theorem Keeps.logFetch {src} (h : Keeps False s u) : Keeps False s (Machine.logFetch src u) := .ite (.lnServe h (fun _ _ h => h.lnDone)) h
theorem Keeps.arpRequest {ip src} (h : Keeps False s u) : Keeps False s (Machine.arpRequest ip src u) := .ite (.upd h rfl rfl) h
theorem Keeps.icmpEcho {ip src bytes} (h : Keeps False s u) : Keeps False s (Machine.icmpEcho ip src bytes u) := .ite (.upd h rfl rfl) h
theorem Keeps.supplyWarn (h : Keeps False s u) : Keeps False s (Machine.supplyWarn u) := .upd h.supplyFall rfl rfl

/-! ### Keeper -/

theorem Keeps.kpFinish {m result out} (h : Keeps q s u) : Keeps q s (u.kpFinish m result out) := .bump (.flag (.mbPut (.upd h rfl rfl)))

theorem Keeps.kpUnknown {n} (h : Keeps q s u) : Keeps q s (u.kpUnknown n) := by
  induction n generalizing u with
  | zero => exact h
  | succ n ih =>
    unfold State.kpUnknown
    split
    · exact h
    · exact .ite h (ih h.kpFinish)

theorem Keeps.kpDone {m result out} (h : Keeps False s u) : Keeps False s (u.kpDone m result out) := h.kpFinish.kpUnknown

theorem Keeps.kpServe {m code f} (h : Keeps False s u) (hf : ∀ l t, Keeps False s t → Keeps False s (f l t)) :
    Keeps False s (u.kpServe m code f) :=
  .ite (hf _ _ h) h

theorem Keeps.mbDoor {m q'} (h : Keeps q s u) : Keeps q s (Machine.mbDoor m q' u) := .ite h (.ite h.flag (.kpUnknown (.upd h rfl rfl)))
theorem Keeps.kpRead {m wpa n} (h : Keeps False s u) : ∀ r ∈ u.kpRead m wpa n, Keeps False s r.2 := .iteOptSnd h.bufRead .nonePair
theorem Keeps.kpWrite {m wpa bs} (h : Keeps False s u) : Keeps False s (u.kpWrite m wpa bs) := .getD h.bufWrite h

theorem Keeps.random {m} (h : Keeps False s u) : Keeps False s (Machine.random m u) :=
  .kpServe h (fun _ _ h => .ite h.kpDone (.ite h.kpDone h.free.kpDone))

theorem Keeps.keeperDigest {m} (h : Keeps False s u) : Keeps False s (Machine.keeperDigest m u) := by
  unfold Machine.keeperDigest
  refine .kpServe h (fun _ _ h => ?_)
  refine .ite h.kpDone ?_
  split
  · exact h.kpDone
  next _ _ e => exact (h.kpRead _ e).kpDone

theorem Keeps.sign {m} (h : Keeps False s u) : Keeps False s (Machine.sign m u) := by
  unfold Machine.sign
  refine .kpServe h (fun _ _ h => ?_)
  refine .ite h.kpDone ?_
  split
  · exact h.kpDone
  next _ _ e => exact .ite ((h.kpRead _ e).kpDone) (.kpDone (.kpWrite (.upd (h.kpRead _ e) rfl rfl)))

theorem Keeps.verify {m} (h : Keeps False s u) : Keeps False s (Machine.verify m u) := by
  refine h.kpServe fun l t h => ?_
  extract_lets k
  refine .ite h.kpDone ?_
  split
  · exact h.kpDone
  next x t e =>
    have ht : Keeps False s t := h.kpRead _ e
    split
    · exact ht.kpDone
    next y v e =>
      have hv : Keeps False s v := ht.kpRead _ e
      exact hv.kpDone

theorem Keeps.fuseRead {m} (h : Keeps False s u) : Keeps False s (Machine.fuseRead m u) := .kpServe h (fun _ _ h => .ite h.kpDone h.kpDone)

theorem Keeps.sealSvc {m} (h : Keeps False s u) : Keeps False s (Machine.sealSvc m u) := by
  unfold Machine.sealSvc
  refine .kpServe h (fun _ _ h => ?_)
  refine .ite h.kpDone (.ite h.kpDone ?_)
  refine .ite h.kpDone ?_
  split
  · exact h.kpDone
  next _ _ e => exact .ite ((h.kpRead _ e).kpDone) ((h.kpRead _ e).free.kpWrite.kpDone)

theorem Keeps.unsealSvc {m} (h : Keeps False s u) : Keeps False s (Machine.unsealSvc m u) := by
  unfold Machine.unsealSvc
  refine .kpServe h (fun _ _ h => ?_)
  refine .ite h.kpDone (.ite h.kpDone ?_)
  split
  · exact h.kpDone
  next _ _ e =>
    refine .ite ((h.kpRead _ e).kpDone) ?_
    split
    · exact (h.kpRead _ e).kpDone
    · exact (h.kpRead _ e).kpWrite.kpDone

theorem Keeps.attest {m} (h : Keeps False s u) : Keeps False s (Machine.attest m u) := by
  unfold Machine.attest
  refine .kpServe h (fun _ _ h => ?_)
  refine .ite h.kpDone (.ite h.kpDone ?_)
  split
  · exact h.kpDone
  next _ _ e => exact .ite ((h.kpRead _ e).kpDone) (.kpDone (.kpWrite (.upd (h.kpRead _ e) rfl rfl)))

theorem Keeps.keeperFault (h : Keeps False s u) : Keeps False s (Machine.keeperFault u) := .jlog (.flag (.upd h rfl rfl))

end Sys2Proof.Machine
end

section
/-! SUPPORT. One frame rule for each operation of boot and grid sense: what it leaves of memory, the queue and the fuses (`Keeps`). -/

namespace Sys2Proof.Machine

variable {q : Prop} {s t u : State}

/-! ### The configuration image -/

theorem Keeps.regBoot {e'} (h : Keeps False s u) : Keeps False s (u.regBoot e') := by
  unfold State.regBoot
  split
  · exact h.wr
  · exact h

theorem Keeps.regsBoot {blk l} (h : Keeps False s u) : Keeps False s (u.regsBoot blk l) := .foldl (fun _ _ h => h.regBoot) h

/-! ### Reset release, the boot sequence of R478 up to the check of the image, and its failures -/

theorem Keeps.powerOnReset (h : Keeps False s u) : Keeps False s (Machine.powerOnReset u) := .fullReset (.logTorn (.upd h rfl rfl))

theorem Keeps.powerOnResetAssert (h : Keeps False s u) : Keeps False s (Machine.powerOnResetAssert u) :=
  .fullReset (.logTorn (.upd h rfl rfl))

theorem Keeps.resetNLow (h : Keeps False s u) : Keeps False s (Machine.resetNLow u) := .ite h (.fullReset (.upd h rfl rfl))
theorem Keeps.resetNRelease (h : Keeps False s u) : Keeps False s (Machine.resetNRelease u) := .ite (.upd h rfl rfl) h
theorem Keeps.bootStep {n} (h : Keeps False s u) : Keeps False s (u.bootStep n) := .setFld (.upd h rfl rfl)

theorem Keeps.retireCopies (h : Keeps False s u) : Keeps False s u.retireCopies :=
  .foldl (fun _ _ h => .foldl (fun _ _ h => .ite (.upd h rfl rfl) h) h) h

theorem Keeps.crystalStable (h : Keeps False s u) : Keeps False s (Machine.crystalStable u) :=
  .ite h (.bootStep (.setFld (.wr (.retireCopies (.upd h rfl rfl)))))

theorem Keeps.bootDefaults (h : Keeps False s u) : Keeps False s u.bootDefaults := by
  unfold State.bootDefaults
  dsimp only
  split
  · exact .ite (.foldl (fun _ _ h => h.pllTake) (.upd h rfl rfl)) (.refMove (.foldl (fun _ _ h => h.pllTake) (.upd h rfl rfl)))
  · exact .foldl (fun _ _ h => h.pllTake) (.upd h rfl rfl)

theorem Keeps.bootClocks (h : Keeps False s u) : Keeps False s u.bootClocks :=
  .bootStep (.foldl (fun _ _ h => h.setDom) h.bootDefaults.setDom)

theorem Keeps.refStable {refB} (h : Keeps False s u) : Keeps False s (Machine.refStable refB u) :=
  .ite h (.ite (.ite (.ite (.ite (.upd h rfl rfl) (.upd h rfl rfl)) h) (.bootClocks (.ite (.ite (.upd h rfl rfl) (.upd h rfl rfl)) h)))
    (.ite (.bootDefaults (.ite (.ite (.upd h rfl rfl) (.upd h rfl rfl)) h)) (.refBack (.ite (.ite (.upd h rfl rfl) (.upd h rfl rfl)) h))))

theorem Keeps.slotForget (h : Keeps False s u) : Keeps False s u.slotForget := .upd h rfl rfl
theorem Keeps.bootDead (h : Keeps False s u) : Keeps False s u.bootDead := .bootStep (.upd h rfl rfl)

theorem Keeps.bootFail {cause sec idx last} (h : Keeps False s u) : Keeps False s (u.bootFail cause sec idx last) :=
  .ite h.setFld.jlog.setFld.bootDead (.bootStep (.setFld (.upd h.setFld.jlog.setFld.slotForget rfl rfl)))

theorem Keeps.bootChoose (h : Keeps False s u) : Keeps False s u.bootChoose :=
  .bootStep (.setFld (.upd (.foldl (fun _ _ h => h.free.wr) h.setFld.wr.wr) rfl rfl))

theorem Keeps.bootFirmware (h : Keeps False s u) : Keeps False s u.bootFirmware := .bootStep (.upd h.regsBoot rfl rfl)

theorem Keeps.bootVerify (h : Keeps False s u) : Keeps False s (Machine.bootVerify u) := by
  unfold Machine.bootVerify
  refine .ite h ?_
  dsimp only
  split
  · exact .bootFail (.ite (.bootChoose (.ite h.bootClocks h)) (.ite h.bootClocks h))
  · exact .bootFirmware (.wr (.tripPut (.ite (.bootChoose (.ite h.bootClocks h)) (.ite h.bootClocks h))))

/-! ### Boot steps 7 to 10 -/

theorem Keeps.trainOne {ref c t'} (h : Keeps False s u) : Keeps False s (u.trainOne ref c t') :=
  .ite h.setFld (.ite h.setFld h.wr.setFld.setDom)

theorem Keeps.train {cs} (h : Keeps False s u) : Keeps False s (u.train cs) := .ite h (.upd (.foldl (fun _ _ h => h.trainOne) h) rfl rfl)

theorem Keeps.bootCores (h : Keeps False s u) : Keeps False s u.bootCores :=
  .foldl (fun _ _ h => h.setCstat) (.foldl (fun _ _ h => h.judgeWorn) h)

theorem Keeps.bootWays (h : Keeps False s u) : Keeps False s u.bootWays := by
  unfold State.bootWays
  refine .foldl (fun _ _ h => ?_) h
  refine .ite (.ite h (.upd h rfl rfl)) ?_
  split
  · exact h
  · exact .ite h.wr (.upd h.wr rfl rfl)

theorem Keeps.bootPlace {body} (h : Keeps False s u) : ∀ t ∈ u.bootPlace body, Keeps False s t := by
  intro t e
  generalize hf : State.bootPlace = f at e
  delta State.bootPlace at hf
  subst hf
  dsimp -zeta only at e
  extract_lets -underBinder at e
  split at e
  · nomatch e
  · revert e
    extract_lets maps spans used r v ent s1 s2 m b s3
    have h2 : Keeps False s s2 := .foldl (fun _ _ h => h.setFld) (.foldl (fun _ _ h => h.setFld) h)
    have h3 : Keeps False s s3 := h2.upd rfl rfl
    exact Keeps.iteOpt .none (.some h3.wr.bootCores.bootWays.bootStep) t

theorem Keeps.mapApply {e'} (h : Keeps False s u) : Keeps False s (u.mapApply e') := by
  unfold State.mapApply
  dsimp only
  split
  · exact .upd (.upd h rfl rfl) rfl rfl
  · exact .setPort (.upd h rfl rfl)
  · exact .upd (.upd h rfl rfl) rfl rfl
  · exact .upd (.upd h rfl rfl) rfl rfl
  · exact .wr (.upd h rfl rfl)
  · exact .wr (.upd h rfl rfl)
  · exact .upd h rfl rfl

theorem Keeps.applyTables {body} (h : Keeps False s u) : Keeps False s (u.applyTables body) := .upd h rfl rfl

theorem Keeps.applyPorts {body} (h : Keeps False s u) : Keeps False s (u.applyPorts body) :=
  .upd (.foldl (fun _ _ h => h.setPort) h) rfl rfl

theorem Keeps.applyWords (h : Keeps False s u) : Keeps False s u.applyWords := .foldl (fun _ _ h => h.pllTake) h.tripPut.tripPut.tripPut

theorem Keeps.bootApply {body} (h : Keeps False s u) : Keeps False s (u.bootApply body) :=
  .perfFollow (.tbCtlWrite (.upd (.bootStep (.foldl (fun _ _ h => .ite h h.setDom)
    (.foldl (fun _ _ h => h.mapApply) (.applyWords (.applyPorts (.applyTables (.upd h.regsBoot rfl rfl))))))) rfl rfl))

theorem Keeps.channelTraining {cs} (h : Keeps False s u) : Keeps False s (Machine.channelTraining cs u) := by
  unfold Machine.channelTraining
  refine .ite h ?_
  extract_lets -underBinder body s1
  have h1 : Keeps False s s1 := Keeps.bootStep (.regsBoot h.bootStep.train)
  clear_value s1
  cases (dirFail body).or (listFail body) with
  | some _ => exact h1.bootFail
  | none =>
    cases s1.checkFail body (12 * s1.places) with
    | some _ => exact .ite h1.free.bootFail h1.bootFail
    | none =>
      cases hp : s1.bootPlace body with
      | none => exact h1.bootFail
      | some t => exact (h1.bootPlace _ hp).bootApply

/-! ### Boot steps 11 to 14 -/

theorem Keeps.bootInit {body} (h : Keeps False s u) : Keeps False s (u.bootInit body) := .bootStep (.upd h rfl rfl)
theorem Keeps.linesAt {pa bs} (h : Keeps False s u) : Keeps False s (u.linesAt pa bs) := .foldl (fun _ _ h => h.writePa) h
theorem Keeps.keyEnclaves (h : Keeps False s u) : Keeps False s u.keyEnclaves := .foldl (fun _ _ h => .setFld (.upd h.free rfl rfl)) h

theorem Keeps.bootVotes (h : Keeps False s u) : Keeps False s u.bootVotes :=
  .foldl (fun _ _ h => .ite (.ite h.setFld.setFld h.setFld.setFld) h) (.foldl (fun _ _ h => .ite h.setFld.setFld h) h)

theorem Keeps.bootAssign {body} (h : Keeps False s u) : Keeps False s (u.bootAssign body) :=
  .bootStep (.jlog (.tripPut (.bootVotes (.keyEnclaves
    (.upd (.foldl (fun _ _ h => h.wr) (.linesAt (.linesAt (.upd h.regsBoot rfl rfl)))) rfl rfl)))))

theorem Keeps.bootInitialise (h : Keeps False s u) : Keeps False s (Machine.bootInitialise u) :=
  .ite h (.ite h.bootInit.bootFail h.bootInit.bootAssign)

theorem Keeps.loadRec {w r} (h : Keeps False s u) : Keeps False s (u.loadRec w r) := by
  unfold State.loadRec
  refine .foldl (fun _ _ h => ?_) h
  split
  · exact h.requestNotes.agentWrite
  · exact h

theorem Keeps.loadEnclaves {body} (h : Keeps False s u) : Keeps False s (u.loadEnclaves body) :=
  .foldl (fun _ _ h => .ite (.upd (.foldl (fun _ _ h => h.loadRec) h) rfl rfl) h) h

theorem Keeps.bootEngineStart {b l img} (h : Keeps False s u) : Keeps False s (u.bootEngineStart b l img) := by
  unfold State.bootEngineStart
  dsimp only
  split
  · exact h.linesAt.flag
  · exact h.linesAt.setEng.engStart

theorem Keeps.bootBays {body} (h : Keeps False s u) : Keeps False s (u.bootBays body) :=
  .foldl (fun _ _ h => .foldl (fun _ _ h => h.bootEngineStart) (.foldl (fun _ _ h => .ite h.setEng h) h)) h

theorem Keeps.bootPlacement (h : Keeps False s u) : Keeps False s u.bootPlacement :=
  .foldl (fun _ _ h => .ite h.judgeBay h) (.foldl (fun _ _ h => .ite h.setDom h.setDom)
    (.foldl (fun _ _ h => .ite (.foldl (fun _ _ h => h.setCore) h.setDom) h.setDom)
    (.foldl (fun _ _ h => .ite h.setCstat.loadSys.setVoteBit h) h)))

theorem Keeps.bootTasks (h : Keeps False s u) : Keeps False s u.bootTasks := by
  unfold State.bootTasks
  refine .foldl (fun _ _ h => ?_) h
  dsimp only
  split
  · exact h.pick.setRt
  · exact h.pick

theorem Keeps.bootDone {mode} (h : Keeps False s u) : Keeps False s (u.bootDone mode) := h.wr.jlog

theorem Keeps.bootLoad (h : Keeps False s u) : Keeps False s (Machine.bootLoad u) :=
  .ite h (.ite (.beaconRun (.bootDone (.upd (.bootStep
    (.bootTasks (.bootPlacement (.bootBays (.loadEnclaves (.foldl (fun _ _ h => h.loadRec) h.bootStep)))))) rfl rfl)))
    (.bootDone (.upd (.bootStep (.bootTasks (.bootPlacement
    (.bootBays (.loadEnclaves (.foldl (fun _ _ h => h.loadRec) h.bootStep)))))) rfl rfl)))

theorem Keeps.unitOff {n} (h : Keeps q s u) : Keeps q s (u.unitOff n) :=
  .ite (.ite h.setPort.netLink h.setPort) (.ite (.ite h.pcieLink h) h.setCanc)

theorem Keeps.unitWord {key v} (h : Keeps q s u) : Keeps q s (u.unitWord key v) := .foldl (fun _ _ h => h.unitOff) h.wr

theorem Keeps.unitVotes {key v q' clock} (h : Keeps q s u) : Keeps q s (u.unitVotes key v q' clock) :=
  .foldl (fun _ _ h => h.denyVote) h.unitWord

theorem Keeps.bayVotes {key v q' clock} (h : Keeps q s u) : Keeps q s (u.bayVotes key v q' clock) :=
  .ite (.foldl (fun _ _ h => h.denyVote) h.wr) (.foldl (fun _ _ h => h.follow) (.foldl (fun _ _ h => h.denyVote) h.wr))

theorem Keeps.tileVotes {key i v vote} (h : Keeps q s u) : Keeps q s (u.tileVotes key i v vote) := .foldl (fun _ _ h => h.follow) h.wr

theorem Keeps.voteTo {key v q'} (h : Keeps q s u) : ∀ t ∈ u.voteTo key v q', Keeps q s t :=
  .iteOpt (.some h.tileVotes) (.iteOpt (.iteOpt (.some h.tileVotes) (.some h))
    (.iteOpt (.some h.bayVotes) (.iteOpt (.some h.bayVotes)
    (.iteOpt (.some h.unitVotes) (.iteOpt (.some h.unitVotes) (.iteOpt (.some h.unitWord) .none))))))

theorem Keeps.voteWrite {q' b off v} (h : Keeps False s u) : Keeps False s (Machine.voteWrite q' b off v u) := .getD h.voteTo h

theorem Keeps.domainReady {d} (h : Keeps False s u) : Keeps False s (Machine.domainReady d u) := by
  unfold Machine.domainReady
  split
  · exact .ite (.foldl (fun _ _ h => h.setCore.coreReady) h.advanceTo.setDom.flag.bump.jlogW)
      (.ite h.advanceTo.setDom.flag.bump.jlogW.judgeBay h.advanceTo.setDom.flag.bump.jlogW)
  · exact h

/-! ### The grid sense unit -/

theorem Keeps.setGin {i x} (h : Keeps False s u) : Keeps False s (u.setGin i x) := .upd h rfl rfl
theorem Keeps.setGrp {g x} (h : Keeps False s u) : Keeps False s (u.setGrp g x) := .upd h rfl rfl

theorem Keeps.postGrid {g q' v start stop chans} (h : Keeps False s u) : Keeps False s (u.postGrid g q' v start stop chans) :=
  .ite h.postSample h

theorem Keeps.quotFree {num den} (h : Keeps False s u) : Keeps False s (u.quotFree num den).2 :=
  .iteSnd h.free.paired (.iteSnd h h.free.paired)

theorem Keeps.rootFree {num den} (h : Keeps False s u) : Keeps False s (u.rootFree num den).2 :=
  .iteSnd h.free.paired (.iteSnd h h.free.paired)

theorem Keeps.rmsOf {g c start stop} (h : Keeps False s u) : Keeps False s (u.rmsOf g c start stop).2 := h.rootFree

theorem Keeps.gridEvent {g kind cur begins ends mask first extreme stamp} (h : Keeps False s u) :
    Keeps False s (u.gridEvent g kind cur begins ends mask first extreme stamp).2 := by
  unfold State.gridEvent
  split
  · split
    · exact h.bump.flag.jlog
    · exact h
  · dsimp only
    split
    · exact h.jlog
    · exact h

theorem Keeps.gridEvents {g stamp} (h : Keeps False s u) : Keeps False s (u.gridEvents g stamp) := h.gridEvent.gridEvent.gridEvent.setGrp
theorem Keeps.postHeadroom {g stamp} (h : Keeps False s u) : Keeps False s (u.postHeadroom g stamp) := .ite h.wr.postSample h.wr

theorem Keeps.halfEnd {g start stop} (h : Keeps False s u) : Keeps False s (u.halfEnd g start stop) :=
  .postGrid (.gridEvents (.ite (.foldl (fun _ _ h => h.rmsOf.postGrid) h.rmsOf.rmsOf.rmsOf.setGrp.postGrid.postGrid.postGrid)
    h.rmsOf.rmsOf.rmsOf.setGrp.postGrid.postGrid.postGrid))

theorem Keeps.halfStep {g stop} (h : Keeps False s u) : Keeps False s (u.halfStep g stop) := by
  unfold State.halfStep
  dsimp only
  split
  · exact h.setGrp.halfEnd
  · exact h.setGrp

theorem Keeps.freqOf {period} (h : Keeps False s u) : Keeps False s (u.freqOf period).2 := h.quotFree.paired

theorem Keeps.activePosts {g start stop} (h : Keeps False s u) : Keeps False s (u.activePosts g start stop) :=
  .wr (.setGrp (.postGrid (.quotFree (.foldl (fun _ _ h => h.quotFree.postGrid) h))))

theorem Keeps.reactivePosts {g start stop} (h : Keeps False s u) : Keeps False s (u.reactivePosts g start stop) :=
  .postGrid (.quotFree (.foldl (fun _ _ h => h.quotFree.postGrid) h))

theorem Keeps.powerEnd {g start stop} (h : Keeps False s u) : Keeps False s (u.powerEnd g start stop) :=
  .ite (.postHeadroom (.setGrp (.reactivePosts (.activePosts (.foldl (fun _ _ h => h.postGrid) h)))))
    (.reactivePosts (.activePosts (.foldl (fun _ _ h => h.postGrid) h)))

theorem Keeps.harmChan {g c start stop} (h : Keeps False s u) : Keeps False s (u.harmChan g c start stop) :=
  .foldl (fun _ _ h => h.rootFree.postGrid) h.rootFree.postGrid

theorem Keeps.harmEnd {g start stop} (h : Keeps False s u) : Keeps False s (u.harmEnd g start stop) := .foldl (fun _ _ h => h.harmChan) h
theorem Keeps.phasePosts {g start stop} (h : Keeps False s u) : Keeps False s (u.phasePosts g start stop) := h.postGrid.postGrid.postGrid

theorem Keeps.cycleEnd {g start stop period} (h : Keeps False s u) : Keeps False s (u.cycleEnd g start stop period) := by
  unfold State.cycleEnd
  refine .ite ?_ ?_
  · refine .harmEnd (.setGrp ?_)
    refine .ite ?_ ?_
    · refine .powerEnd (.phasePosts ?_)
      split
      · exact h
      · exact h.freqOf.setGrp.wr.postGrid
    · refine .phasePosts ?_
      split
      · exact h
      · exact h.freqOf.setGrp.wr.postGrid
  · refine .setGrp (.ite ?_ ?_)
    · refine .powerEnd (.phasePosts ?_)
      split
      · exact h
      · exact h.freqOf.setGrp.wr.postGrid
    · refine .phasePosts ?_
      split
      · exact h
      · exact h.freqOf.setGrp.wr.postGrid

theorem Keeps.cycleStep {g stop period} (h : Keeps False s u) : Keeps False s (u.cycleStep g stop period) := by
  unfold State.cycleStep
  refine .setGrp ?_
  split
  · exact h.cycleEnd
  · exact h

theorem Keeps.crossing {g positive stamp} (h : Keeps False s u) : Keeps False s (u.crossing g positive stamp) :=
  .ite h.setGrp.halfStep.cycleStep (.ite h.halfStep h)

theorem Keeps.loseSync {g} (h : Keeps False s u) : Keeps False s (u.loseSync g) := h.setGrp.flag

theorem Keeps.nominalRun {g x n} (h : Keeps False s u) : Keeps False s (u.nominalRun g x n) := by
  induction n generalizing u with
  | zero => exact h
  | succ n ih => exact .ite h (ih (.ite h.setGrp.halfStep.cycleStep h.setGrp.halfStep))

theorem Keeps.groupTime {g t'} (h : Keeps False s u) : Keeps False s (u.groupTime g t') :=
  .ite h (.ite (.ite h.loseSync h) (.nominalRun (.ite h.loseSync h)))

theorem Keeps.phaseA {g t'} (h : Keeps False s u) : Keeps False s (u.phaseA g t') := by
  unfold State.phaseA
  dsimp only
  split
  · exact h.setGrp
  · exact .ite h.setGrp.crossing (.ite h.setGrp.crossing h.setGrp)

theorem Keeps.groupSample {i g stamp} (h : Keeps False s u) : Keeps False s (u.groupSample i g stamp) :=
  .ite h (.groupTime (.ite h.phaseA h))

theorem Keeps.decimatedSample {i raw} (h : Keeps False s u) : Keeps False s (Machine.decimatedSample i raw u) :=
  .ite h (.ite h.setGin (.foldRange (fun _ _ h => h.groupSample) (.ite h.setGin.flag h.setGin)))

theorem Keeps.modFault {i faulted} (h : Keeps False s u) : Keeps False s (Machine.modFault i faulted u) :=
  .ite h (.ite h.setGin.flag.bump.jlog h.setGin.jlog)

theorem Keeps.noSync {g} (h : Keeps False s u) : Keeps False s (Machine.noSync g u) := .ite h (.ite h.loseSync h.flag)

end Sys2Proof.Machine
end

section
/-! SUPPORT. One frame rule for each operation of register accesses, exceptions and address translation: what it leaves of memory, the queue and the fuses (`Keeps`). -/

namespace Sys2Proof.Machine

variable {q : Prop} {s t u : State}

/-! ### Accesses to control-space registers -/

theorem Keeps.offAccess {q' b off d write} (h : Keeps q s u) : Keeps q s (u.offAccess q' b off d write).2 :=
  .iteSnd (.iteSnd h.setVoteBit.follow.paired h.setFld.follow.paired) h.flag.bump.jlogW.paired

theorem Keeps.voteLost {i} (h : Keeps q s u) : Keeps q s (u.voteLost i) := h.flag.jlog.fullReset

theorem Keeps.tripVote {i} (h : Keeps q s u) : Keeps q s (u.tripVote i).2 := by
  unfold State.tripVote
  split
  next _ e => exact (h.tripRead _ e).paired
  · exact h.voteLost.paired

theorem Keeps.setLatch {key v} (h : Keeps q s u) : Keeps q s (u.setLatch key v) := .upd h rfl rfl

theorem Keeps.latchRead {b off} (h : Keeps q s u) : Keeps q s (u.latchRead b off) :=
  .ite h.setLatch (.ite h.setLatch (.ite h.setLatch (.ite h.setLatch
    (.ite h.setLatch (.ite h.setLatch (.ite (.upd h rfl rfl) (.ite (.upd h rfl rfl) (.ite (.ite h.setLatch h) h))))))))

theorem Keeps.readAt {q' b off row} (h : Keeps q s u) : Keeps q s (u.readAt q' b off row).2 := by
  unfold State.readAt
  dsimp only
  split
  · exact h.memDataRead
  · split
    · exact h.txsTagPop
    · exact .latchRead (.ite h h.wr)

theorem Keeps.regRead {q' b o} (h : Keeps q s u) : Keeps q s (u.regRead q' b o).st := by
  unfold State.regRead
  dsimp only
  split
  · exact h
  · split
    · exact h
    · split
      · split
        · exact h.latchRead
        · exact h.offAccess
      · split
        · split
          · exact h.tripVote.readAt
          · exact h.tripVote
        · exact h.readAt

theorem Keeps.regPut {key mask v} (h : Keeps q s u) : Keeps q s (u.regPut key mask v) := h.wr

theorem Keeps.putPeak {key mask v} (h : Keeps q s u) : Keeps q s (u.putPeak key mask v) := by
  unfold State.putPeak
  split
  · exact h.wr
  · exact h.regPut

theorem Keeps.pairTime {q' key v} (h : Keeps q s u) : Keeps q s (u.pairTime q' key v) :=
  .ite h.tbCtlWrite (.ite h.tbRateWrite (.ite h.taiWrite
    (.ite h.wr (.ite h.beaconRun (.ite h.epochWrite (.ite (.ite h.flag h.wr)
    (.ite (.ite h.dbgMetaRead h) (.ite h.swOpen (.ite h.swArmLo (.ite h.swCancel h.regPut))))))))))

theorem Keeps.twCmd {v} (h : Keeps q s u) : Keeps q s (u.twCmd v) :=
  .ite (.handoverRequest (.ite (.isolate (.ite h.rejoin h)) (.ite h.rejoin h))) (.ite (.isolate (.ite h.rejoin h)) (.ite h.rejoin h))

theorem Keeps.pairClock {q' key v} (h : Keeps q s u) : Keeps q s (u.pairClock q' key v) :=
  .ite h.pllRefSelect (.ite h.clkSrcWrite (.ite h.wr (.ite h.perfRequest h)))

theorem Keeps.pairTile {q' t' off v} (h : Keeps q s u) : Keeps q s (u.pairTile q' t' off v) :=
  .ite h.l3Lock (.ite (.ite h.lockFill h.wr) (.ite (.ite h.rangeGo h.wr) h))

theorem Keeps.pairDone {q' b off v} (h : Keeps q s u) : Keeps q s (u.pairDone q' b off v) :=
  .ite h.pairTime (.ite h.baySafeAll (.ite h.wr (.ite h.twCmd
    (.ite h.perst (.ite h.wdKick (.ite h.pairClock (.ite h.wr (.ite h.laneTest (.ite h.pairTile h)))))))))

theorem Keeps.putMailbox {q' b off mask v} (h : Keeps q s u) : Keeps q s (u.putMailbox q' b off mask v) :=
  .ite (.ite (.ite h.flag h.wr) (.ite (.ite h.mbDoor h) h.regPut))
    (.ite (.ite h.flag h.wr) (.ite (.ite h.lnDoor h) (.ite h.setSensor h.regPut)))

theorem Keeps.coreMsi {q' v} (h : Keeps q s u) : Keeps q s (u.coreMsi q' v) := .ite (.ite h.flag.flag h.flag) h

theorem Keeps.putPort {q' b off mask v} (h : Keeps q s u) : Keeps q s (u.putPort q' b off mask v) :=
  .ite (.ite h.coreMsi h.regPut) (.ite (.ite (.ite h.canRecover h) (.ite h.ringTailWrite h.regPut)) (.ite h.ringTailWrite h.regPut))

theorem Keeps.putSwitch {key mask v} (h : Keeps q s u) : Keeps q s (u.putSwitch key mask v) :=
  .ite h.swEntVal (.ite (.ite h.wr h.flag) h.regPut)

theorem Keeps.putRange {key mask v} (h : Keeps q s u) : Keeps q s (u.putRange key mask v) := .upd h rfl rfl

theorem Keeps.regWrite {q' b off row v} (h : Keeps q s u) : Keeps q s (u.regWrite q' b off row v) := by
  unfold State.regWrite
  dsimp only
  split
  next _ e => exact h.voteTo _ e
  · exact .ite h.putSwitch (.ite h.putMailbox (.ite h.putPort
      (.ite (.ite h.traceRestart h.regPut) (.ite (.ite h h.wr.tripPut) (.ite h (.ite h.tripPut (.ite h.putRange h.putPeak)))))))

theorem Keeps.store1 {q' b off v} (h : Keeps q s u) : Keeps q s (u.store1 q' b off v).2 := by
  unfold State.store1
  refine .iteSnd h.loneWrite.paired (.iteSnd h ?_)
  split
  · exact h
  · split
    · exact h.offAccess
    · exact .iteSnd h.regWrite.paired (.paired (.upd h rfl rfl))

theorem Keeps.regStore {q' b o v} (h : Keeps q s u) : Keeps q s (u.regStore q' b o v).2 := by
  unfold State.regStore
  refine .iteSnd h ?_
  dsimp only
  split
  · exact h.guardExpire.store1
  · refine .iteSnd ?_ h.guardExpire.guardClear.guardFail.store1
    refine .iteSnd ?_ h.guardExpire.guardClear.guardFail.paired
    split
    · exact h.guardExpire.guardClear.offAccess
    · exact h.guardExpire.guardClear.pairDone.paired

theorem Keeps.regDrop {q' b off v} (h : Keeps q s u) : Keeps q s (u.regDrop q' b off v) := .ite h.guardBreak.loneWrite h.guardBreak
theorem Keeps.registerWrite {q' b off v} (h : Keeps False s u) : Keeps False s (Machine.registerWrite q' b off v u) := h.regStore

theorem Keeps.guardPairHold {q' b off v} (h : Keeps False s u) : Keeps False s (Machine.guardPairHold q' b off v u) := by
  unfold Machine.guardPairHold
  split
  · exact .ite h h.regStore
  · exact h

theorem Keeps.guardWindowExpire {b} (h : Keeps False s u) : Keeps False s (Machine.guardWindowExpire b u) := by
  unfold Machine.guardWindowExpire
  split
  · exact h
  · exact h.advanceTo.guardClear.guardFail

theorem Keeps.latchedRead {q' b off} (h : Keeps False s u) : Keeps False s (Machine.latchedRead q' b off u) :=
  .ite h.regRead (.upd h.regRead rfl rfl)

theorem Keeps.statusRead {q' b off} (h : Keeps False s u) : Keeps False s (Machine.statusRead q' b off u) :=
  .ite h.regRead (.upd h.regRead rfl rfl)

/-! ### Exceptions, interrupts and mask levels of a Scarab core -/

theorem Keeps.toWorld {k w} (h : Keeps False s u) : Keeps False s (u.toWorld k w) := .ite h h.setCore.evDraw.setCore.sealTile

theorem Keeps.enter {k w lvl cause sub olvl epc eaddr blk} (h : Keeps False s u) :
    Keeps False s (u.enter k w lvl cause sub olvl epc eaddr blk) :=
  h.setCore.toWorld

theorem Keeps.coreHalt {k cause level pc} (h : Keeps False s u) : Keeps False s (u.coreHalt k cause level pc) :=
  h.jlogFull.setCore.bookAdd.hiveHalt

theorem Keeps.escalateLog {k e'} (h : Keeps False s u) : Keeps False s (u.escalateLog k e') := h.jlogFull

theorem Keeps.take {k e'} (h : Keeps False s u) : Keeps False s (u.take k e') := by
  unfold State.take
  refine .ite ?_ ?_
  · refine .coreHalt ?_
    split
    · exact h.setCore
    · exact h
  · refine .ite ?_ ?_
    · refine .enter (.setCore ?_)
      split
      · exact h.setCore
      · exact h
    · refine .enter (.setCore ?_)
      refine .escalateLog ?_
      split
      · exact h.setCore
      · exact h

theorem Keeps.irqEntry {k n blk} (h : Keeps False s u) : Keeps False s (u.irqEntry k n blk) := h.setCore.enter

theorem Keeps.raise {k e'} (h : Keeps False s u) : Keeps False s (u.raise k e') := by
  unfold State.raise
  split
  · exact h.irqEntry
  · exact h.take

theorem Keeps.interruptEntry {k} (h : Keeps False s u) : Keeps False s (Machine.interruptEntry k u) := by
  unfold Machine.interruptEntry
  dsimp only
  split
  · exact h.setCore.evDraw.irqEntry
  · exact h.setCore.evDraw

theorem Keeps.timerSource {k} (h : Keeps False s u) : Keeps False s (Machine.timerSource k u) := .ite h h.advanceTo
theorem Keeps.ringDoor {fromSealed v} (h : Keeps False s u) : Keeps False s (u.ringDoor fromSealed v) := .ite h h.setCore
theorem Keeps.doorbellWrite {k n} (h : Keeps False s u) : Keeps False s (Machine.doorbellWrite k n u) := .ite h.ringDoor h
theorem Keeps.eretLegal {k} (h : Keeps False s u) : Keeps False s (u.eretLegal k) := .ite h.setCore.toWorld.takeOff h.setCore.toWorld

theorem Keeps.eret {k} (h : Keeps False s u) : Keeps False s (u.eret k) := by
  unfold State.eret
  dsimp only
  split
  · exact h.eretLegal
  · exact h.setCore

theorem Keeps.wcallLog {k x reason} (h : Keeps False s u) : Keeps False s (u.wcallLog k x reason) := h.jlogFull

theorem Keeps.wcall {k x w} (h : Keeps False s u) : Keeps False s (u.wcall k x w) := by
  unfold State.wcall
  dsimp only
  split
  · exact h.irqEntry
  · exact .ite h.setCore.enter h.flag.wcallLog.take

/-! ### A slot at a station -/

theorem Keeps.holdNext {x} (h : Keeps False s u) : Keeps False s (u.holdNext x) := .ite h h.setRg
theorem Keeps.sendOn {x p} (h : Keeps False s u) : Keeps False s (u.sendOn x p) := .upd h.holdNext rfl rfl
theorem Keeps.hopOn {x p} (h : Keeps False s u) : Keeps False s (u.hopOn x p) := .sendOn (.foldlSnd (fun _ _ h => h.probeSee) h)
theorem Keeps.emptyOn {x} (h : Keeps False s u) : Keeps False s (u.emptyOn x) := h.sendOn
theorem Keeps.eject {x} (h : Keeps False s u) : Keeps False s (u.eject x) := .upd h.payErr rfl rfl
theorem Keeps.deflect {x} (h : Keeps False s u) : Keeps False s (u.deflect x) := .hopOn (.ite h.bump.bump h.bump)
theorem Keeps.turn {x nr np} (h : Keeps False s u) : Keeps False s (u.turn x nr np) := .ite h.setRg.emptyOn (.ite h.setRg.emptyOn h.deflect)

theorem Keeps.offered {st a} (h : Keeps False s u) : Keeps False s (u.offered st a) := by
  unfold State.offered
  split
  · exact .ite (.upd h rfl rfl) h
  · exact h

theorem Keeps.tokenTake {st cls} (h : Keeps False s u) : Keeps False s (u.tokenTake st cls) := .ite h (.upd h rfl rfl)
theorem Keeps.sample {r line slice isSealed} (h : Keeps q s u) : Keeps q s (u.sample r line slice isSealed) := .ite h h.setRg
theorem Keeps.sampled {r p} (h : Keeps False s u) : Keeps False s (u.sampled r p) := .ite h.sample h

theorem Keeps.emptySlot {x} (h : Keeps False s u) : Keeps False s (u.emptySlot x) := by
  unfold State.emptySlot
  dsimp only
  split
  · exact h.setRg.hopOn
  · split
    · exact h.setRg.hopOn
    · refine .ite h.emptyOn ?_
      split
      · exact h.emptyOn
      · exact .hopOn (.sampled (.tokenTake (.upd h rfl rfl)))

theorem Keeps.fullSlot {x} (h : Keeps False s u) : Keeps False s (u.fullSlot x) := by
  unfold State.fullSlot
  refine .ite (.ite h.eject.emptyOn h.deflect) (.ite ?_ h.hopOn)
  split
  · exact h.hopOn
  · split
    · exact h.turn
    · exact h.hopOn

theorem Keeps.ringPass {x} (h : Keeps False s u) : Keeps False s (Machine.ringPass x u) :=
  .ite h (.ite h.offered.hparDrop.emptyOn (.ite h.offered.emptySlot (.ite h.offered.bump.emptyOn h.offered.fullSlot)))

/-! ### What a step of a core's instruction answers, and its accesses to lines of DRAM -/

theorem Keeps.consume {α : Type} {k pa poison v} (h : Keeps q s u) : Keeps q s (Machine.State.consume u k pa poison v : MRes α).state := by
  unfold State.consume
  split
  · exact h
  · exact h

theorem Keeps.asks {k line} (h : Keeps q s u) : Keeps q s (u.asks k line) := by
  unfold State.asks
  refine .ite h ?_
  split
  · exact h.sample
  · exact h

theorem Keeps.lineL2 {k line fetch} (h : Keeps q s u) : Keeps q s (u.lineL2 k line fetch).state := by
  unfold State.lineL2
  refine .iteState h ?_
  dsimp only
  split
  · exact h.recall.l2Touch.okay
  · refine .iteState h.recall.coreNack.waiting (.iteState h.recall.asks.cohRdNa.mshrDrop.memNotes.count.okay ?_)
    refine .iteState h.recall.waiting ?_
    split
    next _ e => exact (h.recall.asks.cohRdS _ e).memNotes.count.count.okay
    · exact h.recall.waiting

theorem Keeps.lineCached {k line} (h : Keeps q s u) : Keeps q s (u.lineCached k line).state :=
  .andThen h.lineL2 (fun _ _ h => h.l1Maybe.count.okay)

theorem Keeps.lineHome {k line} (h : Keeps q s u) : Keeps q s (u.lineHome k line).state :=
  .iteState h.coreNack.waiting h.asks.cohRdNa.mshrDrop.memNotes.okay

theorem Keeps.lineLoad {k line pol} (h : Keeps q s u) : Keeps q s (u.lineLoad k line pol).state := .iteState h.lineHome h.lineCached

theorem Keeps.dramBytes {k pa n pol} (h : Keeps q s u) : Keeps q s (u.dramBytes k pa n pol).state :=
  .andThen h.lineLoad (fun _ _ h => h.consume)

theorem Keeps.l1iFill {k line poison} (h : Keeps False s u) : Keeps False s (u.l1iFill k line poison) := by
  unfold State.l1iFill
  dsimp only
  split
  · exact h
  · exact h.setCc

theorem Keeps.fetchLine {k line pol} (h : Keeps False s u) : Keeps False s (u.fetchLine k line pol).state := by
  unfold State.fetchLine
  refine .iteState (.andThen h.lineHome (fun _ _ h => h)) ?_
  split
  · exact h.setCc.okay
  · exact .andThen h.lineL2 (fun _ _ h => h.l1iFill.count.okay)

theorem Keeps.l1iDrop {k line} (h : Keeps q s u) : Keeps q s (u.l1iDrop k line) := h.setCc
theorem Keeps.ownStore {k x mask data} (h : Keeps q s u) : Keeps q s (u.ownStore k x mask data) := h.l2Set'.l2Touch.l1Maybe

theorem Keeps.homeStore {k line mask data keep alloc} (h : Keeps q s u) : Keeps q s (u.homeStore k line mask data keep alloc).state := by
  unfold State.homeStore
  refine .iteState h.coreNack.waiting ?_
  dsimp only
  split
  · exact .okay (.ite h.asks.cohWrNa.mshrDrop.l2Set'.l2Touch h.asks.cohWrNa.mshrDrop.l2Set'.l2Touch.l1Fill)
  · exact h.asks.cohWrNa.mshrDrop.okay

theorem Keeps.ownAsk {k line zero} (h : Keeps q s u) : Keeps q s (u.ownAsk k line zero).state := by
  unfold State.ownAsk
  refine .iteState h.coreNack.waiting ?_
  split
  · exact h
  next _ e =>
    dsimp only
    split
    · exact .okay (.ite ((h.asks.cohRdX _ e).memNotes.count) ((h.asks.cohRdX _ e).memNotes))
    · exact (h.asks.cohRdX _ e).memNotes.waiting

theorem Keeps.own {k line zero} (h : Keeps q s u) : Keeps q s (u.own k line zero).state := by
  unfold State.own
  split
  · exact .iteState h h.ownAsk
  · exact .iteState h h.ownAsk

theorem Keeps.wbStore {k line mask data zero} (h : Keeps q s u) : Keeps q s (u.wbStore k line mask data zero).state :=
  .iteState h.homeStore (.andThen h.own (fun _ _ h => h.ownStore.okay))

theorem Keeps.policyStore {k p zero} (h : Keeps q s u) : Keeps q s (u.policyStore k p zero).state := by
  unfold State.policyStore
  dsimp only
  split
  · exact h.homeStore
  · exact h.homeStore
  · exact h.wbStore
  · exact h.homeStore
  · split
    · exact h.wbStore
    · exact h.homeStore

theorem Keeps.dramOut {k p zero} (h : Keeps q s u) : Keeps q s (u.dramOut k p zero).state :=
  .iteState (.andThen h.policyStore (fun _ _ h => h.l1iDrop.okay))
    (.iteState h (.andThen h.recall.policyStore (fun _ _ h => h.count.count.l1iDrop.okay)))

theorem Keeps.amoLine {k line} (h : Keeps False s u) : Keeps False s (u.amoLine k line).state :=
  .iteState h (.iteState (.andThen h.recall.lineHome (fun _ _ h => h.count.okay))
    (.andThen h.recall.own (fun _ _ h => h.l2Touch.l1Maybe.count.count.okay)))

/-! ### Address translation -/

theorem Keeps.trFault {α : Type} {k va stage lvl kind wpa} (h : Keeps q s u) :
    Keeps q s (Machine.State.trFault u k va stage lvl kind wpa : MRes α).state :=
  h

theorem Keeps.capPush {α : Type} {n l x} (h : Keeps q s u) : Keeps q s (Machine.State.capPush u n l x : List α × State).2 :=
  .iteSnd h h.free.paired

theorem Keeps.walkRead {k pa} (h : Keeps q s u) : Keeps q s (u.walkRead k pa).state := .andThen h.lineL2 (fun _ _ h => h.consume)
theorem Keeps.walkcAdd {k e} (h : Keeps q s u) : Keeps q s (u.walkcAdd k e) := Keeps.setRun h.capPush fun r => ⟨r, rfl⟩

theorem Keeps.s2Walk {k w g} (h : Keeps q s u) : Keeps q s (u.s2Walk k w g).state := by
  unfold State.s2Walk
  split
  · exact h
  · exact .andThen h.walkRead (fun _ _ h => .okay (.ite h.walkcAdd h))

theorem Keeps.stage2 {k w va lvl wpa} (h : Keeps q s u) : Keeps q s (u.stage2 k w va lvl wpa).state := by
  unfold State.stage2
  split
  · exact .iteState (.andThen h.s2Walk (fun _ _ h => .iteState h h.trFault)) h.trFault
  · exact h.trFault
  · exact h

theorem Keeps.walk {k w va n lvl table} (h : Keeps q s u) : Keeps q s (u.walk k w va n lvl table).state := by
  induction n generalizing u lvl table with
  | zero => exact h.trFault
  | succ n ih =>
    unfold State.walk
    refine .andThen h.stage2 fun o _ h => ?_
    split
    · refine .andThen h.walkRead fun d _ h => ?_
      exact .iteState h.trFault (.iteState h.trFault (.iteState (ih h.walkcAdd) h))
    · exact h.trFault
    · exact h.trFault

theorem Keeps.stage1 {k w va} (h : Keeps q s u) : Keeps q s (u.stage1 k w va).state := by
  unfold State.stage1
  dsimp only
  split <;> exact h.walk

theorem Keeps.entryOut {k e' va} (h : Keeps q s u) : Keeps q s (u.entryOut k e' va).state := .iteState h.stage2 h

theorem Keeps.lookup {k va a} (h : Keeps q s u) : Keeps q s (u.lookup k va a).state := by
  unfold State.lookup
  dsimp only
  split
  · exact .andThen h.entryOut (fun _ _ h => h)
  · exact .andThen h.entryOut (fun _ _ h => h)
  · exact .andThen h.stage1 (fun _ _ h => .andThen h.stage2 (fun _ _ h => h))

theorem Keeps.tlbDrop {k e} (h : Keeps q s u) : Keeps q s (u.tlbDrop k e) := h.setRun fun r => ⟨r, rfl⟩

theorem Keeps.l1TlbFill {k a e} (h : Keeps q s u) : Keeps q s (u.l1TlbFill k a e) := by
  unfold State.l1TlbFill
  refine Keeps.setRun h.capPush fun r => ?_
  split at r
  · exact ⟨r, by split <;> rfl⟩
  · exact ⟨r, by split <;> rfl⟩

theorem Keeps.l2TlbFill {k e} (h : Keeps q s u) : Keeps q s (u.l2TlbFill k e) := Keeps.setRun h.capPush fun r => ⟨r, rfl⟩

theorem Keeps.tlbFill {k a e' held} (h : Keeps q s u) : Keeps q s (u.tlbFill k a e' held) := by
  unfold State.tlbFill
  dsimp only
  split
  · exact h
  · exact h.l1TlbFill.count
  · exact h.l1TlbFill.l2TlbFill.count.count

theorem Keeps.permit {k va a e' o held} (h : Keeps q s u) : Keeps q s (u.permit k va a e' o held).state :=
  .iteState h.trFault (.iteState h.trFault (.iteState h.tlbDrop.raised
    (.iteState h.tlbDrop.raised (.iteState h.tlbFill.raised (.iteState h.tlbFill.raised h.tlbFill.okay)))))

theorem Keeps.translate {k va a} (h : Keeps q s u) : Keeps q s (u.translate k va a).state :=
  .iteState h.trFault (.andThen h.lookup (fun _ _ h => h.permit))

end Sys2Proof.Machine
end

section
/-! SUPPORT. One frame rule for each operation of a core's memory accesses and instructions: what it leaves of memory, the queue and the fuses (`Keeps`). -/

namespace Sys2Proof.Machine

variable {q : Prop} {s t u : State}

/-! ### Loads, stores, atomics and line operations of a core, over every range of device-physical addresses -/

theorem Keeps.pieces {k va n strict a} (h : Keeps q s u) : Keeps q s (u.pieces k va n strict a).state :=
  .andThen h.translate (fun _ _ h => .iteState h (.iteState h (.andThen h.translate (fun _ _ h => .iteState h h))))

theorem Keeps.frzWait {k} (h : Keeps q s u) : Keeps q s (u.frzWait k) := h.setRun fun r => ⟨r, rfl⟩

theorem Keeps.frzDone {k} (h : Keeps q s u) : Keeps q s (u.frzDone k) := by
  unfold State.frzDone
  split
  next t e =>
    refine h.setRun fun r => ?_
    have c := counted (CoreSt.ev_counted { u.core k with frzAt := Option.none } 0x25 (u.coreCycles - t)) r
    exact c
  · exact h

theorem Keeps.windowFill {k line} (h : Keeps q s u) : Keeps q s (u.windowFill k line).2 := h.free.stRead.svFill.mshrDrop.count.count

theorem Keeps.revalidate {k line x y} (h : Keeps q s u) : Keeps q s (u.revalidate k line x y).2 := by
  unfold State.revalidate
  dsimp only
  split
  · exact h.settle.count.l2Set'.l2Touch
  · exact h.settle.count.stRead.svFill

theorem Keeps.windowLine {k line} (h : Keeps q s u) : Keeps q s (u.windowLine k line).state := by
  unfold State.windowLine
  dsimp only
  split
  · exact .iteState h.svLand.recall.l2Touch.l1Maybe.okay
      (.iteState h.svLand.recall.coreNack.waiting h.svLand.recall.revalidate.l1Maybe.okay)
  · exact .iteState h.svLand.recall.coreNack.waiting (.iteState h.svLand.recall.waiting h.svLand.recall.windowFill.okay)

theorem Keeps.windowLoad {k p} (h : Keeps q s u) : Keeps q s (u.windowLoad k p).state := by
  unfold State.windowLoad
  dsimp only
  split
  · exact h
  · exact .iteState h (.iteState h.frzWait.waiting (.andThen h.frzDone.windowLine (fun _ _ h => h.count.okay)))

theorem Keeps.windowStore {k p} (h : Keeps q s u) : Keeps q s (u.windowStore k p) := h.windowPut.fullStops
theorem Keeps.outbound {pa config memory} (h : Keeps q s u) : Keeps q s (u.outbound pa config memory) := .ite h h.pcieSend

theorem Keeps.pcieLoad {k pa n} (h : Keeps q s u) : Keeps q s (u.pcieLoad k pa n).state := by
  unfold State.pcieLoad
  dsimp only
  split
  · exact h
  · exact h.free.outbound

theorem Keeps.pcieStore {sealed p} (h : Keeps q s u) : Keeps q s (u.pcieStore sealed p) := .ite h h.outbound
theorem Keeps.ctlRead {k pa} (h : Keeps q s u) : Keeps q s (u.ctlRead k pa).state := .iteState h.regRead.waiting h.regRead.okay
theorem Keeps.ctlWrite {q' pa v} (h : Keeps q s u) : Keeps q s (u.ctlWrite q' pa v).state := .iteState h.regStore.waiting h.regStore.okay

theorem Keeps.ctlLoad {k pa n} (h : Keeps q s u) : Keeps q s (u.ctlLoad k pa n).state :=
  .iteState (.andThen h.ctlRead (fun _ _ h => .andThen h.ctlRead (fun _ _ h => h))) (.andThen h.ctlRead (fun _ _ h => h))

theorem Keeps.ctlStore {q' p} (h : Keeps q s u) : Keeps q s (u.ctlStore q' p).state :=
  .iteState (.andThen h.ctlWrite (fun _ _ h => h.ctlWrite)) (.iteState h.ctlWrite h.regDrop.okay)

theorem Keeps.setSq {k l} (h : Keeps q s u) : Keeps q s (u.setSq k l) := h.setRun fun r => ⟨r, rfl⟩

theorem Keeps.partOut {k e' p} (h : Keeps q s u) : Keeps q s (u.partOut k e' p).state := by
  unfold State.partOut
  split
  · exact h.dramOut
  · exact h.windowStore.okay
  · exact h.pcieStore.okay
  · exact h.ctlStore
  · exact h

theorem Keeps.stopOver {k} (h : Keeps q s u) : Keeps q s (u.stopOver k) :=
  .ite (.tileLeft (h.setRun nofun)) h

theorem Keeps.sqPart {k} (h : Keeps q s u) : Keeps q s (u.sqPart k).state := by
  unfold State.sqPart
  split
  · exact h
  · split
    · exact h.setSq.stopOver.okay
    · split
      next _ _ e => exact (h.setSq.partOut.ok e).stopOver.okay
      next _ _ e => exact (h.setSq.partOut.excd e).raised
      next _ e => exact (h.setSq.partOut.waits e).setSq.waiting

theorem Keeps.sqOne {k} (h : Keeps q s u) : Keeps q s (u.sqOne k).state := by
  unfold State.sqOne
  split
  · exact h
  · refine .andThen h.sqPart (fun _ _ h => ?_)
    split
    · exact h
    · exact .iteState h.sqPart h

theorem Keeps.sqDrain {k n} (h : Keeps q s u) : Keeps q s (u.sqDrain k n).state := by
  induction n generalizing u with
  | zero => exact h
  | succ n ih =>
    unfold State.sqDrain
    split
    · exact h
    · refine .andThen h.sqOne fun _ _ h => ?_
      split
      · exact ih h
      · exact h

theorem Keeps.sqDrainAll {k} (h : Keeps False s u) : Keeps False s (u.sqDrainAll k).state := h.sqDrain

theorem Keeps.queueStore {k parts zero} (h : Keeps False s u) : Keeps False s (u.queueStore k parts zero).state :=
  .andThen h.sqDrain (fun _ _ h => .okay (.ite h h.setSq))

theorem Keeps.orderViolation {k} (h : Keeps q s u) : Keeps q s (u.orderViolation k) := by
  refine .ite h.free (Keeps.setRun h.free fun r => ?_)
  have c := counted (CoreSt.ev_counted { (u.free 1).2.core k with pred := { ((u.free 1).2.core k).pred with
    wait := bitsAt ((u.free 1).2.core k).pc 2 8 :: ((u.free 1).2.core k).pred.wait } } 0x0f 1) r
  exact c

theorem Keeps.loadPiece {k p} (h : Keeps q s u) : Keeps q s (u.loadPiece k p).state := by
  unfold State.loadPiece
  extract_lets _ s'
  have hs : Keeps q s s' := .ite (h.setRun fun r => ⟨r, rfl⟩) h
  split
  · exact hs.dramBytes
  · exact hs.windowLoad
  · exact hs.pcieLoad
  · exact hs.ctlLoad
  · exact hs

theorem Keeps.loadPieces {k l} (h : Keeps q s u) : Keeps q s (u.loadPieces k l).state := by
  induction l generalizing u with
  | nil => exact h
  | cons p l ih => exact .andThen h.loadPiece fun _ _ h => .andThen (ih h) fun _ _ h => h

theorem Keeps.loadQueued {k l} (h : Keeps q s u) : Keeps q s (u.loadQueued k l).state := by
  unfold State.loadQueued
  dsimp only
  split
  · exact .andThen h.sqDrain (fun _ _ h => h.loadPieces)
  · exact .iteState h.orderViolation.count.okay (.andThen h.orderViolation.sqDrain
      (fun _ _ h => .andThen h.loadPieces (fun _ _ h => h.count.okay)))

theorem Keeps.load {k va n strict} (h : Keeps q s u) : Keeps q s (u.load k va n strict).state :=
  .andThen h.pieces (fun _ _ h => h.loadQueued)

theorem Keeps.storePieces {k ps v} (h : Keeps False s u) : Keeps False s (u.storePieces k ps v).state := h.queueStore

theorem Keeps.store {k va n strict v} (h : Keeps False s u) : Keeps False s (u.store k va n strict v).state := by
  unfold State.store
  refine .andThen h.pieces (fun _ _ h => ?_)
  split
  · exact h
  · exact h.storePieces

theorem Keeps.amoAt {k p f} (h : Keeps False s u) : Keeps False s (u.amoAt k p f).state := by
  unfold State.amoAt
  split
  · refine .andThen h.sqDrainAll (fun _ _ h => ?_)
    refine .andThen h.amoLine (fun _ _ h => ?_)
    refine .andThen h.consume (fun _ _ h => ?_)
    split
    · exact h
    · exact .andThen h.dramOut (fun _ _ h => h)
  · refine .andThen h.sqDrainAll (fun _ _ h => ?_)
    refine .andThen h.windowLoad (fun _ _ h => ?_)
    split
    · exact h
    · exact .okay (.ite h h.windowStore)
  · exact h

theorem Keeps.amo {k va n f} (h : Keeps False s u) : Keeps False s (u.amo k va n f).state := by
  unfold State.amo
  refine .andThen h.translate (fun _ _ h => ?_)
  refine .iteState h (.iteState h ?_)
  split
  · exact h
  · exact h.amoAt

theorem Keeps.zeroLine {k va} (h : Keeps False s u) : Keeps False s (u.zeroLine k va).state := by
  unfold State.zeroLine
  refine .andThen h.translate (fun _ _ h => ?_)
  dsimp only
  split
  · exact h.queueStore
  · split
    · exact h
    · exact h.queueStore
  · exact h

theorem Keeps.cmoLine {k va clean inv} (h : Keeps False s u) : Keeps False s (u.cmoLine k va clean inv).state := by
  unfold State.cmoLine
  refine .andThen h.translate (fun _ _ h => ?_)
  split
  · exact .andThen h.sqDrainAll (fun _ _ h => .iteState h (.iteState h.coreNack.waiting h.cohCmo.mshrDrop.memNotes.okay))
  · split
    · exact h
    · exact h
  · exact h

theorem Keeps.l1Clinv {k set way} (h : Keeps False s u) : Keeps False s (u.l1Clinv k set way) := h.setCc

theorem Keeps.clinvSw {k x} (h : Keeps False s u) : Keeps False s (u.clinvSw k x).state := by
  unfold State.clinvSw
  dsimp only
  split
  · exact h
  · split
    · exact .ite h.l1Clinv h
    · split
      · exact h
      · split
        · exact h
        · exact h.l2Evict

theorem Keeps.storeDrain {k} (h : Keeps False s u) : Keeps False s (Machine.storeDrain k u) := by
  unfold Machine.storeDrain
  split
  next _ _ e => exact h.sqOne.ok e
  next _ e => exact h.sqOne.waits e
  next _ _ e => exact h.sqOne.excd e

theorem Keeps.smcDrain {k p} (h : Keeps False s u) : Keeps False s (u.smcDrain k p).state :=
  .iteState h (.andThen h.sqDrain (fun _ _ h => h.count.okay))

theorem Keeps.fetch {k} (h : Keeps False s u) : Keeps False s (u.fetch k).state := by
  unfold State.fetch
  refine .andThen h.translate (fun _ _ h => ?_)
  refine .andThen h.smcDrain (fun _ _ h => ?_)
  split
  · exact .andThen h.fetchLine (fun _ _ h => h.consume)
  · exact .iteState h h
  · exact h

/-! ### One instruction of a core -/

theorem Keeps.retire {k pc} (h : Keeps False s u) : Keeps False s (u.retire k pc) := .ite h h.setCore

theorem Keeps.finish {k} {r : MRes Next} (h : Keeps False s r.state) : Keeps False s (r.finish k) := by
  rcases r with ⟨_ | pc | _, t⟩ | ⟨e, t⟩ | t
  · exact Keeps.retire h
  · exact Keeps.retire h
  · exact h
  · exact Keeps.raise h
  · exact h

theorem Keeps.begun {k} (h : Keeps False s u) : Keeps False s (u.begun k) := h.setCore

theorem Keeps.instr {k body} (h : Keeps False s u) (hf : ∀ t, Keeps False s t → Keeps False s (body t).state) :
    Keeps False s (u.instr k body) :=
  .ite (.finish (.andThen h.begun.fetch fun _ t ht => hf t ht)) h

theorem Keeps.done {k f} (h : Keeps False s u) : Keeps False s (u.done k f).state := by
  unfold State.done
  split
  · exact h
  · exact h.setCore

theorem Keeps.illegal {α : Type} {k w} (h : Keeps False s u) : Keeps False s (Machine.State.illegal u k w : MRes α).state := h
theorem Keeps.privilege {α : Type} {k w} (h : Keeps False s u) : Keeps False s (Machine.State.privilege u k w : MRes α).state := h
theorem Keeps.intOp {k d f} (h : Keeps False s u) : Keeps False s (Machine.intOp k d f u) := .instr h (fun _ h => h.done)
theorem Keeps.intOpW {k d a b f} (h : Keeps False s u) : Keeps False s (Machine.intOpW k d a b f u) := h.intOp

theorem Keeps.loadOp {k a imm n f} (h : Keeps False s u) : Keeps False s (Machine.loadOp k a imm n f u) :=
  .instr h (fun _ h => .andThen h.load (fun _ _ h => h.done))

theorem Keeps.storeOp {k a imm n f} (h : Keeps False s u) : Keeps False s (Machine.storeOp k a imm n f u) :=
  .instr h (fun _ h => .andThen h.store (fun _ _ h => h.done))

theorem Keeps.amoOp {k d a b dbl f} (h : Keeps False s u) : Keeps False s (Machine.amoOp k d a b dbl f u) :=
  .instr h (fun _ h => .andThen h.amo (fun _ _ h => h.done))

theorem Keeps.condBranch {k off cond} (h : Keeps False s u) : Keeps False s (Machine.condBranch k off cond u) :=
  .instr h (fun _ h => h.setCore.okay)

theorem Keeps.jumpTo {k link target kind ras} (h : Keeps False s u) : Keeps False s (Machine.jumpTo k link target kind ras u).state :=
  h.setCore

/-! ### What a step does on an empty queue -/

theorem Keeps.discardLine {k p a} (h : Keeps False s u) : Keeps False s (u.discardLine k p a) := by
  unfold State.discardLine
  refine .ite h ?_
  split
  · exact h
  · split
    next _ _ e => exact h.fetchLine.ok e
    · exact h
  · split
    next _ _ e => exact h.lineLoad.ok e
    · exact h

theorem Keeps.discardAccess {k va a} (h : Keeps False s u) : Keeps False s (u.discardAccess k va a) := by
  unfold State.discardAccess
  refine .ite h ?_
  split
  next _ _ e =>
    refine .setCore ?_
    split
    next _ _ ex => exact .discardLine ((h.lookup.ok e).tlbFill.permit.ok ex)
    · exact (h.lookup.ok e).tlbFill
  · exact h

theorem Keeps.discardTrain {k} (h : Keeps False s u) : Keeps False s (u.discardTrain k) := h.free.free.setCore

theorem Keeps.discarded (h : Keeps False s u) : Keeps False s u.discarded :=
  .ite (.ite h.free.free.free.discardAccess.discardTrain h.free.free.free) h

theorem Keeps.btChecked (h : Keeps False s u) : Keeps False s u.btChecked := .ite h (.ite h.free.free.flag.jlog h.free.free)

theorem Keeps.idle (h : Keeps False s u) : Keeps False s u.idle :=
  .ite h.clockPass.linkDrain.discarded.ebSendAll.btChecked.supplyIdle.nvmIdle.lanKick.antDue h

/-! ### Floating-point instructions of SIS-64 -/

theorem Keeps.roundOp {k rnd w f} (h : Keeps False s u) : Keeps False s (Machine.roundOp k rnd w f u) := by
  unfold Machine.roundOp
  refine .instr h (fun _ h => ?_)
  split
  · exact h.illegal
  · exact h.done

theorem Keeps.plainOp {k f} (h : Keeps False s u) : Keeps False s (Machine.plainOp k f u) := .instr h (fun _ h => h.done)

theorem Keeps.ftoOp {k sgl rnd op d a bits sgn} (h : Keeps False s u) : Keeps False s (Machine.ftoOp k sgl rnd op d a bits sgn u) :=
  h.roundOp

theorem Keeps.tofOp {k sgl rnd op d a v} (h : Keeps False s u) : Keeps False s (Machine.tofOp k sgl rnd op d a v u) := h.roundOp
theorem Keeps.fmaOp {k op sgl rnd d a b c} (h : Keeps False s u) : Keeps False s (Machine.fmaOp k op sgl rnd d a b c u) := h.roundOp

/-! ### System instructions of SIS-64 -/

theorem Keeps.sysRead {k n} (h : Keeps False s u) : Keeps False s (u.sysRead k n).2 := by
  unfold State.sysRead
  dsimp only
  split
  · exact h
  · split
    · exact h
    · exact h

theorem Keeps.sysWrite {k n v} (h : Keeps False s u) : Keeps False s (u.sysWrite k n v) :=
  .ite h.ringDoor (.ite h.setCore (.ite h.setCore h.setCore))

theorem Keeps.sysSync {k n} (h : Keeps False s u) : Keeps False s (u.sysSync k n) := .ite h.evDraw h

theorem Keeps.illegalInstruction {k w} (h : Keeps False s u) : Keeps False s (Machine.illegalInstruction k w u) :=
  .ite h (.instr h (fun _ h => h.illegal))

theorem Keeps.tlbiOp {k kind a bcast} (h : Keeps False s u) : Keeps False s (Machine.tlbiOp k kind a bcast u) :=
  .instr h (fun _ h => .iteState h.privilege (.andThen h.sqDrainAll
    (fun _ _ h => .done (.ite (.foldl (fun _ _ h => .ite h h.setCore) h) h.setCore))))

theorem Keeps.cmoOp {k a fn supOnly clean inv} (h : Keeps False s u) : Keeps False s (Machine.cmoOp k a fn supOnly clean inv u) :=
  .instr h (fun _ h => .iteState h.privilege (.andThen h.cmoLine (fun _ _ h => h.done)))

theorem Keeps.ringCheck {k l} (h : Keeps False s u) : Keeps False s (u.ringCheck k l) := .ite h h.raise

theorem Keeps.ringTimeout {q' line} (h : Keeps False s u) : Keeps False s (Machine.ringTimeout q' line u) := by
  unfold Machine.ringTimeout
  dsimp only
  split
  · refine .ite h ?_
    split
    · exact h.reqSet.timeoutLog.outDrop.ringCheck
    · exact h.reqSet.timeoutLog
  · split
    · exact .ite h.ebFree.timeoutLog.ringCheck h
    · exact h

/-! ### The control instructions -/

theorem Keeps.loadF {k va} (h : Keeps q s u) : Keeps q s (u.loadF k va).state := h.load

theorem Keeps.loadWords {k va n} (h : Keeps q s u) : Keeps q s (u.loadWords k va n).state := by
  induction n generalizing u va with
  | zero => exact h
  | succ n ih => exact .andThen h.load fun _ _ h => .andThen (ih h) fun _ _ h => h

theorem Keeps.search {k b x n lo hi} (h : Keeps q s u) : Keeps q s (u.search k b x n lo hi).state := by
  induction n generalizing u lo hi with
  | zero => exact h
  | succ n ih =>
    unfold State.search
    split
    · exact h
    · refine .andThen h.loadF fun _ _ h => ?_
      split
      · exact ih h
      · exact ih h

theorem Keeps.axis {k m d j x} (h : Keeps q s u) : Keeps q s (u.axis k m d j x).state :=
  .andThen h.search (fun _ _ h => .andThen h.loadF (fun _ _ h => .andThen h.loadF
    (fun _ _ h => .andThen h.loadF (fun _ _ h => .andThen h.loadF (fun _ _ h => h)))))

theorem Keeps.axes {k m d j l} (h : Keeps q s u) : Keeps q s (u.axes k m d j l).state := by
  induction l generalizing u j with
  | nil => exact h
  | cons x l ih => exact .andThen h.axis fun _ _ h => .andThen (ih h) fun _ _ h => h

theorem Keeps.tableValue {k d i} (h : Keeps q s u) : Keeps q s (u.tableValue k d i).state :=
  .iteState (.andThen h.load (fun _ _ h => h)) (.andThen h.loadF (fun _ _ h => h))

theorem Keeps.corners {k d l n c} (h : Keeps q s u) : Keeps q s (u.corners k d l n c).state := by
  induction n generalizing u c with
  | zero => exact h
  | succ n ih => exact .andThen h.tableValue fun _ _ h => .andThen (ih h) fun _ _ h => h

theorem Keeps.whole {α : Type} {k} {r : MRes α} (h : Keeps q s u) (hr : Keeps q s r.state) : Keeps q s (u.whole k r).state := by
  cases r with
  | ok v t => exact hr
  | exc e t => exact .ite hr h
  | wait t => exact .ite hr h

theorem Keeps.tintOp {k d a coords} (h : Keeps False s u) : Keeps False s (Machine.tintOp k d a coords u) := by
  refine .instr h fun _ h => .iteState h (h.whole ?_)
  refine .andThen h.loadWords fun _ _ h => .iteState h ?_
  exact .andThen h.axes fun _ _ h => .andThen h.corners fun _ _ h => h.done

theorem Keeps.setPrg {k op b} (h : Keeps False s u) : Keeps False s (u.setPrg k op b) := h.setCore
theorem Keeps.blkHold {k op b} (h : Keeps False s u) : Keeps False s (u.blkHold k op b) := .ite h h.setPrg.setCore

theorem Keeps.blkExc {k op b e'} (h : Keeps False s u) : Keeps False s (u.blkExc k op b e').state := by
  unfold State.blkExc
  split
  · exact h
  · exact h.setPrg

theorem Keeps.blkPieces {k va n a} (h : Keeps False s u) : Keeps False s (u.blkPieces k va n a).state :=
  .andThen h.translate (fun _ _ h => .iteState h (.iteState h (.andThen h.translate (fun _ _ h => .iteState h h))))

theorem Keeps.blkLoad {k va n} (h : Keeps False s u) : Keeps False s (u.blkLoad k va n).state :=
  .andThen h.blkPieces (fun _ _ h => h.loadQueued)

theorem Keeps.blkDest {k va n} (h : Keeps False s u) : Keeps False s (u.blkDest k va n).state := by
  unfold State.blkDest
  refine .andThen h.blkPieces (fun _ _ h => ?_)
  split
  · exact h
  · exact h

theorem Keeps.copyGranule {k dst src pos len} (h : Keeps False s u) : Keeps False s (u.copyGranule k dst src pos len).state :=
  .andThen h.blkDest (fun _ _ h => .andThen h.blkLoad (fun _ _ h => .andThen h.storePieces (fun _ _ h => h)))

theorem Keeps.setGranule {k dst x pos len} (h : Keeps False s u) : Keeps False s (u.setGranule k dst x pos len).state :=
  .andThen h.blkDest (fun _ _ h => .andThen h.storePieces (fun _ _ h => h))

theorem Keeps.blkRun {k op len g n pos} (h : Keeps False s u) (hg : ∀ t, Keeps False s t → ∀ i, Keeps False s (g t i).state) :
    Keeps False s (State.blkRun k op len g n pos u).state := by
  induction n generalizing u pos with
  | zero => exact h
  | succ n ih =>
    unfold State.blkRun
    split
    · exact h.setPrg
    · have hr := hg u h pos
      split
      next e => exact (hr.waits e).blkHold
      next e => exact (hr.excd e).blkExc
      next e =>
        dsimp only
        split
        · exact (hr.ok e).setCore
        · split
          · exact (hr.ok e).setCore.setPrg.irqEntry
          · exact ih (hr.ok e).setCore

theorem Keeps.blkOp {k op b g} (h : Keeps False s u) (hg : ∀ c t, Keeps False s t → ∀ i, Keeps False s (g c t i).state) :
    Keeps False s (Machine.blkOp k op b g u) :=
  h.instr fun _ h => h.blkRun (hg _)

theorem Keeps.vdotEnd {k d count b} (h : Keeps False s u) : Keeps False s (u.vdotEnd k d count b).state := by
  unfold State.vdotEnd
  exact h.setPrg.done

theorem Keeps.vdotRun {k d x y count stop n b} (h : Keeps False s u) : Keeps False s (State.vdotRun k d x y count stop n b u).state := by
  induction n generalizing u b with
  | zero => exact h
  | succ n ih =>
    unfold State.vdotRun
    split
    · exact h.vdotEnd
    · dsimp only
      have hr := Keeps.andThen (r := u.blkLoad k (x + BitVec.ofNat 64 (8 * b.pos)) 8)
        (f := fun v s => (s.blkLoad k (y + BitVec.ofNat 64 (8 * b.pos)) 8).andThen fun w s => MRes.ok (v, w) s)
        h.blkLoad fun _ _ h => .andThen h.blkLoad fun _ _ h => h
      split
      next e => exact (hr.waits e).blkHold
      next e => exact (hr.excd e).blkExc
      next e =>
        split
        · exact (hr.ok e).setCore.setPrg.irqEntry
        · exact ih (hr.ok e).setCore

theorem Keeps.sldReads {k p p'} (h : Keeps False s u) : Keeps False s (u.sldReads k p p').state := by
  unfold State.sldReads
  refine .andThen h.pieces fun l _ h => .andThen h.pieces fun m v hv => .andThen hv.loadQueued fun x w hw => ?_
  split
  next _ _ e => exact hw.loadQueued.ok e
  next _ _ e => exact hw.loadQueued.excd e
  next _ e =>
    refine .iteState ?_ (hw.loadQueued.waits e)
    split
    next _ e => exact hv.loadQueued.waits e
    · exact hv

theorem Keeps.drainDone {k status} (h : Keeps False s u) : Keeps False s (u.drainDone k status).state :=
  .andThen h.sqDrainAll (fun _ _ h => h.setCore.taskDoneOn.okay)

/-! ### Vector instructions of SIS-64 -/

theorem Keeps.vop {k lo hi ty w f} (h : Keeps False s u) : Keeps False s (Machine.vop k lo hi ty w f u) :=
  .instr h (fun _ h => .iteState h.illegal h.done)

theorem Keeps.vop2 {k hi ty op d a b ff fi} (h : Keeps False s u) : Keeps False s (Machine.vop2 k hi ty op d a b ff fi u) := h.vop
theorem Keeps.vbit {k ty op d a b f} (h : Keeps False s u) : Keeps False s (Machine.vbit k ty op d a b f u) := h.vop

theorem Keeps.vlane {k lo hi ty op d a l f} (h : Keeps False s u) : Keeps False s (Machine.vlane k lo hi ty op d a l f u) :=
  .instr h (fun _ h => .iteState h.illegal h.done)

theorem Keeps.vshift {k ty op kind d a b} (h : Keeps False s u) : Keeps False s (Machine.vshift k ty op kind d a b u) := h.vop

theorem Keeps.vr4Fma {k op ty d a b c} (h : Keeps False s u) : Keeps False s (Machine.vr4Fma k op ty d a b c u) :=
  .instr h (fun _ h => .iteState h.illegal h.done)

end Sys2Proof.Machine
end

section
/-! SUPPORT. One frame rule for each operation of the tick, and with all of them every command: what it leaves of memory, the queue and the fuses (`Keeps`). -/

namespace Sys2Proof.Machine

variable {q : Prop} {s t u : State}

/-! ### What Hive does at a tick beside dispatch -/

theorem Keeps.wornCore {k} (h : Keeps False s u) : Keeps False s (u.wornCore k) :=
  .ite (.upd (.ite h.drawReserve h) rfl rfl) (.ite (.upd
    (.ite (.removeCore (.ite h.drawReserve h)) (.drawReserve (.removeCore (.ite h.drawReserve h)))) rfl rfl) (.ite h.drawReserve h))

theorem Keeps.coreJoin {x} (h : Keeps False s u) : Keeps False s (u.coreJoin x) := .spareIn (.setCstat (.upd h rfl rfl))

theorem Keeps.reassign {t'} (h : Keeps False s u) : Keeps False s (u.reassign t') := by
  unfold State.reassign
  dsimp only
  split
  · exact h.pick.assign
  · exact h

theorem Keeps.coresTick (h : Keeps False s u) : Keeps False s (u.coresTick).2 :=
  .paired (.foldl (fun _ _ h => h.reassign) (.foldl (fun _ _ h => h.reassign)
    (.foldl (fun _ _ h => h.coreJoin) (.foldl (fun _ _ h => h.wornCore) h))))

theorem Keeps.spareChannel {old ch} (h : Keeps False s u) : Keeps False s (u.spareChannel old ch) := .ite h.setFld.spareIn h
theorem Keeps.moveStart {b ch off cause} (h : Keeps False s u) : Keeps False s (u.moveStart b ch off cause) := h.spareChannel.copyStart

theorem Keeps.givePlace {c} (h : Keeps False s u) : Keeps False s (u.givePlace c) := by
  unfold State.givePlace
  split
  · exact h.setBt
  · exact h

theorem Keeps.spareBerth {c b} (h : Keeps False s u) : Keeps False s (u.spareBerth c b) := by
  unfold State.spareBerth
  refine .ite h ?_
  dsimp only
  split
  · exact .moveStart (.ite (.upd (.ite h.givePlace h) rfl rfl) (.ite h.givePlace h))
  · exact .ite h.givePlace h

theorem Keeps.wornAbandon (h : Keeps False s u) : Keeps False s u.wornAbandon := .foldl (fun _ _ h => h.copyAbandon) h

theorem Keeps.wornChannel {c} (h : Keeps False s u) : Keeps False s (u.wornChannel c) :=
  .ite (.upd h.setFld.setFld.follow rfl rfl) (.foldl (fun _ _ h => h.spareBerth) h)

theorem Keeps.hardMove {b} (h : Keeps False s u) : Keeps False s (u.hardMove b) := by
  unfold State.hardMove
  refine .ite h ?_
  split
  · exact h.copyStart
  · exact h

theorem Keeps.chanVote {c} (h : Keeps False s u) : Keeps False s (u.chanVote c) := .ite h h.setFld.follow

theorem Keeps.berthsTick (h : Keeps False s u) : Keeps False s u.berthsTick :=
  .foldl (fun _ _ h => h.chanVote) (.foldl (fun _ _ h => h.hardMove)
    (.foldl (fun _ _ h => h.wornChannel) (.foldl (fun _ _ h => h.berthSwitch) h.memNotes.wornAbandon)))

theorem Keeps.sparePart {a} (h : Keeps False s u) : Keeps False s (u.sparePart a) := by
  unfold State.sparePart
  split
  · exact .upd h rfl rfl
  · exact .upd h rfl rfl
  · exact .upd h rfl rfl
  · exact h

theorem Keeps.planItem {u' a} (h : Keeps False s u) : ∀ r ∈ u.planItem u' a, Keeps False s r.2 := by
  unfold State.planItem
  split
  · split
    · exact .somePair h
    · split
      · exact .nonePair
      · exact .somePair h.assign
  · split
    · exact .somePair h
    · split
      · exact .nonePair
      · exact .somePair h.rehome.jlog
  · dsimp only
    split
    · exact .somePair h
    · split
      · exact .nonePair
      · exact .somePair h.moveStart
  · exact .somePair h.sparePart

theorem Keeps.planRun {l p} (h : Keeps False s u) : Keeps False s (Machine.planRun l p u).2 := by
  induction l generalizing u p with
  | nil => exact h
  | cons x l ih =>
    unfold Machine.planRun
    split
    next e => exact ih (h.planItem _ e)
    next => exact ih h

theorem Keeps.planTick {moves} (h : Keeps False s u) : Keeps False s (u.planTick moves) := .upd h.planRun rfl rfl
theorem Keeps.planApply {e' l} (h : Keeps False s u) : Keeps False s (u.planApply e' l) := .jlog (.upd h rfl rfl)
theorem Keeps.planLate {e'} (h : Keeps False s u) : Keeps False s (u.planLate e') := h.flag.jlog
theorem Keeps.gatherClose (h : Keeps False s u) : Keeps False s u.gatherClose := .upd h rfl rfl

theorem Keeps.epochOpen {n} (h : Keeps False s u) : Keeps False s (u.epochOpen n) := by
  unfold State.epochOpen
  refine .ite h (.upd ?_ rfl rfl)
  refine .gatherClose ?_
  split
  · exact h.planApply
  · exact .ite h.planLate h

theorem Keeps.hiveTick {n} (h : Keeps False s u) : Keeps False s (u.hiveTick n) := h.epochOpen.coresTick.planTick.berthsTick.l3Tick.antTick

/-! ### Tick N -/

theorem Keeps.frameEvents (h : Keeps False s u) : Keeps False s u.frameEvents :=
  .ite h (.digestSendDeadline (.missed (.foldl (fun _ _ h => h.deadlineLate)
    (.ite h.bcnOutFall.inputFreeze.outputEnable.edgeJudge.mirrorMiss.heartbeatWaitExpire h.bcnOutFall.inputFreeze.outputEnable.edgeJudge))))

theorem Keeps.overrunLog {n t' k f mode} (h : Keeps False s u) : Keeps False s (u.overrunLog n t' k f mode) :=
  h.setTdN.flag.bump.jlogW.accSet.outcome

theorem Keeps.holdTask {t' k f stop} (h : Keeps False s u) : Keeps False s (u.holdTask t' k f stop) := h.addWalk.setRt

theorem Keeps.overrun {n t'} (h : Keeps False s u) : Keeps False s (u.overrun n t') := by
  unfold State.overrun
  dsimp only
  split
  · exact h
  · exact .ite h (.ite (.ite h.overrunLog.setRt h.overrunLog.takeOff)
      (.ite h.overrunLog.holdTask.setCstat (.ite h.overrunLog.holdTask h.overrunLog.takeOff)))

theorem Keeps.lateLog {n w} (h : Keeps False s u) : Keeps False s (u.lateLog n w) := h.jlogW.outcome
theorem Keeps.frameClose {n late} (h : Keeps False s u) : Keeps False s (u.frameClose n late) := .upd h.jlog.setOwn rfl rfl

theorem Keeps.frameEnd {n} (h : Keeps False s u) : Keeps False s (u.frameEnd n) :=
  .ite h (.frameClose (.foldl (fun _ _ h => h.lateLog) (.foldl (fun _ _ h => h.overrun) h)))

theorem Keeps.flip {n} (h : Keeps False s u) : Keeps False s (u.flip n) := .upd h rfl rfl

theorem Keeps.lateFlip {n lines} (h : Keeps False s u) : Keeps False s (u.lateFlip n lines) :=
  .ite (.foldl (fun _ _ h => h.settle) h) (.setOwn (.foldl (fun _ _ h => h.settle) h))

theorem Keeps.outRise {n} (h : Keeps False s u) : Keeps False s (u.outRise n) := .ite (.upd h rfl rfl) h

theorem Keeps.tickFlip {n} (h : Keeps False s u) : Keeps False s (u.tickFlip n) :=
  .swTick (.ite (.outputsSoon (.outRise (.lateFlip (.flip (.frameEnd (.upd (.evalStop (.ite h.swFirst h)) rfl rfl))))))
    (.outRise (.lateFlip (.flip (.frameEnd (.upd (.evalStop (.ite h.swFirst h)) rfl rfl))))))

theorem Keeps.timeTick (h : Keeps False s u) : Keeps False s u.timeTick := by
  unfold State.timeTick
  refine .refTick ?_
  split
  · refine .taiApply ?_
    split
    · exact h.rateApply
    · exact h
  · split
    · exact h.rateApply
    · exact h

theorem Keeps.tickLog {n} (h : Keeps False s u) : Keeps False s (u.tickLog n) := h.jlog
theorem Keeps.paramPosts (h : Keeps False s u) : Keeps False s u.paramPosts := .foldl (fun _ _ h => h.postSample) h

theorem Keeps.release {n} (h : Keeps False s u) : Keeps False s (u.release n) :=
  .canRelease (.netRelease (.gclTick (.foldRange (fun _ _ h => h.bayRelease) (.upd h.sectorRelease rfl rfl))))

theorem Keeps.settleAll (h : Keeps False s u) : Keeps False s u.settleAll := .foldl (fun _ _ h => h.settle) h
theorem Keeps.joinTick {n} (h : Keeps False s u) : Keeps False s (u.joinTick n) := .ite h.settleAll.hostTick h

theorem Keeps.tickSteps {n} (h : Keeps False s u) : Keeps False s (u.tickSteps n).2 :=
  .ringTick (.joinTick (.lanKick (.livenessTick (.wdTick
    (.sweep (.release (.foldRange (fun _ _ h => h.bayTick)
    h.timeTick.twinTick.supplyTick.perfTick.hiveTick.markDue.tickLog.paramPosts.antDue)))))))

theorem Keeps.tick (h : Keeps False s u) : Keeps False s (Machine.tick u) :=
  .ite h (.ite h.frameEvents.tripVote (.ite h.frameEvents.tripVote.tripVote
    (.ite h.frameEvents.tripVote.tripVote.advanceTo.linkDrain.tickFlip.tickSteps.fullReset
    h.frameEvents.tripVote.tripVote.advanceTo.linkDrain.tickFlip.tickSteps)))

/-! ### Commands and steps -/

/-- Every command goes on, to a state that keeps what it found. -/
theorem Keeps.exec (c : Instr) (h : Keeps False s u) : ∃ t, Machine.exec c u = .next t ∧ Keeps False s t := by
  cases c with
  | powerOnReset => exact ⟨_, rfl, h.powerOnReset⟩
  | resetNLow => exact ⟨_, rfl, h.resetNLow⟩
  | crystalStable => exact ⟨_, rfl, h.crystalStable⟩
  | refStable => exact ⟨_, rfl, h.refStable⟩
  | refLoss => exact ⟨_, rfl, .awake h (fun _ h => h.refLoss)⟩
  | tbRateWrite => exact ⟨_, rfl, .blockWrite h (fun _ h => h.tbRateWrite)⟩
  | taiWrite => exact ⟨_, rfl, .blockWrite h (fun _ h => h.taiWrite)⟩
  | epochWrite => exact ⟨_, rfl, .blockWrite h (fun _ h => h.epochWrite)⟩
  | beaconRun => exact ⟨_, rfl, .blockWrite h (fun _ h => h.beaconRun)⟩
  | tick => exact ⟨_, rfl, h.tick⟩
  | bcnOutFall => exact ⟨_, rfl, h.bcnOutFall⟩
  | bcnInEdge => exact ⟨_, rfl, h.bcnInEdge⟩
  | bcnInLost => exact ⟨_, rfl, h.bcnInLost⟩
  | inputFreeze => exact ⟨_, rfl, h.inputFreeze⟩
  | samplePost => exact ⟨_, rfl, .awake h (fun _ h => h.samplePost)⟩
  | deadlineLate => exact ⟨_, rfl, h.deadlineLate⟩
  | missed => exact ⟨_, rfl, h.missed⟩
  | walk => exact ⟨_, rfl, h.walkCmd.digestsTry⟩
  | digestFinal => exact ⟨_, rfl, h.digestFinal⟩
  | dbgMetaRead => exact ⟨_, rfl, .blockWrite h (fun _ h => h.dbgMetaRead)⟩
  | taskDispatch => exact ⟨_, rfl, h.taskDispatch⟩
  | dispatchSteal => exact ⟨_, rfl, h.dispatchSteal⟩
  | planComplete => exact ⟨_, rfl, h.planComplete⟩
  | swOpen => exact ⟨_, rfl, .blockWrite h (fun _ h => h.swOpen)⟩
  | swEntVal => exact ⟨_, rfl, .blockWrite h (fun _ h => h.swEntVal)⟩
  | swArmLo => exact ⟨_, rfl, .blockWrite h (fun _ h => h.swArmLo)⟩
  | swCancel => exact ⟨_, rfl, .blockWrite h (fun _ h => h.swCancel)⟩
  | antEventEntry => exact ⟨_, rfl, h.antEventEntry⟩
  | captureEdge => exact ⟨_, rfl, h.captureEdge⟩
  | compareAction => exact ⟨_, rfl, h.compareAction⟩
  | suRx => exact ⟨_, rfl, h.suRx⟩
  | suTx => exact ⟨_, rfl, h.suTx⟩
  | suIdle => exact ⟨_, rfl, h.suIdle⟩
  | engineTimer => exact ⟨_, rfl, h.engineTimer⟩
  | spareLoadDone => exact ⟨_, rfl, h.spareLoadDone⟩
  | baySafeAll => exact ⟨_, rfl, .blockWrite h (fun _ h => h.baySafeAll)⟩
  | memDataRead => exact ⟨_, rfl, .awake h (fun _ h => h.memDataRead)⟩
  | decimatedSample => exact ⟨_, rfl, h.decimatedSample⟩
  | modFault => exact ⟨_, rfl, .awake h (fun _ h => h.modFault)⟩
  | noSync => exact ⟨_, rfl, h.noSync⟩
  | interlockEvaluation => exact ⟨_, rfl, h.interlockEvaluation⟩
  | supplyWarn => exact ⟨_, rfl, .awake h (fun _ h => h.supplyWarn)⟩
  | supplyClear => exact ⟨_, rfl, .awake h (fun _ h => h.supplyClear)⟩
  | heartbeatSend => exact ⟨_, rfl, h.heartbeatSend⟩
  | heartbeat => exact ⟨_, rfl, h.heartbeatMsg⟩
  | twinHbDrive => exact ⟨_, rfl, h.twinHbDrive⟩
  | twinHbPulse => exact ⟨_, rfl, h.twinHbPulse⟩
  | listenWindowEnd => exact ⟨_, rfl, h.listenWindowEnd⟩
  | mirror => exact ⟨_, rfl, h.mirror⟩
  | mirrorEnd => exact ⟨_, rfl, h.mirrorEnd⟩
  | mirrorMiss => exact ⟨_, rfl, h.mirrorMiss⟩
  | digest => exact ⟨_, rfl, h.digestMsg⟩
  | digestSendDeadline => exact ⟨_, rfl, h.digestSendDeadline⟩
  | swArm => exact ⟨_, rfl, h.swArmMsg⟩
  | swCancelMsg => exact ⟨_, rfl, h.swCancelMsg⟩
  | supply => exact ⟨_, rfl, h.supplyMsg⟩
  | handoverRequest => exact ⟨_, rfl, .blockWrite h (fun _ h => h.handoverRequest)⟩
  | handover => exact ⟨_, rfl, h.handoverMsg⟩
  | handoverAck => exact ⟨_, rfl, h.handoverAck⟩
  | rejoin => exact ⟨_, rfl, .blockWrite h (fun _ h => h.rejoin)⟩
  | isolate => exact ⟨_, rfl, .blockWrite h (fun _ h => h.isolate)⟩
  | linkLaneFail => exact ⟨_, rfl, h.linkLaneFail⟩
  | laneMap => exact ⟨_, rfl, h.laneMap⟩
  | ack => exact ⟨_, rfl, h.ack⟩
  | ackTimer => exact ⟨_, rfl, h.ackTimer⟩
  | nak => exact ⟨_, rfl, h.nak⟩
  | linkSilence => exact ⟨_, rfl, h.linkSilence⟩
  | linkRetrain => exact ⟨_, rfl, h.linkRetrain⟩
  | linkUp => exact ⟨_, rfl, h.linkUp⟩
  | journal => exact ⟨_, rfl, h.journalMsg⟩
  | joinReq => exact ⟨_, rfl, h.joinReq⟩
  | joinAccept => exact ⟨_, rfl, h.joinAccept⟩
  | joinRefuse => exact ⟨_, rfl, h.joinRefuse⟩
  | copy => exact ⟨_, rfl, h.copyMsg⟩
  | copyEnd => exact ⟨_, rfl, h.copyEnd⟩
  | replay => exact ⟨_, rfl, h.replayMsg⟩
  | replayEnd => exact ⟨_, rfl, h.replayEnd⟩
  | joinAt => exact ⟨_, rfl, h.joinAt⟩
  | joinGo => exact ⟨_, rfl, h.joinGo⟩
  | unitState => exact ⟨_, rfl, h.unitStateMsg⟩
  | joinAbort => exact ⟨_, rfl, h.joinAbort⟩
  | storeDrain => exact ⟨_, rfl, h.storeDrain⟩
  | interruptEntry => exact ⟨_, rfl, .awake h (fun _ h => h.interruptEntry)⟩
  | timerSource => exact ⟨_, rfl, h.timerSource⟩
  | doorbell => exact ⟨_, rfl, h.doorbellWrite⟩
  | rdS => exact ⟨_, rfl, .awake h (fun _ h => h.rdSMsg)⟩
  | rdX => exact ⟨_, rfl, .awake h (fun _ h => h.rdXMsg)⟩
  | rdNa => exact ⟨_, rfl, .awake h (fun _ h => h.rdNaMsg)⟩
  | wrNa => exact ⟨_, rfl, .awake h (fun _ h => h.wrNaMsg)⟩
  | wb => exact ⟨_, rfl, .awake h (fun _ h => h.wbMsg)⟩
  | cmo => exact ⟨_, rfl, .awake h (fun _ h => h.cmoMsg)⟩
  | reval => exact ⟨_, rfl, .awake h (fun _ h => h.reval)⟩
  | snpS => exact ⟨_, rfl, h.snoopMsg⟩
  | snpX => exact ⟨_, rfl, h.snoopMsg⟩
  | snpCln => exact ⟨_, rfl, h.snoopMsg⟩
  | snpRet => exact ⟨_, rfl, .awake h (fun _ h => h.snpRet)⟩
  | data => exact ⟨_, rfl, h.dataMsg⟩
  | grant => exact ⟨_, rfl, h.grantMsg⟩
  | same => exact ⟨_, rfl, .awake h (fun _ h => h.sameMsg)⟩
  | memRd => exact ⟨_, rfl, .awake h (fun _ h => h.memRd)⟩
  | memData => exact ⟨_, rfl, .awake h (fun _ h => h.memData)⟩
  | memWr => exact ⟨_, rfl, .awake h (fun _ h => h.memWr)⟩
  | nack => exact ⟨_, rfl, h.nackMsg⟩
  | nackRetry => exact ⟨_, rfl, h.nackRetry⟩
  | doneMessage => exact ⟨_, rfl, .awake h (fun _ h => h.doneMessage)⟩
  | wbAck => exact ⟨_, rfl, h.wbFreed⟩
  | wbStale => exact ⟨_, rfl, h.wbFreed⟩
  | rhDrain => exact ⟨_, rfl, h.rhDrain⟩
  | l3Lock => exact ⟨_, rfl, .blockWrite h (fun _ h => h.l3Lock)⟩
  | lockFill => exact ⟨_, rfl, .blockWrite h (fun _ h => h.lockFill)⟩
  | lfDone => exact ⟨_, rfl, h.lfDone⟩
  | rangeClean => exact ⟨_, rfl, .blockWrite h (fun _ h => h.rangeGo)⟩
  | rangeInv => exact ⟨_, rfl, .blockWrite h (fun _ h => h.rangeGo)⟩
  | rangeClinv => exact ⟨_, rfl, .blockWrite h (fun _ h => h.rangeGo)⟩
  | rngEnd => exact ⟨_, rfl, h.rngEnd⟩
  | ringPass => exact ⟨_, rfl, .awake h (fun _ h => h.ringPass)⟩
  | ringTimeout => exact ⟨_, rfl, h.ringTimeout⟩
  | ringHomeTimeout => exact ⟨_, rfl, h.ringHomeTimeout⟩
  | ringLaneFail => exact ⟨_, rfl, .awake h (fun _ h => h.laneFail)⟩
  | laneTest => exact ⟨_, rfl, .blockWrite h (fun _ h => h.laneTest)⟩
  | traceRestart => exact ⟨_, rfl, .blockWrite h (fun _ h => h.traceRestart)⟩
  | mergeDrain => exact ⟨_, rfl, h.mergeDrain⟩
  | patrolRead => exact ⟨_, rfl, h.patrolRead⟩
  | initialisationPass => exact ⟨_, rfl, h.initialisationPass⟩
  | migrationCopyLine => exact ⟨_, rfl, h.migrationCopyLine⟩
  | ringTailWrite => exact ⟨_, rfl, .blockWrite h (fun _ h => h.ringTailWrite)⟩
  | netTxDescriptor => exact ⟨_, rfl, h.netTxDescriptor⟩
  | frameTransmit => exact ⟨_, rfl, h.frameTransmit⟩
  | netRxFrame => exact ⟨_, rfl, h.netRxFrame⟩
  | gclEntry => exact ⟨_, rfl, h.gclEntry⟩
  | netLink => exact ⟨_, rfl, .awake h (fun _ h => h.netLink)⟩
  | txsTagPop => exact ⟨_, rfl, h.txsTagPop⟩
  | canFrameReceive => exact ⟨_, rfl, h.canFrameReceive⟩
  | canTransmit => exact ⟨_, rfl, h.canTransmit⟩
  | canRecover => exact ⟨_, rfl, .blockWrite h (fun _ h => h.canRecover)⟩
  | busOffRecovery => exact ⟨_, rfl, h.busOffRecovery⟩
  | pcieInbound => exact ⟨_, rfl, h.pcieInbound⟩
  | msiDoor => exact ⟨_, rfl, .awake h (fun _ h => h.msiDoor)⟩
  | pcieLink => exact ⟨_, rfl, .awake h (fun _ h => h.pcieLink)⟩
  | pcieAer => exact ⟨_, rfl, .awake h (fun _ h => h.pcieAer)⟩
  | perst => exact ⟨_, rfl, .blockWrite h (fun _ h => h.perst)⟩
  | retrain => exact ⟨_, rfl, .blockWrite h (fun _ h => h.retrain)⟩
  | sensorSample => exact ⟨_, rfl, h.sensorSample⟩
  | nvmProgram => exact ⟨_, rfl, h.logFlush⟩
  | wdKick => exact ⟨_, rfl, .blockWrite h (fun _ h => h.wdKick)⟩
  | wdExpire => exact ⟨_, rfl, h.wdExpire⟩
  | unitWatchdogExpire => exact ⟨_, rfl, h.unitWatchdogExpire⟩
  | lanternWatchdogExpire => exact ⟨_, rfl, h.lanternWatchdogExpire⟩
  | wearJudge => exact ⟨_, rfl, h.wearJudge⟩
  | lnDoor => exact ⟨_, rfl, .blockWrite h (fun _ h => h.lnDoor)⟩
  | sensors => exact ⟨_, rfl, h.sensors⟩
  | logRead => exact ⟨_, rfl, h.logRead⟩
  | ringRead => exact ⟨_, rfl, h.ringRead⟩
  | bookRead => exact ⟨_, rfl, h.bookRead⟩
  | updateOpen => exact ⟨_, rfl, h.updateOpen⟩
  | updateWrite => exact ⟨_, rfl, h.updateWrite⟩
  | updateCommit => exact ⟨_, rfl, h.updateCommit⟩
  | slotInfo => exact ⟨_, rfl, h.slotInfo⟩
  | reset => exact ⟨_, rfl, h.resetSvc⟩
  | stream => exact ⟨_, rfl, h.stream⟩
  | streamTimeout => exact ⟨_, rfl, h.streamTimeout⟩
  | logFetch => exact ⟨_, rfl, h.logFetch⟩
  | lanternDatagram => exact ⟨_, rfl, h.lanternDatagram⟩
  | arpRequest => exact ⟨_, rfl, h.arpRequest⟩
  | icmpEcho => exact ⟨_, rfl, h.icmpEcho⟩
  | mbDoor => exact ⟨_, rfl, .blockWrite h (fun _ h => h.mbDoor)⟩
  | random => exact ⟨_, rfl, h.random⟩
  | keeperDigest => exact ⟨_, rfl, h.keeperDigest⟩
  | sign => exact ⟨_, rfl, h.sign⟩
  | verify => exact ⟨_, rfl, h.verify⟩
  | fuseRead => exact ⟨_, rfl, h.fuseRead⟩
  | keeperSeal => exact ⟨_, rfl, h.sealSvc⟩
  | keeperUnseal => exact ⟨_, rfl, h.unsealSvc⟩
  | attest => exact ⟨_, rfl, h.attest⟩
  | keeperFault => exact ⟨_, rfl, .awake h (fun _ h => h.keeperFault)⟩
  | bootVerify => exact ⟨_, rfl, h.bootVerify⟩
  | channelTraining => exact ⟨_, rfl, h.channelTraining⟩
  | bootInitialise => exact ⟨_, rfl, h.bootInitialise⟩
  | bootLoad => exact ⟨_, rfl, h.bootLoad⟩
  | clkSrcWrite => exact ⟨_, rfl, .blockWrite h (fun _ h => h.clkSrcWrite)⟩
  | clkSwitch => exact ⟨_, rfl, h.clkSwitch⟩
  | pllRefSelect => exact ⟨_, rfl, .blockWrite h (fun _ h => h.pllRefSelect)⟩
  | perfRequest => exact ⟨_, rfl, .blockWrite h (fun _ h => h.perfRequest)⟩
  | voltageSettle => exact ⟨_, rfl, h.voltageSettle⟩
  | voteWrite => exact ⟨_, rfl, .blockWrite h (fun _ h => h.voteWrite)⟩
  | domainDropDone => exact ⟨_, rfl, h.domainDropDone⟩
  | domainReady => exact ⟨_, rfl, h.domainReady⟩
  | registerWrite => exact ⟨_, rfl, .awake h (fun _ h => h.registerWrite)⟩
  | guardPairHold => exact ⟨_, rfl, .awake h (fun _ h => h.guardPairHold)⟩
  | guardWindowExpire => exact ⟨_, rfl, h.guardWindowExpire⟩
  | latchedRead => exact ⟨_, rfl, .awake h (fun _ h => h.latchedRead)⟩
  | statusRead => exact ⟨_, rfl, .awake h (fun _ h => h.statusRead)⟩
  | nop => exact ⟨_, rfl, .antRun h (fun _ h => h)⟩
  | antAdd => exact ⟨_, rfl, h.antOp⟩
  | antSub => exact ⟨_, rfl, h.antOp⟩
  | antAnd => exact ⟨_, rfl, h.antOp⟩
  | antOr => exact ⟨_, rfl, h.antOp⟩
  | antXor => exact ⟨_, rfl, h.antOp⟩
  | shl => exact ⟨_, rfl, h.antOp⟩
  | shr => exact ⟨_, rfl, h.antOp⟩
  | sar => exact ⟨_, rfl, h.antOp⟩
  | antSlt => exact ⟨_, rfl, h.antOp⟩
  | antSltu => exact ⟨_, rfl, h.antOp⟩
  | antMul => exact ⟨_, rfl, h.antOp⟩
  | antMulh => exact ⟨_, rfl, h.antOp⟩
  | crcb => exact ⟨_, rfl, h.antAlu⟩
  | antAddi => exact ⟨_, rfl, h.antImm⟩
  | antAndi => exact ⟨_, rfl, h.antImm⟩
  | antOri => exact ⟨_, rfl, h.antImm⟩
  | antXori => exact ⟨_, rfl, h.antImm⟩
  | shli => exact ⟨_, rfl, h.antAlu⟩
  | shri => exact ⟨_, rfl, h.antAlu⟩
  | sari => exact ⟨_, rfl, h.antAlu⟩
  | antLui => exact ⟨_, rfl, h.antAlu⟩
  | antSlti => exact ⟨_, rfl, h.antImm⟩
  | ldw => exact ⟨_, rfl, h.antLoad⟩
  | ldh => exact ⟨_, rfl, h.antLoad⟩
  | ldhu => exact ⟨_, rfl, h.antLoad⟩
  | ldb => exact ⟨_, rfl, h.antLoad⟩
  | ldbu => exact ⟨_, rfl, h.antLoad⟩
  | stw => exact ⟨_, rfl, h.antStore⟩
  | sth => exact ⟨_, rfl, h.antStore⟩
  | stb => exact ⟨_, rfl, h.antStore⟩
  | prd => exact ⟨_, rfl, h.antPrd⟩
  | pwr => exact ⟨_, rfl, h.antPwr⟩
  | capr => exact ⟨_, rfl, h.antCapr⟩
  | cmpw => exact ⟨_, rfl, h.antCmpw⟩
  | cmpwCancel => exact ⟨_, rfl, h.antCmpwCancel⟩
  | suw => exact ⟨_, rfl, h.antSuw⟩
  | sutx => exact ⟨_, rfl, h.antSutx⟩
  | surx => exact ⟨_, rfl, h.antSurx⟩
  | post => exact ⟨_, rfl, h.antPost⟩
  | antBeq => exact ⟨_, rfl, h.antCond⟩
  | antBne => exact ⟨_, rfl, h.antCond⟩
  | antBlt => exact ⟨_, rfl, h.antCond⟩
  | antBge => exact ⟨_, rfl, h.antCond⟩
  | antBltu => exact ⟨_, rfl, h.antCond⟩
  | antBgeu => exact ⟨_, rfl, h.antCond⟩
  | jr => exact ⟨_, rfl, h.antJump⟩
  | antJalr => exact ⟨_, rfl, h.antJump⟩
  | antJ => exact ⟨_, rfl, h.antJump⟩
  | antJal => exact ⟨_, rfl, h.antJump⟩
  | tsr => exact ⟨_, rfl, h.antTsr⟩
  | frm => exact ⟨_, rfl, h.antAlu⟩
  | evret => exact ⟨_, rfl, h.antEvret⟩
  | evwait => exact ⟨_, rfl, h.antEvwait⟩
  | evcfg => exact ⟨_, rfl, h.antEvcfg⟩
  | evpend => exact ⟨_, rfl, h.antEvpend⟩
  | tmr => exact ⟨_, rfl, h.antTmr⟩
  | door => exact ⟨_, rfl, h.antDoor⟩
  | antSysId => exact ⟨_, rfl, h.antSysIdV⟩
  | antSysStatus => exact ⟨_, rfl, h.antAlu⟩
  | add => exact ⟨_, rfl, h.intOp⟩
  | sub => exact ⟨_, rfl, h.intOp⟩
  | and => exact ⟨_, rfl, h.intOp⟩
  | or => exact ⟨_, rfl, h.intOp⟩
  | xor => exact ⟨_, rfl, h.intOp⟩
  | sll => exact ⟨_, rfl, h.intOp⟩
  | srl => exact ⟨_, rfl, h.intOp⟩
  | sra => exact ⟨_, rfl, h.intOp⟩
  | slt => exact ⟨_, rfl, h.intOp⟩
  | sltu => exact ⟨_, rfl, h.intOp⟩
  | min => exact ⟨_, rfl, h.intOp⟩
  | max => exact ⟨_, rfl, h.intOp⟩
  | minu => exact ⟨_, rfl, h.intOp⟩
  | maxu => exact ⟨_, rfl, h.intOp⟩
  | mul => exact ⟨_, rfl, h.intOp⟩
  | mulh => exact ⟨_, rfl, h.intOp⟩
  | mulhu => exact ⟨_, rfl, h.intOp⟩
  | div => exact ⟨_, rfl, h.intOp⟩
  | divu => exact ⟨_, rfl, h.intOp⟩
  | rem => exact ⟨_, rfl, h.intOp⟩
  | remu => exact ⟨_, rfl, h.intOp⟩
  | clz => exact ⟨_, rfl, h.intOp⟩
  | ctz => exact ⟨_, rfl, h.intOp⟩
  | popc => exact ⟨_, rfl, h.intOp⟩
  | addw => exact ⟨_, rfl, h.intOpW⟩
  | subw => exact ⟨_, rfl, h.intOpW⟩
  | sllw => exact ⟨_, rfl, h.intOpW⟩
  | srlw => exact ⟨_, rfl, h.intOpW⟩
  | sraw => exact ⟨_, rfl, h.intOpW⟩
  | mulw => exact ⟨_, rfl, h.intOpW⟩
  | divw => exact ⟨_, rfl, h.intOpW⟩
  | divuw => exact ⟨_, rfl, h.intOpW⟩
  | remw => exact ⟨_, rfl, h.intOpW⟩
  | remuw => exact ⟨_, rfl, h.intOpW⟩
  | addi => exact ⟨_, rfl, h.intOp⟩
  | andi => exact ⟨_, rfl, h.intOp⟩
  | ori => exact ⟨_, rfl, h.intOp⟩
  | xori => exact ⟨_, rfl, h.intOp⟩
  | slti => exact ⟨_, rfl, h.intOp⟩
  | sltiu => exact ⟨_, rfl, h.intOp⟩
  | shifti => exact ⟨_, rfl, .instr h (fun _ h => .iteState h.illegal h.done)⟩
  | addiw => exact ⟨_, rfl, h.intOp⟩
  | lui => exact ⟨_, rfl, h.intOp⟩
  | auipc => exact ⟨_, rfl, h.intOp⟩
  | ld => exact ⟨_, rfl, h.loadOp⟩
  | lw => exact ⟨_, rfl, h.loadOp⟩
  | lwu => exact ⟨_, rfl, h.loadOp⟩
  | lh => exact ⟨_, rfl, h.loadOp⟩
  | lhu => exact ⟨_, rfl, h.loadOp⟩
  | lb => exact ⟨_, rfl, h.loadOp⟩
  | lbu => exact ⟨_, rfl, h.loadOp⟩
  | st => exact ⟨_, rfl, h.storeOp⟩
  | sw => exact ⟨_, rfl, h.storeOp⟩
  | sh => exact ⟨_, rfl, h.storeOp⟩
  | sb => exact ⟨_, rfl, h.storeOp⟩
  | fld => exact ⟨_, rfl, h.loadOp⟩
  | flw => exact ⟨_, rfl, h.loadOp⟩
  | fsd => exact ⟨_, rfl, h.storeOp⟩
  | fsw => exact ⟨_, rfl, h.storeOp⟩
  | vld => exact ⟨_, rfl, h.loadOp⟩
  | vst => exact ⟨_, rfl, h.storeOp⟩
  | amoSwap => exact ⟨_, rfl, h.amoOp⟩
  | amoAdd => exact ⟨_, rfl, h.amoOp⟩
  | amoAnd => exact ⟨_, rfl, h.amoOp⟩
  | amoOr => exact ⟨_, rfl, h.amoOp⟩
  | amoXor => exact ⟨_, rfl, h.amoOp⟩
  | amoMin => exact ⟨_, rfl, h.amoOp⟩
  | amoMax => exact ⟨_, rfl, h.amoOp⟩
  | amoMinu => exact ⟨_, rfl, h.amoOp⟩
  | amoMaxu => exact ⟨_, rfl, h.amoOp⟩
  | cas => exact ⟨_, rfl, h.amoOp⟩
  | ldaq => exact ⟨_, rfl, .instr h (fun _ h => .andThen h.load (fun _ _ h => h.done))⟩
  | strl => exact ⟨_, rfl, .instr h (fun _ h => .andThen h.store (fun _ _ h => h.done))⟩
  | beq => exact ⟨_, rfl, h.condBranch⟩
  | bne => exact ⟨_, rfl, h.condBranch⟩
  | blt => exact ⟨_, rfl, h.condBranch⟩
  | bge => exact ⟨_, rfl, h.condBranch⟩
  | bltu => exact ⟨_, rfl, h.condBranch⟩
  | bgeu => exact ⟨_, rfl, h.condBranch⟩
  | j => exact ⟨_, rfl, .instr h (fun _ h => h.jumpTo)⟩
  | jal => exact ⟨_, rfl, .instr h (fun _ h => h.jumpTo)⟩
  | jalr => exact ⟨_, rfl, .instr h (fun _ h => .iteState h h.jumpTo)⟩
  | fadd => exact ⟨_, rfl, h.roundOp⟩
  | fsub => exact ⟨_, rfl, h.roundOp⟩
  | fmul => exact ⟨_, rfl, h.roundOp⟩
  | fdiv => exact ⟨_, rfl, h.roundOp⟩
  | fsqrt => exact ⟨_, rfl, h.roundOp⟩
  | fmin => exact ⟨_, rfl, h.plainOp⟩
  | fmax => exact ⟨_, rfl, h.plainOp⟩
  | fminnum => exact ⟨_, rfl, h.plainOp⟩
  | fmaxnum => exact ⟨_, rfl, h.plainOp⟩
  | fabs => exact ⟨_, rfl, h.plainOp⟩
  | fneg => exact ⟨_, rfl, h.plainOp⟩
  | fcps => exact ⟨_, rfl, h.plainOp⟩
  | fcmp => exact ⟨_, rfl, h.plainOp⟩
  | fcmpo => exact ⟨_, rfl, h.plainOp⟩
  | fkind => exact ⟨_, rfl, h.plainOp⟩
  | ftos64 => exact ⟨_, rfl, h.ftoOp⟩
  | ftou64 => exact ⟨_, rfl, h.ftoOp⟩
  | ftos32 => exact ⟨_, rfl, h.ftoOp⟩
  | ftou32 => exact ⟨_, rfl, h.ftoOp⟩
  | s64tof => exact ⟨_, rfl, h.tofOp⟩
  | u64tof => exact ⟨_, rfl, h.tofOp⟩
  | s32tof => exact ⟨_, rfl, h.tofOp⟩
  | u32tof => exact ⟨_, rfl, h.tofOp⟩
  | fresize => exact ⟨_, rfl, h.roundOp⟩
  | fbits => exact ⟨_, rfl, h.plainOp⟩
  | xbits => exact ⟨_, rfl, h.plainOp⟩
  | fmaA => exact ⟨_, rfl, h.fmaOp⟩
  | fmaS => exact ⟨_, rfl, h.fmaOp⟩
  | fmaNa => exact ⟨_, rfl, h.fmaOp⟩
  | fmaNs => exact ⟨_, rfl, h.fmaOp⟩
  | vadd => exact ⟨_, rfl, h.vop2⟩
  | vsub => exact ⟨_, rfl, h.vop2⟩
  | vmul => exact ⟨_, rfl, h.vop2⟩
  | vdiv => exact ⟨_, rfl, h.vop2⟩
  | vsqrt => exact ⟨_, rfl, h.vop⟩
  | vmin => exact ⟨_, rfl, h.vop2⟩
  | vmax => exact ⟨_, rfl, h.vop2⟩
  | vand => exact ⟨_, rfl, h.vbit⟩
  | vor => exact ⟨_, rfl, h.vbit⟩
  | vxor => exact ⟨_, rfl, h.vbit⟩
  | vcmpeq => exact ⟨_, rfl, h.vop2⟩
  | vcmplt => exact ⟨_, rfl, h.vop2⟩
  | vcmple => exact ⟨_, rfl, h.vop2⟩
  | vsplatX => exact ⟨_, rfl, h.vop⟩
  | vsplatF => exact ⟨_, rfl, h.vop⟩
  | vextX => exact ⟨_, rfl, h.vlane⟩
  | vinsX => exact ⟨_, rfl, h.vlane⟩
  | vextF => exact ⟨_, rfl, h.vlane⟩
  | vinsF => exact ⟨_, rfl, h.vlane⟩
  | vsumh => exact ⟨_, rfl, h.vop⟩
  | vcvt => exact ⟨_, rfl, h.vop⟩
  | vshl => exact ⟨_, rfl, h.vshift⟩
  | vsra => exact ⟨_, rfl, h.vshift⟩
  | vr4FmaA => exact ⟨_, rfl, h.vr4Fma⟩
  | vr4FmaS => exact ⟨_, rfl, h.vr4Fma⟩
  | vr4FmaNa => exact ⟨_, rfl, h.vr4Fma⟩
  | vr4FmaNs => exact ⟨_, rfl, h.vr4Fma⟩
  | vsel => exact ⟨_, rfl, .instr h (fun _ h => h.done)⟩
  | sysr =>
    refine ⟨_, rfl, h.instr fun _ h => ?_⟩
    split
    · exact h.illegal
    · exact .iteState h.privilege h.sysSync.sysRead.done
  | sysw =>
    refine ⟨_, rfl, h.instr fun _ h => ?_⟩
    split
    · exact h.illegal
    · exact .iteState h.privilege (.iteState h.illegal h.sysSync.sysWrite.done)
  | fence => exact ⟨_, rfl, .instr h (fun _ h => .iteState (.andThen h.sqDrainAll (fun _ _ h => h.done)) h.done)⟩
  | ifence => exact ⟨_, rfl, .instr h (fun _ h => h.setCc.done)⟩
  | iofence => exact ⟨_, rfl, .instr h (fun _ h => .andThen h.sqDrain (fun _ _ h => h.done))⟩
  | ecall => exact ⟨_, rfl, .instr h (fun _ h => .iteState h.privilege h)⟩
  | wcall => exact ⟨_, rfl, .instr h (fun _ h => h.wcall.okay)⟩
  | eret => exact ⟨_, rfl, .instr h (fun _ h => .iteState h.privilege (.okay (.eret (.ite h.setCore h))))⟩
  | brk => exact ⟨_, rfl, .instr h (fun _ h => h)⟩
  | tlbiAll => exact ⟨_, rfl, h.tlbiOp⟩
  | tlbiAsid => exact ⟨_, rfl, h.tlbiOp⟩
  | tlbiVa => exact ⟨_, rfl, h.tlbiOp⟩
  | tlbiVaAll => exact ⟨_, rfl, h.tlbiOp⟩
  | tlbiWalk => exact ⟨_, rfl, h.tlbiOp⟩
  | cleanVa => exact ⟨_, rfl, h.cmoOp⟩
  | invVa => exact ⟨_, rfl, h.cmoOp⟩
  | clinvVa => exact ⟨_, rfl, h.cmoOp⟩
  | clinvSw => exact ⟨_, rfl, .instr h (fun _ h => .iteState h.privilege (.andThen h.clinvSw (fun _ _ h => h.done)))⟩
  | zeroVa => exact ⟨_, rfl, .instr h (fun _ h => .andThen h.zeroLine (fun _ _ h => h.done))⟩
  | tint1 => exact ⟨_, rfl, h.tintOp⟩
  | tint2 => exact ⟨_, rfl, h.tintOp⟩
  | tint3 => exact ⟨_, rfl, .ite (.instr h (fun _ h => h.illegal)) h.tintOp⟩
  | blkcpy => exact ⟨_, rfl, h.blkOp fun _ _ h _ => h.copyGranule⟩
  | blkset => exact ⟨_, rfl, h.blkOp fun _ _ h _ => h.setGranule⟩
  | vdot => exact ⟨_, rfl, .instr h (fun _ h => .iteState h (.iteState h h.free.vdotRun))⟩
  | sld => exact ⟨_, rfl, .instr h (fun _ h => .iteState h.illegal (.iteState h (.iteState h (.andThen h.sldReads (fun _ _ h => h.done)))))⟩
  | stamp => exact ⟨_, rfl, .instr h (fun _ h => h.done)⟩
  | frameN => exact ⟨_, rfl, h.intOp⟩
  | frameT =>
    refine ⟨_, rfl, h.instr fun _ h => ?_⟩
    split
    · exact h.done
    · exact h
  | done => exact ⟨_, rfl, .ite h (.ite h.drainDone.finish (.instr h (fun _ h => h.setCore.drainDone)))⟩
  | outputEnable => exact ⟨_, rfl, h.outputEnable⟩
  | twinHbRelease => exact ⟨_, rfl, h.twinHbRelease⟩
  | linkMessageError => exact ⟨_, rfl, h.linkMessageError⟩
  | heartbeatWaitExpire => exact ⟨_, rfl, h.heartbeatWaitExpire⟩
  | copyWriteAck => exact ⟨_, rfl, h.copyWriteAck⟩
  | powerOnResetAssert => exact ⟨_, rfl, h.powerOnResetAssert⟩
  | resetNRelease => exact ⟨_, rfl, h.resetNRelease⟩
  | netFrameEnd => exact ⟨_, rfl, h.netFrameEnd⟩
  | shiftUnitWordEnd => exact ⟨_, rfl, h.shiftUnitWordEnd⟩
  | illegalInstruction => exact ⟨_, rfl, h.illegalInstruction⟩
  | antIllegalOpcode => exact ⟨_, rfl, .antRun h (fun _ h => trivial)⟩

/-- A step takes the front command away and keeps the rest. -/
theorem step_keeps (s : State) : ∃ t, step s = .next t ∧ Keeps False { s with pending := s.pending.tail } t := by
  unfold step
  split
  next e =>
    have hs : ({ s with pending := s.pending.tail } : State) = s := by rw [e, List.tail_nil, ← e]
    rw [hs]
    exact ⟨_, rfl, (Keeps.refl s).idle⟩
  next c rest e =>
    have hs : ({ s with pending := s.pending.tail } : State) = { s with pending := rest } := by rw [e, List.tail_cons]
    rw [hs]
    exact (Keeps.refl _).exec c

end Sys2Proof.Machine
end
section
/-! The fields that every step keeps (O4). -/

namespace Sys2Proof.Machine

/-- Settles O4: every step keeps the relation `Keeps`, whatever its command. -/
theorem everyStepKeepsMemory : Obligations.EveryStepKeepsMemory := by
  intro s t hw hs
  obtain ⟨u, hu, k⟩ := step_keeps s
  obtain rfl : u = t := by
    rw [hu] at hs
    cases hs
    rfl
  exact ⟨k.wf hw, k.pending, k.fuses⟩

end Sys2Proof.Machine
end

section
/-! Table interpolation (O55). -/

namespace Sys2Proof.Machine
variable {s s1 s2 s3 s4 : State} {k : CoreId} {d a : Reg} {coords : CoreSt → List Nat} {w : List Nat} {l : List Axis} {vals : List FRes}

/-- Reads that leave the core running leave it the rounding it had: they put no core to run and write no FPSTAT. -/
theorem rnd_of_reads (h2 : s1.loadWords k ((s1.core k).xr a) 8 = .ok w s2)
    (h3 : s2.axes k (s1.core k).rnd ⟨w⟩ 0 (coords (s1.core k)) = .ok l s3)
    (h4 : s3.corners k ⟨w⟩ l (2 ^ (coords (s1.core k)).length) 0 = .ok vals s4) (hr : (s4.core k).run = .running) :
    (s4.core k).rnd = (s1.core k).rnd := by
  have k2 : Keeps True s1 s2 := (Keeps.refl s1).loadWords.ok h2
  have k3 : Keeps True s1 s3 := k2.axes.ok h3
  have k4 : Keeps True s1 s4 := k3.corners.ok h4
  obtain ⟨-, hf⟩ := k4.core trivial k hr
  rw [CoreSt.rnd, CoreSt.rnd, hf]

/-- An access that completes is whole as it is. -/
theorem whole_done {f : CoreSt → CoreSt} : s.whole k (s1.done k f) = s1.done k f := by
  unfold State.done
  split
  · rfl
  · rfl

/-- A table interpolation whose descriptor passes its checks and whose reads succeed retires with its result. -/
theorem tintOp_interpolates (h : Fetched k s s1) (ha : ((s1.core k).xr a).toNat % 64 = 0)
    (h2 : s1.loadWords k ((s1.core k).xr a) 8 = .ok w s2) (hc : TintDesc.check ⟨w⟩ (coords (s1.core k)).length = 0)
    (h3 : s2.axes k (s1.core k).rnd ⟨w⟩ 0 (coords (s1.core k)) = .ok l s3)
    (h4 : s3.corners k ⟨w⟩ l (2 ^ (coords (s1.core k)).length) 0 = .ok vals s4) (hr : (s4.core k).run = .running) :
    tintOp k d a coords s = s4.retired k (fun x =>
      (x.putF d (tintOps (coords (s1.core k)).length) (tintRes (s1.core k).rnd l vals)).ev 0x23 1) := by
  have hm : (((s1.core k).xr a).toNat % 64 != 0) = false := by simp [ha]
  rw [tintOp, h.instr]
  simp only [hm, Bool.false_eq_true, if_false, h2, MRes.andThen, hc, bne_self_eq_false, h3, h4, whole_done]
  rw [done_finish hr (by simp), State.retired, State.retired, rnd_of_reads h2 h3 h4 hr]

/-- A descriptor that is not at a line's address raises TABLE_DESC. -/
theorem tintOp_misplaced (h : Fetched k s s1) (ha : ((s1.core k).xr a).toNat % 64 ≠ 0) :
    tintOp k d a coords s = s1.raise k (s1.tableExc k ((s1.core k).xr a) 1) := by
  have hm : (((s1.core k).xr a).toNat % 64 != 0) = true := by simp [ha]
  rw [tintOp, h.instr]
  simp only [hm, if_true, MRes.finish]

/-- A descriptor that fails a check raises TABLE_DESC, on the state before its reads unless they reached no device. -/
theorem tintOp_failing (h : Fetched k s s1) (ha : ((s1.core k).xr a).toNat % 64 = 0)
    (h2 : s1.loadWords k ((s1.core k).xr a) 8 = .ok w s2) (hc : TintDesc.check ⟨w⟩ (coords (s1.core k)).length ≠ 0) :
    tintOp k d a coords s = (if (s2.core k).devReads = (s1.core k).devReads then s2 else s1).raise k
      (s2.tableExc k ((s1.core k).xr a) (TintDesc.check ⟨w⟩ (coords (s1.core k)).length)) := by
  have hm : (((s1.core k).xr a).toNat % 64 != 0) = false := by simp [ha]
  have hb : (TintDesc.check ⟨w⟩ (coords (s1.core k)).length != 0) = true := by simp [hc]
  rw [tintOp, h.instr]
  simp only [hm, Bool.false_eq_true, if_false, h2, MRes.andThen, hb, if_true, State.whole, MRes.finish]

/-- Settles O55: TINT1 to TINT3 are `tintOp`, which interpolates, or raises TABLE_DESC; TINT3 of a last pair F31 is illegal. -/
theorem tableInterpolation : Obligations.TableInterpolation := by
  intro k d a b c tint
  have all : ∀ i xs, (∀ s, exec i s = .next (tintOp k d a xs s)) → tint i xs := by
    intro i xs hi
    refine ⟨?_, ?_, ?_⟩
    · intro s s1 w s2 l s3 vals s4 h ha h2 hc h3 h4 hr
      rw [hi, tintOp_interpolates h ha h2 hc h3 h4 hr]
    · intro s s1 h ha
      rw [hi, tintOp_misplaced h ha]
    · intro s s1 w s2 h ha h2 hc
      rw [hi, tintOp_failing h ha h2 hc]
  refine ⟨?_, ?_, ?_, ?_⟩
  · exact all (.tint1 k d a b) (fun x => [(x.fr b).toNat]) fun _ => rfl
  · exact all (.tint2 k d a b c) (fun x => [(x.fr b).toNat, (x.fr c).toNat]) fun _ => rfl
  · intro hc
    exact all (.tint3 k d a b c) (fun x => [(x.fr b).toNat, (x.fr c).toNat, (x.fr (c + 1)).toNat]) fun s =>
      congrArg Host.Outcome.next (if_neg hc)
  · rintro rfl
    exact .of_body (fun s => congrArg Host.Outcome.next (if_pos rfl)) (congrArg some (encR5_eq 0x3c 3 d a b 31).symm) fun _ _ => rfl

end Sys2Proof.Machine
end

section
/-! The front of the queue (O1) and words written out (O6). -/

namespace Sys2Proof.Machine

/-- Settles O1: the command is taken from the front, and the state behind it is the one it was put before. -/
theorem stepRunsFront : Obligations.StepRunsFront := fun _ _ => rfl

/-- Settles O6: each word is its fields side by side, and no row gives the two words of ones. -/
theorem wordsRight : Obligations.WordsRight := fun _ _ _ => ⟨rfl, rfl, rfl, rfl, rfl, rfl, rfl, rfl, rfl, rfl⟩

end Sys2Proof.Machine
end
